-- ==== Sys2Proof/Word.lean ====
section
/-!
DEFINITION. The words of the ZT-9640: registers are 32 bits wide (R385), scalar registers and instruction words 64 bits
(R203, R207), memories are addressed by the byte (R4).
-/
namespace Sys2Proof

/-- A byte of any memory of the module. -/
abbrev Byte := BitVec 8
/-- A register of register space (R385). -/
abbrev Word32 := BitVec 32
/-- A scalar register or an instruction word (R203, R207). -/
abbrev Word64 := BitVec 64

end Sys2Proof
end

