-- ==== Sys2Proof/Machine/Map.lean ====
section
/-!
DEFINITION. Sparse stores as lists of (key, value) pairs with strictly rising keys: the one shape in which the model keeps
registers, memories and every other sparse piece of state, so that equal stores are equal data.
-/
namespace Sys2Proof.Machine

/-- The value listed for key `a`. -/
def mapFind {α : Type} : List (Nat × α) → Nat → Option α
  | [], _ => none
  | (k, v) :: r, a => if a = k then some v else mapFind r a

/-- List `v` for key `a`, at the key's place in rising order. -/
def mapSet {α : Type} : List (Nat × α) → Nat → α → List (Nat × α)
  | [], a, v => [(a, v)]
  | (k, w) :: r, a, v =>
    if a < k then (a, v) :: (k, w) :: r
    else if a = k then (a, v) :: r
    else (k, w) :: mapSet r a v

/-- List nothing for key `a`. -/
def mapErase {α : Type} : List (Nat × α) → Nat → List (Nat × α)
  | [], _ => []
  | (k, w) :: r, a => if a = k then mapErase r a else (k, w) :: mapErase r a

/-- The value at key `a`, an unlisted key reading as `d`. -/
def mapGet {α : Type} (d : α) (m : List (Nat × α)) (a : Nat) : α := (mapFind m a).getD d

/-- Write `v` at key `a` of a store whose unlisted keys read as `d`: the default is never listed. -/
def mapPut {α : Type} [DecidableEq α] (d : α) (m : List (Nat × α)) (a : Nat) (v : α) : List (Nat × α) :=
  if v = d then mapErase m a else mapSet m a v

/-- Drop every entry with a key in [lo, hi). -/
def mapClear {α : Type} (m : List (Nat × α)) (lo hi : Nat) : List (Nat × α) := m.filter (fun e => e.1 < lo || hi ≤ e.1)

/-- The canonical form: keys strictly rising. -/
def mapAscending {α : Type} : List (Nat × α) → Bool
  | [] => true
  | [_] => true
  | (k, _) :: (k', v') :: r => decide (k < k') && mapAscending ((k', v') :: r)

/-- The canonical form of a store whose unlisted keys read as `d`. -/
def mapCanon {α : Type} [DecidableEq α] (d : α) (m : List (Nat × α)) : Bool :=
  mapAscending m && m.all (fun p => decide (p.2 ≠ d))

/-- The little-endian number of a byte list (R4). -/
def leNat : List Byte → Nat
  | [] => 0
  | b :: r => b.toNat + 256 * leNat r

/-- The `n` little-endian bytes of a number (R4). -/
def leBytes : Nat → Nat → List Byte
  | 0, _ => []
  | n + 1, v => BitVec.ofNat 8 v :: leBytes n (v / 256)

/-- Bits `[hi:lo]` of a number. -/
def bitsOf (hi lo v : Nat) : Nat := v / 2 ^ lo % 2 ^ (hi + 1 - lo)

/-- A vector given place by place. -/
def tab {α : Type} (n : Nat) (f : Fin n → α) : Vector α n :=
  ⟨(List.ofFn f).toArray, by simp⟩

/-- A hexadecimal digit. -/
def hexDigit (n : Nat) : Char := Char.ofNat (if n % 16 < 10 then 48 + n % 16 else 87 + n % 16)

/-- `v` in `n` hexadecimal digits, an underscore before each group of four but the first (R417, Example 22-1). -/
def hexText (v n : Nat) : String :=
  String.ofList ((List.range n).reverse.flatMap (fun i =>
    if i % 4 = 3 ∧ i + 1 ≠ n then ['_', hexDigit (v / 16 ^ i)] else [hexDigit (v / 16 ^ i)]))

end Sys2Proof.Machine
end

