-- ==== Sys2Proof/Machine/Fp.lean ====
section
/-!
DEFINITION. Number formats and the arithmetic contract (spec/03_arithmetic.md): element formats (R48, R49), exact values,
rounding (R57 to R59), the special cases of R67 to R69 and the integer arithmetic of R70.
-/
namespace Sys2Proof.Machine

/-- The floating-point element formats of Table 3-1. -/
inductive Ff where
  | fp64 | fp32 | bf16 | fp16 | e4m3 | e5m2 | e2m1
deriving DecidableEq, Repr

/-- Exponent bits (Table 3-1). -/
def Ff.eb : Ff → Nat
  | .fp64 => 11 | .fp32 => 8 | .bf16 => 8 | .fp16 => 5 | .e4m3 => 4 | .e5m2 => 5 | .e2m1 => 2

/-- Mantissa bits (Table 3-1). -/
def Ff.mb : Ff → Nat
  | .fp64 => 52 | .fp32 => 23 | .bf16 => 7 | .fp16 => 10 | .e4m3 => 3 | .e5m2 => 2 | .e2m1 => 1

/-- Exponent bias (Table 3-1). -/
def Ff.bias : Ff → Nat
  | .fp64 => 1023 | .fp32 => 127 | .bf16 => 127 | .fp16 => 15 | .e4m3 => 7 | .e5m2 => 15 | .e2m1 => 1

/-- Width in bits (Table 3-1). -/
def Ff.bits (f : Ff) : Nat := 1 + f.eb + f.mb

/-- The default quiet NaN of Table 3-3. E2M1 has none; a block-scaled NaN is scale 0xFF with element 0. -/
def Ff.qnan : Ff → Nat
  | .fp64 => 0x7FF8000000000000 | .fp32 => 0x7FC00000 | .bf16 => 0x7FC0 | .fp16 => 0x7E00
  | .e4m3 => 0x7F | .e5m2 => 0x7E | .e2m1 => 0

/-- An exact value: NaN, an infinity, or a sign and a magnitude (a zero keeps its sign). `true` is negative. -/
inductive Fv where
  | nan
  | inf (s : Bool)
  | fin (s : Bool) (q : ℚ)
deriving DecidableEq, Repr

/-- 2 to an integer power, exactly. -/
def pow2 : Int → ℚ
  | .ofNat n => ((2 ^ n : Nat) : ℚ)
  | .negSucc n => mkRat 1 (2 ^ (n + 1))

/-- ⌊log2 q⌋ of a positive rational. -/
def floorLog2 (q : ℚ) : Int :=
  let k : Int := (Nat.log2 q.num.natAbs : Int) - (Nat.log2 q.den : Int)
  if pow2 k ≤ q then k else k - 1

/-- The exact value an encoding has (R49). -/
def fdecode (f : Ff) (v : Nat) : Fv :=
  let s := v / 2 ^ (f.eb + f.mb) % 2 = 1
  let e := v / 2 ^ f.mb % 2 ^ f.eb
  let m := v % 2 ^ f.mb
  if e = 0 then .fin s ((m : ℚ) * pow2 (1 - (f.bias : Int) - f.mb))
  else
    let normal : Fv := .fin s (((2 ^ f.mb + m : Nat) : ℚ) * pow2 ((e : Int) - f.bias - f.mb))
    if e = 2 ^ f.eb - 1 then
      match f with
      | .e2m1 => normal
      | .e4m3 => if m = 7 then .nan else normal
      | _ => if m = 0 then .inf s else .nan
    else normal

/-- The largest finite value (Table 3-2). -/
def Ff.maxFinite : Ff → ℚ
  | .e4m3 => 448
  | .e2m1 => 6
  | f => ((2 ^ (f.mb + 1) - 1 : Nat) : ℚ) * pow2 ((f.bias : Int) - f.mb)

/-- The rounding modes of R57; stochastic rounding carries its 16 random bits (R60). -/
inductive Rm where
  | rne
  | sr (u : Nat)
  | rtz
deriving DecidableEq, Repr

/-- Round a non-negative quotient of value and spacing to an integer under a mode (R57 to R59). -/
def roundInt (rm : Rm) (t : ℚ) : Nat :=
  let lo := t.floor.toNat
  let r := t - (lo : ℚ)
  if r = 0 then lo
  else match rm with
    | .rne => if r > 1 / 2 then lo + 1 else if r = 1 / 2 then (if lo % 2 = 1 then lo + 1 else lo) else lo
    | .sr u => if (r * 65536).floor.toNat + u ≥ 65536 then lo + 1 else lo
    | .rtz => lo

/-- The exponent of the spacing of format `f` at magnitude `q` > 0: the binade's ulp, or the subnormal spacing (R59). -/
def quantum (f : Ff) (q : ℚ) : Int := max (floorLog2 q) (1 - (f.bias : Int)) - f.mb

/-- Round a magnitude once to the significands of `f`, the exponent range unbounded above (R58). -/
def roundMag (f : Ff) (rm : Rm) (q : ℚ) : ℚ :=
  if q = 0 then 0
  else
    let e := quantum f q
    (roundInt rm (q / pow2 e) : ℚ) * pow2 e

/-- Encode a value representable in `f` (R49); NaN is the default quiet NaN (R50). -/
def fencode (f : Ff) : Fv → Nat
  | .nan => f.qnan
  | .inf s => (if s then 2 ^ (f.eb + f.mb) else 0) + (2 ^ f.eb - 1) * 2 ^ f.mb
  | .fin s q =>
    let sg := if s then 2 ^ (f.eb + f.mb) else 0
    if q = 0 then sg
    else
      let e := floorLog2 q
      if e < 1 - (f.bias : Int) then
        sg + (q / pow2 (1 - (f.bias : Int) - f.mb)).floor.toNat
      else
        sg + (e + f.bias).toNat * 2 ^ f.mb + ((q / pow2 (e - f.mb)).floor.toNat - 2 ^ f.mb)

/-- An arithmetic result rounded once, RNE, to `f`: overflow gives infinity of the exact sign (R58, R67). -/
def rnd (f : Ff) : Fv → Fv
  | .fin s q =>
    let r := roundMag f .rne q
    if r > f.maxFinite then .inf s else .fin s r
  | v => v

/-- Whether the value is a NaN. -/
def Fv.isNan : Fv → Bool
  | .nan => true
  | _ => false

/-- Whether the value is an infinity. -/
def Fv.isInf : Fv → Bool
  | .inf _ => true
  | _ => false

/-- Whether the value is finite. -/
def Fv.isFin : Fv → Bool
  | .fin _ _ => true
  | _ => false

/-- The signed rational of a finite value (0 for the others). -/
def Fv.val : Fv → ℚ
  | .fin s q => if s then -q else q
  | _ => 0

/-- A signed rational as a value; `z` is the sign a zero takes. -/
def ofRat (z : Bool) (x : ℚ) : Fv :=
  if x = 0 then .fin z 0 else .fin (decide (x < 0)) |x|

def Fv.neg : Fv → Fv
  | .nan => .nan
  | .inf s => .inf (!s)
  | .fin s q => .fin (!s) q

def Fv.abs : Fv → Fv
  | .nan => .nan
  | .inf _ => .inf false
  | .fin _ q => .fin false q

/-- Exact sum (R67); zero signs under R68. -/
def Fv.add : Fv → Fv → Fv
  | .nan, _ => .nan
  | _, .nan => .nan
  | .inf s, .inf t => if s = t then .inf s else .nan
  | .inf s, _ => .inf s
  | _, .inf t => .inf t
  | .fin s a, .fin t b =>
    if a = 0 ∧ b = 0 then .fin (s && t) 0
    else ofRat false ((Fv.fin s a).val + (Fv.fin t b).val)

def Fv.sub (a b : Fv) : Fv := a.add b.neg

/-- Exact product (R67); the sign is the exclusive or (R68). -/
def Fv.mul : Fv → Fv → Fv
  | .nan, _ => .nan
  | _, .nan => .nan
  | .inf s, .inf t => .inf (xor s t)
  | .inf s, .fin t b => if b = 0 then .nan else .inf (xor s t)
  | .fin s a, .inf t => if a = 0 then .nan else .inf (xor s t)
  | .fin s a, .fin t b => .fin (xor s t) (a * b)

/-- Exact a × b + c, to be rounded once (R67). -/
def Fv.fma (a b c : Fv) : Fv := (a.mul b).add c

/-- Numerical order of two values that are not NaN; −0 equals +0 (R69). -/
def Fv.lt : Fv → Fv → Bool
  | .nan, _ => false
  | _, .nan => false
  | .inf s, .inf t => s && !t
  | .inf s, .fin _ _ => s
  | .fin _ _, .inf t => !t
  | .fin s a, .fin t b => decide ((Fv.fin s a).val < (Fv.fin t b).val)

/-- Equality of values under R69. -/
def Fv.eqv : Fv → Fv → Bool
  | .inf s, .inf t => s == t
  | .fin s a, .fin t b => decide ((Fv.fin s a).val = (Fv.fin t b).val)
  | _, _ => false

/-- The sign of a value (false for NaN). -/
def Fv.sgn : Fv → Bool
  | .nan => false
  | .inf s => s
  | .fin s _ => s

/-- Maximum of R69: NaN if either is; max(+0, −0) is +0. -/
def Fv.max (a b : Fv) : Fv :=
  if a.isNan || b.isNan then .nan
  else if a.lt b then b
  else if b.lt a then a
  else if a.sgn then b else a

/-- Minimum of R69: NaN if either is; min(+0, −0) is −0. -/
def Fv.min (a b : Fv) : Fv :=
  if a.isNan || b.isNan then .nan
  else if a.lt b then a
  else if b.lt a then b
  else if a.sgn then a else b

/-- The comparison conditions of R122: 0 EQ, 1 NE, 2 LT, 3 LE, 4 GT, 5 GE, 6 UNORD, 7 ORD, under R69. -/
def fcond (sub : Nat) (a b : Fv) : Bool :=
  let u := a.isNan || b.isNan
  match sub with
  | 0 => a.eqv b
  | 1 => u || !(a.eqv b)
  | 2 => a.lt b
  | 3 => !u && (a.lt b || a.eqv b)
  | 4 => b.lt a
  | 5 => !u && (b.lt a || a.eqv b)
  | 6 => u
  | _ => !u

/-- The value of a two's-complement number of `n` bits. -/
def sint (n v : Nat) : Int :=
  let w := v % 2 ^ n
  if w < 2 ^ (n - 1) then (w : Int) else (w : Int) - (2 ^ n : Nat)

/-- An integer modulo 2^n, as a number (R70). -/
def wrap (n : Nat) (i : Int) : Nat := (i % ((2 ^ n : Nat) : Int)).toNat

/-- The comparison conditions 0 to 5 of R122 on integers (R123). -/
def icond (sub : Nat) (a b : Int) : Bool :=
  match sub with
  | 0 => a == b
  | 1 => a != b
  | 2 => decide (a < b)
  | 3 => decide (a ≤ b)
  | 4 => decide (b < a)
  | _ => decide (b ≤ a)

/-- Saturate an integer into [lo, hi] (R65). -/
def clampI (lo hi i : Int) : Int := max lo (min hi i)

/-- A floating-point value to an integer of [lo, hi] under a mode: saturating, NaN gives 0 (R65, R210). -/
def toIntSat (rm : Rm) (lo hi : Int) : Fv → Int
  | .nan => 0
  | .inf s => if s then lo else hi
  | .fin s q =>
    let r : Int := (roundInt rm q : Int)
    clampI lo hi (if s then -r else r)

/-- A value converted to a floating-point format (R63, R64, R66, Table 3-6): NaN gives the default NaN, the exact value is
rounded once, and overflow and infinite inputs follow the destination and SAT. -/
def convF (d : Ff) (rm : Rm) (sat : Bool) : Fv → Nat
  | .nan => d.qnan
  | .inf s =>
    match d with
    | .e4m3 => if sat then (if s then 0xFE else 0x7E) else d.qnan
    | .e2m1 => fencode d (.fin s 6)
    | _ => fencode d (.inf s)
  | .fin s q =>
    let r := roundMag d rm q
    if r > d.maxFinite then
      match d with
      | .e4m3 => if sat then (if s then 0xFE else 0x7E) else d.qnan
      | .e2m1 => fencode d (.fin s 6)
      | _ => if sat then fencode d (.fin s d.maxFinite) else fencode d (.inf s)
    else fencode d (.fin s r)

/-- The mixing function of the stochastic-rounding generator (R60). -/
def srMix (z : Word64) : Word64 :=
  let z := z ^^^ (z >>> 32)
  let z := z * 0x8E5A93C14B27D6F1#64
  let z := z ^^^ (z >>> 29)
  let z := z * 0xB3D107E96A4C52ED#64
  z ^^^ (z >>> 32)

/-- The 16 random bits of one element (R60). -/
def srbits (k t s e : Nat) : Nat :=
  let x := srMix (BitVec.ofNat 64 k ^^^ ((BitVec.ofNat 64 t <<< 32) ||| BitVec.ofNat 64 s))
  let y := srMix (x + BitVec.ofNat 64 e * 0x6A09E667F3BCC909#64)
  (y >>> 48).toNat

end Sys2Proof.Machine
end

