-- ==== Sys2Proof/Config.lean ====
section
/-!
DEFINITION. The free values: what the spec calls undefined, leaves open or states without a value. Each is an opaque constant
without a body, so that nothing can be proved of the value it gives; the log entries under notes/assumptions name each.
-/
namespace Sys2Proof.Config

/-- An undefined byte of a memory: by the generation of its undefined content and its key (R6, R163, R360). -/
opaque freeByte : Nat → Nat → Byte
/-- An undefined row of 1,024 bits of a tile register or carry slot (R114). -/
opaque freeRow : Nat → Nat → BitVec 1024
/-- An undefined row of a predicate register (R114). -/
opaque freePred : Nat → Nat → BitVec 128
/-- An undefined row of an accumulator bank (R24). -/
opaque freeAcc : Nat → Nat → BitVec 512
/-- An undefined number of the spec, by a counter that the state holds (R177: how long a prefix of a stopped transfer). -/
opaque freeNat : Nat → Nat

/-- GLB.REV [15:0] of the part, MINOR and MAJOR (R397, R398). -/
opaque revision : BitVec 16
/-- The images that firmware slot A (0) or B (1) holds as the module leaves manufacture: 1 SFW, 2 CPFW (Table 17-1). -/
opaque factoryImage : Nat → Nat → List Byte
/-- SHA-384 (FIPS 180-4), which R147, R353 and R368 name and the spec does not restate. -/
opaque sha384 : List Byte → List Byte
/-- ECDSA P-384 signature of a message under a private key. -/
opaque ecdsaSign : List Byte → List Byte → List Byte
/-- Whether a signature verifies as RSASSA-PSS with RSA-3072 under a modulus (R348). -/
opaque rsaVerify : List Byte → List Byte → List Byte → Bool
/-- Whether a signature verifies as SLH-DSA-SHA2-128s under a public key (R348). -/
opaque slhVerify : List Byte → List Byte → List Byte → Bool
/-- Whether a signature verifies as ECDSA P-384 under a public key (R419). -/
opaque ecdsaVerify : List Byte → List Byte → List Byte → Bool
/-- The fuse digest of a key set (R348). -/
opaque keyDigest : Nat → List Byte
/-- The MOD_ID contacts (R409), which the seat straps. -/
opaque modId : BitVec 3
/-- The unique device secret (R351). -/
opaque uds : List Byte
/-- The serial of the DeviceID certificate (R419). -/
opaque deviceSerial : List Byte
/-- The root and DeviceID certificates of slot 0 (R353). -/
opaque rootCerts : List Byte
/-- The DER of the alias certificate's TBSCertificate (R352): of the extension of R354, the two alias public keys, and the ML-DSA
extension, last, where there is one; its issuer is the DeviceID certificate. -/
opaque tbsCert : List Byte → List Byte → List Byte → Option (List Byte) → List Byte
/-- An X.509 certificate of a TBSCertificate and its signature. -/
opaque x509 : List Byte → List Byte → List Byte
/-- ML-DSA-65 signature (FIPS 204) of a message under a private key, and the public half of such a key. -/
opaque mldsaSign : List Byte → List Byte → List Byte
opaque mldsaPub : List Byte → List Byte
/-- Measurements whose bytes the spec does not lay out: 0 the boot ROM; 3 of the committed option words; 4 of lifecycle and
revocation; 5 the coefficient tables; 6 of the OTP counter (Table 17-4). -/
opaque measure0 : List Byte
opaque measure3 : List Word32 → List Byte
opaque measure4 : Nat → Nat → List Byte
opaque measure5 : List Byte
opaque measure6 : Nat → List Byte
/-- The operator public key in the body of an SFW image (R419), whose place the spec does not give. -/
opaque operatorKey : List Byte → List Byte
/-- The private key that HMAC-SHA-384 expansion derives from a secret (R351): 0 of ECDSA P-384, 1 of ML-DSA-65. -/
opaque expand : Nat → List Byte → List Byte
/-- The n-th CDAT structure that the module's DOE mailbox gives (R295), which CXL 3.1 defines and the spec does not list. -/
opaque cdat : Nat → List Byte
/-- The public half of a private key. -/
opaque pubKey : List Byte → List Byte
/-- HMAC-SHA-384 of a message under a key (R419). -/
opaque hmac384 : List Byte → List Byte → List Byte
/-- A random number of the true-random source, by a counter (R353, R419). -/
opaque randomBytes : Nat → List Byte
/-- AES-256-GCM session secrets of a key exchange (R353). -/
opaque sessionSecret : List Byte → List Byte → List Byte

end Sys2Proof.Config
end

