-- ==== Sys2Proof/Machine/RegTable.lean ====
section
/-!
DEFINITION. The registers of register space (spec/20_registers.md, Table 20-7 and the register tables of every chapter): the
offset of each, its array dimensions, the reset level of its introduction line, and its fields with access code and reset
value. Registers of a core are also named by their offset within the core's 1 MiB (Table 20-8), with a name in `k`.
-/
namespace Sys2Proof.Machine

/-- Access codes of Table 0-4. `lhw`, `hsw`: words of a latched pair whose chapter makes them writable; `lhs`, `hss`: such
words written only by the safety die. -/
inductive Acc where
  | ro | rw | rc | rwg | siw | st | lh | hs | lhw | hsw | lhs | hss
deriving DecidableEq, Repr

/-- Reset levels of an introduction line (R363). -/
inductive Lvl where
  | core | sys | por
deriving DecidableEq, Repr

/-- One field: bits [hi:lo], access code, reset value. -/
structure FieldD where
  hi : Nat
  lo : Nat
  acc : Acc
  rst : Nat
deriving DecidableEq, Repr

/-- One register definition: offset of its first instance, its dimensions as (stride, count), reset level, fields. -/
structure RegDesc where
  base : Nat
  dims : List (Nat × Nat)
  lvl : Lvl
  fields : List FieldD
deriving DecidableEq, Repr

/-- A register definition, its fields as (hi, lo, access, reset). -/
def rd (base : Nat) (dims : List (Nat × Nat)) (lvl : Lvl) (fs : List (Nat × Nat × Acc × Nat)) : RegDesc :=
  ⟨base, dims, lvl, fs.map (fun f => ⟨f.1, f.2.1, f.2.2.1, f.2.2.2⟩)⟩

def rUCB_mod_IDENT : Nat := 0x1000
def rUCB_die_IDENT (i : Nat) : Nat := 0xe001000 + 0x100000 * i
def rUCB_cl_IDENT (i : Nat) : Nat := 0x8001000 + 0x100000 * i
def kUCB_core_IDENT : Nat := 0x70000
def kUCB_arr_IDENT (i : Nat) : Nat := 0x70200 + 0x200 * i
def rUCB_mod_STATE : Nat := 0x1004
def rUCB_die_STATE (i : Nat) : Nat := 0xe001004 + 0x100000 * i
def rUCB_cl_STATE (i : Nat) : Nat := 0x8001004 + 0x100000 * i
def kUCB_core_STATE : Nat := 0x70004
def kUCB_arr_STATE (i : Nat) : Nat := 0x70204 + 0x200 * i
def rUCB_mod_ERRSUM : Nat := 0x1008
def rUCB_die_ERRSUM (i : Nat) : Nat := 0xe001008 + 0x100000 * i
def rUCB_cl_ERRSUM (i : Nat) : Nat := 0x8001008 + 0x100000 * i
def kUCB_core_ERRSUM : Nat := 0x70008
def kUCB_arr_ERRSUM (i : Nat) : Nat := 0x70208 + 0x200 * i
def rUCB_mod_GANGCTL : Nat := 0x1010
def rUCB_die_GANGCTL (i : Nat) : Nat := 0xe001010 + 0x100000 * i
def rUCB_cl_GANGCTL (i : Nat) : Nat := 0x8001010 + 0x100000 * i
def kUCB_core_GANGCTL : Nat := 0x70010
def rUCB_mod_GANGSTAT : Nat := 0x1014
def rUCB_die_GANGSTAT (i : Nat) : Nat := 0xe001014 + 0x100000 * i
def rUCB_cl_GANGSTAT (i : Nat) : Nat := 0x8001014 + 0x100000 * i
def kUCB_core_GANGSTAT : Nat := 0x70014
def kUCB_arr_GANGSTAT (i : Nat) : Nat := 0x70214 + 0x200 * i
def rUCB_mod_WINSEL (i : Nat) : Nat := 0x1020 + 0x4 * i
def rUCB_die_WINSEL (i : Nat) (j : Nat) : Nat := 0xe001020 + 0x100000 * i + 0x4 * j
def rUCB_cl_WINSEL (i : Nat) (j : Nat) : Nat := 0x8001020 + 0x100000 * i + 0x4 * j
def kUCB_core_WINSEL (i : Nat) : Nat := 0x70020 + 0x4 * i
def rUCB_mod_WIN (i : Nat) : Nat := 0x1040 + 0x8 * i
def rUCB_mod_WIN_HI (i : Nat) : Nat := 0x1044 + 0x8 * i
def rUCB_die_WIN (i : Nat) (j : Nat) : Nat := 0xe001040 + 0x100000 * i + 0x8 * j
def rUCB_die_WIN_HI (i : Nat) (j : Nat) : Nat := 0xe001044 + 0x100000 * i + 0x8 * j
def rUCB_cl_WIN (i : Nat) (j : Nat) : Nat := 0x8001040 + 0x100000 * i + 0x8 * j
def rUCB_cl_WIN_HI (i : Nat) (j : Nat) : Nat := 0x8001044 + 0x100000 * i + 0x8 * j
def kUCB_core_WIN (i : Nat) : Nat := 0x70040 + 0x8 * i
def kUCB_core_WIN_HI (i : Nat) : Nat := 0x70044 + 0x8 * i
def kUCB_core_ARRMAP : Nat := 0x70080
def rGANGMAP0 (i : Nat) : Nat := 0x8001080 + 0x100000 * i
def rGANGMAP1 (i : Nat) : Nat := 0x8001084 + 0x100000 * i
def rAVAIL (i : Nat) : Nat := 0x1080 + 0x4 * i
def rAVSUM : Nat := 0x108c
def rTIME_FRAME : Nat := 0x50000
def rTIME_FRAME_HI : Nat := 0x50004
def rTIME_CTRL : Nat := 0x50010
def rTIME_STATUS : Nat := 0x50014
def rTIME_OFFSET : Nat := 0x50018
def rTIME_LINKDLY : Nat := 0x5001c
def rTIME_HOPS : Nat := 0x50020
def rTIME_TRIM : Nat := 0x50024
def rTIME_DOM (i : Nat) : Nat := 0x50040 + 0x4 * i
def kSEQ_STATUS : Nat := 0x0
def kSEQ_PC : Nat := 0x4
def kSEQ_WFRAME : Nat := 0x8
def kSEQ_WFRAME_HI : Nat := 0xc
def kSEQ_LASTCY : Nat := 0x10
def kSEQ_SLIPS : Nat := 0x14
def kSEQ_IBVALID : Nat := 0x18
def kSEQ_IBVALID_HI : Nat := 0x1c
def kMAT_STATUS : Nat := 0x30000
def kMAT_FAULT : Nat := 0x30004
def kMAT_FRZA : Nat := 0x30008
def kMAT_FRZA_HI : Nat := 0x3000c
def kMAT_FRZB : Nat := 0x30010
def kMAT_FRZB_HI : Nat := 0x30014
def kMAT_FRZD : Nat := 0x30018
def kMAT_FRZD_HI : Nat := 0x3001c
def kMAT_STEPS : Nat := 0x30020
def kMAT_STEPS_HI : Nat := 0x30024
def kMAT_CSUM : Nat := 0x30028
def kMAT_CSKIP : Nat := 0x3002c
def kMAT_AUDCTL : Nat := 0x30040
def kMAT_AUDTH : Nat := 0x30044
def kMAT_SPPRUNE : Nat := 0x30048
def kMAT_SPMALF : Nat := 0x3004c
def kMAT_SPOOR : Nat := 0x30050
def kMAT_SPORDER : Nat := 0x30054
def kMAT_AUDCOL : Nat := 0x30058
def kMAT_AUDMISS : Nat := 0x3005c
def kMAT_AUDLOST : Nat := 0x30060
def kMAT_SPSTAT : Nat := 0x30064
def kVEC_STATUS : Nat := 0x20000
def kVEC_FAULT : Nat := 0x20004
def kVEC_CVALID (i : Nat) : Nat := 0x20010 + 0x4 * i
def kVEC_CPOIS (i : Nat) : Nat := 0x20020 + 0x4 * i
def kVEC_GOOR : Nat := 0x20030
def kVEC_TPOIS (i : Nat) : Nat := 0x20100 + 0x4 * i
def kVEC_PPOIS (i : Nat) : Nat := 0x20180 + 0x4 * i
def kCNT_VISSUE : Nat := 0x60000
def kCNT_VISSUE_HI : Nat := 0x60004
def kCNT_VSTALL : Nat := 0x60008
def kCNT_VSTALL_HI : Nat := 0x6000c
def kCNT_SFRES : Nat := 0x60010
def kCNT_SFRES_HI : Nat := 0x60014
def kCNT_SCANT : Nat := 0x60018
def kCNT_SCANT_HI : Nat := 0x6001c
def kCNT_VNAN : Nat := 0x60020
def kCNT_VNAN_HI : Nat := 0x60024
def kCNT_VINF : Nat := 0x60028
def kCNT_VINF_HI : Nat := 0x6002c
def kCNT_VPOIS : Nat := 0x60030
def kTBL_STATUS : Nat := 0x50000
def kTBL_FAULT : Nat := 0x50004
def kTBL_DEFERS : Nat := 0x50008
def kTBL_VCLAMP : Nat := 0x5000c
def kTBL_SLOTn_GEN (i : Nat) : Nat := 0x50040 + 0x10 * i
def kTBL_SLOTn_LO (i : Nat) : Nat := 0x50044 + 0x10 * i
def kTBL_SLOTn_SCALE (i : Nat) : Nat := 0x50048 + 0x10 * i
def kLAY_STATUS : Nat := 0x40000
def kLAY_FAULT : Nat := 0x40004
def kLAY_FADDR : Nat := 0x40008
def kLAY_FADDR_HI : Nat := 0x4000c
def kLAY_DSTAT (i : Nat) : Nat := 0x40040 + 0x4 * i
def kLAY_OOR : Nat := 0x40080
def kLAY_CE : Nat := 0x40084
def kLAY_UE : Nat := 0x40088
def kLAY_BLOCKS : Nat := 0x40090
def kLAY_BLOCKS_HI : Nat := 0x40094
def kLAY_HBLOCKS : Nat := 0x40098
def kLAY_HBLOCKS_HI : Nat := 0x4009c
def kLAY_NARROW : Nat := 0x400a0
def kLAY_NARROW_HI : Nat := 0x400a4
def kLAY_BWAIT : Nat := 0x400a8
def rGLB_BARCFG (i : Nat) : Nat := 0x400 + 0x8 * i
def rDIE_BARCFG (i : Nat) (j : Nat) : Nat := 0xe000400 + 0x100000 * i + 0x8 * j
def rGLB_BARSTAT (i : Nat) : Nat := 0x404 + 0x8 * i
def rDIE_BARSTAT (i : Nat) (j : Nat) : Nat := 0xe000404 + 0x100000 * i + 0x8 * j
def rGLB_BARPOD (i : Nat) : Nat := 0x600 + 0x4 * i
def rGLB_BARPCUR (i : Nat) : Nat := 0x700 + 0x4 * i
def kSCNT_COUNT (i : Nat) : Nat := 0x10000 + 0x8 * i
def kSCNT_COUNT_HI (i : Nat) : Nat := 0x10004 + 0x8 * i
def kSCNT_INC (i : Nat) : Nat := 0x10200 + 0x4 * i
def kSCNT_CFG (i : Nat) : Nat := 0x10300 + 0x4 * i
def kSCNT_FAULT : Nat := 0x10400
def kSCNT_WAIT : Nat := 0x10408
def kSCNT_WTARGET : Nat := 0x10410
def kSCNT_WTARGET_HI : Nat := 0x10414
def kSCNT_FLAGS : Nat := 0x10418
def kSCNT_BOUT (i : Nat) : Nat := 0x10420 + 0x4 * i
def kSEQ_FAULT : Nat := 0x20
def kSEQ_FWORD : Nat := 0x28
def kSEQ_FWORD_HI : Nat := 0x2c
def rGLB_SLWIN (i : Nat) : Nat := 0x800 + 0x4 * i
def rMC_STATUS (i : Nat) : Nat := 0x100000 + 0x10000 * i
def rMC_CE (i : Nat) : Nat := 0x100008 + 0x10000 * i
def rMC_CE_HI (i : Nat) : Nat := 0x10000c + 0x10000 * i
def rMC_UE (i : Nat) : Nat := 0x100010 + 0x10000 * i
def rMC_PWRITE (i : Nat) : Nat := 0x100014 + 0x10000 * i
def rMC_PREAD (i : Nat) : Nat := 0x100018 + 0x10000 * i
def rMC_SCRUBPOIS (i : Nat) : Nat := 0x10001c + 0x10000 * i
def rMC_ERRADDR (i : Nat) : Nat := 0x100020 + 0x10000 * i
def rMC_ERRADDR_HI (i : Nat) : Nat := 0x100024 + 0x10000 * i
def rMC_ERRINFO (i : Nat) : Nat := 0x100028 + 0x10000 * i
def rMC_SCRUBCTL (i : Nat) : Nat := 0x100030 + 0x10000 * i
def rMC_SCRUBPOS (i : Nat) : Nat := 0x100038 + 0x10000 * i
def rMC_SCRUBPOS_HI (i : Nat) : Nat := 0x10003c + 0x10000 * i
def rMC_SCRUBPASS (i : Nat) : Nat := 0x100040 + 0x10000 * i
def rMC_PPR (i : Nat) : Nat := 0x100048 + 0x10000 * i
def rMC_INJCTL (i : Nat) : Nat := 0x100050 + 0x10000 * i
def rMC_INJADDR (i : Nat) : Nat := 0x100058 + 0x10000 * i
def rMC_INJADDR_HI (i : Nat) : Nat := 0x10005c + 0x10000 * i
def rBSH_STATUS (i : Nat) : Nat := 0x101000 + 0x10000 * i
def rBSH_CFAULT (i : Nat) : Nat := 0x101004 + 0x10000 * i
def rBSH_ADDS (i : Nat) : Nat := 0x101010 + 0x10000 * i
def rBSH_ADDS_HI (i : Nat) : Nat := 0x101014 + 0x10000 * i
def rBSH_UPDATES (i : Nat) : Nat := 0x101018 + 0x10000 * i
def rBSH_UPDATES_HI (i : Nat) : Nat := 0x10101c + 0x10000 * i
def rBSH_NFZERO (i : Nat) : Nat := 0x101020 + 0x10000 * i
def rBSH_NFPROP (i : Nat) : Nat := 0x101024 + 0x10000 * i
def rBSH_NFLOCAL (i : Nat) : Nat := 0x101028 + 0x10000 * i
def rBSH_NFOUT (i : Nat) : Nat := 0x10102c + 0x10000 * i
def rBSH_PROTO (i : Nat) : Nat := 0x101030 + 0x10000 * i
def rBSH_NOJOB (i : Nat) : Nat := 0x101034 + 0x10000 * i
def rBSH_RELAXED (i : Nat) : Nat := 0x101038 + 0x10000 * i
def rBSH_POISON (i : Nat) : Nat := 0x10103c + 0x10000 * i
def rBSH_PRIVBASE (i : Nat) (j : Nat) : Nat := 0x101040 + 0x10000 * i + 0x8 * j
def rBSH_PRIVLEN (i : Nat) (j : Nat) : Nat := 0x101044 + 0x10000 * i + 0x8 * j
def rBSH_STAGE (i : Nat) : Nat := 0x101080 + 0x10000 * i
def rBSH_JOBSTAT (i : Nat) (j : Nat) : Nat := 0x101100 + 0x10000 * i + 0x4 * j
def rBSH_JOBDONE (i : Nat) (j : Nat) : Nat := 0x101140 + 0x10000 * i + 0x4 * j
def rBSH_RXSETS (i : Nat) : Nat := 0x101200 + 0x10000 * i
def rBSH_RXDONE (i : Nat) : Nat := 0x101204 + 0x10000 * i
def rBSH_RXRELAX (i : Nat) : Nat := 0x101208 + 0x10000 * i
def rCH_STATUS (i : Nat) : Nat := 0x200000 + 0x10000 * i
def rCH_CTRL (i : Nat) : Nat := 0x200004 + 0x10000 * i
def rCH_TRAIN (i : Nat) : Nat := 0x200008 + 0x10000 * i
def rCH_PEER (i : Nat) : Nat := 0x20000c + 0x10000 * i
def rCH_DELAY (i : Nat) : Nat := 0x200010 + 0x10000 * i
def rCH_FECCORR (i : Nat) (j : Nat) : Nat := 0x200040 + 0x10000 * i + 0x8 * j
def rCH_FECCORR_HI (i : Nat) (j : Nat) : Nat := 0x200044 + 0x10000 * i + 0x8 * j
def rCH_FECUNC (i : Nat) (j : Nat) : Nat := 0x200080 + 0x10000 * i + 0x4 * j
def rCH_CRCERR (i : Nat) : Nat := 0x2000a0 + 0x10000 * i
def rCH_REPLAY (i : Nat) : Nat := 0x2000a4 + 0x10000 * i
def rCH_RETRAINS (i : Nat) : Nat := 0x2000a8 + 0x10000 * i
def rCH_DROP (i : Nat) : Nat := 0x2000ac + 0x10000 * i
def rCH_TXFLITS (i : Nat) : Nat := 0x2000b0 + 0x10000 * i
def rCH_TXFLITS_HI (i : Nat) : Nat := 0x2000b4 + 0x10000 * i
def rCH_RXFLITS (i : Nat) : Nat := 0x2000b8 + 0x10000 * i
def rCH_RXFLITS_HI (i : Nat) : Nat := 0x2000bc + 0x10000 * i
def rCHC_NODEID : Nat := 0x2c0000
def rCHC_STATUS : Nat := 0x2c0004
def rCHC_RTIMEOUT : Nat := 0x2c0008
def rCHC_RSTSRC : Nat := 0x2c000c
def rCHC_RSTSEND : Nat := 0x2c0010
def rCHC_PROTO : Nat := 0x2c0020
def rCHC_REFUSED : Nat := 0x2c0024
def rCHC_TDROP : Nat := 0x2c0028
def rCHC_TIMEOUT : Nat := 0x2c002c
def rCHC_RXPOIS : Nat := 0x2c0030
def rCHC_PRIGHTS (i : Nat) : Nat := 0x2c0100 + 0x4 * i
def rCHC_DOMCFG (i : Nat) : Nat := 0x2c0120 + 0x4 * i
def rCHC_PFAULT (i : Nat) : Nat := 0x2c0140 + 0x4 * i
def rCHC_MCGRP (i : Nat) : Nat := 0x2c0400 + 0x4 * i
def rCHC_ROUTE (i : Nat) : Nat := 0x2c0800 + 0x4 * i
def rCHC_SLOT (i : Nat) (j : Nat) : Nat := 0x2c1000 + 0x40 * i + 0x4 * j
def rPART_CFG (i : Nat) : Nat := 0x60000 + 0x100 * i
def rPART_STATUS (i : Nat) : Nat := 0x60004 + 0x100 * i
def rPART_CTRL (i : Nat) : Nat := 0x60008 + 0x100 * i
def rPART_DLWIN (i : Nat) : Nat := 0x6000c + 0x100 * i
def rPART_SRKEY (i : Nat) : Nat := 0x60010 + 0x100 * i
def rPART_SRKEY_HI (i : Nat) : Nat := 0x60014 + 0x100 * i
def rPART_PTBASE (i : Nat) : Nat := 0x60018 + 0x100 * i
def rPART_PTBASE_HI (i : Nat) : Nat := 0x6001c + 0x100 * i
def rPART_ALLOCBASE (i : Nat) : Nat := 0x60020 + 0x100 * i
def rPART_ALLOCBASE_HI (i : Nat) : Nat := 0x60024 + 0x100 * i
def rPART_FAULT (i : Nat) : Nat := 0x60028 + 0x100 * i
def rPART_RBASE (i : Nat) (j : Nat) : Nat := 0x60040 + 0x100 * i + 0x20 * j
def rPART_RBASE_HI (i : Nat) (j : Nat) : Nat := 0x60044 + 0x100 * i + 0x20 * j
def rPART_PADDR (i : Nat) (j : Nat) : Nat := 0x60048 + 0x100 * i + 0x20 * j
def rPART_PADDR_HI (i : Nat) (j : Nat) : Nat := 0x6004c + 0x100 * i + 0x20 * j
def rPART_DADDR (i : Nat) (j : Nat) : Nat := 0x60050 + 0x100 * i + 0x20 * j
def rPART_DADDR_HI (i : Nat) (j : Nat) : Nat := 0x60054 + 0x100 * i + 0x20 * j
def rPART_RCFG (i : Nat) (j : Nat) : Nat := 0x60058 + 0x100 * i + 0x20 * j
def rPART_RSTAT (i : Nat) (j : Nat) : Nat := 0x6005c + 0x100 * i + 0x20 * j
def rCXL_LINK : Nat := 0x300000
def rCXL_BISNP : Nat := 0x300008
def rCXL_BISNP_HI : Nat := 0x30000c
def rCXL_HPOIS : Nat := 0x300010
def rCXL_MPOIS : Nat := 0x300014
def rPWR_STATUS : Nat := 0x20000
def rPWR_LIMITS : Nat := 0x20004
def rPWR_EFF : Nat := 0x20008
def rPWR_HOG : Nat := 0x2000c
def rPWR_POWER : Nat := 0x20010
def rPWR_INPUT : Nat := 0x20014
def rPWR_TEMP : Nat := 0x20018
def rPWR_RESTREQ : Nat := 0x20020
def rPWR_RESTREQ_HI : Nat := 0x20024
def rPWR_THROTFR : Nat := 0x20028
def rPWR_WEAR : Nat := 0x2002c
def rPWR_TPOWER : Nat := 0x20030
def rPWR_MBARG : Nat := 0x20040
def rPWR_MBCMD : Nat := 0x20044
def rPWR_MBSTAT : Nat := 0x20048
def rERR_STATUS : Nat := 0x30000
def rERR_CTRL : Nat := 0x30004
def rERR_LOGBASE : Nat := 0x30008
def rERR_LOGBASE_HI : Nat := 0x3000c
def rERR_LOGP : Nat := 0x30010
def rERR_LOGC : Nat := 0x30014
def rERR_SEQ : Nat := 0x30018
def rERR_LOST : Nat := 0x3001c
def rERR_DROP : Nat := 0x30020
def rERR_MCTPLOST : Nat := 0x30024
def rERR_CLASS (i : Nat) : Nat := 0x30044 + 0x4 * i
def rERR_HIDX : Nat := 0x30100
def rERR_HDATA : Nat := 0x30104
def rERR_INJARR : Nat := 0x30110
def rERR_LAST (i : Nat) : Nat := 0x30200 + 0x4 * i
def rSEC_STATUS : Nat := 0x40000
def rSEC_SVN : Nat := 0x40004
def rSEC_CERTGEN : Nat := 0x40008
def rSEC_TEREF : Nat := 0x4000c
def rSEC_PSTATE (i : Nat) : Nat := 0x40040 + 0x4 * i
def rSEC_TE (i : Nat) (j : Nat) : Nat := 0x40100 + 0x20 * i + 0x8 * j
def rSEC_TE_HI (i : Nat) (j : Nat) : Nat := 0x40104 + 0x20 * i + 0x8 * j
def rSEC_SCRUBBASE : Nat := 0x40300
def rSEC_SCRUBBASE_HI : Nat := 0x40304
def rSEC_SCRUBCTL : Nat := 0x40308
def rSEC_SCRUBSTAT : Nat := 0x4030c
def rRST_CAUSE : Nat := 0x10000
def rRST_CTRL : Nat := 0x10004
def rRST_STATUS : Nat := 0x10008
def rRST_PSREQ : Nat := 0x1000c
def rTRIM_STATUS : Nat := 0x70000
def rTRIM_FAILS : Nat := 0x70004
def rTRIM_OPT (i : Nat) : Nat := 0x70040 + 0x4 * i
def kCNT_ANONF : Nat := 0x60038
def kCNT_BUNDLES : Nat := 0x60040
def kCNT_BUNDLES_HI : Nat := 0x60044
def kCNT_STALLS : Nat := 0x60048
def kCNT_STALLS_HI : Nat := 0x6004c
def rPART_WCTRL (i : Nat) : Nat := 0x600c0 + 0x100 * i
def rPART_WTHR (i : Nat) : Nat := 0x600c4 + 0x100 * i
def rPART_WADDR (i : Nat) : Nat := 0x600c8 + 0x100 * i
def rPART_WADDR_HI (i : Nat) : Nat := 0x600cc + 0x100 * i
def rPART_WLAST (i : Nat) : Nat := 0x600d8 + 0x100 * i
def rPART_WLAST_HI (i : Nat) : Nat := 0x600dc + 0x100 * i
def rPART_WSPSTEP (i : Nat) : Nat := 0x600e0 + 0x100 * i
def rPART_WSPSTEP_HI (i : Nat) : Nat := 0x600e4 + 0x100 * i
def rPART_WMEAN (i : Nat) : Nat := 0x600d0 + 0x100 * i
def rPART_WVAR (i : Nat) : Nat := 0x600d4 + 0x100 * i
def rPART_WSPLOSS (i : Nat) : Nat := 0x600e8 + 0x100 * i
def rPART_WCOUNT (i : Nat) : Nat := 0x600ec + 0x100 * i
def rPART_WSPIKES (i : Nat) : Nat := 0x600f0 + 0x100 * i
def rPART_WSTAT (i : Nat) : Nat := 0x600f4 + 0x100 * i
def rGLB_IDENT : Nat := 0x0
def rGLB_REV : Nat := 0x4
def rGLB_GSTAT : Nat := 0x10
def rGLB_GFAIL : Nat := 0x14
def rDBG_STATUS : Nat := 0x400000
def rDBG_HALT (i : Nat) : Nat := 0x400010 + 0x4 * i
def rDBG_TRPTR : Nat := 0x400020

/-- Register definitions, part 0. -/
def regTab0 : List RegDesc :=
  [
    rd 0x1000 [] .por [(2, 0, .ro, 0), (15, 8, .ro, 0), (23, 16, .ro, 0), (31, 24, .ro, 0)],
    rd 0xe001000 [(0x100000, 2)] .por [(2, 0, .ro, 0), (15, 8, .ro, 0), (23, 16, .ro, 0), (31, 24, .ro, 0)],
    rd 0x8001000 [(0x100000, 8)] .por [(2, 0, .ro, 0), (15, 8, .ro, 0), (23, 16, .ro, 0), (31, 24, .ro, 0)],
    rd 0x10070000 [(0x100000, 96)] .por [(2, 0, .ro, 0), (15, 8, .ro, 0), (23, 16, .ro, 0), (31, 24, .ro, 0)],
    rd 0x10070200 [(0x100000, 96), (0x200, 5)] .por [(2, 0, .ro, 0), (15, 8, .ro, 0), (23, 16, .ro, 0), (31, 24, .ro, 0)],
    rd 0x1004 [] .core [(3, 0, .ro, 1), (4, 4, .ro, 0), (5, 5, .ro, 0)],
    rd 0xe001004 [(0x100000, 2)] .core [(3, 0, .ro, 1), (4, 4, .ro, 0), (5, 5, .ro, 0)],
    rd 0x8001004 [(0x100000, 8)] .core [(3, 0, .ro, 1), (4, 4, .ro, 0), (5, 5, .ro, 0)],
    rd 0x10070004 [(0x100000, 96)] .core [(3, 0, .ro, 1), (4, 4, .ro, 0), (5, 5, .ro, 0)],
    rd 0x10070204 [(0x100000, 96), (0x200, 5)] .core [(3, 0, .ro, 1), (4, 4, .ro, 0), (5, 5, .ro, 0)],
    rd 0x1008 [] .core [(0, 0, .rc, 0), (1, 1, .rc, 0), (2, 2, .rc, 0), (3, 3, .rc, 0), (4, 4, .rc, 0), (5, 5, .rc, 0), (6, 6, .rc, 0), (7, 7, .rc, 0), (8, 8, .rc, 0)],
    rd 0xe001008 [(0x100000, 2)] .core [(0, 0, .rc, 0), (1, 1, .rc, 0), (2, 2, .rc, 0), (3, 3, .rc, 0), (4, 4, .rc, 0), (5, 5, .rc, 0), (6, 6, .rc, 0), (7, 7, .rc, 0), (8, 8, .rc, 0)],
    rd 0x8001008 [(0x100000, 8)] .core [(0, 0, .rc, 0), (1, 1, .rc, 0), (2, 2, .rc, 0), (3, 3, .rc, 0), (4, 4, .rc, 0), (5, 5, .rc, 0), (6, 6, .rc, 0), (7, 7, .rc, 0), (8, 8, .rc, 0)],
    rd 0x10070008 [(0x100000, 96)] .core [(0, 0, .rc, 0), (1, 1, .rc, 0), (2, 2, .rc, 0), (3, 3, .rc, 0), (4, 4, .rc, 0), (5, 5, .rc, 0), (6, 6, .rc, 0), (7, 7, .rc, 0), (8, 8, .rc, 0)],
    rd 0x10070208 [(0x100000, 96), (0x200, 5)] .core [(0, 0, .rc, 0), (1, 1, .rc, 0), (2, 2, .rc, 0), (3, 3, .rc, 0), (4, 4, .rc, 0), (5, 5, .rc, 0), (6, 6, .rc, 0), (7, 7, .rc, 0), (8, 8, .rc, 0)],
    rd 0x1010 [] .core []  ]

/-- Register definitions, part 1. -/
def regTab1 : List RegDesc :=
  [
    rd 0xe001010 [(0x100000, 2)] .core [],
    rd 0x8001010 [(0x100000, 8)] .core [(0, 0, .rwg, 0), (1, 1, .rwg, 0)],
    rd 0x10070010 [(0x100000, 96)] .core [],
    rd 0x1014 [] .core [(7, 0, .ro, 1), (15, 8, .ro, 0), (23, 16, .ro, 0), (24, 24, .ro, 0), (25, 25, .ro, 0)],
    rd 0xe001014 [(0x100000, 2)] .core [(7, 0, .ro, 1), (15, 8, .ro, 0), (23, 16, .ro, 0), (24, 24, .ro, 0), (25, 25, .ro, 0)],
    rd 0x8001014 [(0x100000, 8)] .core [(7, 0, .ro, 1), (15, 8, .ro, 0), (23, 16, .ro, 0), (24, 24, .ro, 0), (25, 25, .ro, 0)],
    rd 0x10070014 [(0x100000, 96)] .core [(7, 0, .ro, 1), (15, 8, .ro, 0), (23, 16, .ro, 0), (24, 24, .ro, 0), (25, 25, .ro, 0)],
    rd 0x10070214 [(0x100000, 96), (0x200, 5)] .core [(7, 0, .ro, 1), (15, 8, .ro, 0), (23, 16, .ro, 0), (24, 24, .ro, 0), (25, 25, .ro, 0)],
    rd 0x1020 [(0x4, 8)] .core [(5, 0, .rw, 0), (6, 6, .rw, 0), (14, 8, .rw, 0), (31, 31, .rw, 0)],
    rd 0xe001020 [(0x100000, 2), (0x4, 8)] .core [(5, 0, .rw, 0), (6, 6, .rw, 0), (14, 8, .rw, 0), (31, 31, .rw, 0)],
    rd 0x8001020 [(0x100000, 8), (0x4, 8)] .core [(5, 0, .rw, 0), (6, 6, .rw, 0), (14, 8, .rw, 0), (31, 31, .rw, 0)],
    rd 0x10070020 [(0x100000, 96), (0x4, 8)] .core [(5, 0, .rw, 0), (6, 6, .rw, 0), (14, 8, .rw, 0), (31, 31, .rw, 0)],
    rd 0x1040 [(0x8, 8)] .core [(31, 0, .lh, 0)],
    rd 0x1044 [(0x8, 8)] .core [(31, 0, .hs, 0)],
    rd 0xe001040 [(0x100000, 2), (0x8, 8)] .core [(31, 0, .lh, 0)],
    rd 0xe001044 [(0x100000, 2), (0x8, 8)] .core [(31, 0, .hs, 0)]  ]

/-- Register definitions, part 2. -/
def regTab2 : List RegDesc :=
  [
    rd 0x8001040 [(0x100000, 8), (0x8, 8)] .core [(31, 0, .lh, 0)],
    rd 0x8001044 [(0x100000, 8), (0x8, 8)] .core [(31, 0, .hs, 0)],
    rd 0x10070040 [(0x100000, 96), (0x8, 8)] .core [(31, 0, .lh, 0)],
    rd 0x10070044 [(0x100000, 96), (0x8, 8)] .core [(31, 0, .hs, 0)],
    rd 0x10070080 [(0x100000, 96)] .sys [(2, 0, .siw, 0), (6, 4, .siw, 1), (10, 8, .siw, 2), (14, 12, .siw, 3), (18, 16, .siw, 4), (24, 20, .siw, 0), (28, 28, .siw, 0)],
    rd 0x8001080 [(0x100000, 8)] .core [(3, 0, .rw, 0), (7, 4, .rw, 1), (11, 8, .rw, 2), (15, 12, .rw, 3), (19, 16, .rw, 4), (23, 20, .rw, 5), (27, 24, .rw, 6), (31, 28, .rw, 7)],
    rd 0x8001084 [(0x100000, 8)] .core [(3, 0, .rw, 8), (7, 4, .rw, 9), (11, 8, .rw, 0xa), (15, 12, .rw, 0xb)],
    rd 0x1080 [(0x4, 3)] .sys [(31, 0, .siw, 0xffffffff)],
    rd 0x108c [] .sys [(6, 0, .siw, 0), (14, 8, .siw, 0), (16, 16, .siw, 0)],
    rd 0x50000 [] .sys [(31, 0, .lh, 0)],
    rd 0x50004 [] .sys [(31, 0, .hs, 0)],
    rd 0x50010 [] .sys [(1, 0, .rwg, 0), (7, 4, .rwg, 0), (8, 8, .rwg, 0)],
    rd 0x50014 [] .sys [(0, 0, .ro, 0), (1, 1, .ro, 0), (2, 2, .rc, 0), (3, 3, .rc, 0), (4, 4, .rc, 0), (5, 5, .rc, 0)],
    rd 0x50018 [] .sys [(31, 0, .ro, 0)],
    rd 0x5001c [] .sys [(23, 0, .ro, 0)],
    rd 0x50020 [] .sys [(4, 0, .ro, 0x1f)]  ]

/-- Register definitions, part 3. -/
def regTab3 : List RegDesc :=
  [
    rd 0x50024 [] .sys [(15, 0, .ro, 0)],
    rd 0x50040 [(0x4, 8)] .sys [(11, 0, .rw, 0), (15, 12, .rw, 1), (16, 16, .rw, 0), (17, 17, .rw, 0)],
    rd 0x10000000 [(0x100000, 96)] .core [(0, 0, .ro, 0), (1, 1, .ro, 0), (2, 2, .ro, 0), (3, 3, .ro, 0), (7, 4, .ro, 0)],
    rd 0x10000004 [(0x100000, 96)] .core [(10, 0, .ro, 0)],
    rd 0x10000008 [(0x100000, 96)] .core [(31, 0, .lh, 0)],
    rd 0x1000000c [(0x100000, 96)] .core [(31, 0, .hs, 0)],
    rd 0x10000010 [(0x100000, 96)] .core [(11, 0, .ro, 0), (27, 16, .ro, 0)],
    rd 0x10000014 [(0x100000, 96)] .core [(11, 0, .ro, 0), (23, 12, .ro, 0), (31, 24, .ro, 0)],
    rd 0x10000018 [(0x100000, 96)] .core [(31, 0, .lh, 0)],
    rd 0x1000001c [(0x100000, 96)] .core [(31, 0, .hs, 0)],
    rd 0x10030000 [(0x100000, 96)] .core [(3, 0, .ro, 0), (7, 4, .ro, 0), (15, 8, .ro, 0), (23, 16, .ro, 0)],
    rd 0x10030004 [(0x100000, 96)] .core [(3, 0, .rc, 0), (5, 4, .rc, 0)],
    rd 0x10030008 [(0x100000, 96)] .core [(31, 0, .lh, 0)],
    rd 0x1003000c [(0x100000, 96)] .core [(31, 0, .hs, 0)],
    rd 0x10030010 [(0x100000, 96)] .core [(31, 0, .lh, 0)],
    rd 0x10030014 [(0x100000, 96)] .core [(31, 0, .hs, 0)]  ]

/-- Register definitions, part 4. -/
def regTab4 : List RegDesc :=
  [
    rd 0x10030018 [(0x100000, 96)] .core [(31, 0, .lh, 0)],
    rd 0x1003001c [(0x100000, 96)] .core [(31, 0, .hs, 0)],
    rd 0x10030020 [(0x100000, 96)] .core [(31, 0, .lh, 0)],
    rd 0x10030024 [(0x100000, 96)] .core [(31, 0, .hs, 0)],
    rd 0x10030028 [(0x100000, 96)] .core [(15, 0, .ro, 0), (23, 16, .ro, 0)],
    rd 0x1003002c [(0x100000, 96)] .core [(31, 0, .ro, 0)],
    rd 0x10030040 [(0x100000, 96)] .core [(4, 0, .ro, 0), (8, 8, .ro, 0)],
    rd 0x10030044 [(0x100000, 96)] .core [(31, 0, .rw, 0x7f800000)],
    rd 0x10030048 [(0x100000, 96)] .core [(31, 0, .ro, 0)],
    rd 0x1003004c [(0x100000, 96)] .core [(31, 0, .ro, 0)],
    rd 0x10030050 [(0x100000, 96)] .core [(31, 0, .ro, 0)],
    rd 0x10030054 [(0x100000, 96)] .core [(31, 0, .ro, 0)],
    rd 0x10030058 [(0x100000, 96)] .core [(31, 0, .ro, 0)],
    rd 0x1003005c [(0x100000, 96)] .core [(31, 0, .ro, 0)],
    rd 0x10030060 [(0x100000, 96)] .core [(31, 0, .ro, 0)],
    rd 0x10030064 [(0x100000, 96)] .core [(0, 0, .rc, 0)]  ]

/-- Register definitions, part 5. -/
def regTab5 : List RegDesc :=
  [
    rd 0x10020000 [(0x100000, 96)] .core [(0, 0, .ro, 0), (1, 1, .ro, 0), (2, 2, .ro, 0)],
    rd 0x10020004 [(0x100000, 96)] .core [(3, 0, .rc, 0), (10, 4, .rc, 0)],
    rd 0x10020010 [(0x100000, 96), (0x4, 4)] .core [(31, 0, .ro, 0)],
    rd 0x10020020 [(0x100000, 96), (0x4, 4)] .core [(31, 0, .ro, 0)],
    rd 0x10020030 [(0x100000, 96)] .core [(31, 0, .ro, 0)],
    rd 0x10020100 [(0x100000, 96), (0x4, 32)] .core [(31, 0, .ro, 0)],
    rd 0x10020180 [(0x100000, 96), (0x4, 8)] .core [(31, 0, .ro, 0)],
    rd 0x10060000 [(0x100000, 96)] .core [(31, 0, .lh, 0)],
    rd 0x10060004 [(0x100000, 96)] .core [(31, 0, .hs, 0)],
    rd 0x10060008 [(0x100000, 96)] .core [(31, 0, .lh, 0)],
    rd 0x1006000c [(0x100000, 96)] .core [(31, 0, .hs, 0)],
    rd 0x10060010 [(0x100000, 96)] .core [(31, 0, .lh, 0)],
    rd 0x10060014 [(0x100000, 96)] .core [(31, 0, .hs, 0)],
    rd 0x10060018 [(0x100000, 96)] .core [(31, 0, .lh, 0)],
    rd 0x1006001c [(0x100000, 96)] .core [(31, 0, .hs, 0)],
    rd 0x10060020 [(0x100000, 96)] .core [(31, 0, .lh, 0)]  ]

/-- Register definitions, part 6. -/
def regTab6 : List RegDesc :=
  [
    rd 0x10060024 [(0x100000, 96)] .core [(31, 0, .hs, 0)],
    rd 0x10060028 [(0x100000, 96)] .core [(31, 0, .lh, 0)],
    rd 0x1006002c [(0x100000, 96)] .core [(31, 0, .hs, 0)],
    rd 0x10060030 [(0x100000, 96)] .core [(31, 0, .ro, 0)],
    rd 0x10050000 [(0x100000, 96)] .core [(7, 0, .ro, 0), (15, 8, .ro, 0), (23, 16, .ro, 0), (24, 24, .ro, 0)],
    rd 0x10050004 [(0x100000, 96)] .core [(3, 0, .rc, 0), (6, 4, .rc, 0)],
    rd 0x10050008 [(0x100000, 96)] .core [(31, 0, .ro, 0)],
    rd 0x1005000c [(0x100000, 96)] .core [(31, 0, .ro, 0)],
    rd 0x10050040 [(0x100000, 96), (0x10, 8)] .core [(15, 0, .ro, 0), (16, 16, .ro, 0), (17, 17, .ro, 0)],
    rd 0x10050044 [(0x100000, 96), (0x10, 8)] .core [(31, 0, .ro, 0)],
    rd 0x10050048 [(0x100000, 96), (0x10, 8)] .core [(31, 0, .ro, 0)],
    rd 0x10040000 [(0x100000, 96)] .core [(3, 0, .ro, 0), (6, 4, .ro, 0)],
    rd 0x10040004 [(0x100000, 96)] .core [(3, 0, .rc, 0), (7, 4, .rc, 0)],
    rd 0x10040008 [(0x100000, 96)] .core [(31, 0, .lh, 0)],
    rd 0x1004000c [(0x100000, 96)] .core [(31, 0, .hs, 0)],
    rd 0x10040040 [(0x100000, 96), (0x4, 16)] .core [(0, 0, .ro, 0), (1, 1, .ro, 0), (7, 4, .ro, 0)]  ]

/-- Register definitions, part 7. -/
def regTab7 : List RegDesc :=
  [
    rd 0x10040080 [(0x100000, 96)] .core [(31, 0, .ro, 0)],
    rd 0x10040084 [(0x100000, 96)] .core [(31, 0, .ro, 0)],
    rd 0x10040088 [(0x100000, 96)] .core [(31, 0, .ro, 0)],
    rd 0x10040090 [(0x100000, 96)] .core [(31, 0, .lh, 0)],
    rd 0x10040094 [(0x100000, 96)] .core [(31, 0, .hs, 0)],
    rd 0x10040098 [(0x100000, 96)] .core [(31, 0, .lh, 0)],
    rd 0x1004009c [(0x100000, 96)] .core [(31, 0, .hs, 0)],
    rd 0x100400a0 [(0x100000, 96)] .core [(31, 0, .lh, 0)],
    rd 0x100400a4 [(0x100000, 96)] .core [(31, 0, .hs, 0)],
    rd 0x100400a8 [(0x100000, 96)] .core [(31, 0, .ro, 0)],
    rd 0x400 [(0x8, 64)] .sys [(6, 0, .rw, 0), (10, 8, .rw, 0), (15, 15, .rw, 0), (16, 16, .rw, 0)],
    rd 0xe000400 [(0x100000, 2), (0x8, 64)] .sys [(6, 0, .rw, 0), (10, 8, .rw, 0), (15, 15, .rw, 0)],
    rd 0x404 [(0x8, 64)] .core [(6, 0, .ro, 0), (14, 8, .ro, 0), (31, 16, .ro, 0)],
    rd 0xe000404 [(0x100000, 2), (0x8, 64)] .core [(6, 0, .ro, 0), (14, 8, .ro, 0), (31, 16, .ro, 0)],
    rd 0x600 [(0x4, 64)] .sys [(11, 0, .rw, 0), (15, 12, .rw, 1), (28, 16, .rw, 0)],
    rd 0x700 [(0x4, 64)] .core [(12, 0, .ro, 0), (28, 16, .ro, 0)]  ]

/-- Register definitions, part 8. -/
def regTab8 : List RegDesc :=
  [
    rd 0x10010000 [(0x100000, 96), (0x8, 64)] .core [(31, 0, .lh, 0)],
    rd 0x10010004 [(0x100000, 96), (0x8, 64)] .core [(31, 0, .hs, 0)],
    rd 0x10010200 [(0x100000, 96), (0x4, 64)] .core [(31, 0, .rw, 0)],
    rd 0x10010300 [(0x100000, 96), (0x4, 64)] .core [(15, 0, .rw, 0), (21, 16, .rw, 0)],
    rd 0x10010400 [(0x100000, 96)] .core [(3, 0, .rc, 0), (9, 4, .rc, 0), (10, 10, .rc, 0), (11, 11, .rc, 0)],
    rd 0x10010408 [(0x100000, 96)] .core [(1, 0, .ro, 0), (2, 2, .ro, 0), (3, 3, .ro, 0), (9, 4, .ro, 0)],
    rd 0x10010410 [(0x100000, 96)] .core [(31, 0, .lh, 0)],
    rd 0x10010414 [(0x100000, 96)] .core [(31, 0, .hs, 0)],
    rd 0x10010418 [(0x100000, 96)] .core [(15, 0, .ro, 0)],
    rd 0x10010420 [(0x100000, 96), (0x4, 8)] .core [(1, 0, .ro, 0), (3, 2, .ro, 0), (5, 4, .ro, 0), (7, 6, .ro, 0), (9, 8, .ro, 0), (11, 10, .ro, 0), (13, 12, .ro, 0), (15, 14, .ro, 0), (17, 16, .ro, 0), (19, 18, .ro, 0), (21, 20, .ro, 0), (23, 22, .ro, 0), (25, 24, .ro, 0), (27, 26, .ro, 0), (29, 28, .ro, 0), (31, 30, .ro, 0)],
    rd 0x10000020 [(0x100000, 96)] .core [(3, 0, .rc, 0), (5, 4, .rc, 0), (26, 16, .rc, 0)],
    rd 0x10000028 [(0x100000, 96)] .core [(31, 0, .lh, 0)],
    rd 0x1000002c [(0x100000, 96)] .core [(31, 0, .hs, 0)],
    rd 0x800 [(0x4, 16)] .sys [(6, 0, .rwg, 0), (14, 8, .rwg, 0), (16, 16, .rc, 0), (31, 31, .rwg, 0)],
    rd 0x100000 [(0x10000, 12)] .sys [(0, 0, .ro, 0), (1, 1, .ro, 0), (2, 2, .ro, 0), (3, 3, .ro, 0), (4, 4, .ro, 0), (5, 5, .ro, 0)],
    rd 0x100008 [(0x10000, 12)] .sys [(31, 0, .lh, 0)]  ]

/-- Register definitions, part 9. -/
def regTab9 : List RegDesc :=
  [
    rd 0x10000c [(0x10000, 12)] .sys [(31, 0, .hs, 0)],
    rd 0x100010 [(0x10000, 12)] .sys [(31, 0, .ro, 0)],
    rd 0x100014 [(0x10000, 12)] .sys [(31, 0, .ro, 0)],
    rd 0x100018 [(0x10000, 12)] .sys [(31, 0, .ro, 0)],
    rd 0x10001c [(0x10000, 12)] .sys [(31, 0, .ro, 0)],
    rd 0x100020 [(0x10000, 12)] .sys [(31, 0, .lh, 0)],
    rd 0x100024 [(0x10000, 12)] .sys [(31, 0, .hs, 0)],
    rd 0x100028 [(0x10000, 12)] .sys [(4, 0, .ro, 0), (5, 5, .ro, 0), (11, 6, .ro, 0x3f), (13, 12, .ro, 0), (14, 14, .ro, 0), (15, 15, .ro, 0), (31, 16, .ro, 0)],
    rd 0x100030 [(0x10000, 12)] .sys [(7, 0, .rw, 0x18), (31, 31, .rw, 1)],
    rd 0x100038 [(0x10000, 12)] .sys [(31, 0, .lh, 0)],
    rd 0x10003c [(0x10000, 12)] .sys [(31, 0, .hs, 0)],
    rd 0x100040 [(0x10000, 12)] .sys [(31, 0, .ro, 0)],
    rd 0x100048 [(0x10000, 12)] .sys [(7, 0, .ro, 0), (15, 8, .ro, 0), (16, 16, .ro, 0)],
    rd 0x100050 [(0x10000, 12)] .sys [(1, 0, .rwg, 0), (7, 2, .rwg, 0), (13, 8, .rwg, 0), (14, 14, .rwg, 0), (31, 31, .rwg, 0)],
    rd 0x100058 [(0x10000, 12)] .sys [(31, 0, .lhw, 0)],
    rd 0x10005c [(0x10000, 12)] .sys [(31, 0, .hsw, 0)]  ]

/-- Register definitions, part 10. -/
def regTab10 : List RegDesc :=
  [
    rd 0x101000 [(0x10000, 12)] .sys [(0, 0, .ro, 0), (6, 1, .ro, 0), (23, 8, .ro, 0)],
    rd 0x101004 [(0x10000, 12)] .sys [(3, 0, .rc, 0), (7, 4, .rc, 0), (10, 8, .rc, 0), (17, 11, .rc, 0)],
    rd 0x101010 [(0x10000, 12)] .sys [(31, 0, .lh, 0)],
    rd 0x101014 [(0x10000, 12)] .sys [(31, 0, .hs, 0)],
    rd 0x101018 [(0x10000, 12)] .sys [(31, 0, .lh, 0)],
    rd 0x10101c [(0x10000, 12)] .sys [(31, 0, .hs, 0)],
    rd 0x101020 [(0x10000, 12)] .sys [(31, 0, .ro, 0)],
    rd 0x101024 [(0x10000, 12)] .sys [(31, 0, .ro, 0)],
    rd 0x101028 [(0x10000, 12)] .sys [(31, 0, .ro, 0)],
    rd 0x10102c [(0x10000, 12)] .sys [(31, 0, .ro, 0)],
    rd 0x101030 [(0x10000, 12)] .sys [(31, 0, .ro, 0)],
    rd 0x101034 [(0x10000, 12)] .sys [(31, 0, .ro, 0)],
    rd 0x101038 [(0x10000, 12)] .sys [(31, 0, .ro, 0)],
    rd 0x10103c [(0x10000, 12)] .sys [(31, 0, .ro, 0)],
    rd 0x101040 [(0x10000, 12), (0x8, 8)] .sys [(15, 0, .rwg, 0)],
    rd 0x101044 [(0x10000, 12), (0x8, 8)] .sys [(15, 0, .rwg, 0)]  ]

/-- Register definitions, part 11. -/
def regTab11 : List RegDesc :=
  [
    rd 0x101080 [(0x10000, 12)] .sys [(15, 0, .ro, 0), (31, 16, .ro, 0)],
    rd 0x101100 [(0x10000, 12), (0x4, 16)] .sys [(2, 0, .ro, 0), (5, 3, .ro, 0), (6, 6, .ro, 0), (7, 7, .ro, 0), (9, 8, .ro, 0)],
    rd 0x101140 [(0x10000, 12), (0x4, 16)] .sys [(31, 0, .ro, 0)],
    rd 0x101200 [(0x10000, 12)] .sys [(6, 0, .ro, 0), (7, 7, .st, 0)],
    rd 0x101204 [(0x10000, 12)] .sys [(31, 0, .ro, 0)],
    rd 0x101208 [(0x10000, 12)] .sys [(31, 0, .ro, 0)],
    rd 0x200000 [(0x10000, 12)] .sys [(2, 0, .ro, 0), (3, 3, .ro, 0), (4, 4, .rc, 0), (15, 8, .ro, 0)],
    rd 0x200004 [(0x10000, 12)] .sys [(0, 0, .rwg, 0), (1, 1, .rwg, 0)],
    rd 0x200008 [(0x10000, 12)] .sys [(3, 0, .ro, 0), (31, 16, .ro, 0)],
    rd 0x20000c [(0x10000, 12)] .sys [(11, 0, .ro, 0), (15, 12, .ro, 0), (16, 16, .ro, 0)],
    rd 0x200010 [(0x10000, 12)] .sys [(23, 0, .ro, 0)],
    rd 0x200040 [(0x10000, 12), (0x8, 8)] .sys [(31, 0, .lh, 0)],
    rd 0x200044 [(0x10000, 12), (0x8, 8)] .sys [(31, 0, .hs, 0)],
    rd 0x200080 [(0x10000, 12), (0x4, 8)] .sys [(31, 0, .ro, 0)],
    rd 0x2000a0 [(0x10000, 12)] .sys [(31, 0, .ro, 0)],
    rd 0x2000a4 [(0x10000, 12)] .sys [(31, 0, .ro, 0)]  ]

/-- Register definitions, part 12. -/
def regTab12 : List RegDesc :=
  [
    rd 0x2000a8 [(0x10000, 12)] .sys [(31, 0, .ro, 0)],
    rd 0x2000ac [(0x10000, 12)] .sys [(31, 0, .ro, 0)],
    rd 0x2000b0 [(0x10000, 12)] .sys [(31, 0, .lh, 0)],
    rd 0x2000b4 [(0x10000, 12)] .sys [(31, 0, .hs, 0)],
    rd 0x2000b8 [(0x10000, 12)] .sys [(31, 0, .lh, 0)],
    rd 0x2000bc [(0x10000, 12)] .sys [(31, 0, .hs, 0)],
    rd 0x2c0000 [] .sys [(11, 0, .rwg, 0)],
    rd 0x2c0004 [] .sys [(0, 0, .rc, 0)],
    rd 0x2c0008 [] .sys [(15, 0, .rw, 0x64)],
    rd 0x2c000c [] .sys [(11, 0, .rwg, 0), (31, 31, .rwg, 0)],
    rd 0x2c0010 [] .sys [(11, 0, .rwg, 0), (31, 31, .rwg, 0)],
    rd 0x2c0020 [] .sys [(31, 0, .ro, 0)],
    rd 0x2c0024 [] .sys [(31, 0, .ro, 0)],
    rd 0x2c0028 [] .sys [(31, 0, .ro, 0)],
    rd 0x2c002c [] .sys [(31, 0, .ro, 0)],
    rd 0x2c0030 [] .sys [(31, 0, .ro, 0)]  ]

/-- Register definitions, part 13. -/
def regTab13 : List RegDesc :=
  [
    rd 0x2c0100 [(0x4, 8)] .sys [(11, 0, .rw, 0), (16, 16, .rw, 0)],
    rd 0x2c0120 [(0x4, 8)] .sys [(7, 0, .rw, 0), (20, 8, .rw, 1), (21, 21, .rw, 0)],
    rd 0x2c0140 [(0x4, 8)] .sys [(3, 0, .rc, 0), (10, 4, .rc, 0), (23, 12, .rc, 0), (27, 24, .rc, 0)],
    rd 0x2c0400 [(0x4, 256)] .sys [(11, 0, .rw, 0), (12, 12, .rw, 0)],
    rd 0x2c0800 [(0x4, 512)] .sys [(3, 0, .rw, 0xf), (7, 4, .rw, 0xf), (11, 8, .rw, 0xf), (15, 12, .rw, 0xf), (19, 16, .rw, 0xf), (23, 20, .rw, 0xf), (27, 24, .rw, 0xf), (31, 28, .rw, 0xf)],
    rd 0x2c1000 [(0x40, 12), (0x4, 16)] .sys [(0, 0, .rw, 0), (15, 4, .rw, 0), (18, 16, .rw, 0), (23, 20, .rw, 0)],
    rd 0x60000 [(0x100, 8)] .sys [(7, 0, .rwg, 0), (8, 8, .rwg, 0), (9, 9, .rwg, 0), (14, 10, .rwg, 0)],
    rd 0x60004 [(0x100, 8)] .sys [(7, 0, .ro, 0), (8, 8, .ro, 0), (9, 9, .rc, 0), (10, 10, .ro, 0), (11, 11, .ro, 0), (12, 12, .ro, 0), (13, 13, .ro, 0), (14, 14, .ro, 0)],
    rd 0x60008 [(0x100, 8)] .sys [(0, 0, .rwg, 0), (1, 1, .rw, 0)],
    rd 0x6000c [(0x100, 8)] .sys [(15, 0, .rw, 0x3e8)],
    rd 0x60010 [(0x100, 8)] .sys [(31, 0, .lhw, 0)],
    rd 0x60014 [(0x100, 8)] .sys [(31, 0, .hsw, 0)],
    rd 0x60018 [(0x100, 8)] .sys [(31, 0, .lhw, 0)],
    rd 0x6001c [(0x100, 8)] .sys [(31, 0, .hsw, 0)],
    rd 0x60020 [(0x100, 8)] .sys [(31, 0, .lhw, 0)],
    rd 0x60024 [(0x100, 8)] .sys [(31, 0, .hsw, 0)]  ]

/-- Register definitions, part 14. -/
def regTab14 : List RegDesc :=
  [
    rd 0x60028 [(0x100, 8)] .sys [(3, 0, .rc, 0), (5, 4, .rc, 0)],
    rd 0x60040 [(0x100, 8), (0x20, 4)] .sys [(31, 0, .lhw, 0)],
    rd 0x60044 [(0x100, 8), (0x20, 4)] .sys [(31, 0, .hsw, 0)],
    rd 0x60048 [(0x100, 8), (0x20, 4)] .sys [(31, 0, .lhw, 0)],
    rd 0x6004c [(0x100, 8), (0x20, 4)] .sys [(31, 0, .hsw, 0)],
    rd 0x60050 [(0x100, 8), (0x20, 4)] .sys [(31, 0, .lhw, 0)],
    rd 0x60054 [(0x100, 8), (0x20, 4)] .sys [(31, 0, .hsw, 0)],
    rd 0x60058 [(0x100, 8), (0x20, 4)] .sys [(3, 0, .rw, 1), (31, 31, .rw, 0)],
    rd 0x6005c [(0x100, 8), (0x20, 4)] .sys [(3, 0, .rc, 0), (28, 16, .ro, 0)],
    rd 0x300000 [] .sys [(3, 0, .ro, 0), (7, 4, .ro, 0), (8, 8, .ro, 0), (9, 9, .ro, 0), (10, 10, .ro, 0), (11, 11, .ro, 0)],
    rd 0x300008 [] .sys [(31, 0, .lh, 0)],
    rd 0x30000c [] .sys [(31, 0, .hs, 0)],
    rd 0x300010 [] .sys [(31, 0, .ro, 0)],
    rd 0x300014 [] .sys [(31, 0, .ro, 0)],
    rd 0x20000 [] .sys [(0, 0, .ro, 0), (1, 1, .ro, 0), (2, 2, .ro, 0), (3, 3, .ro, 0), (4, 4, .ro, 0), (5, 5, .ro, 0), (6, 6, .ro, 0)],
    rd 0x20004 [] .sys [(15, 0, .siw, 0x898), (31, 16, .siw, 0xaf0)]  ]

/-- Register definitions, part 15. -/
def regTab15 : List RegDesc :=
  [
    rd 0x20008 [] .sys [(15, 0, .ro, 0x898), (31, 16, .ro, 0xaf0)],
    rd 0x2000c [] .sys [(15, 0, .ro, 0), (31, 16, .siw, 0x14)],
    rd 0x20010 [] .sys [(15, 0, .ro, 0), (31, 16, .ro, 0)],
    rd 0x20014 [] .sys [(15, 0, .ro, 0), (31, 16, .ro, 0)],
    rd 0x20018 [] .sys [(11, 0, .ro, 0), (14, 12, .ro, 0), (27, 16, .ro, 0), (31, 28, .ro, 0)],
    rd 0x20020 [] .sys [(31, 0, .lh, 0)],
    rd 0x20024 [] .sys [(31, 0, .hs, 0)],
    rd 0x20028 [] .sys [(31, 0, .ro, 0)],
    rd 0x2002c [] .por [(31, 0, .ro, 0)],
    rd 0x20030 [] .sys [(15, 0, .ro, 0)],
    rd 0x20040 [] .sys [(31, 0, .rw, 0)],
    rd 0x20044 [] .sys [(3, 0, .rwg, 0), (23, 16, .rwg, 0)],
    rd 0x20048 [] .sys [(0, 0, .ro, 0), (7, 4, .ro, 0), (15, 8, .ro, 0)],
    rd 0x30000 [] .sys [(0, 0, .rc, 0), (1, 1, .rc, 0), (2, 2, .st, 0), (3, 3, .st, 0), (13, 8, .ro, 0)],
    rd 0x30004 [] .sys [(0, 0, .rw, 0), (1, 1, .rw, 1), (12, 8, .rw, 8)],
    rd 0x30008 [] .sys [(31, 0, .lhw, 0)]  ]

/-- Register definitions, part 16. -/
def regTab16 : List RegDesc :=
  [
    rd 0x3000c [] .sys [(31, 0, .hsw, 0)],
    rd 0x30010 [] .sys [(31, 0, .ro, 0)],
    rd 0x30014 [] .sys [(31, 0, .rw, 0)],
    rd 0x30018 [] .por [(31, 0, .ro, 0)],
    rd 0x3001c [] .sys [(31, 0, .ro, 0)],
    rd 0x30020 [] .sys [(31, 0, .ro, 0)],
    rd 0x30024 [] .sys [(31, 0, .ro, 0)],
    rd 0x30044 [(0x4, 16)] .sys [(31, 0, .ro, 0)],
    rd 0x30100 [] .sys [(15, 0, .rw, 0)],
    rd 0x30104 [] .sys [(31, 0, .ro, 0)],
    rd 0x30110 [] .sys [(6, 0, .rwg, 0), (9, 7, .rwg, 0), (31, 31, .rwg, 0)],
    rd 0x30200 [(0x4, 128)] .sys [(31, 0, .ro, 0)],
    rd 0x40000 [] .sys [(1, 0, .ro, 0), (2, 2, .ro, 0), (3, 3, .ro, 0), (4, 4, .ro, 0), (5, 5, .ro, 0), (6, 6, .ro, 0), (7, 7, .rc, 0)],
    rd 0x40004 [] .sys [(7, 0, .ro, 0), (15, 8, .ro, 0), (23, 16, .ro, 0)],
    rd 0x40008 [] .sys [(31, 0, .ro, 0)],
    rd 0x4000c [] .sys [(31, 0, .ro, 0)]  ]

/-- Register definitions, part 17. -/
def regTab17 : List RegDesc :=
  [
    rd 0x40040 [(0x4, 8)] .sys [(0, 0, .siw, 0), (1, 1, .siw, 0), (2, 2, .siw, 0), (6, 4, .siw, 0)],
    rd 0x40100 [(0x20, 8), (0x8, 4)] .sys [(31, 0, .lhs, 0)],
    rd 0x40104 [(0x20, 8), (0x8, 4)] .sys [(15, 0, .hss, 0), (31, 16, .hss, 0)],
    rd 0x40300 [] .sys [(31, 0, .lhw, 0)],
    rd 0x40304 [] .sys [(31, 0, .hsw, 0)],
    rd 0x40308 [] .sys [(19, 0, .rwg, 0), (31, 31, .rwg, 0)],
    rd 0x4030c [] .sys [(0, 0, .ro, 0), (1, 1, .rc, 0), (2, 2, .rc, 0)],
    rd 0x10000 [] .por [(0, 0, .st, 1), (1, 1, .st, 0), (2, 2, .st, 0), (3, 3, .st, 0), (4, 4, .st, 0), (5, 5, .st, 0), (6, 6, .st, 0), (7, 7, .st, 0), (8, 8, .st, 0), (9, 9, .st, 0), (23, 16, .st, 0)],
    rd 0x10004 [] .sys [(0, 0, .rwg, 0), (1, 1, .rwg, 0)],
    rd 0x10008 [] .sys [(1, 0, .ro, 0), (2, 2, .ro, 0), (3, 3, .rc, 0), (5, 4, .ro, 0), (7, 6, .ro, 0), (8, 8, .rc, 0)],
    rd 0x1000c [] .sys [(1, 0, .rwg, 0), (31, 31, .rwg, 0)],
    rd 0x70000 [] .sys [(0, 0, .ro, 0), (1, 1, .ro, 0), (15, 8, .ro, 0), (23, 16, .ro, 0xff)],
    rd 0x70004 [] .por [(1, 0, .ro, 0), (31, 16, .ro, 0)],
    rd 0x70040 [(0x4, 16)] .sys [(31, 0, .ro, 0)],
    rd 0x10060038 [(0x100000, 96)] .core [(31, 0, .ro, 0)],
    rd 0x10060040 [(0x100000, 96)] .core [(31, 0, .lh, 0)]  ]

/-- Register definitions, part 18. -/
def regTab18 : List RegDesc :=
  [
    rd 0x10060044 [(0x100000, 96)] .core [(31, 0, .hs, 0)],
    rd 0x10060048 [(0x100000, 96)] .core [(31, 0, .lh, 0)],
    rd 0x1006004c [(0x100000, 96)] .core [(31, 0, .hs, 0)],
    rd 0x600c0 [(0x100, 8)] .sys [(0, 0, .rw, 0), (1, 1, .rw, 0), (2, 2, .rw, 0), (7, 4, .rw, 4), (23, 8, .rw, 0x40)],
    rd 0x600c4 [(0x100, 8)] .sys [(31, 0, .rw, 0x41800000)],
    rd 0x600c8 [(0x100, 8)] .sys [(31, 0, .lhw, 0)],
    rd 0x600cc [(0x100, 8)] .sys [(31, 0, .hsw, 0)],
    rd 0x600d8 [(0x100, 8)] .sys [(31, 0, .lh, 0)],
    rd 0x600dc [(0x100, 8)] .sys [(31, 0, .hs, 0)],
    rd 0x600e0 [(0x100, 8)] .sys [(31, 0, .lh, 0)],
    rd 0x600e4 [(0x100, 8)] .sys [(31, 0, .hs, 0)],
    rd 0x600d0 [(0x100, 8)] .sys [(31, 0, .rw, 0)],
    rd 0x600d4 [(0x100, 8)] .sys [(31, 0, .rw, 0)],
    rd 0x600e8 [(0x100, 8)] .sys [(31, 0, .ro, 0)],
    rd 0x600ec [(0x100, 8)] .sys [(31, 0, .ro, 0)],
    rd 0x600f0 [(0x100, 8)] .sys [(31, 0, .ro, 0)]  ]

/-- Register definitions, part 19. -/
def regTab19 : List RegDesc :=
  [
    rd 0x600f4 [(0x100, 8)] .sys [(0, 0, .rc, 0), (1, 1, .rc, 0), (2, 2, .rc, 0), (3, 3, .rc, 0), (4, 4, .rc, 0), (31, 16, .ro, 0)],
    rd 0x0 [] .por [(15, 0, .ro, 0x9640), (19, 16, .ro, 2)],
    rd 0x4 [] .por [(7, 0, .ro, 0), (15, 8, .ro, 0)],
    rd 0x10 [] .sys [(0, 0, .rc, 0), (1, 1, .rc, 0), (2, 2, .ro, 0), (14, 4, .rc, 0), (31, 16, .rc, 0)],
    rd 0x14 [] .sys [(9, 0, .ro, 0)],
    rd 0x400000 [] .por [(1, 0, .ro, 0), (2, 2, .ro, 0), (3, 3, .ro, 0), (10, 4, .ro, 0)],
    rd 0x400010 [(0x4, 3)] .por [(31, 0, .rwg, 0)],
    rd 0x400020 [] .por [(11, 0, .ro, 0), (12, 12, .ro, 0)]  ]

/-- Every register definition. -/
def regTab : List RegDesc :=
  regTab0 ++ regTab1 ++ regTab2 ++ regTab3 ++ regTab4 ++ regTab5 ++ regTab6 ++ regTab7 ++ regTab8 ++ regTab9 ++ regTab10 ++ regTab11 ++ regTab12 ++ regTab13 ++ regTab14 ++ regTab15 ++ regTab16 ++ regTab17 ++ regTab18 ++ regTab19

/-- Whether byte distance `rem` from the first instance is an instance, under dimensions `dims`. -/
def dimsHit : List (Nat × Nat) → Nat → Bool
  | [], rem => rem == 0
  | (s, n) :: r, rem => decide (rem / s < n) && dimsHit r (rem % s)

/-- Whether `off` is an instance of the definition. -/
def RegDesc.hit (d : RegDesc) (off : Nat) : Bool := decide (d.base ≤ off) && dimsHit d.dims (off - d.base)

/-- The definition a register-space offset belongs to; none for a reserved offset (R385). -/
def regAt (off : Nat) : Option RegDesc := regTab.find? (fun d => d.hit off)

/-- The value of a register right after its reset: its fields' reset values. TIME.DOMn.DOMAIN_ID resets to n. -/
def RegDesc.rst (d : RegDesc) (off : Nat) : Word32 :=
  BitVec.ofNat 32 (d.fields.foldl (fun a f => a + f.rst * 2 ^ f.lo) 0
    + (if d.base = rTIME_DOM 0 then (off - d.base) / 4 else 0))

/-- The reset value of the register at `off`; 0 for a reserved offset. -/
def regReset (off : Nat) : Word32 := match regAt off with
  | some d => d.rst off
  | none => 0

end Sys2Proof.Machine
end

