-- ==== Sys2Proof/Syntax.lean ====
section
/-!
DEFINITION. The commands of the block: one constructor of `Instr` per row of spec/opcode_table.json, with the row's operands.
An instruction of the Lysmas set is the command by which a core's sequencer issues it (log entry 1).
-/
namespace Sys2Proof

/-- Where and when a sequencer issues an instruction: the core (the leader of its gang), the cycle of the present frame in
which the bundle issues, and whether the instruction is the last of its bundle in slot order (R200, R202). -/
structure Issue where
  core : Fin 96
  cy : Nat
  last : Bool
deriving DecidableEq, Repr

/-- The fields of an instruction word below its opcode (R203): destination, three sources, format code or COND, and bits
[31:0], the modifiers or the immediate. -/
structure Fields where
  dst : BitVec 5
  a : BitVec 5
  b : BitVec 5
  c : BitVec 5
  fmt : BitVec 4
  mods : BitVec 32
deriving DecidableEq, Repr


/-- A hardware upset found by a checked drain (R93, R94): the logical array whose check fails and the maps of failing rows and
columns. -/
structure Upset where
  array : Fin 4
  rows : BitVec 16
  cols : BitVec 16
deriving DecidableEq, Repr

/-- How alignment fails (CH.TRAIN.CAUSE 2, 3, 5); training and alignment alike fail where the signal is lost (CAUSE 1). -/
inductive AlignFail where
  | laneOrder | skew | lock | signal
deriving DecidableEq, Repr

/-- What the read of a protected 64-bit word finds (R162, R330): the bit corrected, or an error that is not correctable. -/
inductive Found where
  | clean
  | corrected (bit : Fin 72)
  | uncorrectable
deriving DecidableEq, Repr

/-- Symbols of an HBM sector that fall into error (R229, R230): codeword, symbol, and the bits that are inverted. -/
structure Symbols where
  errs : List (Fin 2 × Fin 36 × Fin 16)
deriving DecidableEq, Repr

/-- How the classing of a row or line ends (R233, R234): repaired, no spare row left, or a line fault of a line. -/
inductive RowEnd where
  | repaired | exhausted
  | lineFault (line : Fin 36)
deriving DecidableEq, Repr

/-- The buffers of a Chain port (R268, R269, R276): messages queued for it, messages received on it, the message of a channel received in
part, and sent flits kept for a replay. -/
inductive PortBuf where
  | out | received | part | replay
deriving DecidableEq, Repr

/-- A hardware fault that a detector of Table 16-1 reports and that no other command brings about: SECDED of a core's or array's
state (structure of Table 16-6, its index, the word), local memory at an offset, a held contribution of a Bushel, a message queued in
a Chain port's buffer (a data sector, or none for its header), a command processor's state, symbols of an HBM sector that fall into error,
a line of a pseudo-channel stuck at 0 or 1 (both found by later reads), a CXL link error, a transfer of the die network, the die
bridge (none) or the control link of a die that was retried or failed for good, and a copy of the history or of an option word whose
CRC fails. -/
inductive HwFault where
  | core (c : Fin 96) (array : Option (Fin 5)) (struct : Fin 11) (index word : BitVec 8) (fixed : Bool)
  | localMem (c : Fin 96) (off : BitVec 24) (found : Found)
  | staging (n : Fin 12) (off : BitVec 22) (job : Fin 16) (block held : Nat) (found : Found)
  | portBuffer (p : Fin 12) (buf : PortBuf) (k : Nat) (sector : Option (Fin 8)) (found : Found)
  | commandProc (p : Fin 8) (fixed : Bool)
  | hbm (n : Fin 12) (off : BitVec 37) (x : Symbols)
  | hbmLine (n : Fin 12) (pc : Fin 32) (line : Fin 36) (one : Bool)
  | cxl
  | network (die : Option (Fin 2)) (control fixed : Bool)
  | history (copy : Fin 2)
  | option (word : Fin 16) (copy : Fin 2)
deriving DecidableEq, Repr

/-- What a PLDM firmware update brings (R348, R356): an image for a slot, SFW or CPFW, the revocation of a key set, or an option word
(R371). -/
inductive FwUpdate where
  | image (slot : Fin 2) (cpfw : Bool) (bytes : List Byte)
  | revoke (set : Fin 4)
  | option (word : Fin 16) (v : Word32)
deriving DecidableEq, Repr

/-- The capabilities of Table 14-2: MSI-X, the DVSECs of IDs 0, 2, 7 and 8, and the extended ones. -/
inductive CfgCap where
  | msix | dvsecDevice | dvsecMap | dvsecFlexBus | dvsecLocator | extended
deriving DecidableEq, Repr

/-- A configuration request (R298): a read or a write of a function's configuration space (0 the PF, v + 1 VF v), the number of VFs
enabled through the SR-IOV capability, a function-level reset, what a capability tells, a structure of the CDAT mailbox, or an access of `len`
bytes of a function's BAR0 (R299). -/
inductive ConfigReq where
  | read (fn : Fin 9) (off : BitVec 12)
  | write (fn : Fin 9) (off : BitVec 12) (v : Word32)
  | vfs (n : Fin 9)
  | flr (fn : Fin 9)
  | cap (fn : Fin 9) (c : CfgCap)
  | cdat (n : Nat)
  | barRead (fn : Fin 9) (off : BitVec 26) (len : Nat)
  | barWrite (fn : Fin 9) (off : BitVec 26) (len v : Nat)
deriving DecidableEq, Repr


/-- The commands, in the table's order. Those of the Lysmas set take the issue and the fields of the instruction word. -/
inductive Instr where
  /-- NOP (R201): A slot holding opcode 0x00 issues and changes nothing -/
  | nop (i : Issue) (f : Fields)
  /-- ADD (R209): Writes the 64-bit sum of two scalar registers -/
  | add (i : Issue) (f : Fields)
  /-- SUB (R209): Writes the 64-bit difference of two scalar registers -/
  | sub (i : Issue) (f : Fields)
  /-- MUL (R209): Writes the low 64 bits of a scalar product -/
  | mul (i : Issue) (f : Fields)
  /-- MULH (R209): Writes the high 64 bits of the signed product -/
  | mulh (i : Issue) (f : Fields)
  /-- MULHU (R209): Writes the high 64 bits of the unsigned product -/
  | mulhu (i : Issue) (f : Fields)
  /-- DIV (R209): Writes the signed quotient, with fixed results for division by zero and overflow -/
  | div (i : Issue) (f : Fields)
  /-- DIVU (R209): Writes the unsigned quotient -/
  | divu (i : Issue) (f : Fields)
  /-- REM (R209): Writes the signed remainder -/
  | rem (i : Issue) (f : Fields)
  /-- REMU (R209): Writes the unsigned remainder -/
  | remu (i : Issue) (f : Fields)
  /-- AND (R209): Writes the bitwise AND -/
  | and (i : Issue) (f : Fields)
  /-- OR (R209): Writes the bitwise OR -/
  | or (i : Issue) (f : Fields)
  /-- XOR (R209): Writes the bitwise XOR -/
  | xor (i : Issue) (f : Fields)
  /-- SHL (R209): Writes a logical left shift -/
  | shl (i : Issue) (f : Fields)
  /-- SHR (R209): Writes a logical right shift -/
  | shr (i : Issue) (f : Fields)
  /-- SRA (R209): Writes an arithmetic right shift -/
  | sra (i : Issue) (f : Fields)
  /-- SLT (R209): Writes 1 if a < b signed, else 0 -/
  | slt (i : Issue) (f : Fields)
  /-- SLTU (R209): Writes 1 if a < b unsigned, else 0 -/
  | sltu (i : Issue) (f : Fields)
  /-- SEQ (R209): Writes 1 if a = b, else 0 -/
  | seq (i : Issue) (f : Fields)
  /-- MIN (R209): Writes the signed minimum -/
  | min (i : Issue) (f : Fields)
  /-- MAX (R209): Writes the signed maximum -/
  | max (i : Issue) (f : Fields)
  /-- ADDI (R209): ADD with a sign-extended immediate -/
  | addi (i : Issue) (f : Fields)
  /-- SUBI (R209): SUB with an immediate -/
  | subi (i : Issue) (f : Fields)
  /-- MULI (R209): MUL with an immediate -/
  | muli (i : Issue) (f : Fields)
  /-- MULHI (R209): MULH with an immediate -/
  | mulhi (i : Issue) (f : Fields)
  /-- MULHUI (R209): MULHU with an immediate -/
  | mulhui (i : Issue) (f : Fields)
  /-- DIVI (R209): DIV with an immediate -/
  | divi (i : Issue) (f : Fields)
  /-- DIVUI (R209): DIVU with an immediate -/
  | divui (i : Issue) (f : Fields)
  /-- REMI (R209): REM with an immediate -/
  | remi (i : Issue) (f : Fields)
  /-- REMUI (R209): REMU with an immediate -/
  | remui (i : Issue) (f : Fields)
  /-- ANDI (R209): AND with an immediate -/
  | andi (i : Issue) (f : Fields)
  /-- ORI (R209): OR with an immediate -/
  | ori (i : Issue) (f : Fields)
  /-- XORI (R209): XOR with an immediate -/
  | xori (i : Issue) (f : Fields)
  /-- SHLI (R209): SHL with an immediate -/
  | shli (i : Issue) (f : Fields)
  /-- SHRI (R209): SHR with an immediate -/
  | shri (i : Issue) (f : Fields)
  /-- SRAI (R209): SRA with an immediate -/
  | srai (i : Issue) (f : Fields)
  /-- SLTI (R209): SLT with an immediate -/
  | slti (i : Issue) (f : Fields)
  /-- SLTUI (R209): SLTU with an immediate -/
  | sltui (i : Issue) (f : Fields)
  /-- SEQI (R209): SEQ with an immediate -/
  | seqi (i : Issue) (f : Fields)
  /-- MINI (R209): MIN with an immediate -/
  | mini (i : Issue) (f : Fields)
  /-- MAXI (R209): MAX with an immediate -/
  | maxi (i : Issue) (f : Fields)
  /-- SEL (R209): Writes source 1 if source 3 is non-zero, else source 2 -/
  | sel (i : Issue) (f : Fields)
  /-- LI (R209): Writes a sign-extended immediate -/
  | li (i : Issue) (f : Fields)
  /-- LIH (R209): Replaces the upper 32 bits of a register with the immediate -/
  | lih (i : Issue) (f : Fields)
  /-- FADD (R210): Scalar floating-point addition, RNE -/
  | fadd (i : Issue) (f : Fields)
  /-- FSUB (R210): Scalar floating-point subtraction -/
  | fsub (i : Issue) (f : Fields)
  /-- FMUL (R210): Scalar floating-point multiplication -/
  | fmul (i : Issue) (f : Fields)
  /-- FFMA (R210): Scalar fused multiply-add, rounded once -/
  | ffma (i : Issue) (f : Fields)
  /-- FMIN (R210): Scalar floating-point minimum under R69 -/
  | fmin (i : Issue) (f : Fields)
  /-- FMAX (R210): Scalar floating-point maximum under R69 -/
  | fmax (i : Issue) (f : Fields)
  /-- FCMP (R210): Writes 1 or 0 for a floating-point comparison condition -/
  | fcmp (i : Issue) (f : Fields)
  /-- FCVT (R210): Converts a scalar between floating-point and integer formats -/
  | fcvt (i : Issue) (f : Fields)
  /-- SCNTRD (R184): Reads a signal counter's value captured at the last tick window -/
  | scntrd (i : Issue) (f : Fields)
  /-- BR (R211): Conditional branch to a buffer index, decided on the leader's registers -/
  | br (i : Issue) (f : Fields)
  /-- JAL (R211): Branches always and writes the return index -/
  | jal (i : Issue) (f : Fields)
  /-- JR (R211): Branches to a register value, faulting at 2,048 or more -/
  | jr (i : Issue) (f : Fields)
  /-- FRAME (R213): Ends the frame block and sets its wait condition -/
  | frame (i : Issue) (f : Fields)
  /-- EXIT (R214): Ends the launch on the core or gang after ending the block -/
  | exit (i : Issue) (f : Fields)
  /-- SRD (R208): Reads a special register -/
  | srd (i : Issue) (f : Fields)
  /-- SWR (R208): Writes a special register such as SRSTEP -/
  | swr (i : Issue) (f : Fields)
  /-- ILLEGAL_ENCODING (R205): A bundle next to issue with an illegal slot stops the partition without issuing -/
  | illegalEncoding (c : Fin 96) (cy : Nat) (w0 w1 w2 w3 : Word64)
  /-- WLOAD (R81): Queues a copy of weight-panel steps into a weight-buffer half -/
  | wload (i : Issue) (f : Fields)
  /-- MMA (R83): Queues a run of matrix steps into an accumulator bank -/
  | mma (i : Issue) (f : Fields)
  /-- MDRAIN (R87): Queues a drain of a bank to a tile, local memory, Bushel or Chain -/
  | mdrain (i : Issue) (f : Fields)
  /-- WLOAD_EXECUTE (R81): A queued WLOAD reaches its array, loads its steps and marks them valid as they arrive -/
  | wloadExecute (c : Fin 96) (a : Fin 4)
  /-- MMA_EXECUTE (R77): A queued MMA reaches the head of its queue and accumulates its steps, or faults -/
  | mmaExecute (c : Fin 96) (a : Fin 4)
  /-- MDRAIN_EXECUTE (R89): A drain acts on its bank once its last step has reached the accumulator, converts and delivers -/
  | mdrainExecute (c : Fin 96) (a : Fin 4) (ups : List Upset)
  /-- CSUM_REPLAY (R94): A mismatched run is recomputed from the held operands and checked again, committing or stopping the partition -/
  | csumReplay (c : Fin 96) (a : Fin 4) (fails : List Upset)
  /-- VADD (R121): Element-wise floating-point addition -/
  | vadd (i : Issue) (f : Fields)
  /-- VSUB (R121): Element-wise floating-point subtraction -/
  | vsub (i : Issue) (f : Fields)
  /-- VMUL (R121): Element-wise floating-point multiplication -/
  | vmul (i : Issue) (f : Fields)
  /-- VFMA (R121): Element-wise fused multiply-add -/
  | vfma (i : Issue) (f : Fields)
  /-- VFMS (R121): Element-wise fused c − a·b -/
  | vfms (i : Issue) (f : Fields)
  /-- VMAX (R121): Element-wise maximum -/
  | vmax (i : Issue) (f : Fields)
  /-- VMIN (R121): Element-wise minimum -/
  | vmin (i : Issue) (f : Fields)
  /-- VABS (R121): Element-wise absolute value -/
  | vabs (i : Issue) (f : Fields)
  /-- VNEG (R121): Element-wise negation -/
  | vneg (i : Issue) (f : Fields)
  /-- VCPSGN (R121): Element-wise copy of sign -/
  | vcpsgn (i : Issue) (f : Fields)
  /-- VMOV (R121): Copies a tile's elements bit for bit -/
  | vmov (i : Issue) (f : Fields)
  /-- VCMP (R122): Writes a predicate from a floating-point comparison -/
  | vcmp (i : Issue) (f : Fields)
  /-- VSEL (R122): Selects elements of two tiles by predicate -/
  | vsel (i : Issue) (f : Fields)
  /-- VIADD (R123): Element-wise integer addition -/
  | viadd (i : Issue) (f : Fields)
  /-- VISUB (R123): Element-wise integer subtraction -/
  | visub (i : Issue) (f : Fields)
  /-- VIMUL (R123): Element-wise integer multiplication, low bits -/
  | vimul (i : Issue) (f : Fields)
  /-- VIMAX (R123): Element-wise integer maximum -/
  | vimax (i : Issue) (f : Fields)
  /-- VIMIN (R123): Element-wise integer minimum -/
  | vimin (i : Issue) (f : Fields)
  /-- VAND (R123): Element-wise AND -/
  | vand (i : Issue) (f : Fields)
  /-- VOR (R123): Element-wise OR -/
  | vor (i : Issue) (f : Fields)
  /-- VXOR (R123): Element-wise XOR -/
  | vxor (i : Issue) (f : Fields)
  /-- VANDN (R123): Element-wise AND NOT -/
  | vandn (i : Issue) (f : Fields)
  /-- VNOT (R123): Element-wise NOT -/
  | vnot (i : Issue) (f : Fields)
  /-- VSHL (R123): Element-wise left shift -/
  | vshl (i : Issue) (f : Fields)
  /-- VSHR (R123): Element-wise right shift -/
  | vshr (i : Issue) (f : Fields)
  /-- VICMP (R123): Writes a predicate from an integer comparison -/
  | vicmp (i : Issue) (f : Fields)
  /-- VIOTA (R123): Fills a tile with a linear index sequence -/
  | viota (i : Issue) (f : Fields)
  /-- PAND (R124): Bitwise AND of two predicates -/
  | pand (i : Issue) (f : Fields)
  /-- POR (R124): Bitwise OR of two predicates -/
  | por (i : Issue) (f : Fields)
  /-- PXOR (R124): Bitwise XOR of two predicates -/
  | pxor (i : Issue) (f : Fields)
  /-- PANDN (R124): Bitwise AND NOT of two predicates -/
  | pandn (i : Issue) (f : Fields)
  /-- PNOT (R124): Inverts a predicate -/
  | pnot (i : Issue) (f : Fields)
  /-- PANY (R124): Writes to a scalar whether any predicate bit is set, consuming poison -/
  | pany (i : Issue) (f : Fields)
  /-- PCOUNT (R124): Writes to a scalar the number of predicate bits set, consuming poison -/
  | pcount (i : Issue) (f : Fields)
  /-- VCVT (R125): Converts a tile between formats, with optional block scaling and SR -/
  | vcvt (i : Issue) (f : Fields)
  /-- VRSUM (R127): Sum reduction by the pairwise tree -/
  | vrsum (i : Issue) (f : Fields)
  /-- VRSSQ (R127): Sum-of-squares reduction -/
  | vrssq (i : Issue) (f : Fields)
  /-- VRMAX (R127): Maximum reduction -/
  | vrmax (i : Issue) (f : Fields)
  /-- VRMIN (R127): Minimum reduction -/
  | vrmin (i : Issue) (f : Fields)
  /-- VRARGMAX (R128): Index of the first maximum or NaN -/
  | vrargmax (i : Issue) (f : Fields)
  /-- VBCAST (R130): Broadcasts one column or row across a tile -/
  | vbcast (i : Issue) (f : Fields)
  /-- VBCASTS (R130): Broadcasts a scalar to every element -/
  | vbcasts (i : Issue) (f : Fields)
  /-- VSHIFT (R130): Shifts rows or columns, filling with zero bits -/
  | vshift (i : Issue) (f : Fields)
  /-- VROT (R130): Rotates rows or columns -/
  | vrot (i : Issue) (f : Fields)
  /-- VGATHER (R131): Gathers elements by an index tile -/
  | vgather (i : Issue) (f : Fields)
  /-- VMOVS (R131): Moves one tile element to a scalar register, consuming poison -/
  | vmovs (i : Issue) (f : Fields)
  /-- VSCAN (R132): Sum scan along rows or columns with carry slots -/
  | vscan (i : Issue) (f : Fields)
  /-- VMSCAN (R132): Maximum scan -/
  | vmscan (i : Issue) (f : Fields)
  /-- VASCAN (R132): Affine scan h := fma(a, h, b) -/
  | vascan (i : Issue) (f : Fields)
  /-- VCPUT (R134): Copies a tile row into a carry slot and sets it valid -/
  | vcput (i : Issue) (f : Fields)
  /-- VCGET (R134): Copies a carry slot into a tile row -/
  | vcget (i : Issue) (f : Fields)
  /-- PACK24 (R103): Packs dense rows into 2:4 values and metadata -/
  | pack24 (i : Issue) (f : Fields)
  /-- VEXP2 (R141): Evaluates 2^a by table -/
  | vexp2 (i : Issue) (f : Fields)
  /-- VEXP (R141): Evaluates e^a by table -/
  | vexp (i : Issue) (f : Fields)
  /-- VLOG2 (R141): Evaluates log2 a by table -/
  | vlog2 (i : Issue) (f : Fields)
  /-- VLOG (R141): Evaluates ln a by table -/
  | vlog (i : Issue) (f : Fields)
  /-- VRCP (R141): Evaluates 1/a by table -/
  | vrcp (i : Issue) (f : Fields)
  /-- VRSQRT (R141): Evaluates 1/√a by table -/
  | vrsqrt (i : Issue) (f : Fields)
  /-- VSQRT (R141): Evaluates √a by table -/
  | vsqrt (i : Issue) (f : Fields)
  /-- VSIN (R141): Evaluates sin a by table -/
  | vsin (i : Issue) (f : Fields)
  /-- VCOS (R141): Evaluates cos a by table -/
  | vcos (i : Issue) (f : Fields)
  /-- VTANH (R141): Evaluates tanh a by table -/
  | vtanh (i : Issue) (f : Fields)
  /-- VSIG (R141): Evaluates the sigmoid by table -/
  | vsig (i : Issue) (f : Fields)
  /-- VERF (R141): Evaluates erf a by table -/
  | verf (i : Issue) (f : Fields)
  /-- VSOFTP (R141): Evaluates softplus by table -/
  | vsoftp (i : Issue) (f : Fields)
  /-- VDIV (R145): Evaluates a/b through the reciprocal table -/
  | vdiv (i : Issue) (f : Fields)
  /-- VTBL (R150): Evaluates a user table of the active bank of a slot -/
  | vtbl (i : Issue) (f : Fields)
  /-- VRSTAT (R154): Writes row sums, mean and variance -/
  | vrstat (i : Issue) (f : Fields)
  /-- LD (R215): Loads a scalar from own local memory -/
  | ld (i : Issue) (f : Fields)
  /-- ST (R215): Stores a scalar to own local memory -/
  | st (i : Issue) (f : Fields)
  /-- LDG (R215): Loads a scalar from a translated device address -/
  | ldg (i : Issue) (f : Fields)
  /-- STG (R215): Stores a scalar to a translated device address -/
  | stg (i : Issue) (f : Fields)
  /-- LOAD_RETURN (R215): A load's data returns and is written to its register, or its poison stops the partition -/
  | loadReturn (c : Fin 96) (k : Nat)
  /-- LDESC (R174): Starts validation of a descriptor image into a slot -/
  | ldesc (i : Issue) (f : Fields)
  /-- LDESC_DECIDE (R174): The slot becomes VALID or INVALID with its reason -/
  | ldescDecide (c : Fin 96) (n : Fin 16)
  /-- LXFER (R175): Queues a transfer of a descriptor slot with shifted bases -/
  | lxfer (i : Issue) (f : Fields)
  /-- LXFER_START (R177): A queued transfer starts when the engine has room -/
  | lxferStart (c : Fin 96)
  /-- LXFER_COMPLETE (R177): All writes of a transfer are performed and its signal counter increments -/
  | lxferComplete (c : Fin 96) (k : Nat)
  /-- TLOAD (R149): Starts copying a table image into a slot's shadow bank -/
  | tload (i : Issue) (f : Fields)
  /-- TLOAD_COMPLETE (R149): The shadow bank is complete and awaits its swap, or the load faults -/
  | tloadComplete (c : Fin 96) (cy : Nat)
  /-- IBLOAD (R216): Starts copying lines into the instruction buffer, clearing their valid bits -/
  | ibload (i : Issue) (f : Fields)
  /-- IB_LINE_ARRIVAL (R216): A buffer line's data arrives and its valid bit is set -/
  | ibLineArrival (c : Fin 96)
  /-- FENCE (R187): Holds later ordered operations until earlier writes are performed at its scope -/
  | fence (i : Issue) (f : Fields)
  /-- SIGNAL (R183): Sends a counter increment, stalling under a guard if configured -/
  | signal (i : Issue) (f : Fields)
  /-- COUNTER_INCREMENT (R182): An increment arrives at a signal counter and is added -/
  | counterIncrement (k : Nat)
  /-- BARRIVE (R192): Tags and sends an arrival at a barrier, raising the outstanding count -/
  | barrive (i : Issue) (f : Fields)
  /-- BARRIER_ARRIVAL (R192): An arrival reaches its barrier and adds to CUR or LOOK, or faults -/
  | barrierArrival (k : Nat)
  /-- SCFG (R185): Writes a signal counter's guard configuration -/
  | scfg (i : Issue) (f : Fields)
  /-- FLGSET (R195): Sends the setting of a legacy flag of a core -/
  | flgset (i : Issue) (f : Fields)
  /-- FLAG_ARRIVAL (R195): A flag set reaches its core and sets the flag -/
  | flagArrival (k : Nat)
  /-- FLGCLR (R195): Clears a legacy flag of the own core -/
  | flgclr (i : Issue) (f : Fields)
  /-- FLGWAIT (R195): Stalls until an own flag is set, optionally clearing it -/
  | flgwait (i : Issue) (f : Fields)
  /-- CWRITE (R220): Sends local blocks as Chain WRITE requests to a remote node -/
  | cwrite (i : Issue) (f : Fields)
  /-- CREAD (R220): Sends Chain READ requests for remote blocks -/
  | cread (i : Issue) (f : Fields)
  /-- CSIG (R220): Sends a Chain SIGNAL increment to a remote core -/
  | csig (i : Issue) (f : Fields)
  /-- BCMD (R221): Passes a 64-byte command record to a Bushel -/
  | bcmd (i : Issue) (f : Fields)
  /-- CLEAR (R246): Bushel command writing +0 to accumulation blocks -/
  | jobClear (n : Fin 12)
  /-- SEND (R250): Bushel command sending accumulated blocks as contributions -/
  | jobSend (n : Fin 12)
  /-- SCALARS (R246): Bushel command loading a job slot's scalars -/
  | jobScalars (n : Fin 12)
  /-- OPEN (R246): Bushel command opening a job after checking its extents -/
  | jobOpen (n : Fin 12)
  /-- ABORT (R246): Bushel command returning a job slot to FREE -/
  | jobAbort (n : Fin 12)
  /-- BLOCK_UPDATE (R253): A complete block is updated under its rule and multicast -/
  | blockUpdate (n : Fin 12) (j : Fin 16) (b : Nat)
  /-- JOB_COMPLETE (R258): Writes the completion record and signals the owner core -/
  | jobComplete (n : Fin 12) (j : Fin 16)
  /-- TICK (R26): Cycle 0 of a frame: the frame number advances and blocks start -/
  | tick
  /-- CAPTURE (R31): At cycle 1,280 issue closes, counters are captured and windows snapshot -/
  | capture
  /-- BLOCK_OVERRUN (R33): A block not done by cycle 1,279 of its second frame stops the partition -/
  | blockOverrun (c : Fin 96)
  /-- ARRAY_REMAP (R23): At a tick window with the core idle, the spare takes the retired array's index -/
  | arrayRemap (c : Fin 96)
  /-- CORE_FAILED (R25): At a tick window with the core idle, the failed mark takes effect -/
  | coreFailed (c : Fin 96)
  /-- GANG_MAP_COMMIT (R13): At the tick window the staged or split map is checked and applied or rejected -/
  | gangMapCommit (k : Fin 8)
  /-- PARTITION_CHANGE (R306): At the tick window a staged partition configuration becomes active or is rejected -/
  | partitionChange (p : Fin 8)
  /-- DOMAIN_CONFIG_CHANGE (R35): A written TIME.DOMn takes effect once the partition is idle -/
  | domainConfigChange (p : Fin 8)
  /-- BARRIER_CONFIG_CHANGE (R191): A written BARCFGn takes effect once its partitions are not running -/
  | barrierConfigChange (b : Fin 192)
  /-- SLWIN_CHANGE (R228): A written stack-local window comes into force at cycle 1,281 -/
  | slwinChange (k : Fin 16)
  /-- WAIT_EVALUATION (R29): At cycle 1,282 wait conditions are evaluated against the capture -/
  | waitEvaluation
  /-- BARRIER_RELEASE (R193): A barrier with a complete round releases it -/
  | barrierRelease (b : Fin 192)
  /-- DEADLOCK_DETECTOR (R197): At cycle 1,283 each partition's frame is judged quiet or not -/
  | deadlockDetector
  /-- DEADLOCK (R198): The quiet count reaches the window and the partition is frozen -/
  | deadlock (p : Fin 8)
  /-- GOVERNOR_DECISION (R321): At cycle 1,284 the governor requests rest or nothing -/
  | governorDecision
  /-- TABLE_SWAP (R151): At cycle 1,285 completed shadow banks become active -/
  | tableSwap
  /-- WATCH_EVALUATION (R381): At cycle 1,287 the loss sample read earlier is evaluated -/
  | watchEvaluation
  /-- TICK_MESSAGE (R288): At cycle 1,288 link ticks and domain notices leave on the ports -/
  | tickMessage (txt : List Nat)
  /-- LAUNCH_SAMPLING (R312): At cycle 1,290 the command processor reads rings, launches, reports and reads loss records -/
  | launchSampling
  /-- ISSUE_DECISION (R37): At cycle 1,296 each sequencer is told to start, catch up or stay -/
  | issueDecision
  /-- TICK_LATE (R38): A member's tick message missing at its deadline forces rest and a hold -/
  | tickLate (p : Fin 8)
  /-- CORE_IDLE (R214): After EXIT, the last in-flight operation completes and the core becomes IDLE -/
  | coreIdle (c : Fin 96)
  /-- LINK_TICK (R289): A received link tick updates delay and offset and steers a slave -/
  | linkTick (k : Nat) (rx : Int)
  /-- TIME_LOCK (R40): 256 consecutive frames within 5 ns set LOCKED -/
  | timeLock
  /-- STEP_FRAME (R41): An idle slave steps to the master's frame number and phase -/
  | stepFrame (f len : Nat)
  /-- HOLDOVER (R42): Loss of the time source enters holdover -/
  | holdover
  /-- TICK_REF_EDGE (R43): An external reference edge aligns the tick -/
  | tickRefEdge (off : Int)
  /-- REF_LOST (R43): Four missing TICK_REF edges enter holdover -/
  | refLost
  /-- FLIT_RECEIVE (R269): A flit is checked, accepted in sequence or answered with NAK -/
  | flitReceive (p : Fin 12) (b : List Byte) (bad : BitVec 8) (corr : List (Nat × Nat))
  /-- FLIT_TRANSMIT (R285): At a flit boundary a port sends the first eligible flit -/
  | flitTransmit (p : Fin 12) (t : Nat)
  /-- REPLAY_TIMEOUT (R269): An unacknowledged flit waiting 4 µs triggers replay -/
  | replayTimeout (p : Fin 12)
  /-- RETRAIN_LIMIT (R271): Sixteen replays without advance retrain the link -/
  | retrainLimit (p : Fin 12)
  /-- RX_IDLE_TIMEOUT (R271): No good flit for 10 µs retrains the link -/
  | rxIdleTimeout (p : Fin 12)
  /-- LINK_LOSS (R293): A port not UP within 100 ms loses its link and discards its queues -/
  | linkLoss (p : Fin 12)
  /-- CREDIT_STUCK (R268): An output channel without credit for 1,000 frames sets STUCK -/
  | creditStuck (p : Fin 12)
  /-- SIGNAL_DETECT (R264): Signal on all lanes of an enabled port starts training -/
  | signalDetect (p : Fin 12)
  /-- TRAIN_TIMEOUT (R264): Training not converged in 500 ms moves the port to FAULT -/
  | trainTimeout (p : Fin 12)
  /-- TRAIN_RETRY (R264): After 100 ms in FAULT the port returns to DOWN -/
  | trainRetry (p : Fin 12)
  /-- HELLO (R264): A received HELLO brings the port UP, or fails training on a duplicate identifier -/
  | hello (p : Fin 12) (node : BitVec 12) (port : BitVec 4)
  /-- CTRL_RESET (R294): A received CTRL RESET performs the Chain reset if accepted -/
  | ctrlReset (k : Nat)
  /-- TRANSIT (R278): A message for another node is forwarded or discarded -/
  | transit (k : Nat)
  /-- WRITE (R281): A WRITE request is checked, performed and answered, or refused -/
  | chWrite (k : Nat)
  /-- WRITE_PERFORMED (R274): A performed response completes a CWRITE request -/
  | writePerformed (k : Nat)
  /-- WRITE_REFUSED (R282): A refused WRITE stops the originating partition -/
  | writeRefused (k : Nat)
  /-- READ (R281): A READ request is checked and answered with data or refused -/
  | chRead (k : Nat)
  /-- READ_DATA (R274): Read data is written locally for a CREAD -/
  | readData (k : Nat)
  /-- READ_REFUSED (R282): A refused READ stops the originating partition -/
  | readRefused (k : Nat)
  /-- SIGNAL_INCREMENT (R281): A Chain SIGNAL increments a core counter or is refused -/
  | signalIncrement (k : Nat)
  /-- SIGNAL_REFUSED (R282): A refused SIGNAL stops the originating partition -/
  | signalRefused (k : Nat)
  /-- POD_BARRIER_ARRIVAL (R194): A module's round arrival is counted at the home -/
  | podBarrierArrival (k : Nat)
  /-- POD_RELEASE_DECISION (R194): When PCUR reaches MODULES the home multicasts a release for frame F -/
  | podReleaseDecision (n : Fin 64)
  /-- POD_BARRIER_RELEASE (R291): A received release is held for its frame -/
  | podBarrierRelease (k : Nat)
  /-- POD_RELEASE_APPLY (R194): At cycle 1,282 of frame F the pod barrier round is released -/
  | podReleaseApply (n : Fin 64)
  /-- RED_CONTRIB (R252): A contribution is taken into the ordered sum, held, or refused -/
  | redContrib (k : Nat)
  /-- RED_CONTRIB_ACCEPTED (R250): An acceptance completes a sender's contribution -/
  | redContribAccepted (k : Nat)
  /-- RED_CONTRIB_REFUSED (R282): A refused contribution stops nothing -/
  | redContribRefused (k : Nat)
  /-- PARAM_BCAST (R257): A parameter block is written at a replica and counted by its tracker -/
  | paramBcast (k : Nat)
  /-- DOMAIN_NOTICE (R290): A member's rest and hold notice is counted for its frame -/
  | domainNotice (k : Nat)
  /-- RESPONSE_TIMEOUT (R283): A request without response in RTIMEOUT frames times out -/
  | responseTimeout (tag : Nat)
  /-- PORT_ENABLE (R264): CH.CTRL.EN set lets a port train -/
  | portEnable (r : Fin 10) (p : Fin 12)
  /-- PORT_DISABLE (R265): CH.CTRL.EN cleared takes the port DOWN at once -/
  | portDisable (r : Fin 10) (p : Fin 12)
  /-- RETRAIN (R265): CH.CTRL.RETRAIN forces an UP port back to TRAIN -/
  | retrain (r : Fin 10) (p : Fin 12)
  /-- NODEID (R277): A guarded write of the node identifier, refused unless every port is DOWN -/
  | nodeid (r : Fin 10) (n : BitVec 12)
  /-- RSTSEND (R294): CHC.RSTSEND.GO sends a CTRL RESET to a node -/
  | rstsend (r : Fin 10) (n : BitVec 12)
  /-- SLOT_CONFIG (R284): A slot entry write takes effect at the next port frame -/
  | slotConfig (r : Fin 10) (p : Fin 12) (i : Fin 16) (v : Word32)
  /-- CXL_MEM_READ (R301): A host CXL.mem read of HBM, a window or register space -/
  | cxlMemRead (hpa : Nat) (te : Option (Fin 8)) (hold : Bool)
  /-- CXL_MEM_WRITE (R301): A host CXL.mem write, with poison where carried -/
  | cxlMemWrite (hpa : Nat) (bytes : Vector (Option Byte) 64) (poison : Bool) (te : Option (Fin 8)) (hold : Bool)
  /-- BISNP_RESPONSE (R303): A host's response to a back-invalidate snoop lets the access proceed -/
  | bisnpResponse (dpa : Nat) (data : Option (Vector Byte 64))
  /-- HOST_READ_RESPONSE (R304): Host memory data returns through CXL.cache -/
  | hostReadResponse (h : Nat) (bytes : List Byte) (poison : Bool)
  /-- CONFIG_REQUEST (R298): A configuration request to the PF or a VF -/
  | configRequest (q : ConfigReq)
  /-- HDM_COMMIT (R301): The host commits an HDM decoder -/
  | hdmCommit (base size skip : BitVec 36)
  /-- REGISTER_WRITE (R390): A write to a register without a row of its own, by access code, alias and guard -/
  | registerWrite (r : Fin 10) (off len v : Nat)
  /-- CLEARING_READ (R387): A base-address read clears the RC bits it returns -/
  | clearingRead (r : Fin 10) (off len : Nat)
  /-- LATCHED_READ (R389): A low-word read of a latched pair latches the high word -/
  | latchedRead (r : Fin 10) (off : Nat)
  /-- COMMIT (R13): GANGCTL.COMMIT requests commit of the staged gang map -/
  | commit (r : Fin 10) (k : Fin 8)
  /-- SPLITALL (R13): GANGCTL with SPLITALL and COMMIT requests the split map -/
  | splitall (r : Fin 10) (k : Fin 8)
  /-- TIME_CTRL (R40): A guarded write of the time role, upstream port and step enable -/
  | timeCtrl (r : Fin 10) (v : Word32)
  /-- SLWIN (R228): A guarded write stages a stack-local window or is refused -/
  | slwin (r : Fin 10) (k : Fin 16) (v : Word32)
  /-- INJECT_ARM (R240): MCn.INJCTL arms an HBM damage injection -/
  | injectArm (r : Fin 10) (n : Fin 12) (v : Word32)
  /-- INJARR (R347): ERR.INJARR arms a checksum injection into an array -/
  | injarr (r : Fin 10) (v : Word32)
  /-- SCNT_INC (R183): A host write of SCNT.INCn adds to a counter -/
  | scntInc (r : Fin 10) (c : Fin 96) (n : Fin 64) (v : Word32)
  /-- PART_CFG (R306): A guarded write stages a partition configuration -/
  | partCfg (r : Fin 10) (p : Fin 8) (v : Word32)
  /-- PART_RESET (R307): PARTn.CTRL.RESET requests a partition reset -/
  | partReset (r : Fin 10) (p : Fin 8)
  /-- INVAL (R309): PARTn.CTRL.INVAL starts invalidation of cached translations -/
  | inval (r : Fin 10) (p : Fin 8)
  /-- INVAL_COMPLETE (R309): Invalidation completes and INVPEND clears -/
  | invalComplete (p : Fin 8)
  /-- RING_ENABLE (R311): Setting RCFG.EN reads D and sets the taken count -/
  | ringEnable (r : Fin 10) (p : Fin 8) (q : Fin 4) (n : Fin 16)
  /-- LOGEN (R339): Enabling the host log sets LOGP and LOGC to 0 -/
  | logen (r : Fin 10)
  /-- LOGC (R339): The host's write of LOGC frees log slots -/
  | logc (r : Fin 10) (v : Word32)
  /-- HDATA (R387): A base-address read of ERR.HDATA returns a history word and advances HIDX -/
  | hdata (r : Fin 10)
  /-- DBG_HALT_WRITE (R423): A guarded write of DBG.HALTm halts or resumes cores -/
  | dbgHaltWrite (r : Fin 10) (m : Fin 3) (v : Word32)
  /-- SYSRST (R364): RST.CTRL.SYSRST starts a software system reset -/
  | sysrst (r : Fin 10)
  /-- CORERST (R364): RST.CTRL.CORERST starts a software core reset -/
  | corerst (r : Fin 10)
  /-- PSREQ_S0 (R375): A request for power state S0 -/
  | psreqS0 (r : Fin 10)
  /-- PSREQ_S1 (R375): A request for power state S1, refused unless idle -/
  | psreqS1 (r : Fin 10)
  /-- PSREQ_S2 (R375): A request for power state S2, refused unless idle and quiet -/
  | psreqS2 (r : Fin 10)
  /-- PSREQ_S3 (R375): A request for power state S3, refused unless idle -/
  | psreqS3 (r : Fin 10)
  /-- S2_ENTRY_COMPLETE (R375): Ports are DOWN and HBM in self-refresh; S2 is in force -/
  | s2EntryComplete
  /-- S2_EXIT_COMPLETE (R375): HBM leaves self-refresh, repairs are reapplied, compute is scrubbed; S0 is in force -/
  | s2ExitComplete
  /-- SCRUB_GO (R361): SEC.SCRUBCTL.GO starts an HBM range scrub or is refused -/
  | scrubGo (r : Fin 10) (len : Nat)
  /-- HBM_SCRUB_DONE (R361): A requested HBM scrub completes and DONE is set -/
  | hbmScrubDone
  /-- SET_SUS (R329): Mailbox command setting PSUS -/
  | mbSetSus (r : Option (Fin 10)) (arg tag : Nat)
  /-- SET_PEAK (R329): Mailbox command setting PPEAK -/
  | mbSetPeak (r : Option (Fin 10)) (arg tag : Nat)
  /-- SET_RESERVE (R329): Mailbox command setting RESERVE -/
  | mbSetReserve (r : Option (Fin 10)) (arg tag : Nat)
  /-- RELEASE (R325): Mailbox command releasing a thermal trip -/
  | mbRelease (r : Option (Fin 10)) (arg tag : Nat)
  /-- HOGSHEAD_UPDATE (R320): At the end of each frame P is measured and the Hogshead updated -/
  | hogsheadUpdate (p vin iin : Nat)
  /-- WEAR_CAP (R326): The wear count reaches its allowance and the cap is set -/
  | wearCap
  /-- WEAR_WRITE (R326): The wear count is written to non-volatile memory at least every 60 s -/
  | wearWrite
  /-- THERMAL_SAMPLE (R323): Once per frame temperatures are sampled and HOT judged -/
  | thermalSample (tj : Vector Int 8) (ts : Vector Int 12) (v : Vector Nat 2)
  /-- PSUS_EFF_STEP (R323): Each 1,000 frames in a condition moves PSUS_eff by 50 W -/
  | psusEffStep
  /-- THERMAL_TRIP (R324): Two samples at 105 °C stop compute and hold it in reset -/
  | thermalTrip
  /-- VIN_LOW (R327): Input between 42 V and 44 V sets VLOW and writes a record -/
  | vinLow
  /-- OVERVOLTAGE (R327): Input above 57 V for 20 µs opens the hot-swap switch -/
  | overvoltage
  /-- OVERCURRENT (R327): Input above 60 A for 100 µs opens the hot-swap switch -/
  | overcurrent
  /-- POWER_FAILURE (R328): Input below 42 V for 20 µs stops all and flushes under hold-up -/
  | powerFailure
  /-- SOFT_START (R404): After input stands at 44 V the hot-swap controller charges the bulk -/
  | softStart
  /-- BULK_CHARGED (R404): The switch closes and the safety die leaves reset -/
  | bulkCharged
  /-- BOOT_ROM (R368): Phase 1: self-test, DeviceID keys and SFW verification with fallback -/
  | bootRom
  /-- TRIM_LOAD (R371): Phase 2: trims and option words load and commit, or the load fails -/
  | trimLoad (crc : Option (Fin 256)) (n : BitVec 8)
  /-- SFW_PHASE (R368): Phase 3: history, maps, limits, CPFW verification and alias keys -/
  | sfwPhase
  /-- COMPUTE_RAILS (R369): Phase 4: with PWR_EN high the rails ramp and PG is asserted -/
  | computeRails
  /-- HBM_TRAINING (R368): Phase 5: HBM training, repair, zeroing, SerDes calibration and CPFW load -/
  | hbmTraining
  /-- FIRST_TICK (R370): The time base starts and frame 0 begins in the reset state -/
  | firstTick
  /-- PERST_FALL (R364): A PERST# low of 10 µs starts a system reset -/
  | perstFall
  /-- HOT_RESET (R364): A CXL hot reset starts a system reset -/
  | hotReset
  /-- WATCHDOG (R364): The safety watchdog unserviced for 2 s starts a system reset -/
  | watchdog
  /-- PWR_EN_RISE (R375): PWR_EN high takes the module from S3 through start-up -/
  | pwrEnRise
  /-- PWR_EN_FALL (R375): PWR_EN low stops every partition and takes the module to S3 -/
  | pwrEnFall
  /-- CORE_RESET_ENTRY (R367): At cycle 1,280 the partitions concerned stop and compute enters reset -/
  | coreResetEntry
  /-- COMPUTE_SCRUB_DONE (R360): The scrub of local memory and core state completes -/
  | computeScrubDone
  /-- CORE_RESET_RELEASE (R367): At cycle 1,281 the cores become IDLE and sampling resumes -/
  | coreResetRelease
  /-- CLUSTER_SCRUB_DONE (R360): A removed cluster's scrub completes and SCRUB clears -/
  | clusterScrubDone (p k : Fin 8)
  /-- HBM_SCRUB_READ (R231): The patrol scrub reads, corrects and writes back one sector -/
  | hbmScrubRead (n : Fin 12) (x : Option Symbols)
  /-- LOCAL_PATROL_SCRUB (R163): Local memory is patrol-read and corrected -/
  | localPatrolScrub (c : Fin 96) (off : BitVec 24) (f : Found)
  /-- SOFT_PPR (R233): A row classed permanent is repaired by soft post-package repair -/
  | softPpr (n : Fin 12) (row : List (BitVec 37)) (e : RowEnd)
  /-- ERROR_RECORD (R334): A detected fault's record reaches the safety die and is queued, logged and entered in the history -/
  | errorRecord (k : Nat) (f : Option HwFault)
  /-- MCTP_DELIVERY (R340): A queued record is sent to the baseboard controller and acknowledged -/
  | mctpDelivery (ack : Bool)
  /-- MCTP_RETRY (R340): An unacknowledged record is resent after 1 s or given up after three attempts -/
  | mctpRetry (ack : Bool)
  /-- HISTORY_WRITE (R342): The history shadow is written to non-volatile memory within 1 s -/
  | historyWrite
  /-- CERT_ISSUE (R355): A changed attestation field starts a new alias certificate -/
  | certIssue
  /-- CERT_SIGNED (R355): Signing completes and waiting requests are answered -/
  | certSigned
  /-- GET_CERTIFICATE (R353): SPDM request returning the certificate chain of slot 0 -/
  | getCertificate (doe : Bool)
  /-- CHALLENGE (R353): SPDM request answered with a signature of the alias key -/
  | spdmChallenge (doe : Bool) (nonce : List Byte)
  /-- GET_MEASUREMENTS (R353): SPDM request answered with UnsupportedRequest -/
  | getMeasurements (doe : Bool)
  /-- KEY_EXCHANGE (R353): SPDM request opening a secured session -/
  | keyExchange (doe : Bool) (exch : List Byte)
  /-- FIRMWARE_UPDATE (R356): PLDM image transfer and verification into a slot -/
  | firmwareUpdate (u : FwUpdate)
  /-- ACTIVATE_FIRMWARE (R356): Commits the new slot as preferred and starts a system reset -/
  | activateFirmware (i : Fin 2)
  /-- IDE_KM (R357): Installs or refreshes IDE keys in a secured session -/
  | ideKm (id : Nat) (stream : Fin 5) (key : List Byte)
  /-- IDE_FAILURE (R357): A failed integrity check or expired key stops a stream -/
  | ideFailure (stream : Fin 5)
  /-- TSP_LOCK (R358): The security manager locks a partition's configuration -/
  | tspLock (p : Fin 8) (te : List (BitVec 23 × BitVec 16))
  /-- TSP_UNLOCK (R358): Unlock scrubs the partition and its TE ranges and clears its state -/
  | tspUnlock (p : Fin 8)
  /-- ENTDAA (R409): I3C dynamic address assignment -/
  | entdaa (a : BitVec 7)
  /-- SETDASA (R409): I3C assignment of a dynamic address from the static one -/
  | setdasa (static a : BitVec 7)
  /-- HELP (R421): Ifendi lists the commands of the session's level -/
  | ifHelp
  /-- VER (R421): Ifendi prints identity, revision, SVNs and slot -/
  | ifVer
  /-- LOGIN (R419): Ifendi raises a closed session to observer -/
  | ifLogin
  /-- UNLOCK (R419): Ifendi issues a challenge or verifies the answer to raise to operator -/
  | ifUnlock (sig : Option (List Byte))
  /-- UNLOCK_TIMEOUT (R419): 60 s without the answer returns the session to level 0 -/
  | unlockTimeout
  /-- LOCKOUT_EXPIRY (R419): The 10-minute unlock lockout ends -/
  | lockoutExpiry
  /-- LOCK (R419): Ifendi returns the session to level 0 -/
  | ifLock
  /-- STATUS (R421): Ifendi prints power, thermal and partition status -/
  | ifStatus
  /-- LOG (R421): Ifendi prints the newest event-log records -/
  | ifLog (n : Nat)
  /-- RD (R421): Ifendi alias reads of registers or memory -/
  | ifRd (a n : Nat)
  /-- RDC (R421): Ifendi base-address read with side effects -/
  | ifRdc (a : Nat)
  /-- WR (R421): Ifendi 32-bit write -/
  | ifWr (a : Nat) (v : Word32)
  /-- WRG (R422): Ifendi guarded write of a value and its complement -/
  | ifWrg (a : Nat) (v : Word32)
  /-- DUMP (R421): Ifendi dump of HBM or a local-memory window -/
  | ifDump (a n : Nat)
  /-- HALT (R423): Ifendi halts a core's gang at the next bundle boundary -/
  | ifHalt (c : Fin 96)
  /-- GO (R423): Ifendi clears a halt; the block resumes at the next tick -/
  | ifGo (c : Fin 96)
  /-- STEP (R423): Ifendi issues n bundles of a halted core -/
  | ifStep (c : Fin 96) (n : Nat)
  /-- TRACE_ON (R424): Ifendi enables bundle trace of a core -/
  | ifTraceOn (c : Fin 96)
  /-- TRACE_OFF (R424): Ifendi disables trace -/
  | ifTraceOff
  /-- TRACE_SHOW (R424): Ifendi prints trace entries -/
  | ifTraceShow (n : Option Nat)
  /-- RESET_CORE (R421): Ifendi requests a core reset -/
  | ifResetCore
  /-- RESET_SYS (R421): Ifendi requests a system reset -/
  | ifResetSys
  /-- PS (R421): Ifendi requests a power state -/
  | ifPs (t : Fin 4)
  /-- TRAIN_CONVERGED (R264): The exchange of training frames and tap requests converges and the port moves from TRAIN to ALIGN -/
  | trainConverged (p : Fin 12)
  /-- ALIGNMENT_LOCK (R264): Each lane locks to its codewords and markers, the port deskews and corrects polarity and lane order and sends
  HELLO, or fails to FAULT with cause 2, 3 or 5 -/
  | alignmentLock (p : Fin 12) (fail : Option AlignFail) (polinv : BitVec 8) (rev : Bool)
  /-- CXL_LINK_TRAINED (R296): The CXL link finishes training at some width and rate, and CXL.cache and CXL.mem are enabled or not by that
  rate and flit mode -/
  | cxlLinkTrained (w : Fin 4) (r : Fin 6) (flit : Bool)
  /-- CXL_LINK_DOWN (R296): The CXL link goes down and CXL.LINK shows width 0 -/
  | cxlLinkDown
  /-- PERST_RISE (R369): PERST# rises and releases the CXL interface from reset so the link may train -/
  | perstRise
  /-- HOST_WRITE_COMPLETION (R304): The host acknowledges a CXL.cache write, which is then performed at module scope -/
  | hostWriteCompletion (c : Fin 96) (k : Nat)
  /-- HOST_SNOOP (R304): A snoop from the host over CXL.cache is answered as a miss -/
  | hostSnoop (h : Nat)
  /-- VIN_RESTORED (R327): Input returns to 44 V or above, ending the excursion and clearing PWR.STATUS.VLOW -/
  | vinRestored
  /-- HOLD_UP_EXPIRY (R328): The 15 ms of hold-up ends and the module goes off, even if the input has recovered -/
  | holdUpExpiry
  /-- MAILBOX_RESULT (R329): The safety firmware finishes validating a mailbox or PLDM request, reports RESULT and TAG in PWR.MBSTAT and
  clears BUSY -/
  | mailboxResult
  /-- NV_WRITE_PULSE_END (R366): A non-volatile write pulse ends, and a system or power-on reset delayed for it then proceeds -/
  | nvWritePulseEnd
  /-- IFENDI_ROM_RECOVERY (R418): In recovery the ROM sends the line IFENDI ROM RECOVERY once per second -/
  | ifendiRomRecovery
  /-- MALFORMED_COMMAND (R421): A line that is too long or names no valid command is answered E 01 line or E 02 syntax -/
  | malformedCommand (long : Bool)
  /-- GET_VERSION (R353): SPDM request answered with versions 1.2 and 1.3 -/
  | getVersion (doe : Bool)
  /-- GET_CAPABILITIES (R353): SPDM request answered with the capabilities and CTExponent of Table 17-2 -/
  | getCapabilities (doe : Bool)
  /-- NEGOTIATE_ALGORITHMS (R353): SPDM request answered with ECDSA P-384, SHA-384, secp384r1 and AES-256-GCM -/
  | negotiateAlgorithms (doe : Bool)
  /-- GET_DIGESTS (R353): SPDM request answered with the digest of the certificate chain in slot 0 -/
  | getDigests (doe : Bool)
  /-- FINISH (R353): SPDM request completing the handshake of a secured session opened by KEY_EXCHANGE -/
  | spdmFinish (doe : Bool) (id : Nat) (mac : Bool)
  /-- END_SESSION (R353): SPDM request ending one of the up to four secured sessions -/
  | endSession (doe : Bool) (id : Nat)
deriving DecidableEq, Repr

end Sys2Proof
end

