-- ==== Sys2Proof/Machine/CoreState.lean ====
section
/-!
DEFINITION. The state of one core: scalar, tile and predicate registers, carry store, matrix arrays, local memory, instruction
buffer, layout engine, user tables, signal counters, queues, fences, and the core's sub-blocks of register space.
-/
namespace Sys2Proof.Machine

/-- A byte store. With `gen` 0 an unlisted byte reads 0; with another `gen` its content is undefined and reads as the free
value of that generation (R6). -/
structure Store where
  gen : Nat
  cells : List (Nat × Byte)
deriving DecidableEq, Repr

/-- A store of rows of `w` bits, undefined where unlisted unless `gen` is 0. -/
structure Rows (w : Nat) where
  gen : Nat
  rows : List (Nat × BitVec w)
deriving DecidableEq, Repr

/-- States of a core (R16). -/
inductive CoreSt where
  | off | idle | running | waiting | stopped | frozen | inReset | failed
deriving DecidableEq, Repr

/-- The operand registers, which every slot of a bundle reads before any slot writes (R202). Row r of tile t has key
32 t + r, row r of predicate p likewise; the poison masks use the same keys as bit numbers (R113 to R115, R134). -/
structure Opnd where
  s : Vector Word64 32
  srstep : Word32
  tiles : Rows 1024
  tpois : BitVec 1024
  preds : Rows 128
  ppois : BitVec 256
  carry : Rows 1024
  cvalid : BitVec 128
  cpois : BitVec 128
deriving DecidableEq, Repr

/-- The wait condition of the last FRAME (R29, R213). -/
inductive WaitC where
  | none
  | counter (n : Nat) (target : Word64)
  | barrier (modbar : Bool) (n : Nat) (level : Nat)
deriving DecidableEq, Repr

/-- Kinds of M-slot instruction. -/
inductive MKind where
  | wload | mma | mdrain
deriving DecidableEq, Repr

/-- What a Chain request of a core carries from the block that issued it (R286): whether it is scheduled, its domain and work frame. -/
structure ChTag where
  sched : Bool
  dom : Nat
  wf : Nat
deriving DecidableEq, Repr

/-- A queued M-slot instruction with the scalar operands read at its issue (R86). `uid` is shared by the entries of one span
instruction; `fid` is the newest fence before it (R187). An MMA that reads A from tiles holds them as they stood at its issue
(R136). -/
structure MOp where
  kind : MKind
  f : Fields
  v1 : Word64
  v2 : Word64
  v3 : Word64
  srstep : Word32
  tiles : Rows 1024
  tpois : BitVec 1024
  opw : Nat
  uid : Nat
  fid : Nat
  tag : ChTag
deriving DecidableEq, Repr

/-- What the array records of a loaded weight-buffer step (R81, R99, R107). -/
structure WStep where
  fmt : Nat
  scaled : Bool
  s24 : Bool
  poison : Bool
  empty : BitVec 16
  aud : Option Nat
deriving DecidableEq, Repr

/-- The audit column of a step (R111): its values, metadata and scales. -/
structure AudStep where
  vals : List Byte
  nib : List Byte
  scl : List Byte
deriving DecidableEq, Repr

/-- The format a bank has from its last MMA (R87). -/
inductive BankFmt where
  | fp32 | int32 | fp64
deriving DecidableEq, Repr

/-- A checksummed run on a bank (R92, R93): steps and A bytes so far, the halves it locks, and the four checksums in the
accumulation format. -/
structure Run where
  steps : Nat
  abytes : Nat
  halves : List Nat
  rc : List Nat
  ra : List Nat
  cc : List Nat
  ca : List Nat
deriving DecidableEq, Repr

/-- The audit accumulation of a bank (R112). -/
structure Aud where
  col : Nat
  valid : Bool
  acc : List Nat
deriving DecidableEq, Repr

/-- One accumulator bank of 16 rows (R85); the rows' bits stand in `Core.acc`. -/
structure Bank where
  fmt : Option BankFmt
  poison : BitVec 16
  run : Option Run
  aud : Option Aud
deriving DecidableEq, Repr

/-- A checksum mismatch of a logical array: the bit-maps of failing rows and columns, both 0 where an injection made it (R347). -/
structure Mismatch where
  array : Nat
  rows : BitVec 16
  cols : BitVec 16
  inj : Bool
deriving DecidableEq, Repr

/-- A drain under replay (R94): the entry and its mismatches. -/
structure Replay where
  uid : Nat
  ms : List Mismatch
deriving DecidableEq, Repr

/-- A scalar load in flight (R215). -/
inductive LoadSrc where
  | value (v : Nat) (poison : Bool)
  | device (addr : Nat)
deriving DecidableEq, Repr

/-- A load: destination, width, zero extension, source, OP of its instruction and the data's address for a record. -/
structure Load where
  dst : BitVec 5
  width : Nat
  uns : Bool
  src : LoadSrc
  opw : Nat
  addr : Nat
  inj : Bool
deriving DecidableEq, Repr

/-- A line of an instruction-buffer load in flight (R47, R216). -/
structure IbLoad where
  uid : Nat
  line : Nat
  dev : Bool
  addr : Nat
  opw : Nat
deriving DecidableEq, Repr

/-- A validated descriptor (R166, R167): a 128-byte image. -/
inductive DSlot where
  | empty
  | deciding (image : List Byte)
  | valid (image : List Byte)
  | invalid (reason : Nat)
deriving DecidableEq, Repr

/-- A queued or running layout transfer (R175, R177); a transfer from tiles holds them as they stood at its issue (R136). `sent`: its
writes to host memory await the host (R304); `since`: the bytes of each access of the transfers that completed while it ran. -/
structure Xfer where
  uid : Nat
  image : List Byte
  sbase : Int
  dbase : Int
  t : Nat
  b : Nat
  srstep : Nat
  tiles : Rows 1024
  tpois : BitVec 1024
  opw : Nat
  sigen : Bool
  scnt : Nat
  slot : Nat
  running : Bool
  sent : Bool
  since : List (List Nat)
  fid : Nat
deriving DecidableEq, Repr

/-- A bank of a user-table slot (R148): its image and poison. -/
structure Table where
  image : List Byte
  poison : Bool
deriving DecidableEq, Repr

/-- A user-table slot (R148, R151): the active bank, the shadow, whether the shadow is complete and awaits its swap, the frame
and cycle of its completion as 1,300 × frame + cycle, the number of the block that issued its TLOAD, and SLOTn.GEN. -/
structure TSlot where
  active : Option Table
  shadow : Option Table
  pend : Bool
  doneAt : Nat
  block : Nat
  gen : Nat
deriving DecidableEq, Repr

/-- A TLOAD in flight (R149). -/
structure TLoad where
  slot : Nat
  table : Table
  block : Nat
  opw : Nat
deriving DecidableEq, Repr

/-- An operation held behind a fence: a store, an operation of the signal queue, or of the Chain queue (R187, R219). -/
inductive HeldOp where
  | store (dev : Bool) (addr : Nat) (width : Nat) (value : Nat)
  | signal (core : Nat) (n : Nat) (amount : Nat)
  | arrive (modbar : Bool) (n : Nat) (tag : Nat)
  | flag (core : Nat) (n : Nat)
  | csig (tag : ChTag) (node : Nat) (core : Nat) (n : Nat) (amount : Nat)
  | chain (tag : ChTag) (write : Bool) (remote : Nat) (loc : Nat) (node : Nat) (blocks : Nat) (sigen : Bool) (scnt : Nat) (opw : Nat)
deriving DecidableEq, Repr

/-- A held operation with its write id and the newest fence before it. -/
structure Held where
  id : Nat
  fid : Nat
  op : HeldOp
deriving DecidableEq, Repr

/-- A fence with its scope and the write ids it still awaits (R187). -/
structure Fence where
  id : Nat
  scope : Nat
  deps : List Nat
deriving DecidableEq, Repr

/-- Classes of an outstanding write, which decide the scopes that await it (Table 9-2). -/
inductive WClass where
  | core | host | chain
deriving DecidableEq, Repr

/-- A CWRITE, CREAD or DEST 3 drain whose requests await their responses, with OP of its instruction (R220, R250, R274). -/
structure ChainOp where
  uid : Nat
  opw : Nat
  sigen : Bool
  scnt : Nat
  left : Nat
deriving DecidableEq, Repr

/-- A command record in the core's Bushel queue (R219, R245): its arrival number, controller, partition and bytes. -/
structure BHeld where
  id : Nat
  mc : Nat
  part : Nat
  bytes : List Byte
deriving DecidableEq, Repr

/-- What a launch gives a core (R207, R208). -/
structure Launch where
  part : Nat
  addr : Nat
  level : Nat
  cores : List Nat
  key : Word64
  ticket : Nat
  lines : Nat
  entry : Nat
  iaddr : Nat
deriving DecidableEq, Repr

structure Core where
  st : CoreSt
  hold : Bool
  opnd : Opnd
  view : Option Opnd
  -- sequencer (R26 to R47)
  active : Bool
  spill : Bool
  waitFailed : Bool
  late : Bool
  wait : WaitC
  behind : Nat
  catchUp : Option Bool
  missed : List Nat
  pc : Nat
  npc : Nat
  -- the open bundle: instructions yet to issue, by slot and word, and its cycle (R200, R202)
  todo : List (Nat × Word64)
  bcy : Nat
  wframe : Word64
  blockFrame : Word64
  blockNo : Nat
  framedNo : Nat
  blockBundles : Nat
  lastBc : Nat
  first : Bool
  start : Bool
  -- whether the last issue decision withheld the next start for a TLOAD (R152)
  defer : Bool
  -- whether SEQ.FAULT has recorded a fault since the launch (R222)
  faulted : Bool
  exiting : Bool
  stall : WaitC
  guardStall : Option Nat
  steps : Option Nat
  launch : Option Launch
  -- the array that awaits retirement, with the frame in which it was classed, and the failed mark (R23, R25, R344)
  retire : Option (Nat × Nat)
  failPend : Bool
  -- instruction buffer
  ib : Store
  ibValid : BitVec 64
  ibPois : BitVec 64
  -- where the data of a poisoned line came from: its first address, local or a device's (R238)
  ibSrc : List (Nat × (Bool × Nat))
  ibLoads : List IbLoad
  -- matrix arrays
  mq : Vector (List MOp) 4
  wbuf : Store
  wscale : Store
  wmeta : Store
  wsteps : List (Nat × WStep)
  waud : List (Nat × AudStep)
  acc : Rows 512
  banks : Vector Bank 8
  replays : List Replay
  -- local memory
  lm : Store
  lmPois : List (Nat × Bool)
  -- layout engine
  dslots : Vector DSlot 16
  xfers : List Xfer
  -- user tables
  tslots : Vector TSlot 8
  tloads : List TLoad
  -- loads, fences and queues
  loads : List Load
  fences : List Fence
  outw : List (Nat × WClass)
  held : List Held
  chq : List ChainOp
  bq : List BHeld
  -- synchronisation
  scnt : List (Nat × Word64)
  flags : BitVec 16
  bout : List (Nat × Nat)
  bseen : List (Nat × Nat)
  -- registers
  cregs : List (Nat × Word32)
  fcount : List (Nat × Nat)
deriving DecidableEq, Repr

/-- An empty store of zeros. -/
def Store.zero : Store := ⟨0, []⟩

/-- Empty rows of zeros. -/
def Rows.zero (w : Nat) : Rows w := ⟨0, []⟩

def Opnd.zero : Opnd :=
  { s := Vector.replicate 32 0, srstep := 0, tiles := Rows.zero 1024, tpois := 0, preds := Rows.zero 128, ppois := 0,
    carry := Rows.zero 1024, cvalid := 0, cpois := 0 }

def Bank.zero : Bank := { fmt := none, poison := 0, run := none, aud := none }

def TSlot.zero : TSlot := { active := none, shadow := none, pend := false, doneAt := 0, block := 0, gen := 0 }

/-- A core in state `st` with every register at its reset value and every memory zero. -/
def Core.zero (st : CoreSt) : Core :=
  { st := st, hold := false, opnd := Opnd.zero, view := none, active := false, spill := false, waitFailed := false, late := false,
    wait := .none, behind := 0, catchUp := none, missed := [], pc := 0, npc := 0, todo := [], bcy := 0,
      wframe := 0, blockFrame := 0, blockNo := 0, framedNo := 0,
    blockBundles := 0, lastBc := 0, first := false,
    start := false, defer := false, faulted := false, exiting := false, stall := .none, guardStall := none, steps := none,
      launch := none, retire := none, failPend := false, ib := Store.zero,
    ibValid := 0, ibPois := 0, ibSrc := [], ibLoads := [], mq := Vector.replicate 4 [], wbuf := Store.zero, wscale := Store.zero,
    wmeta := Store.zero, wsteps := [], waud := [], acc := Rows.zero 512, banks := Vector.replicate 8 Bank.zero,
    replays := [], lm := Store.zero, lmPois := [], dslots := Vector.replicate 16 .empty, xfers := [],
    tslots := Vector.replicate 8 TSlot.zero, tloads := [], loads := [], fences := [], outw := [], held := [], chq := [],
    bq := [], scnt := [], flags := 0, bout := [], bseen := [], cregs := [], fcount := [] }

end Sys2Proof.Machine
end

