-- ==== Sys2Proof/Machine/ChainState.lean ====
section
/-!
DEFINITION. The state of the Chain and of the Bushels: messages, flits, ports, requests that await responses, job slots and the
sets a tracker counts (spec/12_bushel.md, spec/13_chain.md).
-/
namespace Sys2Proof.Machine

/-- A Chain message (R273, Table 13-5): the header's fields, the words of bytes 12 to 15 and 16 to 31, and the data. -/
structure Msg where
  typ : Nat
  sub : Nat
  mcast : Bool
  sched : Bool
  dst : Nat
  src : Nat
  dom : Nat
  wf : Nat
  pmask : Nat
  tag : Nat
  agent : Nat
  ttl : Nat
  w3 : Nat
  w4 : Nat
  data : List Byte
deriving DecidableEq, Repr

/-- A message that has reached the message layer of this module, by a port or internally, and awaits its command. `transit`
marks a copy to be forwarded. -/
structure InMsg where
  port : Option Nat
  vc : Nat
  transit : Bool
  msg : Msg
deriving DecidableEq, Repr

/-- A sequenced flit of the replay buffer (R269, R270): sequence number, channel, FIRST, body and the messages that end in it. -/
structure TxFlit where
  seq : Nat
  vc : Nat
  first : Nat
  body : List Byte
  ends : Nat
deriving DecidableEq, Repr

/-- A message queued for a port, with its channel and its source: an input port or 12, the module itself (R285). -/
structure OutMsg where
  vc : Nat
  src : Nat
  msg : Msg
deriving DecidableEq, Repr

/-- A message part of which has been sent: its source, domain, work frame and remaining bytes. -/
structure CurMsg where
  src : Nat
  dom : Nat
  wf : Nat
  rest : List Byte
deriving DecidableEq, Repr

/-- A port beside its registers: the link layer (R268 to R272), the output queues, reassembly and the link-tick exchange. `starve` counts
the frames that a channel has gone without credit, `fed` says whether it had some in the present one (R268). -/
structure Port where
  seqTx : Nat
  seqRx : Nat
  got : Bool
  replay : List TxFlit
  next : Nat
  replays : Nat
  nak : Bool
  naked : Bool
  cred : Vector Nat 4
  ret : Vector Nat 4
  outq : List OutMsg
  cur : Vector (Option CurMsg) 4
  turn : Nat
  rx : Vector (List Byte) 4
  lost : Vector Bool 4
  starve : Vector Nat 4
  fed : Vector Bool 4
  leftUp : Bool
  hello : Bool
  slots : List (Nat × Word32)
  tickTx : List (Nat × Nat)
  tickIn : List (Nat × Int × Nat)
  hops : Nat
  samples : List (Int × Int)
deriving DecidableEq, Repr

/-- The receive buffers of Table 13-4, in flits. -/
def vcBuffer : Vector Nat 4 := #v[16, 256, 512, 256]

def Port.zero : Port :=
  { seqTx := 0, seqRx := 0, got := false, replay := [], next := 0, replays := 0, nak := false, naked := false, cred := vcBuffer,
    ret := Vector.replicate 4 0, outq := [], cur := Vector.replicate 4 none, turn := 0, rx := Vector.replicate 4 [],
    lost := Vector.replicate 4 false, starve := Vector.replicate 4 0,
      fed := Vector.replicate 4 true, leftUp := false, hello := false, slots := [], tickTx := [],
    tickIn := [], hops := 31, samples := [] }

/-- Kinds of request that await a response (R274, R283). -/
inductive ReqKind where
  | write | read | contrib
deriving DecidableEq, Repr

/-- A request that awaits its response: tag, agent, the operation it belongs to, local address, length, node, frame sent. -/
structure ChReq where
  tag : Nat
  kind : ReqKind
  agent : Nat
  uid : Nat
  loc : Nat
  len : Nat
  node : Nat
  frame : Nat
deriving DecidableEq, Repr

/-- A SEND whose contributions await acceptance (R250): the issuing core and the counter of its SIGEN. -/
structure SendOp where
  uid : Nat
  core : Nat
  sigen : Bool
  scnt : Nat
  left : Nat
deriving DecidableEq, Repr

/-- States of a job slot (R246). -/
inductive JobSt where
  | free | loaded | opened | updating | done
deriving DecidableEq, Repr

/-- A held contribution (R252). -/
structure HeldC where
  rank : Nat
  vals : List Nat
  poison : Bool
deriving DecidableEq, Repr

/-- A block of a job: the sum's emptiness and poison, the next expected rank, ranks contributed, ranks added, the window of held
contributions, order-relaxed, complete, updated (R252, R253). -/
structure Block where
  empty : Bool
  poison : Bool
  e : Nat
  got : List Nat
  added : Nat
  window : List HeldC
  relaxed : Bool
  updated : Bool
deriving DecidableEq, Repr

/-- Sums of pass 1 of rule 2 (R254): row and column statistics, their poison, and the reciprocal of the total. -/
structure Factors where
  r : List Nat
  c : List Nat
  poison : Bool
  iz : Nat
deriving DecidableEq, Repr

/-- A job slot (R246): state, owner, the fields of OPEN, the scalars in the order of Table 12-2, the pages its addresses
translate to, its blocks and its counts. -/
structure Job where
  st : JobSt
  part : Nat
  rule : Nat
  mfmt : Nat
  rm : Nat
  nfpol : Nat
  bfmt : Nat
  nb : Nat
  pbase : Nat
  sbase : Nat
  abase : Nat
  rbase : Nat
  cbase : Nat
  ranks : Nat
  mgrp : Nat
  tmc : Nat
  rscnt : Nat
  rcore : Nat
  lcore : Nat
  lscnt : Nat
  rows : Nat
  cols : Nat
  key : Nat
  scalars : List Nat
  pages : List (Nat × Nat)
  blocks : List (Nat × Block)
  fac : Option Factors
  nupd : Nat
  nrelaxed : Nat
  nzero : Nat
  nprop : Nat
  nout : Nat
  npois : Nat
  relaxed : Bool
  poison : Bool
deriving DecidableEq, Repr

def Job.zero : Job :=
  { st := .free, part := 0, rule := 0, mfmt := 0, rm := 0, nfpol := 0, bfmt := 0, nb := 0, pbase := 0, sbase := 0, abase := 0,
    rbase := 0, cbase := 0, ranks := 0, mgrp := 0, tmc := 0, rscnt := 0, rcore := 0, lcore := 0, lscnt := 0, rows := 0,
    cols := 0, key := 0, scalars := [], pages := [], blocks := [], fac := none, nupd := 0, nrelaxed := 0, nzero := 0,
    nprop := 0, nout := 0, npois := 0, relaxed := false, poison := false }

/-- A set a tracker counts (R257): its key (node, controller, job), blocks counted and the order-relaxed indication. -/
structure RxSet where
  key : Nat × Nat × Nat
  count : Nat
  relaxed : Bool
deriving DecidableEq, Repr

/-- A command record in a Bushel's queue: the issuing core, its partition and the 64 bytes (R245). -/
structure BRec where
  core : Nat
  part : Nat
  bytes : List Byte
deriving DecidableEq, Repr

/-- A Bushel beside its registers: the command queue, job slots, SENDs that await acceptance, tracked sets and the largest
number of held contributions. -/
structure Bushel where
  queue : List BRec
  jobs : Vector Job 16
  sends : List SendOp
  sets : List RxSet
  high : Nat
deriving DecidableEq, Repr

def Bushel.zero : Bushel := { queue := [], jobs := Vector.replicate 16 Job.zero, sends := [], sets := [], high := 0 }

end Sys2Proof.Machine
end

