-- ==== Sys2Proof/Machine/SysState.lean ====
section
/-!
DEFINITION. The state of the module outside its cores: partitions and rings, schedule domains, HBM, error records and history,
the Chain, the Bushels, host link, power, reset, security and the monitor. Registers proper are `State.regs`.
-/
namespace Sys2Proof.Machine

/-- An error record at detection (R334, Table 16-3): the fields the detecting rule gives. -/
structure ErrRec where
  cls : Nat
  inj : Bool
  unit : Nat
  op : Nat
  action : Nat
  addr : Nat
  subkind : Nat
  synd : Nat
  frame : Nat
  cycle : Nat
  locked : Bool
  temp : Nat
  vcore : Nat
  waiters : Nat
  detail : List Nat
deriving DecidableEq, Repr

/-- What leaves the module towards the outside: interrupts, host-memory and configuration traffic, management messages, lines
of the monitor, pins. -/
inductive Output where
  | msix (fn : Nat) (vector : Nat)
  | cfgRetry
  | hostWrite (addr : Nat) (bytes : List Byte) (poison : Bool)
  | hostRead (addr : Nat) (len : Nat)
  | hostData (bytes : List Byte) (poison : Bool)
  | hostDone
  | cfgData (v : Word32)
  | cfgItems (items : List (String × Nat))
  | cdat (bytes : List Byte)
  | message (addr : Nat) (data : Nat)
  | bisnp (addr : Nat)
  | snoopMiss (addr : Nat)
  | mctp (event : Nat) (bytes : List Byte)
  | spdm (doe : Bool) (response : String) (body : List Byte)
  | pldm (response : String) (value : Nat)
  | line (text : String)
  | value (v : Nat)
  | flit (port : Nat) (bytes : List Byte)
  | hello (port : Nat) (node : Nat)
  | pin (name : String) (level : Bool)
  | unsupported
deriving DecidableEq, Repr

/-- An increment, arrival or flag set of core `src` on its way inside the module (Table 9-1, R192, R195). -/
inductive Flight where
  | inc (src : Nat) (core : Nat) (n : Nat) (amount : Nat)
  | arrive (src : Nat) (modbar : Bool) (n : Nat) (tag : Nat)
  | flag (src : Nat) (core : Nat) (n : Nat)
deriving DecidableEq, Repr

/-- A launch in flight (R313 to R316); `doneAt` is the frame in which it was complete. -/
structure LaunchRec where
  ring : Nat
  index : Nat
  addr : Nat
  cores : List Nat
  msien : Bool
  vector : Nat
  ticket : Nat
  doneAt : Option Nat
deriving DecidableEq, Repr

/-- A launch ring: taken count T, done count D, and indices finished out of order (R311, R315). -/
structure Ring where
  t : Nat
  d : Nat
  fin : List Nat
deriving DecidableEq, Repr

/-- Launch results still to be reported: the record, its RESULT, the core, the cause and the frame of completion (R315, R316). -/
structure Report where
  launch : LaunchRec
  result : Nat
  core : Nat
  cause : Nat
  frame : Nat
deriving DecidableEq, Repr

/-- Stages of a core or partition reset (R367, Table 18-3): requested; stopped at cycle 1,280; held in reset from the tick on;
scrubbed. -/
inductive RStage where
  | asked | stopping | held | scrubbed
deriving DecidableEq, Repr

/-- What the read of a loss record at cycle 1,290 gave (R380): the record with its poison, or a failed translation. -/
inductive WRead where
  | got (bytes : List Byte) (poison : Bool)
  | xlate
deriving DecidableEq, Repr

/-- What a partition keeps beside its registers: rings, launches, results to report; the first fault and the end of launches; the
quiet count and what reached the partition in the frame (R197); CFG and TIME.DOM in force (R35, R306); rest frames with their hold
flag, frames forced to rest, domain notices received, the requests of this tick window, whether the present and the coming frame
are rest frames (R35 to R38); clusters that await their scrub (R306); a reset in progress (R367); the loss record read (R380). -/
structure Part where
  rings : Vector Ring 4
  launches : List LaunchRec
  reports : List Report
  firstFault : Option (Nat × Nat)
  quiet : Nat
  busyFrame : Bool
  cfgNow : Word32
  domNow : Word32
  restReq : List (Nat × Bool)
  forced : List Nat
  notices : List (Nat × Nat)
  reqRest : Bool
  reqHold : Bool
  restNow : Bool
  restNext : Bool
  scrubCl : List Nat
  rst : Option RStage
  wread : Option WRead
deriving DecidableEq, Repr

/-- An error that a stored symbol of an HBM sector carries (R229, R230): codeword, symbol, the bits inverted, and whether an injection
made it (R240). -/
structure SymErr where
  cw : Nat
  sym : Nat
  mask : Nat
  inj : Bool
deriving DecidableEq, Repr

/-- What a read of a sector found, for the classing of rows and lines (R233, R234): the sector's key, the clock, and the symbol
corrected, none for an uncorrectable error. -/
structure MemErr where
  key : Nat
  time : Nat
  sym : Option Nat
deriving DecidableEq, Repr

def Ring.zero : Ring := ⟨0, 0, []⟩

def Part.zero : Part :=
  { rings := Vector.replicate 4 Ring.zero, launches := [], reports := [], firstFault := none, quiet := 0, busyFrame := false,
    cfgNow := 0, domNow := 0, restReq := [], forced := [], notices := [], reqRest := false, reqHold := false, restNow := false,
    restNext := false, scrubCl := [], rst := none, wread := none }

/-- Where the module stands between off and running (R364, R368, R373 to R375, R404): off; the bulk charges; phases 1 to 6 of Table
18-4, each named while it runs; running; S3; safe mode; recovery. -/
inductive Phase where
  | off | charging | boot | trims | sfw | rails | memory | start | run | s3 | safe | recovery
deriving DecidableEq, Repr

/-- The governor and the power input beside the registers (R318 to R329): the Hogshead in nJ × 1,300, P of the last 64 frames in mW, newest
first, the energy and frames of the present 64,000, the wear count in µs and what non-volatile memory holds of it, frames in the
HOT and in the cool condition, consecutive samples at 105 °C, the requests under validation in arrival order with their path, the
accepted changes that await cycle 1,284, whether RELEASE has been accepted, and a stop of every partition due at cycle 1,280. -/
structure Power where
  hog : Int
  hist : List Nat
  sum : Nat
  frames : Nat
  wear : Nat
  wearNv : Nat
  capNv : Bool
  hotFr : Nat
  coolFr : Nat
  hotNow : Option Bool
  hot105 : Nat
  requests : List (Bool × Nat × Nat × Nat)
  accepted : List (Nat × Nat)
  release : Bool
  stopAll : Bool
  excursion : Bool
  failed : Bool
deriving DecidableEq, Repr

/-- One copy of the history in non-volatile memory: its regions, and whether its CRCs hold (R342). -/
structure NvCopy where
  hist : List (Nat × Nat)
  evlog : List (List Byte)
  good : Bool
deriving DecidableEq, Repr

/-- An option word in its two copies, each absent where its CRC fails (R371). -/
structure OptWord where
  a : Option Word32
  b : Option Word32
deriving DecidableEq, Repr

/-- The word: of either copy that is good. -/
def OptWord.get (x : OptWord) : Option Word32 := match x.a with | some v => some v | none => x.b

/-- A word written to both copies, in turn. -/
def OptWord.both (v : Word32) : OptWord := ⟨some v, some v⟩

/-- A firmware slot: the bytes of its two images (R348). -/
structure FwSlot where
  sfw : List Byte
  cpfw : List Byte
deriving DecidableEq, Repr

/-- An SPDM session (R353): its number, its secret, and whether FINISH has completed the handshake. -/
structure Session where
  id : Nat
  secret : List Byte
  finished : Bool
deriving DecidableEq, Repr

/-- An alias certificate (R352 to R355): its extension and whether it has been signed. -/
structure Cert where
  ext : List Byte
  signed : Bool
deriving DecidableEq, Repr

/-- Security beside the SEC registers (chapter 17): lifecycle, OTP counter, revoked key sets, slots and option words in non-volatile
memory; the last certificate signed and the one being signed, what the attested fields were when it was issued, requests that await it
(path; 0 GET_CERTIFICATE, 1 CHALLENGE, 2 GET_DIGESTS, 3 KEY_EXCHANGE; nonce or exchange data); CDI0; the DeviceID and the alias key pairs,
by their private ECDSA and ML-DSA halves; whether the UDS is locked (R351); sessions; IDE keys by stream, and the streams that have failed
and stopped; activation in progress; whether no certificate has been signed since the last restart. -/
structure Security where
  lifecycle : Nat
  otp : Nat
  revoked : BitVec 4
  slots : Vector FwSlot 2
  options : Vector OptWord 16
  running : Option FwSlot
  cert : Option Cert
  signing : Option Cert
  issued : List Byte
  waiting : List (Bool × Nat × List Byte)
  cdi0 : List Byte
  devEc : List Byte
  devMl : List Byte
  aliasEc : List Byte
  aliasMl : List Byte
  udsLocked : Bool
  sessions : List Session
  ideKeys : List (Nat × List Byte)
  ideDown : List Nat
  activating : Bool
  noCert : Bool
deriving DecidableEq, Repr

/-- A record in the safety die's pending queue (R338): class, number, bytes, and the attempts made at its delivery. -/
structure QRec where
  cls : Nat
  seq : Nat
  bytes : List Byte
  attempts : Nat
deriving DecidableEq, Repr

/-- An HDM decoder (R301): host base, size, and the DPA it begins at. -/
structure Hdm where
  base : Nat
  size : Nat
  dpa : Nat
deriving DecidableEq, Repr

/-- The Ifendi monitor beside the DBG registers (chapter 22): the challenge outstanding, the operating seconds of the failures, and
the trace ring: frame, cycle, PC and SEQ.STATUS by ring index. -/
structure Monitor where
  challenge : Option (List Byte)
  fails : List Nat
  trace : List (Nat × (Nat × Nat × Nat × Nat))
deriving DecidableEq, Repr

end Sys2Proof.Machine
end

