-- ==== Sys2Proof/Machine/State.lean ====
section
/-!
DEFINITION. The state of the block as plain data, its faults and refusals, and the state right after power-on reset.
-/
namespace Sys2Proof.Machine

/-- The whole state: the queue of waiting commands, the registers, the cores and the rest of the module. -/
structure State where
  /-- Commands waiting, first in, first out. -/
  pending : List Instr
  /-- The cycle of the present frame of the last timed event (R3, R26). -/
  cycle : Nat
  /-- Registers of register space outside the cores' sub-blocks, by register-space offset; unlisted: the reset value. -/
  regs : List (Nat × Word32)
  /-- High words latched by low-word reads, by 16 × offset + requester (R389). -/
  shadows : List (Nat × Word32)
  /-- Pending guarded writes, by 16 × block + requester: register offset and value (R394). -/
  guards : List (Nat × (Nat × Word32))
  /-- GLB.GSTAT of each requester, PENDING apart (R396). -/
  gstat : List (Nat × Word32)
  cores : Vector Core 96
  /-- The active gang map: each core's leader (R12, R13). -/
  gang : Vector (Fin 96) 96
  parts : Vector Part 8
  /-- Stack-local windows in force, by window number (R228). -/
  slwinNow : List (Nat × Word32)
  /-- The once-per-frame sample of R323 of each die: junction temperature (0.125 °C) and core voltage (mV). -/
  dieTemp : Vector Int 2
  dieVolt : Vector Nat 2
  /-- HBM content as written, by 2^37 × stack + stack offset; by the same key / 32 the poisoned sectors, those whose poison comes of an
  injection, and the errors that stored symbols carry (R225, R229, R235, R240). -/
  hbm : Store
  hbmPois : List (Nat × Bool)
  hbmInj : List (Nat × Bool)
  damage : List (Nat × List SymErr)
  /-- Lines of the stacks that have failed, each stuck at 0 or 1, by 36 × (32 × stack + pseudo-channel) + line (R229); and those classed
  as line faults (R234). -/
  memLines : List (Nat × Bool)
  lineFaults : List Nat
  /-- The errors that reads of the stacks have found, injected ones apart (R233, R234). -/
  memErrs : List MemErr
  /-- Whether the poison that the last poisoned read delivered comes of injections alone (R240). -/
  injPois : Bool
  /-- What the host has answered to reads of its memory and no read has taken yet (R304), with its poison. -/
  hostIn : Store
  hostPois : List (Nat × Bool)
  /-- Increments, arrivals and flags on their way (Table 9-1). -/
  flights : List Flight
  /-- Rounds released since each barrier was configured: dies 0 and 1 from 0 and 64, the module from 128 (R193). -/
  rounds : List (Nat × Nat)
  /-- Barrier configurations in force, those that await their tick window, and BARSTAT as captured at cycle 1,280, by the same keys. -/
  barCfg : List (Nat × Word32)
  barPend : List Nat
  barCap : List (Nat × Word32)
  /-- Gang-map commits that await the tick window: cluster, and whether the map is the split one (R13). -/
  gangPend : List (Nat × Bool)
  /-- What the tick window in progress has still to apply, as found at its start (R14): array remaps by core, failed marks by 100 + core,
  gang-map commits by 200 + cluster, partition changes by 300 + partition. -/
  winDue : List Nat
  /-- A reset of the whole compute domain in progress (R367). -/
  coreRst : Option RStage
  /-- A FATAL fault has happened: compute returns only through a system or power-on reset (R333). -/
  fatal : Bool
  /-- The time source: consecutive frames with a measured offset within 5 ns, the last frame measured, and an offset above 10 ns (R40). -/
  lockRun : Nat
  lockFrame : Nat
  lockLost : Bool
  /-- A step frame in progress: the frame number its tick adopts and its length in cycles (R41). -/
  step : Option (Nat × Nat)
  /-- The ports of the Chain, the messages that await their command, the requests that await a response, and the next tag. -/
  ports : Vector Port 12
  inbox : List InMsg
  reqs : List ChReq
  nextTag : Nat
  bushels : Vector Bushel 12
  errPend : List ErrRec
  /-- The safety die's shadow of the history (R342) by the keys of Ops, its event log, and what non-volatile memory holds of both. -/
  hist : List (Nat × Nat)
  evlog : List (List Byte)
  nv : Vector NvCopy 2
  /-- Pod-barrier releases held for their frames: barrier, frame, round; and rounds whose arrival has been sent (R194). -/
  podRel : List (Nat × Nat × Nat)
  podSent : List (Nat × Nat)
  /-- The pending queue of records, whether none has been written since power-on or system reset, the bytes of the newest record, and
  whether PF vector 0 has been raised for the log in this frame (R334, R337 to R339). -/
  errq : List QRec
  firstRec : Bool
  lastRec : List Byte
  logMsi : Bool
  /-- Start-up, pins, non-volatile write pulse and the system reset it delays (R364 to R369). -/
  phase : Phase
  pwrEn : Bool
  perst : Bool
  nvPulse : Bool
  rstDelayed : Option Nat
  /-- A power state accepted and not yet in force (R375). -/
  psPend : Option Nat
  /-- The range of HBM under a requested scrub: device address and length (R361). -/
  scrub : Option (Nat × Nat)
  /-- Sectors written while an HBM scrub was in progress, with each write's bytes, as a mask, and its poison (R361). -/
  scrubW : List (Nat × List (Nat × Bool))
  power : Power
  sec : Security
  mon : Monitor
  /-- The safety die's clock in µs since manufacture (R342). -/
  clock : Nat
  /-- CXL: lines the host holds, oldest first; its answers to snoops that no access has taken yet; HDM decoders; VFs enabled. -/
  hostLines : List Nat
  snoopIn : List (Nat × Option (List Byte))
  hdm : List Hdm
  vfs : Nat
  /-- The base address of the PF's BAR0; of every function, by 256 × function + index, the words written to its MSI-X table; and the
  vectors pending there, by 64 × function + vector (R298, R299). -/
  bar0 : Nat
  msix : List (Nat × Word32)
  msixPend : List Nat
  /-- The safety die's I3C dynamic address (R409). -/
  i3cAddr : Option Nat
  out : List Output
  /-- The counter that free values are drawn with. -/
  freeCtr : Nat
  /-- The next identifier of an operation. -/
  nextId : Nat
deriving DecidableEq, Repr

/-- Why the machine stops with a fault. -/
inductive Fault where
  /-- Raised by no command: every access the spec describes to an address without memory has an effect of its own (R164, R176, R400); safe. -/
  | noSuchAddress
deriving DecidableEq, Repr

/-- Why a command has no meaning. -/
inductive Refusal where
  /-- For an arm of `exec` without a meaning; every arm has one, so nothing raises it; safe. -/
  | notModelled (mnemonic : String)
deriving DecidableEq, Repr

/-- The Hogshead and the governor after power-on, with the wear that non-volatile memory holds (R320, R326). -/
def Power.start (wear : Nat) (cap : Bool) : Power :=
  { hog := 0, hist := [], sum := 0, frames := 0, wear := wear, wearNv := wear, capNv := cap, hotFr := 0, coolFr := 0, hotNow := none,
    hot105 := 0, requests := [],
    accepted := [], release := false, stopAll := false, excursion := false, failed := false }

/-- The option words of manufacture (Table 18-5): slot A, the default limits and reserve. -/
def defaultOptions : Vector OptWord 16 :=
  Vector.ofFn (fun i => OptWord.both (if i = 1 then 0x0AF00898 else if i = 2 then 20 else 0))

/-- The non-volatile security state of a production module as it leaves manufacture, and no volatile one. -/
def Security.factory : Security :=
  { lifecycle := 2, otp := 0, revoked := 0, slots := Vector.ofFn (fun i => ⟨Config.factoryImage i.val 1, Config.factoryImage i.val 2⟩),
    options := defaultOptions, running := none, cert := none, signing := none, issued := [], waiting := [], cdi0 := [],
    devEc := [], devMl := [], aliasEc := [], aliasMl := [], udsLocked := false, sessions := [], ideKeys := [], ideDown := [],
      activating := false, noCert := true }

/-- A core before the first tick: off, its memory undefined until it is scrubbed (Table 18-9). -/
def Core.cold (gen : Nat) : Core := { Core.zero .off with lm := ⟨gen, []⟩ }

/-- A partition with every register at its reset value. -/
def Part.start (n : Nat) : Part := { Part.zero with domNow := BitVec.ofNat 32 (0x1000 + n) }

/-- The module right after a power-on reset: the safety die leaves reset and the boot ROM begins (Table 18-4, phase 1). -/
def State.reset : State :=
  { pending := [], cycle := 0, regs := [], shadows := [], guards := [], gstat := [],
    cores := Vector.ofFn (fun c => Core.cold (c.val + 3)), gang := Vector.ofFn id, parts := Vector.ofFn (fun n => Part.start n.val),
    slwinNow := [], dieTemp := Vector.replicate 2 0, dieVolt := Vector.replicate 2 0, hbm := ⟨2, []⟩, hbmPois := [], hbmInj := [], damage := [],
    memLines := [], lineFaults := [], memErrs := [], injPois := false,
    hostIn := ⟨1, []⟩, hostPois := [], flights := [], rounds := [], barCfg := [], barPend := [], barCap := [], gangPend := [], winDue := [],
    coreRst := none, fatal := false, lockRun := 0, lockFrame := 0, lockLost := false, step := none, ports := Vector.replicate 12 Port.zero,
      inbox := [], reqs := [],
    nextTag := 0, bushels := Vector.replicate 12 Bushel.zero, errPend := [], hist := [], evlog := [], nv := Vector.replicate 2 ⟨[], [], true⟩,
    podRel := [], podSent := [], errq := [], firstRec := true, lastRec := [], logMsi := false, phase := .boot,
    pwrEn := true, perst := true, nvPulse := false, rstDelayed := none, psPend := none,
    scrub := none, scrubW := [], power := Power.start 0 false, sec := Security.factory,
    mon := ⟨none, [], []⟩, clock := 0, hostLines := [], snoopIn := [], hdm := [], vfs := 0, bar0 := 0, msix := [], msixPend := [],
      i3cAddr := none, out := [],
    freeCtr := 100, nextId := 1 }

end Sys2Proof.Machine
end

