-- ==== Sys2Proof/Machine/Ops.lean ====
section
/-!
DEFINITION. The named operations over the state: stores, registers and fields, cores and gangs, partitions, the error record and
the stopping of a partition, local memory, device memory and address translation.
-/
namespace Sys2Proof.Machine

/-! ## Stores -/

/-- The byte at key `a`; undefined content is a free value of its generation (R6). -/
def Store.get (m : Store) (a : Nat) : Byte :=
  match mapFind m.cells a with
  | some v => v
  | none => if m.gen = 0 then 0 else Config.freeByte m.gen a

/-- Write one byte; zero is not listed in a store whose unlisted bytes read 0. -/
def Store.put (m : Store) (a : Nat) (v : Byte) : Store :=
  { m with cells := if m.gen = 0 ∧ v = 0 then mapErase m.cells a else mapSet m.cells a v }

/-- `n` bytes from key `a`. -/
def Store.getN (m : Store) (a n : Nat) : List Byte := (List.range n).map (fun i => m.get (a + i))

/-- Write bytes from key `a` upwards. -/
def Store.putN (m : Store) : Nat → List Byte → Store
  | _, [] => m
  | a, b :: r => (m.put a b).putN (a + 1) r

/-- A row, undefined where unlisted unless `gen` is 0. -/
def Rows.get {w : Nat} (free : Nat → Nat → BitVec w) (m : Rows w) (a : Nat) : BitVec w :=
  match mapFind m.rows a with
  | some v => v
  | none => if m.gen = 0 then 0 else free m.gen a

def Rows.put {w : Nat} (m : Rows w) (a : Nat) (v : BitVec w) : Rows w :=
  { m with rows := if m.gen = 0 ∧ v = 0 then mapErase m.rows a else mapSet m.rows a v }

/-- The poison of any 32-byte sector that `n` bytes from `a` touch. -/
def sectPoison (z : List (Nat × Bool)) (a n : Nat) : Bool :=
  n ≠ 0 && (List.range ((a + n - 1) / 32 + 1 - a / 32)).any (fun i => mapGet false z (a / 32 + i))

/-- Poison of the sectors after a write of `n` bytes at `a`: a whole sector takes the data's poison, a part adds it (R163, R224). -/
def sectMark (z : List (Nat × Bool)) (a n : Nat) (p : Bool) : List (Nat × Bool) :=
  if n = 0 then z else
  (List.range ((a + n - 1) / 32 + 1 - a / 32)).foldl (fun z i =>
    let k := a / 32 + i
    mapPut false z k (if a ≤ 32 * k ∧ 32 * k + 32 ≤ a + n then p else (mapGet false z k || p))) z

/-! ## Registers -/

/-- Replace bits [hi:lo] of a word. -/
def setBits (hi lo : Nat) (v : Nat) (w : Word32) : Word32 :=
  let m : Word32 := BitVec.ofNat 32 ((2 ^ (hi + 1 - lo) - 1) * 2 ^ lo)
  (w &&& ~~~m) ||| (BitVec.ofNat 32 (v % 2 ^ (hi + 1 - lo) * 2 ^ lo))

/-- A register of the core by its offset within the core's 1 MiB. -/
def Core.reg (k : Core) (off : Nat) : Word32 := (mapFind k.cregs off).getD (regReset (0x10000000 + off))

def Core.setReg (k : Core) (off : Nat) (v : Word32) : Core :=
  { k with cregs := mapPut (regReset (0x10000000 + off)) k.cregs off v }

def Core.fld (k : Core) (off hi lo : Nat) : Nat := bitsOf hi lo (k.reg off).toNat

def Core.setFld (k : Core) (off hi lo v : Nat) : Core := k.setReg off (setBits hi lo v (k.reg off))

/-- A 64-bit register of the core: low word at `off`, high word 4 above. -/
def Core.reg64 (k : Core) (off : Nat) : Nat := (k.reg off).toNat + 2 ^ 32 * (k.reg (off + 4)).toNat

def Core.setReg64 (k : Core) (off v : Nat) : Core :=
  (k.setReg off (BitVec.ofNat 32 v)).setReg (off + 4) (BitVec.ofNat 32 (v / 2 ^ 32))

/-- Count `n` on a counter that changes only at the tick window (R96, R138, R139, R158, R181). -/
def Core.bump (k : Core) (off n : Nat) : Core :=
  { k with fcount := mapPut 0 k.fcount off (mapGet 0 k.fcount off + n) }

/-- The register at `off`, core sub-blocks apart. -/
def State.reg (s : State) (off : Nat) : Word32 := (mapFind s.regs off).getD (regReset off)

def State.setReg (s : State) (off : Nat) (v : Word32) : State :=
  { s with regs := mapPut (regReset off) s.regs off v }

def State.fld (s : State) (off hi lo : Nat) : Nat := bitsOf hi lo (s.reg off).toNat

def State.setFld (s : State) (off hi lo v : Nat) : State := s.setReg off (setBits hi lo v (s.reg off))

def State.bit (s : State) (off b : Nat) : Bool := s.fld off b b = 1

def State.setBit (s : State) (off b : Nat) (v : Bool) : State := s.setFld off b b (if v then 1 else 0)

def State.reg64 (s : State) (off : Nat) : Nat := (s.reg off).toNat + 2 ^ 32 * (s.reg (off + 4)).toNat

def State.setReg64 (s : State) (off v : Nat) : State :=
  (s.setReg off (BitVec.ofNat 32 v)).setReg (off + 4) (BitVec.ofNat 32 (v / 2 ^ 32))

/-- Add to a counter register of `w` bits that saturates at its largest value. -/
def State.count (s : State) (off n : Nat) : State :=
  s.setReg off (BitVec.ofNat 32 (min ((s.reg off).toNat + n) 0xFFFFFFFF))

/-- Add to a 64-bit counter register that saturates. -/
def State.count64 (s : State) (off n : Nat) : State := s.setReg64 off (min (s.reg64 off + n) (2 ^ 64 - 1))

/-- The frame number TIME.FRAME (R26). -/
def State.frame (s : State) : Nat := s.reg64 (rTIME_FRAME)

/-- The cycle of a tick-window event: in a step frame the window keeps its distances from the frame's end (R41). -/
def State.winCy (s : State) (cy : Nat) : Nat := match s.step with | some (_, len) => cy + len - 1300 | none => cy

/-! ## Cores, gangs, partitions -/

def State.core (s : State) (c : Fin 96) : Core := s.cores[c]

def State.setCore (s : State) (c : Fin 96) (k : Core) : State := { s with cores := s.cores.set c.val k c.isLt }

def State.modCore (s : State) (c : Fin 96) (g : Core → Core) : State := s.setCore c (g (s.core c))

/-- Every core, ascending. -/
def allCores : List (Fin 96) := List.finRange 96

/-- Core index from a number; out of range gives core 0, which callers exclude. -/
def coreOf (n : Nat) : Fin 96 := if h : n < 96 then ⟨n, h⟩ else 0

/-- The members of the core's gang, ascending (R12). -/
def State.members (s : State) (c : Fin 96) : List (Fin 96) := allCores.filter (fun m => s.gang[m] = s.gang[c])

/-- Apply a state operation for every member of the core's gang in ascending order. -/
def State.eachMember (s : State) (c : Fin 96) (g : Fin 96 → State → State) : State :=
  (s.members c).foldl (fun s m => g m s) s

/-- Clusters in force of partition p (PARTn.STATUS.ACTIVE). -/
def State.clusters (s : State) (p : Nat) : Nat := s.fld (rPART_STATUS p) 7 0

/-- Whether core c lies in partition p. -/
def State.inPart (s : State) (p : Nat) (c : Fin 96) : Bool := (s.clusters p).testBit (c.val / 12)

/-- The partition of core c, if any (R305). -/
def State.partOf (s : State) (c : Fin 96) : Option Nat := (List.range 8).find? (fun p => s.inPart p c)

/-- The cores of partition p. -/
def State.coresOf (s : State) (p : Nat) : List (Fin 96) := allCores.filter (fun c => s.inPart p c)

def partIx (p : Nat) : Fin 8 := if h : p < 8 then ⟨p, h⟩ else 0

def State.part (s : State) (p : Nat) : Part := s.parts[partIx p]

def State.modPart (s : State) (p : Nat) (g : Part → Part) : State :=
  { s with parts := s.parts.set (partIx p).val (g (s.part p)) (partIx p).isLt }

/-- Draw the counter of free values. -/
def State.fresh (s : State) : State := { s with freeCtr := s.freeCtr + 1 }

/-- The partition a core runs for. -/
def Core.part (k : Core) : Nat := match k.launch with | some l => l.part | none => 0

/-- Note that a layout engine, a Chain message or the host reached partition p in this frame (R197). -/
def State.touch (s : State) (p : Nat) : State := s.modPart p (fun q => { q with busyFrame := true })

/-! ## Error summary and records -/

/-- Bit numbers of UCB.ERRSUM (R17). -/
def eCE : Nat := 0
def eUE : Nat := 1
def ePOIS : Nat := 2
def eREPLAY : Nat := 3
def eCSFAIL : Nat := 4
def eSLIP : Nat := 5
def ePROG : Nat := 6
def eDEAD : Nat := 7
def eRETIRE : Nat := 8

/-- Set an ERRSUM bit of the module (R18). -/
def State.errsumMod (s : State) (b : Nat) : State := s.setBit (rUCB_mod_ERRSUM) b true

/-- Set an ERRSUM bit in a core and every enclosing unit (R18). -/
def State.errsum (s : State) (c : Fin 96) (b : Nat) : State :=
  (((s.modCore c (fun k => k.setFld (kUCB_core_ERRSUM) b b 1)).setBit (rUCB_cl_ERRSUM (c.val / 12)) b true).setBit
    (rUCB_die_ERRSUM (c.val / 48)) b true).errsumMod b

/-- Set an ERRSUM bit in physical array ph of a core and every enclosing unit (R18). -/
def State.errsumArr (s : State) (c : Fin 96) (ph b : Nat) : State :=
  (s.modCore c (fun k => k.setFld (kUCB_arr_ERRSUM ph) b b 1)).errsum c b

/-- UNIT of a core (Table 16-4). -/
def State.unitCore (s : State) (c : Fin 96) : Nat :=
  3 + 16 * c.val + 2 ^ 14 * (c.val / 48) + 2 ^ 15 * (c.val / 12) +
    (match s.partOf c with | some p => 2 ^ 18 * p + 2 ^ 21 | none => 0)

/-- UNIT of physical array ph of a core. -/
def State.unitArray (s : State) (c : Fin 96) (ph : Nat) : Nat := s.unitCore c + 1 + 2 ^ 11 * ph

/-- A record of what is detected now (R334): the record waits for its arrival at the safety die. -/
def State.record (s : State) (cls unit op action addr subkind synd : Nat) (inj : Bool) : State :=
  let die := bitsOf 14 14 unit
  let kind := bitsOf 3 0 unit
  let onDie := decide (1 ≤ kind ∧ kind ≤ 8)
  let t := if onDie then (if die = 0 then s.dieTemp[0] else s.dieTemp[1]) else max s.dieTemp[0] s.dieTemp[1]
  let v := if die = 0 then s.dieVolt[0] else s.dieVolt[1]
  let r : ErrRec :=
    { cls := cls, inj := inj, unit := unit, op := op, action := action, addr := addr,
      subkind := subkind, synd := synd, frame := s.frame, cycle := s.cycle, locked := s.bit (rTIME_STATUS) 0, temp := (t % 65536).toNat,
      vcore := v, waiters := 0, detail := [] }
  { s with errPend := s.errPend ++ [r] }

/-- Raise an MSI-X vector of a function (R300): its message leaves, or stays pending where the vector is masked (log entry 90). -/
def State.raise (s : State) (fn v : Nat) : State :=
  let w (i : Nat) : Nat := (mapGet 0 s.msix (256 * fn + 4 * v + i)).toNat
  let s := { s with out := s.out ++ [Output.msix fn v] }
  if w 3 % 2 = 1 then { s with msixPend := if s.msixPend.contains (64 * fn + v) then s.msixPend else s.msixPend ++ [64 * fn + v] }
  else { s with out := s.out ++ [Output.message (w 0 + 2 ^ 32 * w 1) (w 2)] }

/-- The ALERT# contact follows ERR.STATUS.ALERT (R341). -/
def State.alert (s : State) (on : Bool) : State :=
  { s.setBit (rERR_STATUS) 2 on with
    out := s.out ++ (if s.bit (rERR_STATUS) 2 = on then [] else [Output.pin "ALERT#" (!on)]) }

/-- OP of an instruction (Table 16-3): opcode, slot and buffer index of its bundle. -/
def opField (op slot pc : Nat) : Nat := op + 2 ^ 8 * slot + 2 ^ 10 * pc + 2 ^ 21

/-- The slot of an opcode (Table 10-1): 0 S, 1 M, 2 V, 3 L. -/
def slotOf (op : Nat) : Nat := if op < 0x40 then 0 else if op < 0x50 then 1 else if op < 0xC0 then 2 else 3

/-! ## History (R342, Table 16-7) -/

def hkClass (n : Nat) : Nat := 0x10000 + n
def hkRetrains (p : Nat) : Nat := 0x50000 + p
def hkLosses (p : Nat) : Nat := 0x50010 + p

def State.histGet (s : State) (k : Nat) : Nat := mapGet 0 s.hist k
def State.histSet (s : State) (k v : Nat) : State := { s with hist := mapPut 0 s.hist k v }
def State.histAdd (s : State) (k n : Nat) : State := s.histSet k (s.histGet k + n)

/-! ## Stopping a partition (R332) -/

/-- A partition is stopped when a core of it is STOPPED or FROZEN (R312). -/
def State.isStopped (s : State) (p : Nat) : Bool :=
  (s.coresOf p).any (fun c => (s.core c).st = .stopped || (s.core c).st = .frozen)

/-- Discard queued transfers at a stop (R177); running ones are dealt with by the layout engine's own operation. -/
def Core.dropQueued (k : Core) : Core := { k with xfers := k.xfers.filter (·.running) }

/-- States that a stop leaves alone: cores out of service. -/
def CoreSt.inService : CoreSt → Bool
  | .failed | .off | .inReset => false
  | _ => true

/-- Stop partition p in state `st` (R332), `c` and `cause` being the first fault of Table 14-6; a partition already stopped is
left as it is. -/
def State.stopPart (s : State) (p c cause : Nat) (st : CoreSt) : State :=
  if s.isStopped p then s else
    let s := (s.coresOf p).foldl (fun s m => s.modCore m (fun k =>
      if k.st.inService then { k.dropQueued with st := st, active := false } else k)) s
    s.modPart p (fun q => { q with firstFault := some (c, cause) })

/-- Whether the core's partition had stopped before what happens now: a fault then writes its record and changes nothing else (R332). An
instruction of the very bundle that stopped it, in the same cycle, is still under way. -/
def Core.shut (k : Core) : Bool := (k.st = .stopped || k.st = .frozen) && k.view.isNone

/-- What a program fault of core c leaves beside the stop (R206): ERRSUM.PROG and a record of class PROGRAM. `unit` is the cause of
Table 14-6, `freg` the unit's fault register, `addr` LAY.FADDR when set. -/
def State.progNote (s : State) (c : Fin 96) (unit : Nat) (freg : Nat) (op : Nat) (addr : Nat) : State :=
  let s := if (s.core c).shut then s else s.errsum c ePROG
  s.record 4 (s.unitCore c) op 4 addr 6 (unit + 2 ^ 32 * ((s.core c).reg freg).toNat) false

/-- A program fault of core c (R206): the partition stops, ERRSUM.PROG is set and a record of class PROGRAM is written. -/
def State.progFault (s : State) (c : Fin 96) (unit : Nat) (freg : Nat) (op : Nat) (addr : Nat) : State :=
  let s := s.progNote c unit freg op addr
  match s.partOf c with
  | some p => s.stopPart p c.val unit .stopped
  | none => s

/-- Poison consumed by core c (R238): the partition stops, ERRSUM.POISON_USE is set and a record of class POISON is written, marked
where the poison comes of an injection (R240). -/
def State.poisonUse (s : State) (c : Fin 96) (unit op addr : Nat) (inj : Bool := false) : State :=
  let s := if (s.core c).shut then s else s.errsum c ePOIS
  let s := s.record 3 (s.unitCore c) op 4 addr 5 unit inj
  match s.partOf c with
  | some p => s.stopPart p c.val unit .stopped
  | none => s

/-- Whether a core's fault register takes no further fault: it has its first, SEQ.FAULT keeping to it until the next launch though a read
clears it (R222), or the partition had stopped (R332). -/
def Core.hasFault (k : Core) (off : Nat) : Bool :=
  k.shut || decide (k.fld off 3 0 ≠ 0) || (decide (off = kSEQ_FAULT) && k.faulted)

/-- Record a first fault in a core's fault register: nothing once it has one. -/
def Core.faultReg (k : Core) (off : Nat) (v : Nat) : Core :=
  if k.hasFault off then k
  else { k.setReg off (k.reg off ||| BitVec.ofNat 32 v) with faulted := k.faulted || decide (off = kSEQ_FAULT) }

/-- SEQ.FAULT of every cause but 1 (R222): cause, slot, buffer index. -/
def State.seqFault (s : State) (c : Fin 96) (cause slot op : Nat) : State :=
  let s := s.modCore s.gang[c] (fun k => k.faultReg (kSEQ_FAULT) (cause + 16 * slot + 2 ^ 16 * k.pc))
  s.progFault s.gang[c] 1 (kSEQ_FAULT) op 0

/-- LAY.FAULT with its slot (R161, R181). -/
def State.layFault (s : State) (c : Fin 96) (cause slot op : Nat) : State :=
  let s := s.modCore c (fun k => k.faultReg (kLAY_FAULT) (cause + 16 * slot))
  s.progFault c 4 (kLAY_FAULT) op 0

/-- A translation or protection failure (R176): LAY.FAULT cause 3 and LAY.FADDR. -/
def State.xlateFault (s : State) (c : Fin 96) (addr slot op : Nat) : State :=
  let s := s.modCore c (fun k =>
    if !(k.hasFault (kLAY_FAULT)) then (k.faultReg (kLAY_FAULT) (3 + 16 * slot)).setReg64 (kLAY_FADDR) addr else k)
  s.progFault c 4 (kLAY_FAULT) op addr

/-! ## Local memory (R159 to R163) -/

/-- The end of populated local memory. -/
def lmEnd : Nat := 0xC00000

def Core.lmRead (k : Core) (a n : Nat) : List Byte := k.lm.getN a n

def Core.lmPoison (k : Core) (a n : Nat) : Bool := sectPoison k.lmPois a n

/-- Write bytes from a local offset with one poison indication (R163). -/
def Core.lmWrite (k : Core) (a : Nat) (b : List Byte) (p : Bool) : Core :=
  { k with lm := k.lm.putN a b, lmPois := sectMark k.lmPois a b.length p }

/-! ## Device addresses (R225 to R228, R399) -/

/-- Where a device address lies. -/
inductive Loc where
  | hbm (key : Nat)
  | lm (core : Fin 96) (off : Nat)
  | host (h : Nat)
  | none
deriving DecidableEq, Repr

/-- The end of HBM in device addresses: 1,152 GiB. -/
def hbmEnd : Nat := 0x12000000000

/-- The exclusive or of the 4-bit nibbles of q (R225). -/
def nibXor (q : Nat) : Nat := (List.range 10).foldl (fun f i => f ^^^ (q / 16 ^ i % 16)) 0

/-- Placement under R225: stack and stack offset. -/
def placeR225 (a : Nat) : Nat × Nat :=
  let u := a / 256
  let q := u / 12
  ((u % 12 + nibXor q % 12) % 12, q * 256 + a % 256)

/-- Placement under the windows in force (R227), else R225. -/
def State.place (s : State) (a : Nat) : Nat × Nat :=
  let g := 2 ^ 30
  match s.slwinNow.find? (fun w =>
      let b := bitsOf 6 0 w.2.toNat
      let z := bitsOf 14 8 w.2.toNat
      w.2.getLsbD 31 && decide (b * 12 * g ≤ a ∧ a < b * 12 * g + 12 * z * g)) with
  | some w =>
    let b := bitsOf 6 0 w.2.toNat
    let z := bitsOf 14 8 w.2.toNat
    let d := a - b * 12 * g
    (d / (z * g), b * g + d % (z * g))
  | none => placeR225 a

/-- The HBM key of a stack and offset. -/
def hbmKey (p : Nat × Nat) : Nat := p.1 * 2 ^ 37 + p.2

/-- Where a device address lies (Table 20-6). -/
def State.locate (s : State) (a : Nat) : Loc :=
  if a < hbmEnd then .hbm (hbmKey (s.place a))
  else if 0xA00000000000 ≤ a ∧ a < 0xA00060000000 then
    let c := (a - 0xA00000000000) / 0x1000000
    let o := a % 0x1000000
    if o < lmEnd then .lm (coreOf c) o else .none
  else if 0xC00000000000 ≤ a ∧ a < 0xE00000000000 then .host (a - 0xC00000000000)
  else .none

/-- The device address at a stack and offset: the inverse of the placement in force (R225, R227). -/
def State.unplace (s : State) (t o : Nat) : Nat :=
  let g := 2 ^ 30
  match s.slwinNow.find? (fun w =>
      let b := bitsOf 6 0 w.2.toNat
      let z := bitsOf 14 8 w.2.toNat
      w.2.getLsbD 31 && decide (b * g ≤ o ∧ o < (b + z) * g)) with
  | some w =>
    let b := bitsOf 6 0 w.2.toNat
    let z := bitsOf 14 8 w.2.toNat
    b * 12 * g + t * z * g + (o - b * g)
  | none =>
    let q := o / 256
    (q * 12 + (t + 12 - nibXor q % 12) % 12) * 256 + o % 256

/-- UNIT of memory controller n. -/
def unitMc (n : Nat) : Nat := 5 + 16 * n + 2 ^ 14 * (n / 6)

/-- Stack and pseudo-channel of sector `k` (key / 32) as one number (R226). -/
def pcKey (k : Nat) : Nat :=
  let off := 32 * k % 2 ^ 37
  32 * (32 * k / 2 ^ 37) + (bitsOf 12 8 off ^^^ bitsOf 17 13 off)

/-- The four bits of data symbol `sym` of codeword `cw` of sector `k`, as stored (Table 11-1). -/
def State.symbolAt (s : State) (k cw sym : Nat) : Nat := (s.hbm.get (32 * k + 16 * cw + sym / 2)).toNat / 16 ^ (sym % 2) % 16

/-- The errors that a read of sector `k` meets (R229): those its symbols carry, and each line stuck at a value that its symbol does not
have. The check bits' values are no part of the model, so whether a stuck check line shows is free. -/
def State.errsOf (s : State) (k : Nat) : List SymErr :=
  let held := (mapFind s.damage k).getD []
  let stuck := s.memLines.filter (fun l => l.1 / 36 = pcKey k)
  held.filter (fun e => !(stuck.any (fun l => l.1 % 36 = e.sym))) ++ stuck.flatMap (fun l => [0, 1].filterMap (fun cw =>
    let sym := l.1 % 36
    let v := if sym < 32 then s.symbolAt k cw sym else Config.freeNat s.freeCtr / 16 ^ (2 * (sym - 32) + cw) % 16
    let mask := v ^^^ (if l.2 then 15 else 0)
    if mask = 0 then none else some ⟨cw, sym, mask, false⟩))

/-- How a codeword decodes (Table 11-2). -/
inductive CwEnd where
  | clean
  | corrected (sym : Nat)
  | uncorrectable
deriving DecidableEq, Repr

/-- Decode a codeword with these symbols in error (R230), and the errors that its data keeps: one symbol is corrected, two are
uncorrectable, and three or more pass as clean, are miscorrected or are uncorrectable as `free` has it. -/
def cwDecode (free : Nat) (l : List SymErr) : CwEnd × List SymErr :=
  match l with
  | [] => (.clean, [])
  | [e] => (.corrected e.sym, [])
  | [_, _] => (.uncorrectable, l)
  | e :: _ =>
    match free % 3 with
    | 0 => (.clean, l)
    | 1 => (.corrected (free / 3 % 36), ⟨e.cw, free / 3 % 36, free / 108 % 15 + 1, false⟩ :: l)
    | _ => (.uncorrectable, l)

/-- The bytes of sector `k` that these errors change, each with the bits changed (Table 11-1). -/
def errBytes (k : Nat) (l : List SymErr) : List (Nat × Byte) :=
  l.foldl (fun m e =>
    if e.sym ≥ 32 then m
    else
      let a := 32 * k + 16 * e.cw + e.sym / 2
      mapPut 0 m a (mapGet 0 m a ^^^ BitVec.ofNat 8 (e.mask * 16 ^ (e.sym % 2)))) []

/-- The stored data of HBM with these bits changed. -/
def State.flip (s : State) (x : List (Nat × Byte)) : State :=
  { s with hbm := x.foldl (fun m e => m.put e.1 (m.get e.1 ^^^ e.2)) s.hbm }

/-- What decoding a sector tells: MCn.ERRADDR, MCn.ERRINFO, and a record of class `cls` (Table 11-2). -/
def State.memNote (s : State) (k cls action : Nat) (scrub inj : Bool) (cw sym : Nat) : State :=
  let n := 32 * k / 2 ^ 37
  let off := 32 * k % 2 ^ 37
  let info := pcKey k % 32 + 2 ^ 5 * cw + 2 ^ 6 * sym + 2 ^ 12 * cls + (if scrub then 2 ^ 14 else 0) + (if inj then 2 ^ 15 else 0)
    + 2 ^ 16 * (Config.freeNat s.freeCtr % 2 ^ 16)
  let s := { (s.setReg64 (rMC_ERRADDR n) off).setReg (rMC_ERRINFO n) (BitVec.ofNat 32 info) with freeCtr := s.freeCtr + 1 }
  s.record cls (unitMc n) 0 action off 1 info inj

/-- Errors found that are not injected count toward the repair of their row (R233, R240). -/
def State.memEvents (s : State) (k : Nat) (inj : Bool) (l : List (Option Nat)) : State :=
  if inj then s else { s with memErrs := s.memErrs ++ l.map (fun y => ⟨k, s.clock, y⟩) }

/-- A sector found uncorrectable (Table 11-2): its data stands as stored, and it is written back with the signature (R235). -/
def State.memUncorrectable (s : State) (k : Nat) (l : List SymErr) (scrub : Bool) : State :=
  let inj := l.any (·.inj)
  let cw := ((l.filter (fun e => decide ((l.filter (fun (x : SymErr) => x.cw = e.cw)).length ≥ 2))).head?.map (·.cw)).getD 0
  let s := (s.count (rMC_UE (32 * k / 2 ^ 37)) 1).errsumMod eUE
  let s := (s.memNote k 2 3 scrub inj cw 63).memEvents k inj [none]
  { s.flip (errBytes k l) with
    damage := mapErase s.damage k, hbmPois := mapSet s.hbmPois k true, hbmInj := mapPut false s.hbmInj k (l.all (·.inj)) }

/-- Decode the sector `k` (key / 32) as an access or a scrub does (Table 11-2): correct it or poison it, count and record. Its second
part is what the data delivered differ by from the data that then stand. The sector takes its worse codeword's outcome; a poisoned one
with further errors decodes as poisoned or as uncorrectable. -/
def State.decodeSector (s : State) (k : Nat) (scrub : Bool) : State × List (Nat × Byte) :=
  if s.damage = [] ∧ s.memLines = [] then (s, [])
  else
    let l := s.errsOf k
    if l = [] then (s, [])
    else
      let free := Config.freeNat (s.freeCtr + 1)
      let s := { s with freeCtr := s.freeCtr + 2 }
      if mapGet false s.hbmPois k then
        if free % 2 = 0 then (s, errBytes k l) else (s.memUncorrectable k l scrub, [])
      else
        let a := cwDecode free (l.filter (·.cw = 0))
        let b := cwDecode (free / 2 ^ 16) (l.filter (·.cw = 1))
        if a.1 = .uncorrectable ∨ b.1 = .uncorrectable then (s.memUncorrectable k l scrub, [])
        else match a.1, b.1 with
        | .clean, .clean => (s, errBytes k l)
        | x, y =>
          let inj := l.any (·.inj)
          let first := match x, y with | .corrected i, _ => (0, i) | _, .corrected i => (1, i) | _, _ => (0, 63)
          let found := [x, y].filterMap (fun z => match z with | .corrected i => some (some i) | _ => none)
          let s := (s.count64 (rMC_CE (32 * k / 2 ^ 37)) 1).errsumMod eCE
          let s := (s.memNote k 1 1 scrub inj first.1 first.2).memEvents k inj found.eraseDups
          ({ s.flip (errBytes k (a.2 ++ b.2)) with damage := mapErase s.damage k }, [])

/-- The distinct sector keys that HBM bytes at these keys touch. -/
def sectorsOf (ks : List Nat) : List Nat := (ks.map (· / 32)).eraseDups

/-- Perform an armed injection on a sector just written (R240). -/
def State.applyInject (s : State) (k : Nat) : State :=
  let n := 32 * k / 2 ^ 37
  let ctl := s.reg (rMC_INJCTL n)
  if ctl.getLsbD 31 = true ∧ hbmKey (s.place (s.reg64 (rMC_INJADDR n))) / 32 = k
      ∧ s.reg64 (rMC_INJADDR n) < hbmEnd then
    let bad (i : Nat) : SymErr := ⟨bitsOf 14 14 ctl.toNat, i, 15, true⟩
    let s0 := bitsOf 7 2 ctl.toNat
    let s1 := bitsOf 13 8 ctl.toNat
    let s := s.setBit (rMC_INJCTL n) 31 false
    match bitsOf 1 0 ctl.toNat with
    | 1 => { s with damage := mapSet s.damage k [bad s0] }
    | 2 => { s with damage := mapSet s.damage k [bad s0, bad s1] }
    | 3 => { s with hbmPois := mapPut false s.hbmPois k true, hbmInj := mapPut false s.hbmInj k true }
    | _ => s
  else s

/-- A back-invalidate snoop of the line l = key / 64 (R303): counted, and the memory takes the host's data where the host held the line
modified. An answer that no command has given leaves the line undefined (log entry 46). -/
def State.snoopLine (s : State) (l : Nat) : State :=
  let s := s.count64 (rCXL_BISNP) 1
  let ans := mapFind s.snoopIn l
  let s := { s with hostLines := s.hostLines.filter (· ≠ l), snoopIn := mapErase s.snoopIn l, freeCtr := s.freeCtr + 1,
                    out := s.out ++ [Output.bisnp (s.unplace (64 * l / 2 ^ 37) (64 * l % 2 ^ 37))] }
  let data := match ans with
    | some none => none
    | some (some b) => some b
    | none => some ((List.range 64).map (fun i => Config.freeByte (s.freeCtr - 1) i))
  match data with
  | none => s
  | some b =>
    let s := { s with hbm := s.hbm.putN (64 * l) b, hbmPois := mapErase (mapErase s.hbmPois (2 * l)) (2 * l + 1),
                      hbmInj := mapErase (mapErase s.hbmInj (2 * l)) (2 * l + 1), damage := mapErase (mapErase s.damage (2 * l)) (2 * l + 1) }
    (s.applyInject (2 * l)).applyInject (2 * l + 1)

/-- Snoop every line that these keys touch and the host holds. -/
def State.snoop (s : State) (ks : List Nat) : State :=
  if s.hostLines = [] then s
  else ((ks.map (· / 64)).eraseDups.filter s.hostLines.contains).foldl State.snoopLine s

/-- Decode every sector of these HBM keys once, counting delivered poison in MCn.PREAD; the second part is what the delivered bytes differ
by from those that stand. -/
def State.hbmDecode (s : State) (ks : List Nat) : State × List (Nat × Byte) :=
  (sectorsOf ks).foldl (fun (x : State × List (Nat × Byte)) k =>
    let d := x.1.decodeSector k false
    (if mapGet false d.1.hbmPois k then d.1.count (rMC_PREAD (32 * k / 2 ^ 37)) 1 else d.1, x.2 ++ d.2)) (s, [])

/-- Read bytes at HBM keys, with the poison of their sectors. -/
def State.hbmReadRaw (s : State) (ks : List Nat) : State × List Byte × Bool :=
  let r := s.hbmDecode ks
  (r.1, ks.map (fun k => r.1.hbm.get k ^^^ mapGet 0 r.2 k), (sectorsOf ks).any (fun k => mapGet false r.1.hbmPois k))

/-- A read by an agent of the module: lines that the host holds are snooped first (R303). -/
def State.hbmRead (s : State) (ks : List Nat) : State × List Byte × Bool := (s.snoop ks).hbmReadRaw ks

/-- The bytes of a sector that a write covers, as a mask. -/
def writeMask (part : List (Nat × Byte × Bool)) : Nat := part.foldl (fun m x => m ||| 2 ^ (x.1 % 32)) 0

/-- Write bytes, each with its poison, at HBM keys: sector by sector (R224, R235). A whole-sector write replaces damage and takes
the data's poison; a part write decodes the sector first and adds to what that read delivers. -/
def State.hbmWriteRaw (s : State) (kb : List (Nat × Byte × Bool)) : State :=
  (sectorsOf (kb.map (·.1))).foldl (fun (s : State) k =>
    let part := kb.filter (fun x => x.1 / 32 = k)
    let p := part.any (fun x => x.2.2)
    let whole := decide (writeMask part = 2 ^ 32 - 1)
    let s := if whole then { s with hbmInj := mapErase s.hbmInj k }
      else
        let d := s.decodeSector k false
        d.1.flip d.2
    let s := { s with hbm := part.foldl (fun (m : Store) (x : Nat × Byte × Bool) => m.put x.1 x.2.1) s.hbm,
                      damage := mapErase s.damage k,
                      hbmPois := mapPut false s.hbmPois k (p || (!whole && mapGet false s.hbmPois k)) }
    let s : State := if p then { s.count (rMC_PWRITE (32 * k / 2 ^ 37)) 1 with hbmInj := mapErase s.hbmInj k } else s
    let s : State := if s.scrub.isSome then
        { s with scrubW := mapSet s.scrubW k (mapGet [] s.scrubW k ++ [(writeMask part, p)]) } else s
    s.applyInject k) s

/-- A write by an agent of the module: lines that the host holds are snooped first (R303). -/
def State.hbmWrite (s : State) (kb : List (Nat × Byte × Bool)) : State := (s.snoop (kb.map (·.1))).hbmWriteRaw kb

/-- Write bytes, each with its poison, at local offsets: sector by sector (R163). -/
def Core.lmWriteZ (k : Core) (w : List (Nat × Byte × Bool)) : Core :=
  (sectorsOf (w.map (·.1))).foldl (fun (k : Core) q =>
    let part := w.filter (fun x => x.1 / 32 = q)
    let p := part.any (fun x => x.2.2)
    let whole := decide ((part.map (·.1)).eraseDups.length = 32)
    { k with lm := part.foldl (fun (m : Store) (x : Nat × Byte × Bool) => m.put x.1 x.2.1) k.lm,
             lmPois := mapPut false k.lmPois q (p || (!whole && mapGet false k.lmPois q)) }) k

/-- The HBM key of a device address of HBM. -/
def State.hbmKeyOf (s : State) (a : Nat) : Option Nat := match s.locate a with | .hbm k => some k | _ => none

/-- The offset of the data at a device address for an error record: its stack offset, local offset or host address (R238). -/
def State.dataAddr (s : State) (a : Nat) : Nat :=
  match s.locate a with
  | .hbm k => k % 2 ^ 37
  | .lm _ o => o
  | .host h => h
  | .none => a

/-- Runs of bytes at consecutive addresses within one 64-byte line. -/
def lineRuns : List (Nat × Byte × Bool) → List (Nat × List Byte × Bool)
  | [] => []
  | (a, b, p) :: r =>
    match lineRuns r with
    | (a', bs, p') :: t =>
      if a' = a + 1 ∧ a' / 64 = a / 64 then (a, b :: bs, p || p') :: t else (a, [b], p) :: (a', bs, p') :: t
    | [] => [(a, [b], p)]

/-- The host-memory offset of a device address of the host range. -/
def State.hostKeyOf (s : State) (a : Nat) : Option Nat := match s.locate a with | .host h => some h | _ => none

/-- Whether the data at a device address is poisoned. -/
def State.poisAt (s : State) (a : Nat) : Bool :=
  match s.locate a with
  | .hbm k => mapGet false s.hbmPois (k / 32)
  | .lm c o => mapGet false (s.core c).lmPois (o / 32)
  | .host h => mapGet false s.hostPois h
  | .none => false

/-- Whether its poison comes of an injection (R240). -/
def State.injAt (s : State) (a : Nat) : Bool := match s.locate a with | .hbm k => mapGet false s.hbmInj (k / 32) | _ => false

/-- Read the bytes at these device addresses, with their poison. Host bytes are what the host has answered, each taken once
(log entry 10); what it has not answered is free. Unpopulated addresses read 0 (R164). -/
def State.devReadL (s : State) (as : List Nat) : State × List Byte × Bool :=
  let r := (s.snoop (as.filterMap s.hbmKeyOf)).hbmDecode (as.filterMap s.hbmKeyOf)
  let s := r.1
  let b := as.map (fun a => match s.locate a with
    | .hbm k => s.hbm.get k ^^^ mapGet 0 r.2 k
    | .lm c o => (s.core c).lm.get o
    | .host h => s.hostIn.get h
    | .none => 0)
  let p := as.any s.poisAt
  let hs := as.filterMap s.hostKeyOf
  let t := if p then { s with injPois := as.all (fun a => !s.poisAt a || s.injAt a) } else s
  let t := if hs = [] then t else
    { t with hostIn := ⟨t.freeCtr, hs.foldl mapErase t.hostIn.cells⟩, hostPois := hs.foldl mapErase t.hostPois, freeCtr := t.freeCtr + 1 }
  (t, b, p)

/-- Reads of host memory leave as requests, one for each run within a 64-byte line (R304). -/
def State.hostAsk (s : State) (as : List Nat) : State :=
  let hs := (as.filterMap s.hostKeyOf).map (fun h => (h, (0 : Byte), false))
  { s with out := s.out ++ (lineRuns hs).map (fun r => Output.hostRead r.1 r.2.1.length) }

/-- Read `n` bytes from a device address. -/
def State.devRead (s : State) (a n : Nat) : State × List Byte × Bool := s.devReadL ((List.range n).map (a + ·))

/-- Write bytes, each with its poison, at device addresses: HBM, local memories, host memory as outputs (R304); the rest is
discarded (R164). -/
def State.devWriteL (s : State) (w : List (Nat × Byte × Bool)) : State :=
  let hb := w.filterMap (fun x => (s.hbmKeyOf x.1).map (fun k => (k, x.2)))
  let lm := w.filterMap (fun x => match s.locate x.1 with | .lm c o => some (c, o, x.2) | _ => none)
  let ho := w.filterMap (fun x => match s.locate x.1 with | .host h => some (h, x.2) | _ => none)
  let s := if hb = [] then s else s.hbmWrite hb
  let s := (lm.map (·.1)).eraseDups.foldl (fun s c =>
    s.modCore c (fun k => k.lmWriteZ ((lm.filter (fun x => x.1 = c)).map (·.2)))) s
  { s with out := s.out ++ (lineRuns ho).map (fun r => Output.hostWrite r.1 r.2.1 r.2.2) }

/-- Write bytes from a device address with one poison indication. -/
def State.devWrite (s : State) (a : Nat) (b : List Byte) (p : Bool) : State :=
  s.devWriteL (b.mapIdx (fun i x => (a + i, x, p)))

/-! ## Translation (R308, R243) -/

/-- Whether placement (stack, offset) lies in a Bushel private region of any partition (R243). -/
def State.inPriv (s : State) (p : Nat × Nat) : Bool :=
  (List.range 8).any (fun q =>
    let b := s.fld (rBSH_PRIVBASE p.1 q) 15 0 * 2 ^ 21
    let l := s.fld (rBSH_PRIVLEN p.1 q) 15 0 * 2 ^ 21
    decide (b ≤ p.2 ∧ p.2 < b + l))

/-- Whether some address of the HBM page at `base` places into a private region: its 256-byte units, whole 2 MiB of stack offset
at a time, so the first unit on each stack of each 2 MiB step and the last decide. -/
def State.privPage (s : State) (base size : Nat) : Bool :=
  (List.range 8).any (fun q => (List.range 12).any (fun t =>
    let b := s.fld (rBSH_PRIVBASE t q) 15 0 * 2 ^ 21
    let l := s.fld (rBSH_PRIVLEN t q) 15 0 * 2 ^ 21
    if l = 0 then false
    else if s.place base ≠ placeR225 base ∨ s.place (base + size - 1) ≠ placeR225 (base + size - 1) then
      -- a page of a stack-local window lies on one stack, contiguously
      decide ((s.place base).1 = t ∧ (s.place base).2 < b + l ∧ b < (s.place base).2 + size)
    else
      let q0 := base / 256 / 12
      let q1 := (base + size - 1) / 256 / 12
      let inner := decide (max (q0 + 1) (b / 256) < min q1 ((b + l) / 256))
      inner || ([q0, q1].any (fun qq => (List.range 12).any (fun r =>
        let a := (qq * 12 + r) * 256
        decide (base ≤ a ∧ a < base + size ∧ (placeR225 a).1 = t ∧ b ≤ (placeR225 a).2 ∧ (placeR225 a).2 < b + l))))))

/-- What a translation answers. -/
inductive Xlate where
  | ok (a : Nat)
  | fail
  | poison (off : Nat)
deriving DecidableEq, Repr

/-- Whether a leaf's page of `size` bytes at `base` lies wholly in HBM, one core's populated window or the host range (R308). The
host range is unreachable unless CXL.cache is enabled (R296). -/
def State.leafOk (s : State) (base size : Nat) : Bool :=
  if base + size ≤ hbmEnd then !(s.privPage base size)
  else if 0xA00000000000 ≤ base ∧ base + size ≤ 0xA00060000000 then
    decide (base % 0x1000000 + size ≤ lmEnd)
  else decide (0xC00000000000 ≤ base ∧ base + size ≤ 0xE00000000000) && s.bit (rCXL_LINK) 9

/-- Walk levels lv, lv+1, … from the table at `tbl`, one entry per unit of fuel (Table 14-4). -/
def State.walk (s : State) (va : Nat) (write : Bool) : Nat → Nat → Nat → State × Xlate
  | 0, _, _ => (s, .fail)
  | fuel + 1, lv, tbl =>
    let ix := va / 2 ^ (39 - 9 * lv) % 512
    let ea := tbl + 8 * ix
    if ea + 8 > hbmEnd then (s, .fail) else
    let r := s.devRead ea 8
    let s := r.1
    if r.2.2 then (s, .poison (s.place ea).2)
    else
      let e := leNat r.2.1
      let addr := bitsOf 51 12 e * 4096
      if e % 2 = 0 ∨ bitsOf 11 4 e ≠ 0 ∨ bitsOf 63 52 e ≠ 0 then (s, .fail)
      else
        let ps := bitsOf 3 3 e
        let right := if write then bitsOf 2 2 e = 1 else bitsOf 1 1 e = 1
        if lv = 0 then (if ps = 1 then (s, .fail) else s.walk va write fuel 1 addr)
        else if lv = 1 ∧ ps = 0 then s.walk va write fuel 2 addr
        else if ps = 0 then (s, .fail)
        else
          let size := if lv = 1 then 2 ^ 30 else 2 ^ 21
          if addr % size ≠ 0 ∨ ¬ right ∨ ¬ s.leafOk addr size then (s, .fail)
          else (s, .ok (addr + va % size))

/-- Translate a partition virtual address of partition p (R308). -/
def State.translate (s : State) (p va : Nat) (write : Bool) : State × Xlate :=
  if va ≥ 2 ^ 48 then (s, .fail) else
  let base := s.reg64 (rPART_PTBASE p)
  if base % 4096 ≠ 0 then (s, .fail) else s.walk va write 3 0 base

/-- What a range of addresses translates to. -/
inductive XRange where
  | ok (as : List Nat)
  | fail (va : Nat)
  | poison (off : Nat)
deriving DecidableEq, Repr

/-- Translate the `n` bytes from `va`, at most 2 MiB: one page, or two where a 2 MiB boundary lies between (R308). -/
def State.translateN (s : State) (p va n : Nat) (write : Bool) : State × XRange :=
  let m := min n (2 ^ 21 - va % 2 ^ 21)
  match s.translate p va write with
  | (s, .fail) => (s, .fail va)
  | (s, .poison o) => (s, .poison o)
  | (s, .ok a) =>
    let l := (List.range m).map (a + ·)
    if m = n then (s, .ok l)
    else match s.translate p (va + m) write with
      | (s, .fail) => (s, .fail (va + m))
      | (s, .poison o) => (s, .poison o)
      | (s, .ok a') => (s, .ok (l ++ (List.range (n - m)).map (a' + ·)))

/-- A poisoned page-table entry (R308): PARTn.FAULT cause 1, the partition stops with cause 8. -/
def State.ptePoison (s : State) (p : Nat) (c : Fin 96) (op off : Nat) : State :=
  let s := if s.isStopped p = false ∧ s.fld (rPART_FAULT p) 3 0 = 0 then s.setFld (rPART_FAULT p) 3 0 1 else s
  s.poisonUse c 8 op off s.injPois

end Sys2Proof.Machine
end

