-- ==== Sys2Proof/Machine/Operands.lean ====
section
/-!
DEFINITION. The operand forms of an instruction: modifier fields, immediates, scalar registers, tile rows and views, predicates,
carry slots, and the writing of results with poison (spec/06_vector.md, R113 to R120; spec/10_isa.md, R203 to R208).
-/
namespace Sys2Proof

/-! ## Fields -/

/-- Bits [hi:lo] of the modifiers. -/
def Fields.m (f : Fields) (hi lo : Nat) : Nat := Machine.bitsOf hi lo f.mods.toNat

/-- Modifier bit b. -/
def Fields.mb (f : Fields) (b : Nat) : Bool := f.mods.getLsbD b

/-- The sign-extended 32-bit immediate (Table 10-2). -/
def Fields.imm (f : Fields) : Word64 := f.mods.signExtend 64

end Sys2Proof

namespace Sys2Proof.Machine

/-- The instruction word of an opcode and its fields (R203). -/
def wordOf (op : Nat) (f : Fields) : Word64 :=
  (BitVec.ofNat 8 op ++ f.dst ++ f.a ++ f.b ++ f.c ++ f.fmt ++ f.mods : BitVec 64)

/-- The fields of an instruction word (R203). -/
def fieldsOf (w : Word64) : Fields :=
  { dst := w.extractLsb' 51 5, a := w.extractLsb' 46 5, b := w.extractLsb' 41 5, c := w.extractLsb' 36 5,
    fmt := w.extractLsb' 32 4, mods := w.extractLsb' 0 32 }

/-! ## Scalar registers -/

/-- The operand registers an instruction reads: as they stood when its bundle opened (R202). -/
def Core.rd (k : Core) : Opnd := k.view.getD k.opnd

/-- A scalar register as an operand; S0 reads 0 (R207). -/
def Core.rs (k : Core) (r : BitVec 5) : Word64 := if r = 0 then 0 else k.rd.s[r.toNat]'(by have := r.isLt; omega)

/-- Write a scalar register; writes to S0 are discarded (R207). -/
def Core.setS (k : Core) (r : BitVec 5) (v : Word64) : Core :=
  if r = 0 then k
  else { k with opnd := { k.opnd with s := k.opnd.s.set r.toNat v (by have := r.isLt; omega) } }

/-! ## Tiles, predicates and carry slots -/

/-- Row r of tile t as an operand. -/
def Core.trow (k : Core) (t r : Nat) : BitVec 1024 := k.rd.tiles.get Config.freeRow (32 * t + r)

/-- The poison bit of row r of tile t as an operand. -/
def Core.tpz (k : Core) (t r : Nat) : Bool := k.rd.tpois.getLsbD (32 * t + r)

/-- Row r of tile t as it stands now: the old value of a partial write. -/
def Core.trowNow (k : Core) (t r : Nat) : BitVec 1024 := k.opnd.tiles.get Config.freeRow (32 * t + r)

/-- Row r of predicate p as an operand; P0 reads all ones (R115). -/
def Core.prow (k : Core) (p r : Nat) : BitVec 128 :=
  if p = 0 then BitVec.allOnes 128 else k.rd.preds.get Config.freePred (32 * p + r)

/-- The poison bit of row r of predicate p; P0 carries none (R115). -/
def Core.ppz (k : Core) (p r : Nat) : Bool := p ≠ 0 && k.rd.ppois.getLsbD (32 * p + r)

/-- Set or clear bit b of a mask. -/
def maskSet {w : Nat} (m : BitVec w) (b : Nat) (v : Bool) : BitVec w :=
  if v then m ||| BitVec.ofNat w (2 ^ b) else m &&& ~~~(BitVec.ofNat w (2 ^ b))

/-- Write row r of tile t. A whole row takes the poison contribution `z`; a part adds it to the old bit (R117). Rows written
with poison set count in CNT.VPOIS. -/
def Core.setRow (k : Core) (t r : Nat) (v : BitVec 1024) (whole : Bool) (z : Bool) : Core :=
  let key := 32 * t + r
  let p := z || (!whole && k.opnd.tpois.getLsbD key)
  let k := { k with opnd := { k.opnd with tiles := k.opnd.tiles.put key v, tpois := maskSet k.opnd.tpois key p } }
  if p then k.bump (kCNT_VPOIS) 1 else k

/-- Write row r of predicate p under the same rule. -/
def Core.setPRow (k : Core) (p r : Nat) (v : BitVec 128) (whole : Bool) (z : Bool) : Core :=
  let key := 32 * p + r
  let b := z || (!whole && k.opnd.ppois.getLsbD key)
  let k := { k with opnd := { k.opnd with preds := k.opnd.preds.put key v, ppois := maskSet k.opnd.ppois key b } }
  if b then k.bump (kCNT_VPOIS) 1 else k

/-- A carry slot's 128 bytes as an operand. -/
def Core.slotRow (k : Core) (n : Nat) : BitVec 1024 := k.rd.carry.get Config.freeRow n

/-- Write a carry slot: valid, with poison z (R134). -/
def Core.setSlot (k : Core) (n : Nat) (v : BitVec 1024) (z : Bool) : Core :=
  { k with opnd := { k.opnd with carry := k.opnd.carry.put n v, cvalid := maskSet k.opnd.cvalid n true,
                                 cpois := maskSet k.opnd.cpois n z } }

/-! ## Views (Table 6-1) -/

/-- Element width in bits of a format code. -/
def fmtBits (code : Nat) : Nat :=
  match code with
  | 0 => 64 | 1 => 32 | 2 => 16 | 3 => 16 | 6 => 4 | 8 => 32 | _ => 8

/-- Columns of the view of an element width. -/
def colsOf (w : Nat) : Nat := 1024 / w

/-- Element c of a row in the view of width w. -/
def elt (w : Nat) (row : BitVec 1024) (c : Nat) : Nat := row.toNat / 2 ^ (w * c) % 2 ^ w

/-- Every element of a row in the view of width w. -/
def elts (w : Nat) (row : BitVec 1024) : List Nat := (List.range (colsOf w)).map (elt w row)

/-- The number whose base-2^w digits are the elements, least first. -/
def packNat (w : Nat) : List Nat → Nat
  | [] => 0
  | e :: r => e % 2 ^ w + 2 ^ w * packNat w r

/-- A row from its elements. -/
def packRow (w : Nat) (es : List Nat) : BitVec 1024 := BitVec.ofNat 1024 (packNat w es)

/-- Replace the elements for which `g` answers a value. -/
def rowUpd (w : Nat) (row : BitVec 1024) (g : Nat → Option Nat) : BitVec 1024 :=
  packRow w ((List.range (colsOf w)).map (fun c => (g c).getD (elt w row c)))

/-- Bit c of row r of predicate p. P0 reads all ones in every view; bits 128 to 255 of the others, which only the 256 columns
of the 4-bit view reach and no register holds, are free values (log entry 13). -/
def Core.predBit (k : Core) (p r c : Nat) : Bool :=
  if p = 0 then true
  else if c < 128 then (k.prow p r).getLsbD c
  else (Config.freePred k.rd.preds.gen (2 ^ 20 + 256 * k.blockBundles + 32 * p + r)).getLsbD (c - 128)

/-- The predicate bit of element (r, c) under PRED and PINV (R116). -/
def Core.predOn (k : Core) (f : Fields) (r c : Nat) : Bool := xor (k.predBit (f.m 2 0) r c) (f.mb 3)

/-- The floating-point format of a code 0 to 6. -/
def ffOf (code : Nat) : Ff :=
  match code with
  | 0 => .fp64 | 1 => .fp32 | 2 => .bf16 | 3 => .fp16 | 4 => .e4m3 | 5 => .e5m2 | _ => .e2m1

/-- The rows of a tile. -/
def rows32 : List Nat := List.range 32

end Sys2Proof.Machine
end

