-- ==== Sys2Proof/Machine/Legal.lean ====
section
/-!
DEFINITION. Illegal encodings, decided from the bits of an instruction alone (R203 to R205): the class and range of every register
field, the format codes, the used modifier bits, and the cases that the instructions' own rules name. A field that no form of an
instruction uses must be 0 (R204); a field that only the form chosen leaves unused must be 0 where a rule says so, and for MDRAIN,
whose PITCH R87 calls the one exception (log entry 6).
-/
namespace Sys2Proof.Machine

/-- Register classes of a field (R203): the largest value it may hold. `no` is a field not used. -/
inductive Cls where
  | no | s | t | p | acc | d | tb
deriving DecidableEq, Repr

/-- The largest value of a class. -/
def Cls.max : Cls → Nat
  | .no => 0 | .s => 31 | .t => 31 | .p => 7 | .acc => 7 | .d => 15 | .tb => 7

/-- The operand row of an opcode: classes of the destination and of the sources, permitted format codes, used modifier bits. -/
structure OpRow where
  dst : Cls
  a : Cls
  b : Cls
  c : Cls
  fmts : List Nat
  mods : Nat
deriving DecidableEq, Repr

/-- Used-modifier masks of Table 6-2. -/
def mPred : Nat := 0x1F
def mScal : Nat := 0x20
def mRm : Nat := 0xC0
def mSat : Nat := 0x100
def mAxis : Nat := 0x200
def mPart : Nat := 0x1C00
def mBscl : Nat := 0x2000
def mSub : Nat := 0x3C000
def mSlot : Nat := 0x1FC0000
def mIdx : Nat := 0x7C0000
def mCio : Nat := 0x6000000
def mSeg : Nat := 0x8000000
def mExcl : Nat := 0x10000000
def mUns : Nat := 0x20000000
def mFull : Nat := 0x40000000

/-- Format-code sets: R121, every code of Table 3-1, the widths of R123, R140. -/
def fFp : List Nat := [0, 1, 2, 3]
def fAny : List Nat := [0, 1, 2, 3, 4, 5, 6, 7]
def fInt : List Nat := [0, 1, 3, 7]
def fFn : List Nat := [1, 2, 3]

/-- The opcode tables 10-5, 10-6, 10-9, 10-13, 10-14 and 10-15; none for an opcode they do not assign. -/
def opRow (op : Nat) : Option OpRow :=
  if op = 0 then some ⟨.no, .no, .no, .no, [0], 0⟩
  else if 0x01 ≤ op ∧ op ≤ 0x14 then some ⟨.s, .s, .s, .no, [0], 0⟩
  else if 0x21 ≤ op ∧ op ≤ 0x34 then some ⟨.s, .s, .no, .no, [0], 0xFFFFFFFF⟩
  else if 0x18 ≤ op ∧ op ≤ 0x1D then some ⟨.s, .s, .s, if op = 0x1B then .s else .no, [0, 1], 0⟩
  else if 0x50 ≤ op ∧ op ≤ 0x56 then
    some ⟨.t, .t, .t, if op = 0x53 ∨ op = 0x54 then .t else .no, fFp, mPred + mScal⟩
  else if 0x60 ≤ op ∧ op ≤ 0x6B ∧ op ≠ 0x69 then
    some ⟨.t, .t, .t, .no, fInt, mPred + mScal + (if op = 0x63 ∨ op = 0x64 ∨ op = 0x6B then mUns else 0)⟩
  else if 0x70 ≤ op ∧ op ≤ 0x73 then some ⟨.p, .p, .p, .no, [0], 0⟩
  else if 0x80 ≤ op ∧ op ≤ 0x84 then
    some ⟨.t, .t, .t, .no, fAny, mPred + mAxis + mIdx + mSub + mBscl⟩
  else if 0xA0 ≤ op ∧ op ≤ 0xAC then some ⟨.t, .t, .no, .no, fFn, mPred⟩
  else match op with
  | 0x15 => some ⟨.s, .s, .s, .s, [0], 0⟩
  | 0x16 => some ⟨.s, .no, .no, .no, [0], 0xFFFFFFFF⟩
  | 0x17 => some ⟨.s, .s, .no, .no, [0], 0xFFFFFFFF⟩
  | 0x1E => some ⟨.s, .s, .s, .no, [0, 1], 0xF⟩
  | 0x1F => some ⟨.s, .s, .no, .no, [0, 1, 2, 3, 8, 9], 0x7F⟩
  | 0x36 => some ⟨.s, .no, .no, .no, [0], 0x3F⟩
  | 0x38 => some ⟨.no, .s, .s, .no, [0, 1, 2, 3, 4, 5, 6, 7, 8], 0xFFFFFFFF⟩
  | 0x39 => some ⟨.s, .no, .no, .no, [0], 0xFFFFFFFF⟩
  | 0x3A => some ⟨.no, .s, .no, .no, [0], 0⟩
  | 0x3C => some ⟨.no, .s, .no, .no, [0], 0x1FF⟩
  | 0x3D => some ⟨.no, .no, .no, .no, [0], 0⟩
  | 0x3E => some ⟨.s, .no, .no, .no, [0], 0xFF⟩
  | 0x3F => some ⟨.no, .s, .no, .no, [0], 0xFF⟩
  | 0x40 => some ⟨.acc, .s, .s, .s, fAny, 0x20FFFFF⟩
  | 0x41 => some ⟨.acc, .s, .s, .no, fAny, 0xFFFFFFF⟩
  | 0x42 => some ⟨.t, .acc, .s, .s, fAny, 0xFFFFFFFF⟩
  | 0x57 | 0x58 => some ⟨.t, .t, .no, .no, fFp, mPred⟩
  | 0x59 => some ⟨.t, .t, .t, .no, fFp, mPred + mScal⟩
  | 0x5A => some ⟨.t, .t, .no, .no, fAny, mPred⟩
  | 0x5B => some ⟨.p, .t, .t, .no, fFp, mPred + mScal + mSub⟩
  | 0x5C => some ⟨.t, .t, .t, .no, fAny, 0xF⟩
  | 0x69 => some ⟨.t, .t, .no, .no, fInt, mPred⟩
  | 0x6C => some ⟨.p, .t, .t, .no, fInt, mPred + mScal + mSub + mUns⟩
  | 0x6D => some ⟨.t, .s, .no, .no, fInt, 0⟩
  | 0x74 => some ⟨.p, .p, .no, .no, [0], 0⟩
  | 0x75 | 0x76 => some ⟨.s, .p, .no, .no, fAny, 0⟩
  | 0x78 => some ⟨.t, .t, .t, .s, fAny, mPred + mRm + mSat + mPart + mBscl + mSub⟩
  | 0x88 => some ⟨.t, .t, .no, .no, fAny, mPred + mAxis + mIdx⟩
  | 0x89 => some ⟨.t, .s, .no, .no, fAny, mPred⟩
  | 0x8A | 0x8B => some ⟨.t, .t, .no, .no, fAny, mPred + mAxis + mIdx + mUns⟩
  | 0x8C => some ⟨.t, .t, .t, .no, fAny, mPred + mAxis + mFull⟩
  | 0x8D => some ⟨.s, .t, .no, .no, fAny, mIdx + mSub + mPart + mAxis + mUns⟩
  | 0x90 | 0x91 => some ⟨.t, .t, .no, .no, [0, 1], 7 + mAxis + mSub + mSlot + mCio + mSeg + mExcl⟩
  | 0x92 => some ⟨.t, .t, .t, .no, [0, 1], 7 + mAxis + mSlot + mCio + mSeg⟩
  | 0x94 => some ⟨.t, .t, .no, .no, [0], mSlot⟩
  | 0x95 => some ⟨.t, .t, .no, .no, [0], mSlot⟩
  | 0x98 => some ⟨.t, .t, .no, .no, [2, 3, 4, 5, 6, 7], 0x400⟩
  | 0xAD => some ⟨.t, .t, .t, .no, fFn, mPred⟩
  | 0xAE => some ⟨.t, .t, .tb, .no, fFn, mPred⟩
  | 0xAF => some ⟨.t, .t, .no, .no, fFn, mPred + mAxis + mSub + mIdx⟩
  | 0xC0 | 0xC2 => some ⟨.s, .s, .no, .no, fInt, 0x1FFFFFF⟩
  | 0xC1 | 0xC3 => some ⟨.no, .s, .s, .no, fInt, 0xFFFFFF⟩
  | 0xC8 => some ⟨.d, .s, .no, .no, [0], 0⟩
  | 0xC9 => some ⟨.d, .s, .s, .s, [0], 0x7F⟩
  | 0xCA => some ⟨.tb, .s, .no, .no, [0], 0⟩
  | 0xCB => some ⟨.no, .s, .no, .no, [0], 0x1FFF⟩
  | 0xD0 => some ⟨.no, .no, .no, .no, [0], 3⟩
  | 0xD1 => some ⟨.no, .s, .s, .no, [0], 0x3FFF⟩
  | 0xD2 => some ⟨.no, .no, .no, .no, [0], 0x7F⟩
  | 0xD3 => some ⟨.no, .s, .no, .no, [0], 0x3F⟩
  | 0xD4 => some ⟨.no, .s, .no, .no, [0], 0x1F⟩
  | 0xD5 => some ⟨.no, .no, .no, .no, [0], 0xF⟩
  | 0xD6 => some ⟨.no, .no, .no, .no, [0], 0x1F⟩
  | 0xE0 | 0xE1 => some ⟨.no, .s, .s, .s, [0], 0x7FFFFF⟩
  | 0xE2 => some ⟨.no, .s, .s, .s, [0], 0x3F⟩
  | 0xE8 => some ⟨.no, .s, .no, .no, [0], 0xF⟩
  | _ => none

/-- Steps that one weight-buffer half holds (Table 4-1, Table 5-1). -/
def stepsPerHalf (fmt : Nat) (s24 : Bool) : Nat :=
  if fmt ≤ 1 then 256 else if !s24 then 64 else if fmt ≤ 3 then 64 else if fmt = 6 then 16 else 32

/-- Whether a conversion is widening (R57), the source block-scaled or plain. Codes of Table 3-1 with 8 for INT32. -/
def widening (src dst : Nat) (bsrc : Bool) : Bool :=
  if bsrc then dst = 0
  else match src, dst with
  | 1, 0 => true
  | 2, 0 | 2, 1 | 3, 0 | 3, 1 => true
  | 4, 0 | 4, 1 | 4, 2 | 4, 3 | 5, 0 | 5, 1 | 5, 2 | 5, 3 => true
  | 7, 0 | 7, 1 | 7, 2 | 7, 3 | 7, 8 => true
  | 8, 0 => true
  | _, _ => false

/-- The formats of which one side of a conversion must be one (R125, R173). -/
def wideSide (c : Nat) : Bool := c ≤ 3 || c = 8

/-- FCVT's illegal cases (R210). -/
def badFcvt (f : Fields) : Bool :=
  let s := f.m 3 0
  let d := f.fmt.toNat
  let rm := f.m 5 4
  !([0, 1, 2, 3, 8, 9].contains s) || s = d || (s ≥ 8 && d ≥ 8) || rm = 1 || rm = 3 || (rm = 2 && d < 8)

/-- BR's and JAL's illegal cases (R211): the offset's range and the sources the condition does not use. -/
def badBranch (f : Fields) : Bool :=
  let off := f.mods.toInt
  decide (off < -2047 ∨ off > 2047)
    || (f.fmt = 0 && (f.a ≠ 0 || f.b ≠ 0)) || (decide (7 ≤ f.fmt.toNat) && f.b ≠ 0)

/-- FRAME's illegal cases (R213). -/
def badFrame (f : Fields) : Bool :=
  match f.m 1 0 with
  | 0 => f.m 7 2 ≠ 0 || f.mb 8 || f.a ≠ 0
  | 1 => f.mb 8
  | _ => f.a ≠ 0

/-- WLOAD's illegal cases (R97, R217). -/
def badWload (f : Fields) : Bool :=
  let fm := f.fmt.toNat
  let s24 := f.mb 25
  let gather := f.mb 9
  (s24 && fm ≤ 1) || decide (f.m 19 12 + f.m 7 0 + 1 > stepsPerHalf fm s24)
    || (f.mb 8 && fm ≤ 3) || decide (f.dst.toNat > (if f.mb 10 then 1 else 3))
    || (f.b ≠ 0 && !(gather || f.mb 8 || fm = 6)) || (f.c ≠ 0 && !(gather || s24))

/-- Whether an MMA reads A scales from memory: ASCL, or E2M1 from local memory, which is always scaled (R51, R82). -/
def mmaScaled (f : Fields) : Bool := (f.fmt.toNat = 6 && !f.mb 20) || (f.fmt.toNat ≠ 6 && f.mb 22)

/-- MMA's illegal cases (R82, R83, R97, R109). ASCL with ATILE is one in every format, E2M1 included (log entry 74). -/
def badMma (f : Fields) : Bool :=
  let fm := f.fmt.toNat
  let s24 := f.mb 25
  let n := f.m 7 0 + 1
  let sparse := f.mb 27
  let spt := if fm ≤ 1 then 16 else if s24 then 2 else 4
  (s24 && fm ≤ 1) || decide (f.m 19 12 + n > stepsPerHalf fm s24)
    || f.m 24 23 = 3 || (f.m 24 23 ≠ 0 && fm ≠ 4 && fm ≠ 5)
    || (fm = 0 && f.dst.toNat % 2 = 1) || (f.mb 10 && decide (f.dst.toNat > 1))
    || (f.mb 22 && f.mb 20) || (f.mb 22 && fm ≤ 3) || (f.mb 20 && decide (f.a.toNat + (n - 1) / spt > 31))
    || (sparse && (!s24 || f.mb 20 || f.mb 22 || fm = 6 || f.mb 9))

/-- Element width of a drain's output: code 7 without BSCALE is the 32-bit INT32 (R87). -/
def drainBits (f : Fields) : Nat := if f.fmt.toNat = 7 && !f.mb 5 then 32 else fmtBits f.fmt.toNat

/-- MDRAIN's illegal cases (R87, R204). A rounding mode of 0 or 1 is judged with the bank's format, as R87 says (log entry 75). -/
def badMdrain (f : Fields) : Bool :=
  let fm := f.fmt.toNat
  let dest := f.m 1 0
  let rm := f.m 3 2
  let bs := f.mb 5
  let span := f.mb 6
  let coff := f.m 10 8
  let pitch := f.m 31 18
  let n := if span then 32 else 16
  rm ≥ 2 || (bs && fm ≤ 3) || (fm = 6 && !bs) || (bs && !span)
    || (bs && dest = 0 && (coff % 2 = 1 || f.dst = 31)) || (bs && dest = 1 && pitch % 2 = 1)
    || (dest ≥ 2 && fm ≠ 1) || (span && decide (f.a.toNat > 1)) || (pitch = 0 && (dest = 1 || dest = 2))
    || (dest = 0 && decide (16 * f.m 7 7 + n > 32 ∨ 16 * coff + n > colsOf (drainBits f)))
    || (dest ≠ 0 && (f.dst ≠ 0 || f.mb 7 || coff ≠ 0)) || (dest = 0 && f.b ≠ 0)
    || (rm ≠ 1 && f.c ≠ 0) || (!f.mb 11 && f.m 17 12 ≠ 0)

/-- VCVT's illegal cases (R57, R125, R126). -/
def badVcvt (f : Fields) : Bool :=
  let s := f.m 17 14
  let d := f.fmt.toNat
  let ns := colsOf (fmtBits s)
  let nd := colsOf (fmtBits d)
  let bs := f.mb 13
  let bdst := d = 6 || (bs && (d = 4 || d = 5 || d = 7))
  let bsrc := s = 6 || (bs && (s = 4 || s = 5 || s = 7))
  let rm := f.m 7 6
  decide (s > 8) || s = d || !(wideSide s || wideSide d) || decide (f.m 12 10 ≥ max ns nd / min ns nd)
    || (bdst && (f.dst = 31 || !(fmtBits s = 32 || fmtBits s = 16)))
    || rm = 3 || (rm = 2 && (bdst || !(d = 7 || d = 8))) || (rm = 1 && widening s d bsrc)

/-- Illegal cases of the reductions (R127, R129). -/
def badReduce (f : Fields) : Bool :=
  let fm := f.fmt.toNat
  let sub := f.m 17 14
  let int := sub = 8
  let dc := if fm = 0 then 16 else 32
  sub % 8 ≠ 0 || (int && !(fInt.contains fm)) || (f.mb 13 && (int || fm ≤ 3))
    || (f.b ≠ 0 && !(fm = 6 && !int || f.mb 13))
    || (if f.mb 9 then decide (f.m 22 18 + (colsOf (fmtBits fm) + dc - 1) / dc > 32) else decide (f.m 22 18 ≥ dc))

/-- Illegal cases of the scans (R132, R134); `sum` for VSCAN and VMSCAN. -/
def badScan (f : Fields) : Bool :=
  let sub := f.m 17 14
  let cio := f.m 26 25 ≠ 0
  sub % 8 ≠ 0 || (sub = 8 && f.fmt ≠ 1) || (f.fmt = 0 && !f.mb 9 && cio && f.m 24 18 = 127)

/-- The special registers of Table 10-4. -/
def isSpr (n : Nat) : Bool := n ≤ 0x0C || n = 0x10

/-- The illegal cases of an instruction's own rules, by opcode. -/
def badSpecial (op : Nat) (f : Fields) : Bool :=
  match op with
  | 0x1E => f.m 3 0 > 7
  | 0x1F => badFcvt f
  | 0x38 | 0x39 => badBranch f
  | 0x3C => badFrame f
  | 0x3E => !isSpr (f.m 7 0)
  | 0x3F => f.m 7 0 ≠ 0x10
  | 0x40 => badWload f
  | 0x41 => badMma f
  | 0x42 => badMdrain f
  | 0x5B => f.m 17 14 > 7 || f.dst = 0
  | 0x6C => f.m 17 14 > 5 || f.dst = 0
  | 0x70 | 0x71 | 0x72 | 0x73 | 0x74 => f.dst = 0
  | 0x78 => badVcvt f
  | 0x80 | 0x81 | 0x82 | 0x83 | 0x84 => badReduce f
  | 0x88 | 0x8A | 0x8B => !f.mb 9 && decide (f.m 22 18 ≥ colsOf (fmtBits f.fmt.toNat))
  | 0x8C => f.mb 30 && (f.fmt ≠ 1 || f.m 4 0 ≠ 0 || f.mb 9)
  | 0x8D => decide (f.m 17 14 + 16 * f.m 12 10 + 128 * f.m 9 9 ≥ colsOf (fmtBits f.fmt.toNat))
  | 0x90 | 0x91 | 0x92 => badScan f
  | 0x98 => f.dst = 31
  | 0xAF => f.mb 9 || decide (f.m 17 14 > 1) || decide (f.m 22 18 > 28)
  | 0xD1 => (f.mb 6 && f.a ≠ 0) || (!f.mb 7 && f.m 13 8 ≠ 0)
  | 0xD4 => f.mb 4 && f.a ≠ 0
  | 0xE8 => f.m 3 0 > 11
  | _ => false

/-- Whether an instruction of this opcode and these fields is an illegal encoding (R203 to R205). -/
def illegal (op : Nat) (f : Fields) : Bool :=
  match opRow op with
  | none => true
  | some r =>
    decide (f.dst.toNat > r.dst.max) || decide (f.a.toNat > r.a.max) || decide (f.b.toNat > r.b.max)
      || decide (f.c.toNat > r.c.max) || !(r.fmts.contains f.fmt.toNat)
      || (f.mods &&& ~~~(BitVec.ofNat 32 r.mods)) ≠ 0 || badSpecial op f

/-- Whether a word is an illegal encoding in slot n (Table 10-1): opcode 0 in every slot, else its slot's range. -/
def illegalIn (n : Nat) (w : Word64) : Bool :=
  let op := w.toNat / 2 ^ 56
  (op ≠ 0 && slotOf op ≠ n) || illegal op (fieldsOf w)

/-- The scalar register a legal word writes, if it writes one other than S0 (R202). -/
def scalarDst (w : Word64) : Option Nat :=
  match opRow (w.toNat / 2 ^ 56) with
  | some r => if r.dst = .s ∧ (fieldsOf w).dst ≠ 0 then some (fieldsOf w).dst.toNat else none
  | none => none

end Sys2Proof.Machine
end

