-- ==== Sys2Proof/Decode.lean ====
section
/-!
DEFINITION. The decoders: of an instruction word of the Lysmas set (spec/10_isa.md, R203, Table 10-2), and of the command table. No row
of spec/opcode_table.json gives a command any bits: commands reach the block over its buses and pins and not as words, so no word of the
table's numbering spells one.
-/
namespace Sys2Proof

open Machine

/-- The instruction that a 64-bit word names by its opcode, bits [63:56], with the fields of Table 10-2 (R203); none where the opcode is not
assigned. `i` says by which core and when it issues. -/
def decodeWord (i : Issue) (w : Word64) : Option Instr :=
  match w.toNat / 2 ^ 56 with
  | 0x00 => some (.nop i (fieldsOf w))
  | 0x01 => some (.add i (fieldsOf w))
  | 0x02 => some (.sub i (fieldsOf w))
  | 0x03 => some (.mul i (fieldsOf w))
  | 0x04 => some (.mulh i (fieldsOf w))
  | 0x05 => some (.mulhu i (fieldsOf w))
  | 0x06 => some (.div i (fieldsOf w))
  | 0x07 => some (.divu i (fieldsOf w))
  | 0x08 => some (.rem i (fieldsOf w))
  | 0x09 => some (.remu i (fieldsOf w))
  | 0x0A => some (.and i (fieldsOf w))
  | 0x0B => some (.or i (fieldsOf w))
  | 0x0C => some (.xor i (fieldsOf w))
  | 0x0D => some (.shl i (fieldsOf w))
  | 0x0E => some (.shr i (fieldsOf w))
  | 0x0F => some (.sra i (fieldsOf w))
  | 0x10 => some (.slt i (fieldsOf w))
  | 0x11 => some (.sltu i (fieldsOf w))
  | 0x12 => some (.seq i (fieldsOf w))
  | 0x13 => some (.min i (fieldsOf w))
  | 0x14 => some (.max i (fieldsOf w))
  | 0x15 => some (.sel i (fieldsOf w))
  | 0x16 => some (.li i (fieldsOf w))
  | 0x17 => some (.lih i (fieldsOf w))
  | 0x18 => some (.fadd i (fieldsOf w))
  | 0x19 => some (.fsub i (fieldsOf w))
  | 0x1A => some (.fmul i (fieldsOf w))
  | 0x1B => some (.ffma i (fieldsOf w))
  | 0x1C => some (.fmin i (fieldsOf w))
  | 0x1D => some (.fmax i (fieldsOf w))
  | 0x1E => some (.fcmp i (fieldsOf w))
  | 0x1F => some (.fcvt i (fieldsOf w))
  | 0x21 => some (.addi i (fieldsOf w))
  | 0x22 => some (.subi i (fieldsOf w))
  | 0x23 => some (.muli i (fieldsOf w))
  | 0x24 => some (.mulhi i (fieldsOf w))
  | 0x25 => some (.mulhui i (fieldsOf w))
  | 0x26 => some (.divi i (fieldsOf w))
  | 0x27 => some (.divui i (fieldsOf w))
  | 0x28 => some (.remi i (fieldsOf w))
  | 0x29 => some (.remui i (fieldsOf w))
  | 0x2A => some (.andi i (fieldsOf w))
  | 0x2B => some (.ori i (fieldsOf w))
  | 0x2C => some (.xori i (fieldsOf w))
  | 0x2D => some (.shli i (fieldsOf w))
  | 0x2E => some (.shri i (fieldsOf w))
  | 0x2F => some (.srai i (fieldsOf w))
  | 0x30 => some (.slti i (fieldsOf w))
  | 0x31 => some (.sltui i (fieldsOf w))
  | 0x32 => some (.seqi i (fieldsOf w))
  | 0x33 => some (.mini i (fieldsOf w))
  | 0x34 => some (.maxi i (fieldsOf w))
  | 0x36 => some (.scntrd i (fieldsOf w))
  | 0x38 => some (.br i (fieldsOf w))
  | 0x39 => some (.jal i (fieldsOf w))
  | 0x3A => some (.jr i (fieldsOf w))
  | 0x3C => some (.frame i (fieldsOf w))
  | 0x3D => some (.exit i (fieldsOf w))
  | 0x3E => some (.srd i (fieldsOf w))
  | 0x3F => some (.swr i (fieldsOf w))
  | 0x40 => some (.wload i (fieldsOf w))
  | 0x41 => some (.mma i (fieldsOf w))
  | 0x42 => some (.mdrain i (fieldsOf w))
  | 0x50 => some (.vadd i (fieldsOf w))
  | 0x51 => some (.vsub i (fieldsOf w))
  | 0x52 => some (.vmul i (fieldsOf w))
  | 0x53 => some (.vfma i (fieldsOf w))
  | 0x54 => some (.vfms i (fieldsOf w))
  | 0x55 => some (.vmax i (fieldsOf w))
  | 0x56 => some (.vmin i (fieldsOf w))
  | 0x57 => some (.vabs i (fieldsOf w))
  | 0x58 => some (.vneg i (fieldsOf w))
  | 0x59 => some (.vcpsgn i (fieldsOf w))
  | 0x5A => some (.vmov i (fieldsOf w))
  | 0x5B => some (.vcmp i (fieldsOf w))
  | 0x5C => some (.vsel i (fieldsOf w))
  | 0x60 => some (.viadd i (fieldsOf w))
  | 0x61 => some (.visub i (fieldsOf w))
  | 0x62 => some (.vimul i (fieldsOf w))
  | 0x63 => some (.vimax i (fieldsOf w))
  | 0x64 => some (.vimin i (fieldsOf w))
  | 0x65 => some (.vand i (fieldsOf w))
  | 0x66 => some (.vor i (fieldsOf w))
  | 0x67 => some (.vxor i (fieldsOf w))
  | 0x68 => some (.vandn i (fieldsOf w))
  | 0x69 => some (.vnot i (fieldsOf w))
  | 0x6A => some (.vshl i (fieldsOf w))
  | 0x6B => some (.vshr i (fieldsOf w))
  | 0x6C => some (.vicmp i (fieldsOf w))
  | 0x6D => some (.viota i (fieldsOf w))
  | 0x70 => some (.pand i (fieldsOf w))
  | 0x71 => some (.por i (fieldsOf w))
  | 0x72 => some (.pxor i (fieldsOf w))
  | 0x73 => some (.pandn i (fieldsOf w))
  | 0x74 => some (.pnot i (fieldsOf w))
  | 0x75 => some (.pany i (fieldsOf w))
  | 0x76 => some (.pcount i (fieldsOf w))
  | 0x78 => some (.vcvt i (fieldsOf w))
  | 0x80 => some (.vrsum i (fieldsOf w))
  | 0x81 => some (.vrssq i (fieldsOf w))
  | 0x82 => some (.vrmax i (fieldsOf w))
  | 0x83 => some (.vrmin i (fieldsOf w))
  | 0x84 => some (.vrargmax i (fieldsOf w))
  | 0x88 => some (.vbcast i (fieldsOf w))
  | 0x89 => some (.vbcasts i (fieldsOf w))
  | 0x8A => some (.vshift i (fieldsOf w))
  | 0x8B => some (.vrot i (fieldsOf w))
  | 0x8C => some (.vgather i (fieldsOf w))
  | 0x8D => some (.vmovs i (fieldsOf w))
  | 0x90 => some (.vscan i (fieldsOf w))
  | 0x91 => some (.vmscan i (fieldsOf w))
  | 0x92 => some (.vascan i (fieldsOf w))
  | 0x94 => some (.vcput i (fieldsOf w))
  | 0x95 => some (.vcget i (fieldsOf w))
  | 0x98 => some (.pack24 i (fieldsOf w))
  | 0xA0 => some (.vexp2 i (fieldsOf w))
  | 0xA1 => some (.vexp i (fieldsOf w))
  | 0xA2 => some (.vlog2 i (fieldsOf w))
  | 0xA3 => some (.vlog i (fieldsOf w))
  | 0xA4 => some (.vrcp i (fieldsOf w))
  | 0xA5 => some (.vrsqrt i (fieldsOf w))
  | 0xA6 => some (.vsqrt i (fieldsOf w))
  | 0xA7 => some (.vsin i (fieldsOf w))
  | 0xA8 => some (.vcos i (fieldsOf w))
  | 0xA9 => some (.vtanh i (fieldsOf w))
  | 0xAA => some (.vsig i (fieldsOf w))
  | 0xAB => some (.verf i (fieldsOf w))
  | 0xAC => some (.vsoftp i (fieldsOf w))
  | 0xAD => some (.vdiv i (fieldsOf w))
  | 0xAE => some (.vtbl i (fieldsOf w))
  | 0xAF => some (.vrstat i (fieldsOf w))
  | 0xC0 => some (.ld i (fieldsOf w))
  | 0xC1 => some (.st i (fieldsOf w))
  | 0xC2 => some (.ldg i (fieldsOf w))
  | 0xC3 => some (.stg i (fieldsOf w))
  | 0xC8 => some (.ldesc i (fieldsOf w))
  | 0xC9 => some (.lxfer i (fieldsOf w))
  | 0xCA => some (.tload i (fieldsOf w))
  | 0xCB => some (.ibload i (fieldsOf w))
  | 0xD0 => some (.fence i (fieldsOf w))
  | 0xD1 => some (.signal i (fieldsOf w))
  | 0xD2 => some (.barrive i (fieldsOf w))
  | 0xD3 => some (.scfg i (fieldsOf w))
  | 0xD4 => some (.flgset i (fieldsOf w))
  | 0xD5 => some (.flgclr i (fieldsOf w))
  | 0xD6 => some (.flgwait i (fieldsOf w))
  | 0xE0 => some (.cwrite i (fieldsOf w))
  | 0xE1 => some (.cread i (fieldsOf w))
  | 0xE2 => some (.csig i (fieldsOf w))
  | 0xE8 => some (.bcmd i (fieldsOf w))
  | _ => none

/-- The command that a word spells by the table's bits: the table gives no row bits, so none. -/
def decodeTableWord (_nbits _w : Nat) : Option Instr := none

end Sys2Proof
end

