-- ==== Sys2Proof/Machine/Convert.lean ====
section
/-!
DEFINITION. Conversions between the element formats, shared by VCVT, the drains, the layout engine and the Bushel
(spec/03_arithmetic.md, R51 to R66). Format codes are those of Table 3-1, with 8 for INT32.
-/
namespace Sys2Proof.Machine

/-- The exact value of an unscaled element (R49, R66). -/
def srcVal (code v : Nat) : Fv :=
  if code = 7 then ofRat false ((sint 8 v : Int) : ℚ)
  else if code = 8 then ofRat false ((sint 32 v : Int) : ℚ)
  else fdecode (ffOf code) v

/-- The exact value of a block-scaled element under its scale byte (R53, R54). -/
def scaledVal (code v scale : Nat) : Fv :=
  if scale = 255 then .nan
  else
    let p := pow2 ((scale : Int) - 127)
    if code = 7 then ofRat false (((sint 8 v : Int) : ℚ) * pow2 (-6) * p)
    else match fdecode (ffOf code) v with
      | .fin s q => .fin s (q * p)
      | x => x

/-- A value converted to an unscaled format (R63 to R66): INT8 and INT32 saturate. -/
def convTo (code : Nat) (rm : Rm) (sat : Bool) (v : Fv) : Nat :=
  if code = 7 then wrap 8 (toIntSat rm (-128) 127 v)
  else if code = 8 then wrap 32 (toIntSat rm (-(2 ^ 31)) (2 ^ 31 - 1) v)
  else convF (ffOf code) rm sat v

/-- emax of a block-scaled destination (R55). -/
def emaxOf (code : Nat) : Int :=
  match code with
  | 4 => 8 | 5 => 15 | 6 => 2 | _ => 0

/-- Quantise the computed elements of a block (R55, R126): the scale byte and the elements. -/
def quantBlock (code : Nat) (vs : List (Option (Fv × Rm))) : Nat × List (Option Nat) :=
  if vs.any (fun x => match x with | some (v, _) => !v.isFin | none => false) then (255, vs.map (fun x => x.map (fun _ => 0)))
  else
    let amax : ℚ := vs.foldl (fun a x => match x with | some (v, _) => max a |v.val| | none => a) 0
    let x : Int := clampI (-127) 127 (if amax = 0 then -127 else floorLog2 amax - emaxOf code)
    let scale (v : Fv) (e : Int) : Fv := match v with | .fin s q => .fin s (q * pow2 e) | y => y
    ((x + 127).toNat, vs.map (fun y => y.map (fun p =>
      if code = 7 then wrap 8 (toIntSat p.2 (-127) 127 (scale p.1 (6 - x)))
      else convF (ffOf code) p.2 true (scale p.1 (-x)))))

/-- The rounding of element number `e` under RM: SR draws its bits from key K, T and S (R60, R61). -/
def rmOf (rm key t st e : Nat) : Rm :=
  match rm with
  | 1 => .sr (srbits key t st (e % 2 ^ 32))
  | 2 => .rtz
  | _ => .rne

/-- The stochastic-rounding key of the core's launch (R61). -/
def Core.srKey (k : Core) : Nat := match k.launch with | some l => l.key.toNat | none => 0

end Sys2Proof.Machine
end

