-- ==== Sys2Proof/Machine/Func.lean ====
section
/-!
DEFINITION. Special functions (spec/07_functions.md, R140 to R157): the targets of Table 7-3 in fixed point, the coefficients
of R146, the evaluation of R141, the special results of Table 7-4, VDIV (R145) and the lookup of a user table (R150).
The targets are real numbers; they are evaluated in fixed point with `fxP` fractional bits, far beyond what the one rounding
of R146 needs (log entry 12).
-/
namespace Sys2Proof.Machine

/-- Fractional bits of the fixed-point evaluation of the targets of Table 7-3. -/
def fxP : Nat := 320

/-- One in fixed point. -/
def fxOne : Nat := 2 ^ 320

/-- Σ of a series whose term n + 1 is `step n (term n)`, for `fuel` terms. -/
def fxSeries : Nat → Nat → Nat → (Nat → Nat → Nat) → Nat
  | 0, _, _, _ => 0
  | fuel + 1, n, t, step => t + fxSeries fuel (n + 1) (step n t) step

/-- e^x of a non-negative fixed-point x up to 16. -/
def fxExp (x : Nat) : Nat :=
  fxSeries 220 0 fxOne (fun n t => t * x / fxOne / (n + 1))

/-- Σ r^(2n+1)/(2n+1) without signs: atanh r for a fixed-point r up to 1/3. -/
def fxAtanh (r : Nat) : Nat :=
  let r2 := r * r / fxOne
  let rec go : Nat → Nat → Nat → Nat
    | 0, _, _ => 0
    | fuel + 1, n, p => p / (2 * n + 1) + go fuel (n + 1) (p * r2 / fxOne)
  go 110 0 r

/-- ln 2 in fixed point. -/
def fxLn2 : Nat := 2 * fxAtanh (fxOne / 3)

/-- ln y of a fixed-point y ≥ 1. -/
def fxLn (y : Nat) : Nat :=
  let k := Nat.log2 (y / fxOne)
  let m := y / 2 ^ k
  2 * fxAtanh ((m - fxOne) * fxOne / (m + fxOne)) + k * fxLn2

/-- arctan (1/d) in fixed point, by the alternating series. -/
def fxAtanInv (d : Nat) : Int :=
  let rec go : Nat → Nat → Nat → Int
    | 0, _, _ => 0
    | fuel + 1, n, p =>
      (if n % 2 = 0 then (1 : Int) else -1) * ((p / (2 * n + 1) : Nat) : Int) + go fuel (n + 1) (p / (d * d))
  go 150 0 (fxOne / d)

/-- π in fixed point (Machin's formula). -/
def fxPi : Nat := (16 * fxAtanInv 5 - 4 * fxAtanInv 239).toNat

/-- Σ (−1)^n x^(2n+s)/(2n+s)!: sin for s = 1, cos for s = 0. -/
def fxTrig (s : Nat) (x : Nat) : Int :=
  let rec go : Nat → Nat → Nat → Int
    | 0, _, _ => 0
    | fuel + 1, n, t =>
      (if n % 2 = 0 then (1 : Int) else -1) * (t : Int)
        + go fuel (n + 1) (t * x / fxOne * x / fxOne / ((2 * n + s + 1) * (2 * n + s + 2)))
  go 90 0 (if s = 0 then fxOne else x)

/-- erf x of a fixed-point x up to 4. -/
def fxErf (x : Nat) (sqrtPi : Nat) : Int :=
  let rec go : Nat → Nat → Nat → Int
    | 0, _, _ => 0
    | fuel + 1, n, t =>
      (if n % 2 = 0 then (1 : Int) else -1) * ((t / (2 * n + 1) : Nat) : Int)
        + go fuel (n + 1) (t * x / fxOne * x / fxOne / (n + 1))
  2 * go 200 0 x * (fxOne : Int) / (sqrtPi : Int)

/-- ⌊√n⌋, digit by digit. -/
def isqrt (n : Nat) : Nat :=
  let rec go : Nat → Nat → Nat
    | 0, r => r
    | i + 1, r => let c := r + 2 ^ i; if c * c ≤ n then go i c else go i r
  go (Nat.log2 n / 2 + 1) 0

/-- √y of a fixed-point y. -/
def fxSqrt (y : Nat) : Nat := isqrt (y * fxOne)

/-- The functions of Table 7-1 with a published table. -/
inductive Fn where
  | exp2 | exp | log2 | log | rcp | rsqrt | sqrt | sin | cos | tanh | sig | erf | softp
deriving DecidableEq, Repr

/-- A fixed-point number as a rational; what lies within 2^-200 of zero is the exact zero it approximates. -/
def ofFx (x : Int) : ℚ :=
  if x.natAbs < 2 ^ 120 then 0 else mkRat x fxOne

/-- The target g of Table 7-3 for segment j at t = h/2, h = 0, 1 or 2 (VEXP shares VEXP2's table, VLOG VLOG2's). -/
def target (f : Fn) (j h : Nat) : ℚ :=
  let a := 2 * j + h                    -- 2 (j + t)
  match f with
  | .exp2 | .exp => ofFx (fxExp (a * fxLn2 / 512))
  | .log2 | .log => ofFx ((fxLn (fxOne + a * fxOne / 512) * fxOne / fxLn2 : Nat) : Int)
  | .rcp => mkRat 512 (512 + a)
  | .rsqrt =>
    let y := (if j < 128 then 1 else 2) * (256 + (2 * (j % 128) + h)) * fxOne / 256
    ofFx ((fxOne * fxOne / fxSqrt y : Nat) : Int)
  | .sqrt =>
    let y := (if j < 128 then 1 else 2) * (256 + (2 * (j % 128) + h)) * fxOne / 256
    ofFx (fxSqrt y)
  | .sin => ofFx (fxTrig 1 (2 * fxPi * a / 512))
  | .cos => ofFx (fxTrig 0 (2 * fxPi * a / 512))
  | .tanh =>
    let e := fxExp (a * fxOne / 64) * fxExp (a * fxOne / 64) / fxOne
    ofFx (((e - fxOne) * fxOne / (e + fxOne) : Nat) : Int)
  | .sig =>
    if a < 256 then
      ofFx ((fxOne * fxOne / (fxOne + fxExp ((256 - a) * fxOne / 16)) : Nat) : Int)
    else
      let e := fxExp ((a - 256) * fxOne / 16)
      ofFx ((e * fxOne / (e + fxOne) : Nat) : Int)
  | .erf => ofFx (fxErf (a * fxOne / 128) (fxSqrt fxPi))
  | .softp =>
    let e := if a < 256 then fxOne * fxOne / fxExp ((256 - a) * fxOne / 16) else fxExp ((a - 256) * fxOne / 16)
    ofFx (fxLn (fxOne + e))

/-- The three FP32 coefficients of segment j of function f (R146), each rounded once. -/
def coef (f : Fn) (j : Nat) : Fv × Fv × Fv :=
  let g0 := target f j 0
  let gh := target f j 1
  let g1 := target f j 2
  (rnd .fp32 (ofRat false g0), rnd .fp32 (ofRat false (4 * gh - 3 * g0 - g1)),
    rnd .fp32 (ofRat false (2 * g0 - 4 * gh + 2 * g1)))

/-- Round a rational to the nearest multiple of 2^-n (R142). -/
def nearestMul (n : Nat) (x : ℚ) : ℚ := mkRat ((x * (2 ^ n : Nat) + 1 / 2).floor) (2 ^ n)

/-- log2 e rounded to a multiple of 2^-48 (Table 7-2). -/
def constE : ℚ := nearestMul 48 (mkRat fxOne fxLn2)
/-- ln 2 rounded to a multiple of 2^-48 (Table 7-2). -/
def constLn2 : ℚ := nearestMul 48 (mkRat fxLn2 fxOne)
/-- 1/(2π) rounded to a multiple of 2^-190 (Table 7-2). -/
def constQ : ℚ := nearestMul 190 (mkRat fxOne (2 * fxPi))
/-- 2/√π rounded to a multiple of 2^-48 (Table 7-2). -/
def constC : ℚ := nearestMul 48 (mkRat (2 * fxOne) (fxSqrt fxPi))

/-- Interpolation of R141 step 3 from given coefficients, at t already in FP32. -/
def interp (c : Fv × Fv × Fv) (t : Fv) : Fv :=
  let y1 := rnd .fp32 (c.2.2.fma t c.2.1)
  rnd .fp32 (y1.fma t c.1)

/-- Steps 2 and 3 of R141 for w in [0, 256). -/
def evalSeg (f : Fn) (w : ℚ) : Fv :=
  let j := w.floor.toNat
  interp (coef f j) (rnd .fp32 (ofRat false (w - (j : ℚ))))

/-- Scale an exact value by 2^n, exactly. -/
def Fv.scale (n : Int) : Fv → Fv
  | .fin s q => .fin s (q * pow2 n)
  | v => v

/-- Give a value the sign s over its own (±p). -/
def Fv.signed (s : Bool) (v : Fv) : Fv := if s then v.neg else v

/-- e^x by the steps of VEXP, exact before the one rounding of step 4 (Table 7-3); `fast` bounds the exponent: beyond ±1200
every destination format over- or underflows. -/
def expExact (x : ℚ) (k : ℚ) : Fv :=
  let y := x * k
  let n := y.floor
  let n' := clampI (-1200) 1200 n
  (evalSeg .exp2 (256 * (y - n))).scale n'

/-- The exact result of R141 and Table 7-4 for source value x, before the rounding to the destination. -/
def fnExact (f : Fn) : Fv → Fv
  | .nan => .nan
  | .inf s =>
    match f with
    | .exp2 | .exp => if s then .fin false 0 else .inf false
    | .log2 | .log => if s then .nan else .inf false
    | .rcp => .fin s 0
    | .rsqrt => if s then .nan else .fin false 0
    | .sqrt => if s then .nan else .inf false
    | .sin | .cos => .nan
    | .tanh | .erf => .fin s 1
    | .sig => if s then .fin false 0 else .fin false 1
    | .softp => if s then .fin false 0 else .inf false
  | .fin s q =>
    let x : ℚ := if s then -q else q
    if q = 0 then
      match f with
      | .exp2 | .exp => .fin false 1
      | .log2 | .log => .inf true
      | .rcp => .inf s
      | .rsqrt => .inf s
      | .sqrt => .fin s 0
      | .sin => .fin s 0
      | .cos => .fin false 1
      | .tanh => .fin s 0
      | .sig => .fin false (1 / 2)
      | .erf => .fin s 0
      | .softp => evalSeg .softp 128
    else
      let e := floorLog2 q
      let m := q / pow2 e
      match f with
      | .exp2 => expExact x 1
      | .exp => expExact x constE
      | .log2 =>
        if s then .nan
        else (Fv.add (ofRat false (e : ℚ)) (evalSeg .log2 (256 * (m - 1))))
      | .log =>
        if s then .nan
        else (Fv.add (ofRat false (e : ℚ)) (evalSeg .log2 (256 * (m - 1)))).mul (ofRat false constLn2)
      | .rcp => ((evalSeg .rcp (256 * (m - 1))).scale (-e)).signed s
      | .rsqrt =>
        if s then .nan
        else
          let b := e % 2
          (evalSeg .rsqrt (128 * b + 128 * (m - 1))).scale (-((e - b) / 2))
      | .sqrt =>
        if s then .nan
        else
          let b := e % 2
          (evalSeg .sqrt (128 * b + 128 * (m - 1))).scale ((e - b) / 2)
      | .sin =>
        if q < pow2 (-12) then .fin s q
        else let y := x * constQ; evalSeg .sin (256 * (y - y.floor))
      | .cos =>
        if q < pow2 (-12) then .fin false 1
        else let y := x * constQ; evalSeg .cos (256 * (y - y.floor))
      | .tanh =>
        if q < pow2 (-12) then .fin s q
        else if q ≥ 8 then .fin s 1
        else (evalSeg .tanh (32 * q)).signed s
      | .sig =>
        if x < -16 then expExact x constE
        else if x ≥ 16 then .fin false 1
        else evalSeg .sig (8 * (x + 16))
      | .erf =>
        if q < pow2 (-12) then .fin s (q * constC)
        else if q ≥ 4 then .fin s 1
        else (evalSeg .erf (64 * q)).signed s
      | .softp =>
        if x < -16 then expExact x constE
        else if x ≥ 16 then .fin s q
        else evalSeg .softp (8 * (x + 16))

/-- A published function of a value, rounded to the destination format (R141 step 4). -/
def fnEval (f : Fn) (d : Ff) (x : Fv) : Fv := rnd d (fnExact f x)

/-- VDIV (R145): special cases of Table 3-7 first, then a·(±p)·2^-e rounded once. -/
def divEval (d : Ff) (a b : Fv) : Fv :=
  match a, b with
  | .nan, _ => .nan
  | _, .nan => .nan
  | .inf _, .inf _ => .nan
  | .inf s, .fin t _ => .inf (xor s t)
  | .fin s _, .inf t => .fin (xor s t) 0
  | .fin s p, .fin t q =>
    if q = 0 then (if p = 0 then .nan else .inf (xor s t))
    else if p = 0 then .fin (xor s t) 0
    else
      let e := floorLog2 q
      let m := q / pow2 e
      rnd d (((Fv.fin s p).mul ((evalSeg .rcp (256 * (m - 1))).signed t)).scale (-e))

/-- The position of a user-table lookup (R150): segment and t. `ext` is MODE 1, EXTEND. -/
def tblPos (lo scale : Fv) (ext : Bool) (x : Fv) : Nat × Fv :=
  match x with
  | .inf s =>
    -- (x − LO)·SCALE is the infinity of the sign of x times the sign of SCALE
    if xor s scale.sgn then (0, .fin false 0) else (255, .fin false 1)
  | v =>
    let w : ℚ := (v.val - lo.val) * scale.val
    if w < 0 then (0, if ext then rnd .fp32 (ofRat false w) else .fin false 0)
    else if w < 256 then
      let j := w.floor.toNat
      (j, rnd .fp32 (ofRat false (w - (j : ℚ))))
    else (255, if ext then rnd .fp32 (ofRat false (w - 255)) else .fin false 1)

end Sys2Proof.Machine
end

