-- ==== Sys2Proof/Machine/Desc.lean ====
section
/-!
DEFINITION. Layout descriptors (spec/08_layout.md, R166 to R171): the fields of a 128-byte image and the extents it can address.
-/
namespace Sys2Proof.Machine

/-- A little-endian field of an image. -/
def imgF (img : List Byte) (off n : Nat) : Nat := leNat ((img.drop off).take n)

/-- A descriptor (Table 8-2); lists are indexed by dimension. -/
structure Desc where
  sbase : Nat
  dbase : Nat
  n : List Nat
  ctrl0 : Nat
  sstr : List Int
  dstr : List Int
  plo : List Nat
  phi : List Nat
  ctrl1 : Nat
  llimit : Nat
  resv : Nat
  laddr : Nat
  padval : Nat
deriving DecidableEq, Repr

def parseDesc (img : List Byte) : Desc :=
  { sbase := imgF img 0 8, dbase := imgF img 8 8,
    n := (List.range 5).map (fun d => imgF img (0x10 + 4 * d) 4),
    ctrl0 := imgF img 0x24 4,
    sstr := (List.range 5).map (fun d => sint 32 (imgF img (0x28 + 4 * d) 4)),
    dstr := (List.range 5).map (fun d => sint 32 (imgF img (0x3C + 4 * d) 4)),
    plo := (List.range 5).map (fun d => imgF img (0x50 + 2 * d) 2),
    phi := (List.range 5).map (fun d => imgF img (0x5A + 2 * d) 2),
    ctrl1 := imgF img 0x64 4, llimit := imgF img 0x68 4, resv := imgF img 0x6C 4,
    laddr := imgF img 0x70 8, padval := imgF img 0x78 8 }

def Desc.sspace (d : Desc) : Nat := bitsOf 1 0 d.ctrl0
def Desc.dspace (d : Desc) : Nat := bitsOf 3 2 d.ctrl0
def Desc.ndim (d : Desc) : Nat := bitsOf 6 4 d.ctrl0
def Desc.salloc (d : Desc) : Nat := bitsOf 15 8 d.ctrl0
def Desc.dalloc (d : Desc) : Nat := bitsOf 23 16 d.ctrl0
def Desc.sfmt (d : Desc) : Nat := bitsOf 3 0 d.ctrl1
def Desc.dfmt (d : Desc) : Nat := bitsOf 7 4 d.ctrl1
def Desc.rm (d : Desc) : Nat := bitsOf 9 8 d.ctrl1
def Desc.sat (d : Desc) : Bool := bitsOf 10 10 d.ctrl1 = 1
def Desc.ldim (d : Desc) : Nat := bitsOf 13 11 d.ctrl1
def Desc.lmode (d : Desc) : Nat := bitsOf 15 14 d.ctrl1

/-- Extent of dimension k: 1 at or above NDIM. -/
def Desc.ext (d : Desc) (k : Nat) : Nat := if k < d.ndim then d.n.getD k 1 else 1

/-- Box extent of dimension k on the destination (R170). -/
def Desc.box (d : Desc) (k : Nat) : Nat :=
  if k < d.ndim then d.n.getD k 1 + d.plo.getD k 0 + d.phi.getD k 0 else 1

/-- Strides; those of dimensions not in use are ignored. -/
def Desc.ss (d : Desc) (k : Nat) : Int := if k < d.ndim then d.sstr.getD k 0 else 0
def Desc.ds (d : Desc) (k : Nat) : Int := if k < d.ndim then d.dstr.getD k 0 else 0

/-- Element size in bytes of a descriptor format. -/
def descSize (code : Nat) : Nat := fmtBits code / 8

/-- Lowest and highest byte of a side from its base, its counts and its strides (R174). -/
def extentOf (base : Int) (es : Nat) (cnt : Nat → Nat) (str : Nat → Int) : Int × Int :=
  let reach := fun k => (((cnt k : Nat) : Int) - 1) * str k * (es : Int)
  ((List.range 5).foldl (fun a k => a + min 0 (reach k)) base,
    (List.range 5).foldl (fun a k => a + max 0 (reach k)) base + (es : Int) - 1)

/-- Bytes the source can address from base `b`: along LDIM of a gather, every index below LLIMIT. -/
def Desc.srcExt (d : Desc) (b : Int) : Int × Int :=
  extentOf b (descSize d.sfmt) (fun k => if d.lmode = 1 ∧ k = d.ldim then d.llimit else d.ext k) d.ss

/-- Bytes the destination can address from base `b`: the box with padding; along LDIM of a scatter, every index below LLIMIT. -/
def Desc.dstExt (d : Desc) (b : Int) : Int × Int :=
  extentOf b (descSize d.dfmt) (fun k => if d.lmode = 2 ∧ k = d.ldim then d.llimit else d.box k) d.ds

/-- Tiles of an extent in space 2. -/
def tilesOf (e : Int × Int) (t : Nat) : Bool := decide (e.1.toNat / 4096 ≤ t ∧ t ≤ e.2.toNat / 4096)

/-- Whether a queued or running transfer still has to write tile t. -/
def Xfer.writesTile (x : Xfer) (t : Nat) : Bool :=
  let d := parseDesc x.image
  d.dspace = 2 && tilesOf (d.dstExt x.dbase) t

/-- Whether a queued drain still has to write tile t (R87). -/
def MOp.writesTile (m : MOp) (t : Nat) : Bool :=
  m.kind = .mdrain && m.f.m 1 0 = 0 && (m.f.dst.toNat = t || (m.f.mb 5 && m.f.dst.toNat + 1 = t))

/-- The four queues' entries. -/
def Core.mops (k : Core) : List MOp := k.mq.toList.flatten

/-- A tile whose write is still pending: a reader or writer stalls (R136, R202). -/
def Core.tPendW (k : Core) (t : Nat) : Bool := k.mops.any (·.writesTile t) || k.xfers.any (·.writesTile t)

/-- A scalar register that a load in flight will write (R202, R215). -/
def Core.sPend (k : Core) (r : BitVec 5) : Bool := r ≠ 0 && k.loads.any (fun l => l.dst = r)

end Sys2Proof.Machine
end

