-- ==== Sys2Proof/Machine/Flags.lean ====
section
/-!
DEFINITION. The counts that instructions keep of their results in place of flags: the module raises no arithmetic flag (R67); it
counts non-finite results (R137) and bundles and stalls (R384).
-/
namespace Sys2Proof.Machine

/-- Whether an element in a floating-point format is NaN. -/
def isNanIn (fm : Ff) (v : Nat) : Bool := (fdecode fm v).isNan

/-- Counts of R137 for a result and its operands: (NaN from operands without NaN, infinite from finite operands). -/
def nfCount (res : Fv) (ops : List Fv) : Nat × Nat :=
  (if res.isNan && !(ops.any Fv.isNan) then 1 else 0, if res.isInf && ops.all Fv.isFin then 1 else 0)

/-- Add counts of R137 to CNT.VNAN and CNT.VINF. -/
def Core.nfBump (k : Core) (n : Nat × Nat) : Core := (k.bump (kCNT_VNAN) n.1).bump (kCNT_VINF) n.2

/-- The sum of a list of counts. -/
def sumCounts (l : List (Nat × Nat)) : Nat × Nat := l.foldl (fun a b => (a.1 + b.1, a.2 + b.2)) (0, 0)

/-- The block cycle of an issue: cycles since the tick that started the block (R28, Table 10-4 BCYCLE). -/
def Core.blockCycle (k : Core) (frame cy : Nat) : Nat := (frame - k.blockFrame.toNat) * 1300 + cy

/-- Count a bundle: one bundle, and as stalls the cycles since the bundle before it in which none issued (R384). -/
def Core.countBundle (k : Core) (bc : Nat) : Core :=
  { (k.bump (kCNT_BUNDLES) 1).bump (kCNT_STALLS) (bc - k.lastBc) with
    lastBc := bc + 1, blockBundles := k.blockBundles + 1 }

/-- Count the stall cycles of a block that runs on up to block cycle bc, which belong to the frame just ended (R383). -/
def Core.countStalls (k : Core) (bc : Nat) : Core :=
  if k.active ∧ k.st = .running ∧ k.lastBc < bc then { k.bump (kCNT_STALLS) (bc - k.lastBc) with lastBc := bc } else k

end Sys2Proof.Machine
end

