-- ==== Sys2Proof/Machine/Stall.lean ====
section
/-!
DEFINITION. Why an instruction stalls (spec/10_isa.md, R202; spec/02_time_base.md, R28): results still to be read or written, full
queues, guards, flags and third barrier entries, each decided from the instruction's word and a member's core.
-/
namespace Sys2Proof.Machine

/-! ## Queues of the matrix arrays (R86) -/

/-- The logical arrays of an M-slot instruction (R81, R84 to R87). -/
def MKind.arrays (kd : MKind) (f : Fields) : List Nat :=
  match kd with
  | .wload => if f.mb 10 then [f.dst.toNat % 2, f.dst.toNat % 2 + 2] else [f.dst.toNat % 4]
  | .mma => if f.mb 10 then [0, 1, 2, 3] else [f.dst.toNat / 2 % 4]
  | .mdrain => if f.mb 6 then [0, 1, 2, 3] else [f.a.toNat / 2 % 4]

/-- The bank of array a that an instruction names by register field r, a span bank when `span` (R85). -/
def bankOf (span : Bool) (r a : Nat) : Nat := if span then r % 2 + 2 * a else r % 8

def Core.mqueue (k : Core) (a : Nat) : List MOp := k.mq[a % 4]'(Nat.mod_lt _ (by decide))

def Core.setMqueue (k : Core) (a : Nat) (q : List MOp) : Core := { k with mq := k.mq.set (a % 4) q (Nat.mod_lt _ (by decide)) }

def Core.mFull (kd : MKind) (f : Fields) (k : Core) : Bool := (kd.arrays f).any (fun a => decide ((k.mqueue a).length ≥ 4))

/-! ## Regions of a drain (R87, R89) -/

/-- Rows and columns of a drained region. -/
def drainN (f : Fields) : Nat := if f.mb 6 then 32 else 16

/-- Bytes of `n` elements of the output format. -/
def drainBytes (f : Fields) (n : Nat) : Nat := n * drainBits f / 8

/-- The local offset of the scale of row r of a drain to local memory at `a` (R87). -/
def drainScaleAt (f : Fields) (a r : Nat) : Nat := a + drainBytes f (drainN f * 16 * f.m 31 18) + r * f.m 31 18 / 2

/-- The end of a drain's region in local memory, its scales included. -/
def drainEnd (f : Fields) (a : Nat) : Nat :=
  let n := drainN f
  max (a + drainBytes f ((n - 1) * 16 * f.m 31 18 + n)) (if f.mb 5 then drainScaleAt f a (n - 1) + 1 else 0)

/-- Whether a queued drain to local memory writes some of `n` bytes at `a`: a load of them stalls (R89). -/
def Core.drainHits (k : Core) (a n : Nat) : Bool :=
  k.mops.any (fun m => m.kind = .mdrain && m.f.m 1 0 = 1 &&
    (let b := m.v2.toNat
     let w := drainN m.f
     (List.range w).any (fun r =>
       let lo := b + drainBytes m.f (r * 16 * m.f.m 31 18)
       decide (lo < a + n ∧ a < lo + drainBytes m.f w) ||
         (m.f.mb 5 && decide (a ≤ drainScaleAt m.f b r ∧ drainScaleAt m.f b r < a + n)))))

/-! ## Scalar accesses (R215) and tables (R149) -/

/-- Width in bytes of a scalar access (R215). -/
def accWidth (f : Fields) : Nat :=
  match f.fmt.toNat with
  | 0 => 8 | 1 => 4 | 3 => 2 | _ => 1

/-- The address of a scalar access: source 1 plus the sign-extended offset in bits [23:0]. -/
def Core.accAddr (k : Core) (f : Fields) : Nat := (k.rs f.a + (f.mods.extractLsb' 0 24).signExtend 64).toNat

/-- Bytes of a table image. -/
def tableBytes : Nat := 3088

/-! ## The layout engine (R175, R177) -/

/-- The descriptor slot a field names. -/
def Core.dslot (k : Core) (n : Nat) : DSlot := k.dslots[n % 16]'(by omega)

def Core.setDslot (k : Core) (n : Nat) (d : DSlot) : Core := { k with dslots := k.dslots.set (n % 16) d (by omega) }

/-- A tile side of a descriptor waits for earlier drains, loads and transfers that write its tiles (R136, R202). -/
def Core.tileSideBusy (k : Core) (d : Desc) (sb db : Int) : Bool :=
  (List.range 32).any (fun t => k.tPendW t &&
    ((d.sspace = 2 && tilesOf (d.srcExt sb) t) || (d.dspace = 2 && tilesOf (d.dstExt db) t)))

/-- The shifted bases of an LXFER. -/
def Core.xferBases (k : Core) (f : Fields) (d : Desc) : Int × Int :=
  ((d.sbase : Int) + (k.rs f.a).toInt, (d.dbase : Int) + (k.rs f.b).toInt)

/-- Reasons of LXFER to stall: a full queue (R177), or a tile side still to be written. -/
def lxferStall (f : Fields) (m : Fin 96) (s : State) : Bool :=
  let k := s.core m
  decide (k.xfers.length ≥ 8) ||
    (match k.dslot f.dst.toNat with
      | .valid img => let d := parseDesc img; let b := k.xferBases f d; k.tileSideBusy d b.1 b.2
      | _ => false)

/-! ## Counters, barriers and queues (R182 to R195, R219) -/

/-- The live count of a signal counter (R182). -/
def Core.count (k : Core) (n : Nat) : Nat := (mapGet 0 k.scnt n).toNat

/-- Entries of the signal queue, of 16: the held operations of SIGNAL, BARRIVE, FLGSET and CSIG (R187, R219). -/
def Core.sigq (k : Core) : Nat := (k.held.filter (fun h => match h.op with | .store .. | .chain .. => false | _ => true)).length

/-- Entries of the Chain queue, of 16: the held operations of CWRITE and CREAD (R219). -/
def Core.chainq (k : Core) : Nat := (k.held.filter (fun h => match h.op with | .chain .. => true | _ => false)).length

/-- The amount of a SIGNAL: the low 32 bits of a register, 1 for S0 (R183). -/
def Core.amountOf (k : Core) (r : BitVec 5) : Nat := if r = 0 then 1 else (k.rs r).toNat % 2 ^ 32

/-- The limit count(CREDIT) + DEPTH of a guard (R185). -/
def Core.guardLimit (k : Core) (n : Nat) : Nat := k.count (k.fld (kSCNT_CFG n) 21 16) + k.fld (kSCNT_CFG n) 15 0

/-- Whether a guarded SIGNAL stalls (R185); DEPTH 0 is a fault and no stall. -/
def Core.guardStalls (k : Core) (f : Fields) : Bool :=
  f.mb 7 && k.fld (kSCNT_CFG (f.m 13 8)) 15 0 ≠ 0 && decide (k.count (f.m 13 8) + k.amountOf f.b > k.guardLimit (f.m 13 8))

/-- Number of a barrier among those a core keeps: 0 to 63 of its die, 64 to 127 of the module. -/
def barKey (modbar : Bool) (n : Nat) : Nat := (if modbar then 64 else 0) + n

/-- The outstanding count o of a barrier (R192). -/
def Core.bo (k : Core) (modbar : Bool) (n : Nat) : Nat := mapGet 0 k.bout (barKey modbar n)

def State.bsh (s : State) (n : Nat) : Bushel := if h : n < 12 then s.bushels[n] else Bushel.zero

/-! ## Sources of a vector instruction (R126, R129) -/

/-- Whether VCVT's destination is block-scaled: E2M1 always, E4M3, E5M2 and INT8 with BSCL (R126). -/
def cvtBdst (f : Fields) : Bool := f.fmt.toNat = 6 || (f.mb 13 && [4, 5, 7].contains f.fmt.toNat)

/-- Whether its source is. -/
def cvtBsrc (f : Fields) : Bool := f.m 17 14 = 6 || (f.mb 13 && [4, 5, 7].contains (f.m 17 14))

/-- Whether it is block-scaled: E2M1 always, E4M3, E5M2 and INT8 with BSCL. -/
def redScaled (f : Fields) : Bool := !(f.m 17 14 = 8) && (f.fmt.toNat = 6 || (f.mb 13 && [4, 5, 7].contains f.fmt.toNat))

/-! ## Interlocks (R136, R202) -/

/-- Whether an instruction reads a tile through source 1: VCGET places a row number there (R218). -/
def readsTileA (op : Nat) : Bool := op ≠ 0x95

/-- Whether an instruction reads a tile through source 2: VCVT and the reductions only where their source is block-scaled. -/
def readsTileB (op : Nat) (f : Fields) : Bool :=
  if op = 0x78 then cvtBsrc f else if 0x80 ≤ op ∧ op ≤ 0x84 then redScaled f else true

/-- The tiles an instruction writes through its destination field: none for VCPUT, which places a row number there (R218), and for a
drain that leaves the tiles; two where scales or metadata go beside the values (R87, R103, R126). -/
def tilesWritten (op : Nat) (f : Fields) : List Nat :=
  let n := f.dst.toNat
  if op = 0x94 ∨ (op = 0x42 ∧ f.m 1 0 ≠ 0) then []
  else if (op = 0x42 ∧ f.mb 5 = true) ∨ (op = 0x78 ∧ cvtBdst f = true) ∨ op = 0x98 then [n, n + 1]
  else [n]

/-- The tiles that an MMA with ATILE reads: those of its steps (R82). -/
def atiles (f : Fields) : List Nat :=
  (List.range 32).filter (fun t =>
    decide (f.a.toNat ≤ t ∧ t ≤ f.a.toNat + f.m 7 0 / (if f.fmt.toNat ≤ 1 then 16 else if f.mb 25 then 2 else 4)))

/-- The interlocks of an instruction on registers still to be read or written (R136, R202). -/
def Core.interlock (k : Core) (op : Nat) (f : Fields) : Bool :=
  match opRow op with
  | none => false
  | some r =>
    let src := fun (cl : Cls) (tile : Bool) (x : BitVec 5) =>
      match cl with | .s => k.sPend x | .t => tile && k.tPendW x.toNat | _ => false
    let bs := slotOf op = 2 && f.mb 5 && r.b = .t && r.mods &&& mScal ≠ 0
    (match r.dst with
      | .s => k.sPend f.dst
      | .t => (tilesWritten op f).any k.tPendW
      | .d => (match k.dslot f.dst.toNat with | .deciding _ => true | _ => false)
      | _ => false)
    || (if op = 0x41 ∧ f.mb 20 = true then (atiles f).any k.tPendW else src r.a (readsTileA op) f.a)
    || (if bs then k.sPend f.b else src r.b (readsTileB op f) f.b) || src r.c true f.c

/-! ## Stalls of the instructions' own -/

/-- Whether a load of `n` bytes at the device addresses that partition virtual address `a` translates to reads own local memory that a
queued drain writes (R89). -/
def State.ldgHits (s : State) (m : Fin 96) (a n : Nat) : Bool :=
  match (s.translateN (s.core m).part a n false).2 with
  | .ok as => (match s.locate (as.headD 0) with | .lm c o => decide (c = m) && (s.core m).drainHits o n | _ => false)
  | _ => false

/-- Whether a command record for Bushel n must wait in the core's own queue (R221, R245). -/
def State.bcmdWaits (s : State) (m : Fin 96) (n : Nat) : Bool :=
  decide ((s.bsh n).queue.length ≥ 32) || (s.core m).bq.any (fun h => h.mc = n)

/-- Why an instruction of opcode `op` that core `lead` broadcasts stalls at member m, interlocks apart (R28): a full queue, a guard, a
third barrier entry, a flag, or bytes that a queued drain of the core still has to write (R89). -/
def State.opStalls (s : State) (lead m : Fin 96) (op : Nat) (f : Fields) : Bool :=
  let k := s.core m
  match op with
  | 0x40 => k.mFull .wload f
  | 0x41 => k.mFull .mma f
  | 0x42 => k.mFull .mdrain f
  | 0xC0 => decide (k.loads.length ≥ 8) || k.drainHits (k.accAddr f) (accWidth f)
  | 0xC2 => decide (k.loads.length ≥ 8) || s.ldgHits m (k.accAddr f) (accWidth f)
  | 0xC9 => lxferStall f m s
  | 0xCA => k.drainHits (k.rs f.a).toNat tableBytes
  | 0xD1 => k.guardStalls f || decide (k.sigq ≥ 16)
  | 0xD2 => decide (m = lead) && (decide (k.bo (f.mb 6) (f.m 5 0) ≥ 2) || decide (k.sigq ≥ 16))
  | 0xD4 | 0xE2 => decide (k.sigq ≥ 16)
  | 0xD6 => !k.flags.getLsbD (f.m 3 0)
  | 0xE0 | 0xE1 => decide (k.chainq ≥ 16)
  | 0xE8 => decide (k.bq.length ≥ 8) && s.bcmdWaits m (f.m 3 0)
  | _ => false

/-- What a stall leaves in a member for the deadlock detector (R197): the guard or the third barrier entry that it waits for. -/
def Core.stallMark (op : Nat) (f : Fields) (k : Core) : Core :=
  match op with
  | 0xD1 => { k with guardStall := if k.guardStalls f then some (f.m 13 8) else none }
  | 0xD2 => { k with stall := if k.bo (f.mb 6) (f.m 5 0) ≥ 2 then .barrier (f.mb 6) (f.m 5 0) 0 else .none }
  | _ => k

end Sys2Proof.Machine
end

