-- ==== Sys2Proof/Machine/Issue.lean ====
section
/-!
DEFINITION. The issue of an instruction (spec/10_isa.md, R200 to R206; spec/02_time_base.md, R28, R44 to R46): the conditions on
the sequencer, the check of the buffer line, the illegal encodings, the interlocks, the opening and closing of a bundle, and the
broadcast to the members of the gang. An instruction that cannot issue changes nothing (log entry 2).
-/
namespace Sys2Proof.Machine

/-- Whether the sequencer of core c issues: the leader of its gang, running, in a block, and not halted (R44, R423); every slot of an
open bundle issues in the cycle in which the bundle opened (R200). Programs run only in frames of 1,300 cycles (R3). -/
def State.canIssue (s : State) (i : Issue) : Bool :=
  let k := s.core i.core
  decide (k.st = .running) && decide (s.gang[i.core] = i.core) && decide (i.cy < 1300) &&
    (if k.view.isSome then decide (i.cy = k.bcy) else k.active && decide (k.steps ≠ some 0))

/-- Illegal encoding in the bundle next to issue (R205): SEQ.FAULT cause 1 with slot and index, SEQ.FWORD the word. -/
def State.illegalFault (s : State) (c : Fin 96) (slot : Nat) (w : Word64) : State :=
  let s := s.modCore c (fun k =>
    if !(k.hasFault (kSEQ_FAULT)) then
      (k.faultReg (kSEQ_FAULT) (1 + 16 * slot + 2 ^ 16 * k.pc)).setReg64 (kSEQ_FWORD) w.toNat
    else k)
  s.progFault c 1 (kSEQ_FAULT) (opField (w.toNat / 2 ^ 56) slot (s.core c).pc) 0

/-- Poison consumed by a scalar load or by issue (Table 11-4): SEQ.FAULT cause 6, and the partition stops under R238. -/
def State.seqPoison (s : State) (c : Fin 96) (slot op addr : Nat) (inj : Bool := false) : State :=
  let s := s.modCore s.gang[c] (fun k => k.faultReg (kSEQ_FAULT) (6 + 16 * slot + 2 ^ 16 * k.pc))
  s.poisonUse c 8 op addr inj

/-- The data's address of the bundle at the PC of core c, whose line was loaded with poison (R238). -/
def State.lineAddr (s : State) (c : Fin 96) : Nat :=
  let k := s.core c
  match mapFind k.ibSrc (k.pc / 32) with
  | some (true, a) => s.dataAddr (a + 32 * (k.pc % 32))
  | some (false, a) => a + 32 * (k.pc % 32)
  | none => 0

/-- Whether the poison of that line comes of an injection (R240). -/
def State.lineInj (s : State) (c : Fin 96) : Bool :=
  match mapFind (s.core c).ibSrc ((s.core c).pc / 32) with
  | some (true, a) => match s.locate a with | .hbm k => mapGet false s.hbmInj (k / 32) | _ => false
  | _ => false

/-- What the buffer line of the next bundle allows (R46, R216). -/
inductive LineSt where
  | ready | loading | invalid | poisoned
deriving DecidableEq, Repr

/-- The state of the line that holds the next bundle; once the bundle is open its line has been read. -/
def Core.lineSt (k : Core) : LineSt :=
  let l := k.pc / 32
  if k.view.isSome then .ready
  else if k.ibLoads.any (fun x => x.line = l) then .loading
  else if !k.ibValid.getLsbD l then .invalid
  else if k.ibPois.getLsbD l then .poisoned else .ready

/-! ## The bundle (R200 to R205) -/

/-- The words of the bundle at the PC, in slot order (R200). -/
def Core.bundleWords (k : Core) : List Word64 :=
  (List.range 4).map (fun n => BitVec.ofNat 64 (leNat (k.ib.getN (32 * (k.pc % 2048) + 8 * n) 8)))

/-- The instructions of a bundle as slots and words: a slot that holds a NOP issues nothing of its own, and a bundle of NOPs issues as
one NOP (R201). -/
def bundleSlots (ws : List Word64) : List (Nat × Word64) :=
  let l := ((List.range ws.length).map (fun n => (n, ws.getD n 0))).filter (fun (x : Nat × Word64) => x.2 ≠ 0)
  if l = [] then [(0, 0)] else l

/-- The slots of a bundle that hold illegal encodings (R201, R203 to R205): each by its own bits, and the later of two slots
that write one scalar register other than S0 (R202). -/
def bundleIllegal (ws : List Word64) : List (Nat × Word64) :=
  (List.range ws.length).filterMap (fun n =>
    let w := ws.getD n 0
    let dup := match scalarDst w with
      | some d => (List.range n).any (fun m => decide (scalarDst (ws.getD m 0) = some d))
      | none => false
    if illegalIn n w || dup then some (n, w) else none)

/-- The instructions of the present bundle that have yet to issue: of the bundle next to issue, all of them. -/
def Core.todoNow (k : Core) : List (Nat × Word64) := if k.view.isSome then k.todo else bundleSlots k.bundleWords

/-- Whether the instruction of opcode `op` and fields f is the next that the buffer names, in the order S, M, V, L (R202): its word
stands in its slot, and `last` says that no other follows in the bundle. -/
def State.named (s : State) (op : Nat) (i : Issue) (f : Fields) : Bool :=
  match (s.core i.core).todoNow with
  | (n, w) :: r => decide (n = slotOf op ∧ w = wordOf op f ∧ i.last = r.isEmpty)
  | [] => false

/-- The opcode of a word. -/
def opcodeOf (w : Word64) : Nat := w.toNat / 2 ^ 56

/-- Whether an instruction of the bundle next to issue stalls some member of the gang: the whole bundle then stalls, and the gang
(R44, R202). -/
def State.bundleStalls (s : State) (c : Fin 96) : Bool :=
  (bundleSlots (s.core c).bundleWords).any (fun x =>
    (s.members c).any (fun m =>
      (s.core m).interlock (opcodeOf x.2) (fieldsOf x.2) || s.opStalls c m (opcodeOf x.2) (fieldsOf x.2)))

/-- What a stall of the bundle leaves in each member (R197). -/
def State.markStall (s : State) (c : Fin 96) : State :=
  (bundleSlots (s.core c).bundleWords).foldl (fun s x =>
    s.eachMember c (fun m s => s.modCore m (Core.stallMark (opcodeOf x.2) (fieldsOf x.2)))) s

/-- SEQ.STATUS of a core: its gang's values, and whether it is a member other than the leader. -/
def State.seqStatus (s : State) (c : Fin 96) : Nat :=
  let k := s.core s.gang[c]
  (if k.active then 1 else 0) + (if k.spill then 2 else 0) + (if k.waitFailed then 4 else 0) + (if s.gang[c] ≠ c then 8 else 0)
    + 16 * (k.behind % 16)

/-- Record the bundle about to issue in the trace ring where a member of the gang is traced (R424). -/
def State.traceBundle (s : State) (c : Fin 96) : State :=
  let t := s.fld (rDBG_STATUS) 10 4
  if s.bit (rDBG_STATUS) 3 && decide (t < 96) && decide (s.gang[coreOf t] = c) then
    let n := s.fld (rDBG_TRPTR) 11 0
    let e := (s.frame, s.cycle, (s.core c).pc, s.seqStatus (coreOf t))
    let w := if n = 4095 then 1 else s.fld (rDBG_TRPTR) 12 12
    { s with mon := { s.mon with trace := mapSet s.mon.trace n e } }.setReg (rDBG_TRPTR) (BitVec.ofNat 32 ((n + 1) % 4096 + 4096 * w))
  else s

/-- Open a bundle in cycle `cy`: its words have been read from the buffer, every member's operand registers are read as they stand
(R202), and the next index is the following one. -/
def State.openBundle (s : State) (c : Fin 96) (cy : Nat) : State :=
  if (s.core c).view.isSome then s
  else ((s.traceBundle c).eachMember c (fun m s => s.modCore m (fun k => { k with view := some k.opnd }))).modCore c
    (fun k => { k with npc := (k.pc + 1) % 2048, todo := bundleSlots k.bundleWords, bcy := cy })

/-- Close a bundle after its last slot: writes are seen from here on, the bundle is counted, and the leader's PC moves on. A step of the
monitor prints the PC after each bundle (R421). -/
def State.closeBundle (s : State) (c : Fin 96) (cy : Nat) : State :=
  let s := s.eachMember c (fun m s => s.modCore m (fun k =>
    if k.st = .running then { (k.countBundle (k.blockCycle s.frame cy)) with view := none } else { k with view := none }))
  let s := s.modCore c (fun k => if k.st = .running then { k with pc := k.npc } else k)
  match (s.core c).steps with
  | some (n + 1) =>
    { s with out := s.out ++ [Output.line (hexText (s.core c).pc 4)] }.eachMember c (fun m s =>
      s.modCore m (fun k => { k with steps := some n }))
  | _ => s

/-- Issue an instruction: `body` is its effect on one member. The bundle next to issue is checked as a whole before its first
instruction: an illegal encoding stops the partition, and a stall of one instruction holds them all (R202, R205). -/
def State.issue (s : State) (op : Nat) (i : Issue) (f : Fields) (body : Fin 96 → State → State) : Host.Outcome State Fault Refusal :=
  if !(s.canIssue i) then .next s
  else
    let t := { s with cycle := i.cy }
    let k := s.core i.core
    match k.lineSt with
    | .loading => .next s
    | .invalid => .next (t.seqFault i.core 3 0 0)
    | .poisoned => .next (t.seqPoison i.core 0 (opField 0 0 k.pc) (s.lineAddr i.core) (s.lineInj i.core))
    | .ready =>
      match (if k.view.isSome then [] else bundleIllegal k.bundleWords) with
      | (n, w) :: _ => .next (t.illegalFault i.core n w)
      | [] =>
        if !(s.named op i f) then .next s
        else if !k.view.isSome && s.bundleStalls i.core then .next (s.markStall i.core)
        else
          let t := (t.openBundle i.core i.cy).modCore i.core (fun k => { k with todo := k.todo.drop 1 })
          let t := if slotOf op = 2 then t.eachMember i.core (fun m s => s.modCore m (fun k => k.bump (kCNT_VISSUE) 1)) else t
          let t := t.eachMember i.core body
          .next (if i.last ∨ (t.core i.core).st ≠ .running then t.closeBundle i.core i.cy else t)

/-- Issue an instruction whose effect lies within each member's core. -/
def State.issueCore (s : State) (op : Nat) (i : Issue) (f : Fields) (g : Core → Core) : Host.Outcome State Fault Refusal :=
  s.issue op i f (fun m s => s.modCore m g)

/-- OP of an instruction issued by the leader of core c's gang. -/
def State.opOf (s : State) (c : Fin 96) (op : Nat) : Nat := opField op (slotOf op) (s.core s.gang[c]).pc

end Sys2Proof.Machine
end

