-- ==== Sys2Proof/Machine/ChainOps.lean ====
section
/-!
DEFINITION. The message layer of the Chain (spec/13_chain.md, R273 to R283): the bytes of a message, routes, ports, the sending of
messages, and the reachability check of R280.
-/
namespace Sys2Proof.Machine

/-- The units of 16 bytes of a message's data (DLEN). -/
def Msg.dlen (m : Msg) : Nat := m.data.length / 16

/-- The bytes of a message (Table 13-5). -/
def Msg.bytes (m : Msg) : List Byte :=
  leBytes 4 (m.typ + 2 ^ 4 * m.sub + (if m.mcast then 2 ^ 6 else 0) + (if m.sched then 2 ^ 7 else 0) + 2 ^ 8 * m.dst + 2 ^ 20 * m.src)
    ++ leBytes 4 (m.dom + 2 ^ 12 * m.wf + 2 ^ 16 * m.pmask + 2 ^ 24 * m.dlen)
    ++ leBytes 4 (m.tag + 2 ^ 16 * m.agent + 2 ^ 23 * m.ttl) ++ leBytes 4 m.w3 ++ leBytes 16 m.w4 ++ m.data

/-- The message of a header and its data. -/
def parseMsg (b : List Byte) : Msg :=
  let w (i : Nat) := leNat ((b.drop (4 * i)).take 4)
  { typ := bitsOf 3 0 (w 0), sub := bitsOf 5 4 (w 0), mcast := bitsOf 6 6 (w 0) = 1, sched := bitsOf 7 7 (w 0) = 1,
    dst := bitsOf 19 8 (w 0), src := bitsOf 31 20 (w 0), dom := bitsOf 11 0 (w 1), wf := bitsOf 15 12 (w 1),
    pmask := bitsOf 23 16 (w 1), tag := bitsOf 15 0 (w 2), agent := bitsOf 22 16 (w 2), ttl := bitsOf 27 23 (w 2),
    w3 := w 3, w4 := leNat ((b.drop 16).take 16), data := (b.drop 32).take (16 * bitsOf 28 24 (w 1)) }

/-- The data lengths, in units, that Table 13-6 gives a TYPE and SUB; none for what is no message. -/
def msgLens (typ sub : Nat) : List Nat :=
  match typ, sub with
  | 1, 0 => [4, 8, 12, 16]
  | 1, 1 | 1, 2 => [0]
  | 2, 0 | 2, 2 => [0]
  | 2, 1 => [4, 5, 6, 7, 8, 9, 10, 11, 12, 13, 14, 15, 16]
  | 3, 0 | 3, 2 => [0]
  | 4, 0 | 4, 1 => [0]
  | 5, 0 => [8]
  | 5, 1 | 5, 2 => [0]
  | 6, 0 => [4, 8]
  | 7, 0 => [1]
  | 7, 1 => [0]
  | 8, 0 => [0]
  | _, _ => []

/-- Bits [hi:lo] of the word of bytes 12 to 15. -/
def Msg.f3 (m : Msg) (hi lo : Nat) : Nat := bitsOf hi lo m.w3

/-- `n` bytes from byte `o` ≥ 16 of the header. -/
def Msg.f4 (m : Msg) (o n : Nat) : Nat := bitsOf (8 * (o - 16 + n) - 1) (8 * (o - 16)) m.w4

/-! ## Ports and routes -/

def State.port (s : State) (p : Nat) : Port := if h : p < 12 then s.ports[p] else Port.zero

def State.modPort (s : State) (p : Nat) (g : Port → Port) : State :=
  if h : p < 12 then { s with ports := s.ports.set p (g s.ports[p]) h } else s

/-- This module's node identifier (R277). -/
def State.node (s : State) : Nat := s.fld (rCHC_NODEID) 11 0

/-- CH.STATUS.STATE of a port: 0 DOWN, 1 TRAIN, 2 ALIGN, 3 UP, 4 FAULT. -/
def State.portSt (s : State) (p : Nat) : Nat := s.fld (rCH_STATUS p) 2 0

def State.portUp (s : State) (p : Nat) : Bool := decide (p < 12) && decide (s.portSt p = 3)

/-- The output port for a node; 15 is no route (R278). -/
def State.route (s : State) (n : Nat) : Nat :=
  let r := s.fld (rCHC_ROUTE (n % 4096 / 8)) (4 * (n % 8) + 3) (4 * (n % 8))
  if r < 12 then r else 15

/-- UNIT of a Chain port. -/
def unitPort (p : Nat) : Nat := 6 + 16 * p + 2 ^ 14 * (p / 6)

/-- A record of class CHAIN (R331): its SYNDROME the register given. -/
def State.chainRec (s : State) (unit action reg : Nat) : State := s.record 8 unit 0 action 0 7 (s.reg reg).toNat false

/-- Discard a message that routing cannot send (R278, R280). -/
def State.tdrop (s : State) : State := (s.count (rCHC_TDROP) 1).chainRec 0 0 (rCHC_TDROP)

/-- A malformed message (R275). -/
def State.protoRec (s : State) : State := (s.count (rCHC_PROTO) 1).chainRec 0 0 (rCHC_PROTO)

/-- The channel of a message (Table 13-6). -/
def Msg.vcOf (m : Msg) : Nat :=
  if m.typ = 4 ∨ m.typ = 7 ∨ m.typ = 8 then 0
  else if (m.typ ≠ 6 ∧ m.sub ≠ 0) then 3
  else if m.sched then 1 else 2

/-- Queue a message for channel v of a port, or discard it where the port is not UP (R278). -/
def State.toPortOn (s : State) (p src v : Nat) (m : Msg) : State :=
  if s.portUp p then s.modPort p (fun q => { q with outq := q.outq ++ [⟨v, src, m⟩] }) else s.tdrop

/-- Queue a message for a port on its own channel. -/
def State.toPort (s : State) (p src : Nat) (m : Msg) : State := s.toPortOn p src m.vcOf m

/-- The ports of a multicast group, in ascending order, and its LOCAL bit (R279). -/
def State.mcPorts (s : State) (g : Nat) : List Nat :=
  (List.range 12).filter (fun p => (s.reg (rCHC_MCGRP (g % 256))).getLsbD p)

def State.mcLocal (s : State) (g : Nat) : Bool := (s.reg (rCHC_MCGRP (g % 256))).getLsbD 12

/-- Deliver a message internally. -/
def State.deliver (s : State) (port : Option Nat) (transit : Bool) (m : Msg) : State :=
  { s with inbox := s.inbox ++ [⟨port, m.vcOf, transit, m⟩] }

/-- Send a message of this module (R277 to R279). -/
def State.chSend (s : State) (m : Msg) : State :=
  if m.mcast then
    let s := (s.mcPorts m.dst).foldl (fun s p => s.toPort p 12 m) s
    if s.mcLocal m.dst then s.deliver none false m else s
  else if m.dst = s.node then s.deliver none false m
  else if s.route m.dst = 15 then s.tdrop
  else s.toPort (s.route m.dst) 12 m

/-- DOMAIN_ID of partition p, as in force (R35). -/
def State.domId (s : State) (p : Nat) : Nat := bitsOf 11 0 (s.part p).domNow.toNat

/-- A message header of partition p from this module: TTL 31 at the origin. -/
def State.header (s : State) (p typ sub dst agent tag : Nat) : Msg :=
  { typ := typ, sub := sub, mcast := false, sched := false, dst := dst, src := s.node, dom := s.domId p, wf := 0, pmask := 0,
    tag := tag, agent := agent, ttl := 31, w3 := 0, w4 := 0, data := [] }

/-- What the requests that core c issues now carry (R286): its block's WF, scheduled where the partition's requests are. -/
def State.chTag (s : State) (c : Fin 96) : ChTag :=
  { sched := s.bit (rCHC_DOMCFG (s.core c).part) 21, dom := s.domId (s.core c).part, wf := (s.core s.gang[c]).wframe.toNat % 16 }

/-- A request of a core, with what its instruction took at issue (R286). -/
def State.coreMsg (s : State) (c : Fin 96) (g : ChTag) (typ dst tag : Nat) : Msg :=
  { s.header (s.core c).part typ 0 dst c.val tag with dom := g.dom, wf := g.wf, sched := g.sched }

/-- A response to a message: SUB, REASON, to its source. -/
def State.respond (s : State) (m : Msg) (sub w3 : Nat) : State :=
  s.chSend { m with sub := sub, mcast := false, sched := false, dst := m.src, src := s.node, pmask := 0, ttl := 31,
                    w3 := w3, w4 := 0, data := [] }

/-- Whether partition p may send to a node: its own, or by a route through its ports to a port that is UP (R280). -/
def State.chainReach (s : State) (p node : Nat) : Bool :=
  decide (node = s.node) ||
    (decide (s.route node < 12) && (s.reg (rCHC_PRIGHTS p)).getLsbD (s.route node) && s.portUp (s.route node))

/-- A Chain fault of core c (R280, R282, R283): CHC.PFAULT, and a program fault of the Chain. -/
def State.chainFault (s : State) (c : Fin 96) (cause node reason op : Nat) : State :=
  let p := match s.partOf c with | some p => p | none => (s.core c).part
  let s := if (s.core c).shut = false ∧ s.fld (rCHC_PFAULT p) 3 0 = 0 then
      s.setReg (rCHC_PFAULT p) (BitVec.ofNat 32 (cause + 2 ^ 4 * c.val + 2 ^ 12 * (node % 4096) + 2 ^ 24 * reason)) else s
  let s := if (s.core c).shut then s else s.errsum c ePROG
  let s := s.record 4 (s.unitCore c) op 4 0 6 (6 + 2 ^ 32 * (s.reg (rCHC_PFAULT p)).toNat) false
  s.stopPart p c.val 6 .stopped

/-- Draw the next tag. -/
def State.drawTag (s : State) : State × Nat := ({ s with nextTag := (s.nextTag + 1) % 65536 }, s.nextTag)

/-- PMASK of sectors: bit i for the i-th 32 bytes. -/
def pmaskOf (l : List Bool) : Nat := l.foldr (fun b a => (if b then 1 else 0) + 2 * a) 0

/-- Send one request of a CWRITE or CREAD: up to four blocks at local offset `loc` and remote address `rem` (R274). -/
def State.chainReq (s : State) (c : Fin 96) (g : ChTag) (uid : Nat) (write : Bool) (rem loc node n : Nat) : State :=
  let (s, tag) := s.drawTag
  let m := s.coreMsg c g (if write then 1 else 2) node tag
  let k := s.core c
  let m :=
    if write then
      { m with w4 := rem, data := k.lmRead loc n,
               pmask := pmaskOf ((List.range (n / 32)).map (fun i => k.lmPoison (loc + 32 * i) 32)) }
    else { m with w3 := n / 16, w4 := rem }
  let r : ChReq :=
    { tag := tag, kind := if write then .write else .read, agent := c.val, uid := uid, loc := loc, len := n, node := node,
      frame := s.frame }
  { s with reqs := s.reqs ++ [r] }.chSend m

/-- Send the requests of a CWRITE or CREAD of `b` blocks, in ascending address order (R274). -/
def State.chainReqs (s : State) (c : Fin 96) (g : ChTag) (uid : Nat) (write : Bool) (rem loc node b : Nat) : State :=
  (List.range ((b + 3) / 4)).foldl (fun s i =>
    s.chainReq c g uid write (rem + 256 * i) (loc + 256 * i) node (64 * min 4 (b - 4 * i))) s

/-- Begin a CWRITE or CREAD that no fence holds: its requests go, and it awaits their responses (R220). -/
def State.chainStart (s : State) (c : Fin 96) (g : ChTag) (uid : Nat) (write : Bool) (rem loc node b : Nat) (sigen : Bool) (scnt opw : Nat) :
    State :=
  let s := s.modCore c (fun k =>
    { k with chq := k.chq ++ [({ uid := uid, opw := opw, sigen := sigen, scnt := scnt, left := (b + 3) / 4 } : ChainOp)],
             outw := k.outw ++ [(uid, if write then .chain else .core)] })
  s.chainReqs c g uid write rem loc node b

/-- Send the SIGNAL of a CSIG (R220). -/
def State.sendCsig (s : State) (c : Fin 96) (g : ChTag) (node core n amount : Nat) : State :=
  let (s, tag) := s.drawTag
  s.chSend { s.coreMsg c g 3 node tag with w3 := amount, w4 := core + 2 ^ 8 * n }

end Sys2Proof.Machine
end

