-- ==== Sys2Proof/Machine/Order.lean ====
section
/-!
DEFINITION. Ordered operations (spec/09_sync.md, R182 to R187): counters, fences, the operations they hold, and their release.
-/
namespace Sys2Proof.Machine

/-- Add to a counter; past 2^64 − 1 it stays there and SCNT.FAULT.SAT is set (R182). -/
def Core.addCount (k : Core) (n amount : Nat) : Core :=
  if k.count n + amount ≥ 2 ^ 64 then
    { k with scnt := mapPut 0 k.scnt n (BitVec.allOnes 64) }.setFld (kSCNT_FAULT) 11 11 1
  else { k with scnt := mapPut 0 k.scnt n (BitVec.ofNat 64 (k.count n + amount)) }

/-- The newest fence of the core, which a later ordered operation waits for (R187). -/
def Core.newFence (k : Core) : Nat := match k.fences.getLast? with | some x => x.id | none => 0

/-- Whether a fence still holds an operation whose newest fence was `fid` (R187). -/
def Core.heldBy (k : Core) (fid : Nat) : Bool := k.fences.any (fun x => decide (x.id ≤ fid))

/-- Writes of the core not yet performed at a scope (Table 9-2): transfers, drains that leave the core's tiles, held stores, and
writes that await an acknowledgement of the scope. -/
def Core.outIds (k : Core) (scope : Nat) : List Nat :=
  k.xfers.map (·.uid) ++ (k.mops.filter (fun m => m.kind = .mdrain && m.f.m 1 0 ≠ 0)).map (·.uid)
    ++ (k.held.filterMap (fun h => match h.op with
      | .store .. => some h.id
      | .chain _ write .. => if write && decide (scope < 3) then none else some h.id
      | _ => none))
    ++ (k.outw.filterMap (fun w => match w.2 with
      | .core => some w.1
      | .host => if scope ≥ 2 then some w.1 else none
      | .chain => if scope ≥ 3 then some w.1 else none))

/-- Fences whose writes are performed at their scopes end (R187). -/
def Core.pruneFences (k : Core) : Core :=
  { k with fences := (k.fences.map (fun x => { x with deps := x.deps.filter (k.outIds x.scope).contains })).filter (fun x => x.deps ≠ []) }

/-- Perform a store of `width` bytes: to own local memory, or to a device address; a store to host memory awaits the host's
acknowledgement (R215, R304). -/
def State.doStore (s : State) (c : Fin 96) (id : Nat) (dev : Bool) (addr width value : Nat) : State :=
  let b := leBytes width value
  if dev then
    let t := s.devWrite addr b false
    match s.locate addr with
    | .host _ => t.modCore c (fun k => { k with outw := k.outw ++ [(id, .host)] })
    | _ => t
  else s.modCore c (fun k => k.lmWrite addr b false)

/-- Perform an ordered operation of core c that no fence holds. -/
def State.perform (s : State) (c : Fin 96) (id : Nat) (op : HeldOp) : State :=
  match op with
  | .store dev addr width value => s.doStore c id dev addr width value
  | .signal core n amount => if amount = 0 then s else { s with flights := s.flights ++ [.inc c.val core n amount] }
  | .arrive modbar n tag => { s with flights := s.flights ++ [.arrive c.val modbar n tag] }
  | .flag core n => { s with flights := s.flights ++ [.flag c.val core n] }
  | .csig tag node core n amount => s.sendCsig c tag node core n amount
  | .chain tag write rem loc node b sigen scnt opw => s.chainStart c tag id write rem loc node b sigen scnt opw

/-- Release held operations, oldest first, as their fences end. -/
def State.release (s : State) (c : Fin 96) : Nat → State
  | 0 => s
  | fuel + 1 =>
    let s := s.modCore c Core.pruneFences
    let k := s.core c
    match k.held.find? (fun h => !(k.heldBy h.fid)) with
    | some h =>
      ((s.modCore c (fun k => { k with held := k.held.filter (fun x => x.id ≠ h.id) })).perform c h.id h.op).release c fuel
    | none => s

/-- What follows when a write of core c is performed: fences end and held operations go (R187). -/
def State.settle (s : State) (c : Fin 96) : State := s.release c ((s.core c).held.length + 1)

/-- Issue an ordered operation: performed at once, or held behind the newest fence (R187). -/
def State.ordered (s : State) (c : Fin 96) (op : HeldOp) : State :=
  let k := s.core c
  let t := { s with nextId := s.nextId + 1 }
  if k.fences = [] then t.perform c s.nextId op
  else t.modCore c (fun k => { k with held := k.held ++ [⟨s.nextId, k.newFence, op⟩] })

/-- SCNT.FAULT of a core (R199): cause, index, module barrier; a program fault of the counter unit. -/
def State.scntFault (s : State) (c : Fin 96) (cause ix : Nat) (modbar : Bool) (op : Nat) : State :=
  let s := s.modCore c (fun k => k.faultReg (kSCNT_FAULT) (cause + 16 * ix + if modbar then 2 ^ 10 else 0))
  s.progFault c 5 (kSCNT_FAULT) op 0

end Sys2Proof.Machine
end

