-- ==== Sys2Proof/Machine/BushelOps.lean ====
section
/-!
DEFINITION. The operations of the Bushels (spec/12_bushel.md): refusals, additions into accumulation regions, contributions and their
ordered sums.
-/
namespace Sys2Proof.Machine

def State.modBsh (s : State) (n : Nat) (g : Bushel → Bushel) : State :=
  if h : n < 12 then { s with bushels := s.bushels.set n (g s.bushels[n]) h } else s

def Bushel.job (b : Bushel) (j : Nat) : Job := b.jobs[j % 16]'(Nat.mod_lt _ (by decide))

def Bushel.setJob (b : Bushel) (j : Nat) (x : Job) : Bushel := { b with jobs := b.jobs.set (j % 16) x (Nat.mod_lt _ (by decide)) }

def State.job (s : State) (n j : Nat) : Job := (s.bsh n).job j

def State.setJob (s : State) (n j : Nat) (x : Job) : State := s.modBsh n (fun b => b.setJob j x)

/-- Refuse a command or drain (R247): BSH.CFAULT, a program fault of the issuing core, a record of class BUSHEL. -/
def State.bshRefuse (s : State) (n cause job : Nat) (c : Fin 96) (part op : Nat) : State :=
  let s := if s.isStopped part = false ∧ s.fld (rBSH_CFAULT n) 3 0 = 0 then
      s.setReg (rBSH_CFAULT n) (BitVec.ofNat 32 (cause + 2 ^ 4 * job + 2 ^ 8 * part + 2 ^ 11 * c.val)) else s
  let s := if s.isStopped part then s else s.errsum c ePROG
  let s := s.record 10 (unitMc n + 2 ^ 18 * part + 2 ^ 21) op 4 0 7 (s.reg (rBSH_CFAULT n)).toNat false
  s.stopPart part c.val 7 .stopped

/-- Whether `len` bytes at a stack offset lie in partition p's private region on controller n (R243). -/
def State.inRegion (s : State) (p n off len : Nat) : Bool :=
  let b := s.fld (rBSH_PRIVBASE n p) 15 0 * 2 ^ 21
  let l := s.fld (rBSH_PRIVLEN n p) 15 0 * 2 ^ 21
  decide (b ≤ off ∧ off + len ≤ b + l)

/-- The HBM keys of `len` bytes at a stack offset of controller n. -/
def bshKeys (n off len : Nat) : List Nat := (List.range len).map (fun i => hbmKey (n, off + i))

/-- FP32 values of bytes. -/
def f32s : List Byte → List Nat
  | a :: b :: c :: d :: r => leNat [a, b, c, d] :: f32s r
  | _ => []

/-- One rounded FP32 addition of encodings (R248, R252). -/
def f32add (a b : Nat) : Nat := fencode .fp32 (rnd .fp32 ((fdecode .fp32 a).add (fdecode .fp32 b)))

/-- Whether an FP32 encoding is NaN or infinite. -/
def f32nf (a : Nat) : Bool := !(fdecode .fp32 a).isFin

/-- Write FP32 values at a stack offset, with poison. -/
def State.bshPut (s : State) (n off : Nat) (vs : List Nat) (p : Bool) : State :=
  let b := vs.flatMap (leBytes 4)
  s.hbmWrite (((bshKeys n off b.length).zip b).map (fun x => (x.1, x.2, p)))

/-- Read FP32 values at a stack offset, with their poison. -/
def State.bshGet (s : State) (n off len : Nat) : State × List Nat × Bool :=
  let r := s.hbmRead (bshKeys n off (4 * len))
  (r.1, f32s r.2.1, r.2.2)

/-- The sum block `b`, of 128 bytes at stack offset 128 b, is poisoned, and counted unless `s` shows it poisoned already (R260). -/
def State.poisonBlock (n : Nat) (s t : State) (b : Nat) : State :=
  let ks := (List.range 4).map (fun i => hbmKey (n, 128 * b) / 32 + i)
  let t := if ks.any (fun k => mapGet false s.hbmPois k) then t else t.count (rBSH_POISON n) 1
  { t with hbmPois := ks.foldl (fun z k => mapPut false z k true) t.hbmPois, hbmInj := ks.foldl mapErase t.hbmInj }

/-- Add one drained row into an accumulation region (R248): each element rounded, non-finite ones counted in NFLOCAL, each
128-byte block that it touches in ADDS. A poisoned row poisons those blocks, each counted as it becomes poisoned (R260). -/
def State.bshAddRow (s : State) (n off : Nat) (vs : List Nat) (z : Bool) : State :=
  let r := s.bshGet n off vs.length
  let t := r.1.bshPut n off (List.zipWith f32add r.2.1 vs) (r.2.2 || z)
  let t := if z then ((List.range ((off + 4 * vs.length - 1) / 128 + 1 - off / 128)).map (off / 128 + ·)).foldl
      (State.poisonBlock n s) t else t
  (t.count (rBSH_NFLOCAL n) (vs.filter f32nf).length).count64 (rBSH_ADDS n) ((off + 4 * vs.length - 1) / 128 + 1 - off / 128)

/-- The sources of contributions: a core, or the Bushel of a controller. -/
inductive Sender where
  | core (c : Fin 96) (tag : ChTag)
  | bushel (n part : Nat)
deriving DecidableEq, Repr

/-- Send a contribution (R250): 32 FP32 values for block `blk` of job `job` at controller `omc` of `node`. A Bushel that cannot
route it discards it (R280). -/
def State.sendContrib (s : State) (who : Sender) (uid node omc job rank blk : Nat) (vs : List Nat) (z : Bool) : State :=
  let (s, tag) := s.drawTag
  let fill (m : Msg) : Msg :=
    { m with w3 := omc + 2 ^ 4 * job + 2 ^ 8 * rank, w4 := blk % 2 ^ 32, pmask := if z then 15 else 0,
             data := vs.flatMap (leBytes 4) }
  let req (a : Nat) : ChReq :=
    { tag := tag, kind := .contrib, agent := a, uid := uid, loc := 0, len := 0, node := node, frame := s.frame }
  match who with
  | .core c g => { s with reqs := s.reqs ++ [req c.val] }.chSend (fill (s.coreMsg c g 5 node tag))
  | .bushel n p =>
    if s.chainReach p node then
      let t := { s with reqs := s.reqs ++ [req (96 + n)], freeCtr := s.freeCtr + 1 }
      t.chSend (fill { s.header p 5 0 node (96 + n) tag with wf := Config.freeNat s.freeCtr % 16 })
    else s.tdrop

/-! ## Contributions at the owner (R251, R252) -/

def Block.zero : Block :=
  { empty := true, poison := false, e := 0, got := [], added := 0, window := [], relaxed := false, updated := false }

def Job.block (x : Job) (b : Nat) : Block := (mapFind x.blocks b).getD Block.zero

def Job.setBlock (x : Job) (b : Nat) (y : Block) : Job := { x with blocks := mapSet x.blocks b y }

/-- Whether every rank of a block has been added (R252). -/
def Job.complete (x : Job) (b : Nat) : Bool := decide ((x.block b).added = x.ranks)

/-- Contributions that a Bushel holds (BSH.STAGE.HELD). -/
def Bushel.heldN (b : Bushel) : Nat := (b.jobs.toList.map (fun j => (j.blocks.map (fun x => x.2.window.length)).sum)).sum

/-- add(c) of R252, under the policy of R259; a block that becomes poisoned is counted (R260). -/
def State.sumAdd (s : State) (n j b : Nat) (c : HeldC) : State :=
  let x := s.job n j
  let y := x.block b
  let nf := (c.vals.filter f32nf).length
  let vs := if x.nfpol = 1 then c.vals.map (fun v => if f32nf v then 0 else v) else c.vals
  let s := if x.nfpol = 1 then s.count (rBSH_NFZERO n) nf else s.count (rBSH_NFPROP n) nf
  let x := if x.nfpol = 1 then { x with nzero := x.nzero + nf } else { x with nprop := x.nprop + nf }
  let off := x.abase + 128 * b
  let r := if y.empty then (s, vs, false) else
    let g := s.bshGet n off 32
    (g.1, List.zipWith f32add g.2.1 vs, g.2.2)
  let t := (r.1.bshPut n off r.2.1 (r.2.2 || c.poison)).count64 (rBSH_ADDS n) 1
  let z := decide (y.poison = false) && (r.2.2 || c.poison)
  let t := if z then t.count (rBSH_POISON n) 1 else t
  t.setJob n j { x.setBlock b { y with empty := false, poison := y.poison || z, added := y.added + 1 } with
    npois := x.npois + (if z then 1 else 0), poison := x.poison || z }

/-- Add the held contributions that are next in rank order. -/
def State.sumRun (s : State) (n j b : Nat) : Nat → State
  | 0 => s
  | fuel + 1 =>
    let y := (s.job n j).block b
    match y.window.find? (fun h => h.rank = y.e) with
    | none => s
    | some h =>
      let s := s.setJob n j ((s.job n j).setBlock b { y with window := y.window.filter (fun w => w.rank ≠ h.rank), e := y.e + 1 })
      (s.sumAdd n j b h).sumRun n j b fuel

/-- Insert a held contribution in ascending rank. -/
def insertHeld (h : HeldC) : List HeldC → List HeldC
  | [] => [h]
  | w :: r => if h.rank < w.rank then h :: w :: r else w :: insertHeld h r

/-- Accept a contribution (R252). A job whose blocks are all complete begins its updating (log entry 22). -/
def State.acceptContrib (s : State) (n j b : Nat) (c : HeldC) : State :=
  let y := { (s.job n j).block b with got := c.rank :: ((s.job n j).block b).got }
  let s := s.setJob n j ((s.job n j).setBlock b y)
  let s :=
    if y.relaxed then s.sumAdd n j b c
    else if c.rank = y.e then
      let s := s.setJob n j ((s.job n j).setBlock b { y with e := y.e + 1 })
      (s.sumAdd n j b c).sumRun n j b 8
    else if y.window.length < 8 ∧ (s.bsh n).heldN < 32768 then
      let s := s.setJob n j ((s.job n j).setBlock b { y with window := insertHeld c y.window })
      s.modBsh n (fun u => { u with high := max u.high u.heldN })
    else
      let first := !(s.job n j).relaxed
      let s := s.setJob n j { (s.job n j).setBlock b { y with window := [], relaxed := true } with
        relaxed := true, nrelaxed := (s.job n j).nrelaxed + 1 }
      let s := y.window.foldl (fun s h => s.sumAdd n j b h) s
      let s := s.sumAdd n j b c
      if first then
        let t := s.count (rBSH_RELAXED n) 1
        t.record 10 (unitMc n + 2 ^ 18 * (s.job n j).part + 2 ^ 21) 0 0 0 7 (t.reg (rBSH_CFAULT n)).toNat false
      else s
  let x := s.job n j
  if (x.blocks.filter (fun q => x.complete q.1)).length = x.nb then s.setJob n j { x with st := .updating } else s

/-- Whether the owner takes a contribution (R251): none, or the counter that a failure adds to. -/
def Job.takes (x : Job) (b rank : Nat) : Bool := decide (b < x.nb ∧ rank < x.ranks ∧ rank ∉ (x.block b).got)

end Sys2Proof.Machine
end

