-- ==== Sys2Proof/Machine/Bushel.lean ====
section
/-!
DEFINITION. The commands of the Bushels (spec/12_bushel.md): BCMD and the records it hands over, the update of a block, and the
completion of a job.
-/
namespace Sys2Proof.Machine

/-! ## Command records (R221, R245) -/

/-- A field of `n` bytes of a record. -/
def BRec.fld (r : BRec) (off n : Nat) : Nat := leNat ((r.bytes.drop off).take n)

/-- Bits of CTRL (Table 12-3). -/
def BRec.ctrl (r : BRec) (hi lo : Nat) : Nat := bitsOf hi lo (r.fld 0 4)

/-- BCMD (R221): the record goes to the queue of Bushel MC, or stays in the core's Bushel queue behind its earlier ones. -/
def execBcmd (i : Issue) (f : Fields) (s : State) : Host.Outcome State Fault Refusal :=
  let n := f.m 3 0
  s.issue 0xE8 i f (fun m s =>
    let k := s.core m
    let a := (k.rs f.a).toNat
    let op := s.opOf m 0xE8
    if a + 64 > lmEnd then s.layFault m 2 0 op
    else if k.lmPoison a 64 then s.seqPoison m 3 op a
    else
      let b := if a % 64 = 0 then k.lmRead a 64 else (List.range 64).map (Config.freeByte s.freeCtr)
      let t := if a % 64 = 0 then s else s.fresh
      if s.bcmdWaits m n then
        let h : BHeld := { id := s.nextId, mc := n, part := k.part, bytes := b }
        { t with nextId := s.nextId + 1 }.modCore m (fun k => { k with bq := k.bq ++ [h] })
      else t.modBsh n (fun u => { u with queue := u.queue ++ [({ core := m.val, part := k.part, bytes := b } : BRec)] }))

/-- The record of a core's Bushel queue that arrived first for Bushel n. -/
def State.bqFirst (s : State) (n : Nat) : Option (Fin 96 × BHeld) :=
  (allCores.flatMap (fun c => ((s.core c).bq.filter (fun h => h.mc = n)).map (fun h => (c, h)))).foldl
    (fun (a : Option (Fin 96 × BHeld)) x => match a with
      | some y => if x.2.id < y.2.id then some x else some y
      | none => some x) none

/-- Take the oldest waiting record into the queue of Bushel n (R245). -/
def State.bqPull (s : State) (n : Nat) : State :=
  match s.bqFirst n with
  | some (c, h) =>
    (s.modCore c (fun k => { k with bq := k.bq.filter (fun x => x.id ≠ h.id) })).modBsh n
      (fun u => { u with queue := u.queue ++ [({ core := c.val, part := h.part, bytes := h.bytes } : BRec)] })
  | none => s

/-- Whether a record breaks the fields of Table 12-3 that its command has. -/
def BRec.badField (r : BRec) : Bool :=
  r.ctrl 31 27 ≠ 0 ||
    match r.ctrl 7 0 with
    | 1 | 2 => r.fld 8 8 % 64 ≠ 0
    | 4 =>
      r.ctrl 13 12 = 3 || r.ctrl 18 17 = 3 || bitsOf 31 20 (r.fld 0x2C 4) ≠ 0 || bitsOf 31 31 (r.fld 0x28 4) ≠ 0
        || [8, 0x10, 0x18, 0x20, 0x38].any (fun o => r.fld o 8 % 64 ≠ 0)
        || (let k := bitsOf 12 0 (r.fld 0x28 4); decide (k = 0 ∨ k > 4096))
        || (r.ctrl 13 12 ≠ 2 && (r.fld 0x30 4 ≠ 0 || r.fld 0x34 4 ≠ 0))
    | 3 | 5 => false
    | _ => true

/-- Run the record at the front of Bushel n's queue, whose OP is `op`, by `body` (R245); an OP outside 1 to 5 is refused. -/
def State.bcmdRun (s : State) (n op : Nat) (body : BRec → State → State) : State :=
  match (s.bsh n).queue with
  | [] => s
  | r :: q =>
    let o := r.ctrl 7 0
    if o = op ∨ o = 0 ∨ o > 5 then
      let s := s.modBsh n (fun u => { u with queue := q })
      let s :=
        if r.badField then s.bshRefuse n 1 (r.ctrl 11 8) (coreOf r.core) r.part (opField 0xE8 3 0 % 2 ^ 10)
        else body r s
      s.bqPull n
    else s

/-- Refuse the record r (R247). -/
def State.refuse (s : State) (n cause : Nat) (r : BRec) : State :=
  s.bshRefuse n cause (r.ctrl 11 8) (coreOf r.core) r.part (opField 0xE8 3 0 % 2 ^ 10)

/-- CLEAR (R246): writes +0 to NB blocks of the accumulation region. -/
def execJobClear (n : Fin 12) (s : State) : Host.Outcome State Fault Refusal :=
  .next (s.bcmdRun n.val 1 (fun r s =>
    let nb := r.fld 4 4
    let a := r.fld 8 8
    if !(s.inRegion r.part n.val a (128 * nb)) then s.refuse n.val 3 r
    else if nb = 0 then s.refuse n.val 4 r
    else
      let s := s.bshPut n.val a (List.replicate (32 * nb) 0) false
      if r.ctrl 19 19 = 1 then s.modCore (coreOf r.core) (fun k => k.addCount (r.ctrl 25 20) 1) else s))

/-- SEND (R250): each block in turn is read, overwritten with +0 under ZAFTER, and sent as a contribution. -/
def execJobSend (n : Fin 12) (s : State) : Host.Outcome State Fault Refusal :=
  .next (s.bcmdRun n.val 2 (fun r s =>
    let nb := r.fld 4 4
    let a := r.fld 8 8
    let d := r.fld 0x14 4
    if !(s.inRegion r.part n.val a (128 * nb)) then s.refuse n.val 3 r
    else if nb = 0 then s.refuse n.val 4 r
    else
      let u := s.nextId
      let so : SendOp := { uid := u, core := r.core, sigen := r.ctrl 19 19 = 1, scnt := r.ctrl 25 20, left := nb }
      let s := { s with nextId := u + 1 }.modBsh n.val (fun b => { b with sends := b.sends ++ [so] })
      (List.range nb).foldl (fun s k =>
        let g := s.bshGet n.val (a + 128 * k) 32
        let t := if r.ctrl 26 26 = 1 then g.1.bshPut n.val (a + 128 * k) (List.replicate 32 0) false else g.1
        t.sendContrib (.bushel n.val r.part) u (bitsOf 11 0 d) (bitsOf 15 12 d) (r.ctrl 11 8) (bitsOf 27 16 d)
          ((r.fld 0x10 4 + k) % 2 ^ 32) g.2.1 g.2.2) s))

/-- SCALARS (R246): loads the slot's scalars; the slot is LOADED and the issuing partition's. -/
def execJobScalars (n : Fin 12) (s : State) : Host.Outcome State Fault Refusal :=
  .next (s.bcmdRun n.val 3 (fun r s =>
    let j := r.ctrl 11 8
    let x := s.job n.val j
    if x.st = .opened ∨ x.st = .updating then s.refuse n.val 2 r
    else
      s.setJob n.val j { x with st := .loaded, part := r.part, scalars := (List.range 14).map (fun i => r.fld (4 + 4 * i) 4) }))

/-- ABORT (R246): a slot of the issuing partition returns to FREE; contributions not yet summed are discarded. -/
def execJobAbort (n : Fin 12) (s : State) : Host.Outcome State Fault Refusal :=
  .next (s.bcmdRun n.val 5 (fun r s =>
    let j := r.ctrl 11 8
    let x := s.job n.val j
    if x.st = .free ∨ x.part ≠ r.part then s.refuse n.val 2 r
    else s.setJob n.val j Job.zero))

/-! ## OPEN (R244, R246) -/

/-- Moment arrays of a job. -/
def Job.nv (x : Job) : Nat := if x.rule = 1 then 2 else 1

/-- SCL of Table 12-1. -/
def Job.scl (x : Job) : Nat := x.sbase + 32 * x.nv * x.nb

/-- FB of Table 12-1. -/
def Job.fb (x : Job) : Nat := (x.scl + x.nv * x.nb + 63) / 64 * 64

/-- Bytes of one block of master weights. -/
def Job.wlen (x : Job) : Nat := if x.mfmt = 1 then 64 else 128

/-- Bytes of a job's state. -/
def Job.slen (x : Job) : Nat := (if x.rule = 2 then x.fb + 4 * (x.rows + x.cols) else x.scl + x.nv * x.nb) - x.sbase

/-- The device address behind an address of the job, by the pages that OPEN translated. -/
def Job.phys (x : Job) (va : Nat) : Nat := mapGet 0 x.pages (va / 2 ^ 21) + va % 2 ^ 21

/-- The 2 MiB pages that `len` bytes from `va` touch. -/
def pagesOf (va len : Nat) : List Nat :=
  if len = 0 then [] else (List.range ((va + len - 1) / 2 ^ 21 + 1 - va / 2 ^ 21)).map (va / 2 ^ 21 + ·)

/-- Translate pages for writing, and for reading where `rd` says so, noting where each lies (R308). -/
def State.openPages (s : State) (p : Nat) (acc : List (Nat × Nat)) : List (Nat × Bool) → State × Xlate × List (Nat × Nat)
  | [] => (s, .ok 0, acc)
  | (v, rd) :: r =>
    match s.translate p (v * 2 ^ 21) true with
    | (s, .ok a) =>
      match (if rd then s.translate p (v * 2 ^ 21) false else (s, .ok a)) with
      | (s, .ok _) => s.openPages p (mapSet acc v a) r
      | (s, x) => (s, x, acc)
    | (s, x) => (s, x, acc)

/-- Whether `len` bytes of the job from `va` lie wholly on stack n (R246). -/
def State.onStack (s : State) (n : Nat) (x : Job) (va len : Nat) : Bool :=
  len = 0 || (List.range ((va + len - 1) / 256 + 1 - va / 256)).all (fun i =>
    match s.locate (x.phys (max va ((va / 256 + i) * 256))) with
    | .hbm k => decide (k / 2 ^ 37 = n)
    | _ => false)

/-- The job that an OPEN record describes. -/
def BRec.job (r : BRec) (x : Job) (key : Nat) : Job :=
  let g := r.fld 0x28 4
  let l := r.fld 0x2C 4
  { Job.zero with
    st := .opened, part := r.part, rule := r.ctrl 13 12, mfmt := r.ctrl 14 14, rm := r.ctrl 15 15, nfpol := r.ctrl 16 16,
    bfmt := r.ctrl 18 17, nb := r.fld 4 4, pbase := r.fld 8 8, sbase := r.fld 0x10 8, abase := r.fld 0x18 8,
    rbase := r.fld 0x20 8, cbase := r.fld 0x38 8, ranks := bitsOf 12 0 g, mgrp := bitsOf 20 13 g, tmc := bitsOf 24 21 g,
    rscnt := bitsOf 30 25 g, rcore := bitsOf 6 0 l, lcore := bitsOf 13 7 l, lscnt := bitsOf 19 14 l, rows := r.fld 0x30 4,
    cols := r.fld 0x34 4, key := key, scalars := x.scalars }

/-- OPEN (R246): the slot's state, LCORE, the extents and the sizes are checked; then the job is open and every block awaits rank 0. -/
def execJobOpen (n : Fin 12) (s : State) : Host.Outcome State Fault Refusal :=
  .next (s.bcmdRun n.val 4 (fun r s =>
    let j := r.ctrl 11 8
    let old := s.job n.val j
    let x := r.job old (s.reg64 (rPART_SRKEY r.part))
    if old.st ≠ .loaded ∨ x.lcore ≥ 96 ∨ s.inPart r.part (coreOf x.lcore) = false then s.refuse n.val 2 r
    else
      let own := (pagesOf x.pbase (x.wlen * x.nb) ++ pagesOf x.sbase x.slen).map (fun v => (v, true))
      match s.openPages r.part [] (own ++ (pagesOf x.cbase 64).map (fun v => (v, false))) with
      | (s, .ok _, pages) =>
        let x := { x with pages := pages }
        if !(s.onStack n.val x x.pbase (x.wlen * x.nb)) || !(s.onStack n.val x x.sbase x.slen)
            || !(s.inRegion r.part n.val x.abase (128 * x.nb)) then s.refuse n.val 3 r
        else if x.nb = 0 ∨ (x.rule = 2 ∧ (x.rows * x.cols ≠ 32 * x.nb ∨ x.cols % 32 ≠ 0)) then s.refuse n.val 4 r
        else s.setJob n.val j x
      | (s, .poison off, _) => s.ptePoison r.part (coreOf r.core) (opField 0xE8 3 0 % 2 ^ 10) off
      | (s, .fail, _) => s.refuse n.val 3 r))

/-! ## The update of a block (R253 to R256) -/

/-- FP32 operations, each rounded once (R253). -/
def bMul (a b : Fv) : Fv := rnd .fp32 (a.mul b)
def bAdd (a b : Fv) : Fv := rnd .fp32 (a.add b)
def bFma (a b c : Fv) : Fv := rnd .fp32 (a.fma b c)

/-- A scalar of the job, by its place in Table 12-2: 0 GS, 1 LR, 2 WD, 3 MU, 4 B1, 5 OB1, 6 B2, 7 OB2, 8 EPS, 9 C1, 10 C2. -/
def Job.sc (x : Job) (i : Nat) : Fv := fdecode .fp32 (x.scalars.getD i 0)

/-- SRT, SRS and EBASE of the job. -/
def Job.srt (x : Job) : Nat := x.scalars.getD 11 0
def Job.srs (x : Job) : Nat := x.scalars.getD 12 0
def Job.ebase (x : Job) : Nat := x.scalars.getD 13 0

/-- Read bytes of the job's memory. -/
def State.jobRead (s : State) (x : Job) (va len : Nat) : State × List Byte × Bool :=
  s.devReadL ((List.range len).map (fun i => x.phys (va + i)))

/-- Write bytes of the job's memory with one poison indication. -/
def State.jobWrite (s : State) (x : Job) (va : Nat) (b : List Byte) (z : Bool) : State :=
  s.devWriteL (b.mapIdx (fun i v => (x.phys (va + i), v, z)))

/-- One moment array's block, decoded to FP32 (R253), with its poison; `q` is 0 for m and 1 for v. -/
def State.moment (s : State) (x : Job) (q b : Nat) : State × List Fv × Bool :=
  let r := s.jobRead x (x.sbase + 32 * q * x.nb + 32 * b) 32
  let c := r.1.jobRead x (x.scl + q * x.nb + b) 1
  let sc := (c.2.1.headD 0).toNat
  (c.1, r.2.1.map (fun e => rnd .fp32 (scaledVal 4 e.toNat sc)), r.2.2 || c.2.2)

/-- Store one moment array's block: quantised to E4M3 under RM, T being SRT + `q` (R255). -/
def State.putMoment (s : State) (x : Job) (q b : Nat) (vs : List Fv) (z : Bool) : State :=
  let r := quantBlock 4 (vs.mapIdx (fun i v => some (v, rmOf x.rm x.key ((x.srt + q) % 2 ^ 32) x.srs (x.ebase + 32 * b + i))))
  let s := s.jobWrite x (x.sbase + 32 * q * x.nb + 32 * b) (r.2.map (fun e => BitVec.ofNat 8 (e.getD 0))) z
  s.jobWrite x (x.scl + q * x.nb + b) [BitVec.ofNat 8 r.1] z

/-- d, u and w of rules 1 and 2 from m, vh and w. -/
def Job.adam (x : Job) (m vh w : Fv) : Fv :=
  let mh := bMul m (x.sc 9)
  let d := bAdd (fnEval .sqrt .fp32 vh) (x.sc 8)
  let u := bMul mh (fnEval .rcp .fp32 d)
  let u := bFma (x.sc 2) w u
  bFma (x.sc 1).neg u w

/-- One element's update: the new m, v and w (R253, R254). `rc` is R[i] and C[j] with iz, under rule 2. -/
def Job.element (x : Job) (g w m0 v0 : Fv) (rc : Fv × Fv × Fv) : Fv × Fv × Fv :=
  let ge := bMul g (x.sc 0)
  match x.rule with
  | 0 =>
    let ge := bFma (x.sc 2) w ge
    let m := bFma (x.sc 3) m0 ge
    (m, .fin false 0, bFma (x.sc 1).neg m w)
  | 1 =>
    let t := bMul (x.sc 5) ge
    let m := bFma (x.sc 4) m0 t
    let t := bMul ge ge
    let t := bMul (x.sc 7) t
    let v := bFma (x.sc 6) v0 t
    (m, v, x.adam m (bMul v (x.sc 10)) w)
  | _ =>
    let t := bMul (x.sc 5) ge
    let m := bFma (x.sc 4) m0 t
    let vh := bMul rc.1 rc.2.1
    let vh := bMul vh rc.2.2
    (m, .fin false 0, x.adam m (bMul vh (x.sc 10)) w)

/-- The tree sum of 2^d values (R127). -/
def tsum (x : Nat → Fv) : Nat → Nat → Fv
  | 0, lo => x lo
  | d + 1, lo => bAdd (tsum x d lo) (tsum x d (lo + 2 ^ d))

/-- Pass 1 of rule 2 (R254): the row and column sums of the squared gradient, R, C and iz, written to the state at FB. -/
def State.factors (s : State) (n : Nat) (x : Job) : State × Factors :=
  let gs := (List.range x.nb).foldl (fun (a : State × List (List Fv) × Bool) b =>
    let r := a.1.bshGet n (x.abase + 128 * b) 32
    (r.1, a.2.1 ++ [r.2.1.map (fun g => let t := bMul (fdecode .fp32 g) (x.sc 0); bMul t t)],
      a.2.2 || r.2.2 || (x.block b).poison)) (s, [], false)
  let sq (i j : Nat) : Fv := (gs.2.1.getD ((i * x.cols + j) / 32) []).getD (j % 32) .nan
  let zero : Fv := .fin false 0
  let q (i : Nat) : Fv := (List.range (x.cols / 32)).foldl (fun a b => bAdd a (tsum (fun e => sq i (32 * b + e)) 5 0)) zero
  let p (j : Nat) : Fv := (List.range x.rows).foldl (fun a i => bAdd a (sq i j)) zero
  let old := gs.1.jobRead x x.fb (4 * (x.rows + x.cols))
  let prev := f32s old.2.1
  let step (o : Nat) (v : Fv) : Fv := bFma (x.sc 6) (fdecode .fp32 (prev.getD o 0)) (bMul (x.sc 7) v)
  let r := (List.range x.rows).map (fun i => step i (q i))
  let c := (List.range x.cols).map (fun j => step (x.rows + j) (p j))
  let z := (r.drop 1).foldl bAdd (r.headD zero)
  let bad := gs.2.2 || old.2.2
  let f : Factors :=
    { r := r.map (fencode .fp32), c := c.map (fencode .fp32), poison := bad, iz := fencode .fp32 (fnEval .rcp .fp32 z) }
  (old.1.jobWrite x x.fb ((f.r ++ f.c).flatMap (leBytes 4)) bad, f)

/-- The message of an updated block (R256, Table 13-7). -/
def State.paramMsg (s : State) (n j : Nat) (x : Job) (b : Nat) (data : List Byte) (z : Bool) : Msg :=
  let m := s.header x.part 6 0 x.mgrp (96 + n) 0
  { m with
    mcast := true, wf := Config.freeNat s.freeCtr % 16, pmask := if z then 2 ^ (data.length / 32) - 1 else 0, data := data,
    w3 := n + 2 ^ 4 * j + (if x.relaxed then 2 ^ 8 else 0) + 2 ^ 9 * x.tmc + 2 ^ 13 * x.rcore + 2 ^ 20 * x.rscnt,
    w4 := b + 2 ^ 32 * x.nb + 2 ^ 64 * x.rbase }

/-- Multicast an updated block through the partition's ports, and internally where this module is a member (R256, R280). -/
def State.paramSend (s : State) (m : Msg) (p : Nat) : State :=
  let s := { s with freeCtr := s.freeCtr + 1 }
  let s := (s.mcPorts m.dst).foldl (fun s q =>
    if (s.reg (rCHC_PRIGHTS p)).getLsbD q then s.toPort q 12 m else s.tdrop) s
  if s.mcLocal m.dst then s.deliver none false m else s

/-- Update block b of job j (R253): rule 2 needs the factors. -/
def State.updateBlock (s : State) (n j b : Nat) : State :=
  let r : State × Job :=
    let x := s.job n j
    match x.rule, x.fac with
    | 2, none => let f := s.factors n x; (f.1, { x with fac := some f.2 })
    | _, _ => (s, x)
  let x := r.2
  let fac := x.fac.getD { r := [], c := [], poison := false, iz := 0 }
  let g := r.1.bshGet n (x.abase + 128 * b) 32
  let w := g.1.jobRead x (x.pbase + x.wlen * b) x.wlen
  let m0 := w.1.moment x 0 b
  let v0 : State × List Fv × Bool := if x.rule = 1 then m0.1.moment x 1 b else (m0.1, [], false)
  let z := g.2.2 || (x.block b).poison || w.2.2 || m0.2.2 || v0.2.2 || fac.poison
  let wv : List Fv :=
    if x.mfmt = 1 then (List.range 32).map (fun i => fdecode .bf16 (leNat ((w.2.1.drop (2 * i)).take 2)))
    else (f32s w.2.1).map (fdecode .fp32)
  let el := (List.range 32).map (fun i =>
    let e := 32 * b + i
    x.element (fdecode .fp32 (g.2.1.getD i 0)) (wv.getD i .nan) (m0.2.1.getD i .nan) (v0.2.1.getD i .nan)
      (fdecode .fp32 (fac.r.getD (e / x.cols) 0), fdecode .fp32 (fac.c.getD (e % x.cols) 0), fdecode .fp32 fac.iz))
  let new : List Nat := el.mapIdx (fun i v =>
    if x.mfmt = 1 then convF .bf16 (rmOf x.rm x.key ((x.srt + 2) % 2 ^ 32) x.srs (x.ebase + 32 * b + i)) false v.2.2
    else fencode .fp32 v.2.2)
  let wfmt : Ff := if x.mfmt = 1 then .bf16 else .fp32
  let nf := (new.filter (fun v => !(fdecode wfmt v).isFin)).length
  let bytes := new.flatMap (leBytes (x.wlen / 32))
  let s := v0.1.putMoment x 0 b (el.map (fun v => v.1)) z
  let s := if x.rule = 1 then s.putMoment x 1 b (el.map (fun v => v.2.1)) z else s
  let s := s.jobWrite x (x.pbase + x.wlen * b) bytes z
  let s := (s.count (rBSH_NFOUT n) nf).count64 (rBSH_UPDATES n) 1
  let fresh := z && !(x.block b).poison
  let s := if fresh then s.count (rBSH_POISON n) 1 else s
  let s := s.setJob n j { x.setBlock b { x.block b with updated := true, poison := z } with
    nupd := x.nupd + 1, nout := x.nout + nf, npois := x.npois + (if fresh then 1 else 0), poison := x.poison || z }
  let data : List Byte :=
    if x.bfmt = 2 ∧ x.mfmt = 0 then el.flatMap (fun v => leBytes 2 (convF .bf16 .rne false v.2.2)) else bytes
  if x.bfmt = 0 then s else s.paramSend (s.paramMsg n j x b data z) x.part

/-- BLOCK_UPDATE (R253): block b of job j is updated once complete; under rule 2 once every block of the job is. -/
def execBlockUpdate (n : Fin 12) (j : Fin 16) (b : Nat) (s : State) : Host.Outcome State Fault Refusal :=
  let x := s.job n.val j.val
  if b < x.nb ∧ x.complete b ∧ (x.block b).updated = false ∧ (x.st = .updating ∨ (x.st = .opened ∧ x.rule ≠ 2)) then
    .next (s.updateBlock n.val j.val b)
  else .next s

/-- The completion record (Table 12-4). -/
def Job.recordBytes (x : Job) (n j frame : Nat) : List Byte :=
  leBytes 4 (1 + (if x.relaxed then 2 else 0) + (if x.poison then 4 else 0)) ++ leBytes 4 (j + 2 ^ 4 * x.part + 2 ^ 8 * n)
    ++ [x.nupd, x.nrelaxed, x.nzero, x.nprop, x.nout, x.npois].flatMap (leBytes 4) ++ leBytes 8 frame ++ List.replicate 24 0

/-- JOB_COMPLETE (R258): with every block updated, the completion record is written, then LSCNT of LCORE counts, and the slot is
DONE. -/
def execJobComplete (n : Fin 12) (j : Fin 16) (s : State) : Host.Outcome State Fault Refusal :=
  let x := s.job n.val j.val
  if x.st = .updating ∧ x.nupd = x.nb then
    let s := s.jobWrite x x.cbase (x.recordBytes n.val j.val s.frame) false
    let s := s.modCore (coreOf x.lcore) (fun k => k.addCount x.lscnt 1)
    .next (s.setJob n.val j.val { x with st := .done })
  else .next s

end Sys2Proof.Machine
end

