-- ==== Sys2Proof/Machine/Chain.lean ====
section
/-!
DEFINITION. Remote writes, reads and signals (spec/10_isa.md, R220) and the messages that reach this module (spec/13_chain.md, R278
to R283): transit, requests, responses, contributions, parameter blocks and timeouts.
-/
namespace Sys2Proof.Machine

/-! ## CWRITE, CREAD, CSIG -/

/-- CWRITE and CREAD on one member: the checks of R280 in the order of its causes, then an ordered operation. -/
def State.chainIssue (s : State) (m : Fin 96) (op : Nat) (f : Fields) (write : Bool) : State :=
  let k := s.core m
  let rem := (k.rs f.a).toNat
  let loc := (k.rs f.b).toNat
  let node := (k.rs f.c).toNat % 4096
  let n := f.m 15 0 + 1
  let w := s.opOf m op
  if !(s.chainReach k.part node) then s.chainFault m 1 node 0 w
  else if loc + 64 * n > lmEnd then s.chainFault m 2 node 0 w
  else if rem % 64 ≠ 0 ∨ loc % 64 ≠ 0 then s.chainFault m 3 node 0 w
  else s.ordered m (.chain (s.chTag m) write rem loc node n (f.mb 16) (f.m 22 17) w)

/-- CWRITE (R220): local blocks travel as WRITE requests to a node. -/
def execCwrite (i : Issue) (f : Fields) (s : State) : Host.Outcome State Fault Refusal :=
  s.issue 0xE0 i f (fun m s => s.chainIssue m 0xE0 f true)

/-- CREAD (R220): remote blocks are requested for local memory. -/
def execCread (i : Issue) (f : Fields) (s : State) : Host.Outcome State Fault Refusal :=
  s.issue 0xE1 i f (fun m s => s.chainIssue m 0xE1 f false)

/-- CSIG (R220): an increment of a counter of a core of a node. -/
def execCsig (i : Issue) (f : Fields) (s : State) : Host.Outcome State Fault Refusal :=
  s.issue 0xE2 i f (fun m s =>
    let k := s.core m
    let node := (k.rs f.a).toNat % 4096
    let amount := if f.b = 0 then 1 else (k.rs f.b).toNat % 2 ^ 32
    if !(s.chainReach k.part node) then s.chainFault m 1 node 0 (s.opOf m 0xE2)
    else s.ordered m (.csig (s.chTag m) node ((k.rs f.c).toNat % 128) (f.m 5 0) amount))

/-! ## Arrived messages -/

/-- Whether message y of the inbox, received before x, is to go before it: those for this module are performed in a link's arrival order
(R190), those in transit and those delivered internally keep the order of their channel (R272). -/
def InMsg.ahead (y x : InMsg) : Bool :=
  decide (y.port = x.port) && (y.transit == x.transit) &&
    (if x.transit || x.port.isNone then decide (y.vc = x.vc) else !(decide (y.msg.typ = 7 ∧ y.msg.sub = 0)))

/-- Take message k of the inbox, provided that none is ahead of it and that it is of the kind asked for. -/
def State.takeMsg (s : State) (k : Nat) (p : InMsg → Bool) (body : InMsg → State → State) : State :=
  match s.inbox[k]? with
  | none => s
  | some x =>
    if p x && !((s.inbox.take k).any (fun y => y.ahead x)) then
      body x { s with inbox := s.inbox.eraseIdx k }
    else s

/-- A message for this module of TYPE and SUB. -/
def InMsg.is (x : InMsg) (typ sub : Nat) : Bool := !x.transit && decide (x.msg.typ = typ ∧ x.msg.sub = sub)

/-- TRANSIT (R278, R279): a message for another node, or a multicast message, leaves on its ports, or is discarded. -/
def execTransit (k : Nat) (s : State) : Host.Outcome State Fault Refusal :=
  .next (s.takeMsg k (·.transit) (fun x s =>
    let m := { x.msg with ttl := x.msg.ttl - 1 }
    let src := x.port.getD 12
    if x.msg.ttl ≤ 1 then s.tdrop
    else if m.mcast then
      ((s.mcPorts m.dst).filter (fun p => some p ≠ x.port)).foldl (fun s p => s.toPortOn p src x.vc m) s
    else if s.route m.dst = 15 then s.tdrop
    else s.toPortOn (s.route m.dst) src x.vc m))

/-- The partition that serves a request (R281). -/
def State.server (s : State) (dom : Nat) : Option Nat :=
  (List.range 8).find? (fun q => (s.reg (rCHC_PRIGHTS q)).getLsbD 16 && s.domId q = dom)

/-- Refuse a request (R282): counted and recorded; all but PARAM_BCAST are answered. -/
def State.refuseMsg (s : State) (m : Msg) (reason : Nat) : State :=
  let s := (s.count (rCHC_REFUSED) 1).chainRec 0 0 (rCHC_REFUSED)
  if m.typ = 6 then s else s.respond m 2 reason

/-- The state without Bushel private regions: what a translation would answer were there none (Table 13-8, reason 3). -/
def State.noPriv (s : State) : State :=
  (List.range 12).foldl (fun s n => (List.range 8).foldl (fun s q => s.setReg (rBSH_PRIVLEN n q) 0) s) s

/-- A request that met a page-table entry read with poison (R308): its partition stops, and it is not performed. -/
def State.msgPoison (s : State) (q off : Nat) : State :=
  let s := if s.isStopped q then s else
      (if s.fld (rPART_FAULT q) 3 0 = 0 then s.setFld (rPART_FAULT q) 3 0 1 else s).errsumMod ePOIS
  let s := s.record 3 (2 ^ 18 * q + 2 ^ 21) 0 4 off 5 8 s.injPois
  s.stopPart q ((s.coresOf q).headD 0).val 8 .stopped

/-- Serve a request for `n` bytes at an address (R281): the partition, the translation, and where the data must lie. -/
def State.serveAt (s : State) (m : Msg) (addr n : Nat) (write hbmOnly : Bool) (g : Nat → List Nat → State → State) : State :=
  match s.server m.dom with
  | none => s.refuseMsg m 1
  | some q =>
    match s.translateN q addr n write with
    | (s, .ok as) =>
      if as.all (fun a => match s.locate a with | .hbm _ => true | .lm _ _ => !hbmOnly | _ => false) then g q as (s.touch q)
      else s.refuseMsg m 2
    | (s, .poison off) => s.msgPoison q off
    | (s, .fail _) =>
      match (s.noPriv.translateN q addr n write).2 with
      | .ok as => s.refuseMsg m (if as.any (fun a => decide (a < hbmEnd) && s.inPriv (s.place a)) then 3 else 2)
      | _ => s.refuseMsg m 2

/-- The bytes of a message's data with the poison of PMASK (R276). -/
def Msg.marked (m : Msg) : List (Byte × Bool) := m.data.mapIdx (fun i b => (b, m.pmask.testBit (i / 32)))

/-- A message that delivers poisoned data to its user (R276). -/
def State.rxPois (s : State) (m : Msg) : State := if m.pmask = 0 then s else s.count (rCHC_RXPOIS) 1

/-- WRITE (R281): a request is performed and answered, or refused. -/
def execChWrite (k : Nat) (s : State) : Host.Outcome State Fault Refusal :=
  .next (s.takeMsg k (fun x => x.is 1 0) (fun x s =>
    s.serveAt x.msg (x.msg.f4 16 8) x.msg.data.length true false (fun _ as s =>
      (s.devWriteL ((as.zip x.msg.marked).map (fun y => (y.1, y.2)))).respond x.msg 1 0)))

/-- READ (R281): a request is answered with data and its poison, or refused. -/
def execChRead (k : Nat) (s : State) : Host.Outcome State Fault Refusal :=
  .next (s.takeMsg k (fun x => x.is 2 0) (fun x s =>
    let n := 16 * x.msg.f3 4 0
    s.serveAt x.msg (x.msg.f4 16 8) n false false (fun _ as s =>
      let sect (i : Nat) : List Nat := (as.drop (32 * i)).take 32
      let r := (List.range ((n + 31) / 32)).foldl (fun (a : State × List Byte × List Bool) i =>
        let d := a.1.devReadL (sect i)
        (d.1, a.2.1 ++ d.2.1, a.2.2 ++ [d.2.2])) (s, [], [])
      let m := x.msg
      r.1.chSend { m with sub := 1, mcast := false, sched := false, dst := m.src, src := r.1.node, pmask := pmaskOf r.2.2, ttl := 31, w3 := 0,
                          w4 := 0, data := r.2.1 })))

/-- SIGNAL_INCREMENT (R281): the increment reaches a counter of a core of the partition (R183), or is refused. -/
def execSignalIncrement (k : Nat) (s : State) : Host.Outcome State Fault Refusal :=
  .next (s.takeMsg k (fun x => x.is 3 0) (fun x s =>
    let c := bitsOf 6 0 x.msg.w4
    match s.server x.msg.dom with
    | none => s.refuseMsg x.msg 1
    | some q =>
      if c < 96 ∧ s.inPart q (coreOf c) then
        (s.touch q).modCore (coreOf c) (fun k => k.addCount (bitsOf 13 8 x.msg.w4) x.msg.w3)
      else s.refuseMsg x.msg 4))

/-- RED_CONTRIB (R251, R252): a contribution of the job's partition is taken into the ordered sum or held, or refused. -/
def execRedContrib (k : Nat) (s : State) : Host.Outcome State Fault Refusal :=
  .next (s.takeMsg k (fun x => x.is 5 0) (fun x s =>
    let m := x.msg
    let n := m.f3 3 0
    let j := m.f3 7 4
    let b := m.f4 16 4
    let rank := m.f3 19 8
    match s.server m.dom with
    | none => s.refuseMsg m 1
    | some q =>
      let job := s.job n j
      if n ≥ 12 then s.refuseMsg m 5
      else if job.st ≠ .opened then (s.count (rBSH_NOJOB n) 1).refuseMsg m 5
      else if job.part ≠ q ∨ job.takes b rank = false then (s.count (rBSH_PROTO n) 1).refuseMsg m 5
      else
        let s := ((s.touch q).rxPois m).respond m 1 0
        s.acceptContrib n j b { rank := rank, vals := f32s m.data, poison := decide (m.pmask ≠ 0) }))

/-! ## Responses (R274, R282, R283) -/

/-- The request that a response answers. -/
def State.reqOf (s : State) (m : Msg) (kd : ReqKind) : Option ChReq :=
  s.reqs.find? (fun r => r.tag = m.tag && r.agent = m.agent && r.kind = kd)

/-- A request is answered: it awaits nothing more. A response without a request has come too late (R283). -/
def State.answer (s : State) (m : Msg) (kd : ReqKind) (g : ChReq → State → State) : State :=
  match s.reqOf m kd with
  | none => s.count (rCHC_PROTO) 1
  | some r => g r { s with reqs := s.reqs.filter (· ≠ r) }

/-- One request of core c's operation ends; with the last, the write is complete for fences, and SIGEN's counter counts if every
request was answered as performed (R274). -/
def State.chainDone (s : State) (c : Fin 96) (uid : Nat) (ok : Bool) : State :=
  match (s.core c).chq.find? (fun o => o.uid = uid) with
  | none => s
  | some o =>
    let o := { o with left := o.left - 1, sigen := o.sigen && ok }
    if o.left = 0 then
      (s.modCore c (fun k =>
        let k := { k with chq := k.chq.filter (fun x => x.uid ≠ uid), outw := k.outw.filter (fun w => w.1 ≠ uid) }
        if o.sigen then k.addCount o.scnt 1 else k)).settle c
    else s.modCore c (fun k => { k with chq := k.chq.map (fun x => if x.uid = uid then o else x) })

/-- OP of the instruction that a request belongs to. -/
def Core.chainOp (k : Core) (uid : Nat) : Nat := match k.chq.find? (fun o => o.uid = uid) with | some o => o.opw | none => 0

/-- A core's request that was refused, or has timed out: its partition stops, and the request counts as complete (R282, R283). -/
def State.chainFailed (s : State) (r : ChReq) (cause reason : Nat) : State :=
  let c := coreOf r.agent
  (s.chainFault c cause r.node reason ((s.core c).chainOp r.uid)).chainDone c r.uid false

/-- Note that a response reached the partition of core c (R197). -/
def State.touchCore (s : State) (c : Fin 96) : State := match s.partOf c with | some p => s.touch p | none => s

/-- WRITE_PERFORMED (R274). -/
def execWritePerformed (k : Nat) (s : State) : Host.Outcome State Fault Refusal :=
  .next (s.takeMsg k (fun x => x.is 1 1) (fun x s =>
    s.answer x.msg .write (fun r s => (s.touchCore (coreOf r.agent)).chainDone (coreOf r.agent) r.uid true)))

/-- WRITE_REFUSED (R282). -/
def execWriteRefused (k : Nat) (s : State) : Host.Outcome State Fault Refusal :=
  .next (s.takeMsg k (fun x => x.is 1 2) (fun x s => s.answer x.msg .write (fun r s => s.chainFailed r 4 (x.msg.f3 3 0))))

/-- READ_DATA (R274): the data is written at the request's local address, with its poison. -/
def execReadData (k : Nat) (s : State) : Host.Outcome State Fault Refusal :=
  .next (s.takeMsg k (fun x => x.is 2 1) (fun x s =>
    s.answer x.msg .read (fun r s =>
      let c := coreOf r.agent
      let w := (x.msg.marked.take r.len).mapIdx (fun i y => (r.loc + i, y.1, y.2))
      (((s.touchCore c).rxPois x.msg).modCore c (fun k => k.lmWriteZ w)).chainDone c r.uid true)))

/-- READ_REFUSED (R282). -/
def execReadRefused (k : Nat) (s : State) : Host.Outcome State Fault Refusal :=
  .next (s.takeMsg k (fun x => x.is 2 2) (fun x s => s.answer x.msg .read (fun r s => s.chainFailed r 4 (x.msg.f3 3 0))))

/-- SIGNAL_REFUSED (R282, R183): the partition of the core that sent it stops with cause 4, and SCNT.FAULT takes cause 1. The
refusal names no counter, so the index is a free value. -/
def execSignalRefused (k : Nat) (s : State) : Host.Outcome State Fault Refusal :=
  .next (s.takeMsg k (fun x => x.is 3 2) (fun x s =>
    if x.msg.agent < 96 then
      let c := coreOf x.msg.agent
      let s := s.fresh.modCore c (fun k => k.faultReg (kSCNT_FAULT) (1 + 16 * (Config.freeNat s.freeCtr % 64)))
      s.chainFault c 4 x.msg.src (x.msg.f3 3 0) 0
    else s))

/-- A Bushel's contribution was accepted: SEND's SIGEN counts once every block is (R250). -/
def State.sendDone (s : State) (n uid : Nat) : State :=
  match (s.bsh n).sends.find? (fun o => o.uid = uid) with
  | none => s
  | some o =>
    if o.left ≤ 1 then
      let s := s.modBsh n (fun b => { b with sends := b.sends.filter (fun x => x.uid ≠ uid) })
      if o.sigen then s.modCore (coreOf o.core) (fun k => k.addCount o.scnt 1) else s
    else s.modBsh n (fun b => { b with sends := b.sends.map (fun x => if x.uid = uid then { o with left := o.left - 1 } else x) })

/-- RED_CONTRIB_ACCEPTED (R250): a sender's contribution is complete. -/
def execRedContribAccepted (k : Nat) (s : State) : Host.Outcome State Fault Refusal :=
  .next (s.takeMsg k (fun x => x.is 5 1) (fun x s =>
    s.answer x.msg .contrib (fun r s =>
      if r.agent < 96 then (s.touchCore (coreOf r.agent)).chainDone (coreOf r.agent) r.uid true
      else s.sendDone (r.agent - 96) r.uid)))

/-- RED_CONTRIB_REFUSED (R251, R282): it stops nothing, and the sender's SIGEN never increments. -/
def execRedContribRefused (k : Nat) (s : State) : Host.Outcome State Fault Refusal :=
  .next (s.takeMsg k (fun x => x.is 5 2) (fun x s => s.answer x.msg .contrib (fun _ s => s)))

/-- RESPONSE_TIMEOUT (R283): a request without a response within RTIMEOUT frames. -/
def execResponseTimeout (tag : Nat) (s : State) : Host.Outcome State Fault Refusal :=
  match s.reqs.find? (fun r => r.tag = tag && decide (s.frame ≥ r.frame + s.fld (rCHC_RTIMEOUT) 15 0)) with
  | none => .next s
  | some r =>
    let s := { s with reqs := s.reqs.filter (· ≠ r) }
    if r.agent < 96 then .next (s.chainFailed r 5 0)
    else .next ((s.count (rCHC_TIMEOUT) 1).chainRec 0 0 (rCHC_TIMEOUT))

/-! ## Parameter blocks (R257) -/

/-- Count a block of a set at its tracker (R257). -/
def State.trackSet (s : State) (m : Msg) : State :=
  let t := m.f3 12 9
  let key := (m.src, m.f3 3 0, m.f3 7 4)
  let b := s.bsh t
  if t ≥ 12 then s
  else
    let old := b.sets.find? (fun x => x.key = key)
    if old = none ∧ b.sets.length ≥ 64 then
      let s := s.setFld (rBSH_RXSETS t) 7 7 1
      s.record 10 (unitMc t) 0 0 0 7 (s.reg (rBSH_CFAULT t)).toNat false
    else
      let x := old.getD { key := key, count := 0, relaxed := false }
      let x := { x with count := x.count + 1, relaxed := x.relaxed || m.f3 8 8 = 1 }
      let rest := b.sets.filter (fun y => y.key ≠ key)
      if x.count = m.f4 20 4 then
        let s := (s.modBsh t (fun u => { u with sets := rest })).count (rBSH_RXDONE t) 1
        let s := if x.relaxed then s.count (rBSH_RXRELAX t) 1 else s
        if m.f3 19 13 < 96 then s.modCore (coreOf (m.f3 19 13)) (fun k => k.addCount (m.f3 25 20) 1) else s
      else s.modBsh t (fun u => { u with sets := rest ++ [x] })

/-- PARAM_BCAST (R257): a block is written at RBASE + b × size under the partition's rights, then counted by its tracker. -/
def execParamBcast (k : Nat) (s : State) : Host.Outcome State Fault Refusal :=
  .next (s.takeMsg k (fun x => x.is 6 0) (fun x s =>
    let m := x.msg
    s.serveAt m (m.f4 24 8 + m.f4 16 4 * m.data.length) m.data.length true true (fun _ as s =>
      ((s.rxPois m).devWriteL ((as.zip m.marked).map (fun y => (y.1, y.2)))).trackSet m)))

end Sys2Proof.Machine
end

