-- ==== Sys2Proof/Machine/ChainLink.lean ====
section
/-!
DEFINITION. The link layer of the Chain's ports (spec/13_chain.md, R263 to R272, R284 to R287, R293): training, flits, retry,
credits, the slot schedule, and the loss of a link.
-/
namespace Sys2Proof.Machine

/-! ## CRC and flits (R266, R267) -/

/-- One bit of the CRC-32 of IEEE 802.3, least significant bit first. -/
def crcBit (c : Word32) : Word32 := if c.getLsbD 0 then (c >>> 1) ^^^ 0xEDB88320#32 else c >>> 1

/-- The CRC-32 of IEEE 802.3. -/
def crc32 (l : List Byte) : Word32 :=
  ~~~ (l.foldl (fun c b => (List.range 8).foldl (fun c _ => crcBit c) (c ^^^ b.setWidth 32)) 0xFFFFFFFF#32)

/-- The flit of a header word and a body (Table 13-2). -/
def flitBytes (hdr : Nat) (body : List Byte) (first : Nat) : List Byte :=
  let b := leBytes 8 hdr ++ (body ++ List.replicate 240 0).take 240 ++ leBytes 4 first
  b ++ leBytes 4 (crc32 b).toNat

def vget {α : Type} (v : Vector α 4) (i : Nat) : α := v[i % 4]'(Nat.mod_lt _ (by decide))
def vput {α : Type} (v : Vector α 4) (i : Nat) (x : α) : Vector α 4 := v.set (i % 4) x (Nat.mod_lt _ (by decide))

/-- Send a flit on port p: it carries the acknowledgement, a NAK due, and the credits due (R268, R269). -/
def State.sendFlit (s : State) (p kind seq vc first : Nat) (body : List Byte) : State :=
  let q := s.port p
  let cr (v : Nat) : Nat := min (vget q.ret v) 255
  let hdr := seq + 2 ^ 12 * ((q.seqRx + 4095) % 4096) + (if q.got then 2 ^ 24 else 0) + (if q.nak then 2 ^ 25 else 0)
    + 2 ^ 26 * vc + 2 ^ 28 * kind + 2 ^ 32 * cr 0 + 2 ^ 40 * cr 1 + 2 ^ 48 * cr 2 + 2 ^ 56 * cr 3
  let t := s.modPort p (fun q =>
    { q with nak := false, ret := (List.range 4).foldl (fun r v => vput r v (vget r v - cr v)) q.ret })
  { t with out := t.out ++ [Output.flit p (flitBytes hdr body first)] }

/-! ## Leaving UP and losing the link (R265, R271, R272, R293) -/

/-- Whether the role is MASTER or EXTERNAL: a time master, which reads LOCKED 1 and HOPS 0 (R43). -/
def State.isMaster (s : State) : Bool := s.fld (rTIME_CTRL) 1 0 = 1 || s.fld (rTIME_CTRL) 1 0 = 3

/-- The module enters holdover: the time source is lost (R40, R42). -/
def State.enterHoldover (s : State) : State :=
  let s := { s.setBit (rTIME_STATUS) 1 true with lockRun := 0 }
  if s.isMaster then s else (s.setBit (rTIME_STATUS) 0 false).setReg (rTIME_HOPS) 31

/-- Whether port p is the upstream time port of a slave. -/
def State.isUpstream (s : State) (p : Nat) : Bool := s.fld (rTIME_CTRL) 1 0 = 2 && s.fld (rTIME_CTRL) 7 4 = p

/-- Enter a state of the port; a change raises PF vector 2 (R300). -/
def State.setPortSt (s : State) (p st : Nat) : State :=
  if s.portSt p = st then s
  else (s.setFld (rCH_STATUS p) 2 0 st).raise 0 2

/-- Move a port to a state other than UP. -/
def State.leaveUp (s : State) (p st : Nat) : State :=
  let was := s.portUp p
  let s := (s.setPortSt p st).setFld (rCH_PEER p) 16 16 0
  let s := s.modPort p (fun q => { q with hello := false, leftUp := q.leftUp || was })
  if was && s.isUpstream p then s.enterHoldover else s

/-- Retrain a link that is UP (R265): its link-layer state is kept (R272). -/
def State.retrainPort (s : State) (p : Nat) : State :=
  if s.portUp p then (s.leaveUp p 1).modPort p (fun q => { q with replays := 0 }) else s

/-- Retrain for one of the causes of R271: counted, recorded, and entered in the history. -/
def State.retrainFault (s : State) (p : Nat) : State :=
  if s.portUp p then
    (((s.retrainPort p).count (rCH_RETRAINS p) 1).chainRec (unitPort p) 6 (rCH_TRAIN p)).histAdd (hkRetrains p) 1
  else s

/-- Messages that a port holds: queued, begun, sent but unacknowledged, or partly received. -/
def Port.messages (q : Port) : Nat :=
  q.outq.length + (q.cur.toList.filter Option.isSome).length + (q.replay.map TxFlit.ends).sum
    + (q.rx.toList.filter (fun b => b ≠ [])).length

/-- A port loses its link (R293): it goes DOWN and discards what it holds; sequence numbers and credits restart. -/
def State.dropLink (s : State) (p : Nat) : State :=
  let n := (s.port p).messages
  ((s.leaveUp p 0).count (rCH_DROP p) n).modPort p (fun q =>
    { Port.zero with slots := q.slots, tickTx := q.tickTx, tickIn := q.tickIn, hops := q.hops, samples := q.samples })

/-- LINK_LOSS (R272, R293): a port that left UP and is not UP again within 100 ms. -/
def execLinkLoss (p : Fin 12) (s : State) : Host.Outcome State Fault Refusal :=
  if (s.port p.val).leftUp ∧ s.portUp p.val = false then
    .next (((s.dropLink p.val).chainRec (unitPort p.val) 6 (rCH_TRAIN p.val)).histAdd (hkLosses p.val) 1)
  else .next s

/-- RETRAIN_LIMIT (R271): sixteen replays of a SEQ without an advance of ACK. -/
def execRetrainLimit (p : Fin 12) (s : State) : Host.Outcome State Fault Refusal :=
  .next (if (s.port p.val).replays ≥ 16 then s.retrainFault p.val else s)

/-- RX_IDLE_TIMEOUT (R271): no good flit for 10 µs. -/
def execRxIdleTimeout (p : Fin 12) (s : State) : Host.Outcome State Fault Refusal := .next (s.retrainFault p.val)

/-- REPLAY_TIMEOUT (R269): the oldest unacknowledged flit has waited 4 µs, and all of them are sent again. -/
def execReplayTimeout (p : Fin 12) (s : State) : Host.Outcome State Fault Refusal :=
  .next (s.modPort p.val (fun q => { q with next := 0 }))

/-- CREDIT_STUCK (R268): a channel that holds flits has had no credit for 1,000 consecutive frames. -/
def execCreditStuck (p : Fin 12) (s : State) : Host.Outcome State Fault Refusal :=
  let q := s.port p.val
  if q.starve.toList.any (fun n => n = 1000) then
    let s := s.modPort p.val (fun q => { q with starve := (List.range 4).foldl (fun v i =>
      if vget v i = 1000 then vput v i 1001 else v) q.starve })
    .next ((s.setBit (rCH_STATUS p.val) 4 true).chainRec (unitPort p.val) 0 (rCH_TRAIN p.val))
  else .next s

/-! ## Training (R264) -/

/-- A failed training: FAULT, with its cause. -/
def State.trainFail (s : State) (p cause : Nat) : State :=
  let s := (s.leaveUp p 4).setFld (rCH_TRAIN p) 3 0 cause
  s.setFld (rCH_TRAIN p) 31 16 (min (s.fld (rCH_TRAIN p) 31 16 + 1) 65535)

/-- SIGNAL_DETECT (R264): an enabled port that is DOWN begins to train. In S2 and S3 every port stays DOWN (R374). -/
def execSignalDetect (p : Fin 12) (s : State) : Host.Outcome State Fault Refusal :=
  .next (if s.bit (rCH_CTRL p.val) 0 ∧ s.portSt p.val = 0 ∧ s.fld (rRST_STATUS) 5 4 < 2 then s.setPortSt p.val 1 else s)

/-- TRAIN_CONVERGED (R264). -/
def execTrainConverged (p : Fin 12) (s : State) : Host.Outcome State Fault Refusal :=
  .next (if s.portSt p.val = 1 then s.setPortSt p.val 2 else s)

/-- TRAIN_TIMEOUT (R264): no convergence in 500 ms. -/
def execTrainTimeout (p : Fin 12) (s : State) : Host.Outcome State Fault Refusal :=
  .next (if s.portSt p.val = 1 then s.trainFail p.val 4 else s)

/-- TRAIN_RETRY (R264): after 100 ms in FAULT the port is DOWN. -/
def execTrainRetry (p : Fin 12) (s : State) : Host.Outcome State Fault Refusal :=
  .next (if s.portSt p.val = 4 then s.setPortSt p.val 0 else s)

/-- ALIGNMENT_LOCK (R264): the lanes lock, with the polarity and order found, and the port sends HELLO; or training fails with cause
2, 3 or 5, or, from TRAIN on, with cause 1 for a lost signal. -/
def execAlignmentLock (p : Fin 12) (fail : Option AlignFail) (polinv : BitVec 8) (rev : Bool) (s : State) :
    Host.Outcome State Fault Refusal :=
  if s.portSt p.val = 1 ∧ fail = some .signal then .next (s.trainFail p.val 1)
  else if s.portSt p.val ≠ 2 then .next s
  else match fail with
    | some .laneOrder => .next (s.trainFail p.val 2)
    | some .skew => .next (s.trainFail p.val 3)
    | some .lock => .next (s.trainFail p.val 5)
    | some .signal => .next (s.trainFail p.val 1)
    | none =>
      let s := (s.setFld (rCH_STATUS p.val) 15 8 polinv.toNat).setBit (rCH_STATUS p.val) 3 rev
      let s := s.modPort p.val (fun q => { q with hello := true })
      .next { s with out := s.out ++ [Output.hello p.val s.node] }

/-- HELLO (R264): with HELLOs crossed both ways the port is UP, and replays from ACK + 1 (R272); the module's own identifier fails
training. -/
def execHello (p : Fin 12) (node : BitVec 12) (port : BitVec 4) (s : State) : Host.Outcome State Fault Refusal :=
  if s.portSt p.val ≠ 2 ∨ (s.port p.val).hello = false then .next s
  else if node.toNat = s.node then .next (s.trainFail p.val 6)
  else
    let s := s.setPortSt p.val 3
    let s := s.setReg (rCH_PEER p.val) (BitVec.ofNat 32 (node.toNat + 2 ^ 12 * port.toNat + 2 ^ 16))
    .next (s.modPort p.val (fun q => { q with leftUp := false, next := 0 }))

/-! ## Reception (R267 to R269, R273, R275) -/

/-- Whether a header may stand in a sequenced flit: Table 13-6, with the control operation that flits carry. -/
def Msg.valid (m : Msg) (dlen : Nat) : Bool :=
  (msgLens m.typ m.sub).contains dlen && !(m.typ = 7 && m.sub = 0) && (m.typ ≠ 8 || m.f3 7 0 = 2)

/-- The messages at the front of a channel's bytes: those complete, what remains, and whether a malformed one was met (R273, R275). -/
def parseStream : Nat → List Byte → List Msg × List Byte × Bool
  | 0, b => ([], b, false)
  | fuel + 1, b =>
    if b.length < 16 then ([], b, false)
    else if leNat (b.take 4) = 0 then ([], [], false)
    else if b.length < 32 then ([], b, false)
    else
      let m := parseMsg b
      let d := bitsOf 28 24 (leNat ((b.drop 4).take 4))
      if !(m.valid d) then ([], [], true)
      else if b.length < 32 + 16 * d then ([], b, false)
      else let r := parseStream fuel (b.drop (32 + 16 * d)); (m :: r.1, r.2.1, r.2.2)

/-- A whole message received on port p (R277 to R279): for this module, for others, or both. -/
def State.arrived (s : State) (p v : Nat) (m : Msg) : State :=
  let put (s : State) (t : Bool) : State := { s with inbox := s.inbox ++ [({ port := some p, vc := v, transit := t, msg := m } : InMsg)] }
  if m.mcast then
    let s := if (s.mcPorts m.dst).any (· ≠ p) then put s true else s
    if s.mcLocal m.dst then put s false else s
  else put s (m.dst ≠ s.node)

/-- Take the body of an accepted flit of channel v (R273). After a malformed message the channel resumes at FIRST (R275). -/
def State.acceptBody (s : State) (p v first : Nat) (body : List Byte) : State :=
  let q := s.port p
  let lost := vget q.lost v
  if lost ∧ first ≥ 15 then s
  else
    let b := if lost then body.drop (16 * first) else vget q.rx v ++ body
    let r := parseStream 24 b
    let s := s.modPort p (fun q => { q with rx := vput q.rx v r.2.1, lost := vput q.lost v r.2.2 })
    let s := r.1.foldl (fun s m => s.arrived p v m) s
    if r.2.2 then s.protoRec else s

/-- Take the acknowledgement, NAK and credits of a good flit's header (R268, R269). -/
def Port.takeAck (q : Port) (hdr : Nat) : Port :=
  let ack := bitsOf 23 12 hdr
  let i := if bitsOf 24 24 hdr = 1 then q.replay.findIdx (fun f => f.seq = ack) + 1 else 0
  let adv := decide (0 < i ∧ i ≤ q.replay.length)
  let q := if adv then { q with replay := q.replay.drop i, next := q.next - i, replays := 0 } else q
  let q := if bitsOf 25 25 hdr = 1 then { q with next := 0 } else q
  let cr (v : Nat) : Nat := bitsOf (39 + 8 * v) (32 + 8 * v) hdr
  { q with cred := (List.range 4).foldl (fun c v => vput c v (vget c v + cr v)) q.cred,
           fed := (List.range 4).foldl (fun d v => vput d v (vget d v || decide (cr v > 0))) q.fed }

/-- A record of class CORRECTED of a port (Table 16-1): symbols that FEC corrected, or a flit that its replay brought (R331). -/
def State.portCorrected (s : State) (p : Nat) : State := s.record 1 (unitPort p) 0 1 0 7 (s.reg (rCH_TRAIN p)).toNat false

/-- FLIT_RECEIVE (R267, R269): a flit of 256 bytes with, per lane, whether its share lies in a codeword that FEC could not correct, the
symbols corrected and the uncorrectable codewords that end with it: a codeword spans several flits. It is checked, and accepted in
sequence or answered with NAK. -/
def execFlitReceive (p : Fin 12) (b : List Byte) (bad : BitVec 8) (corr : List (Nat × Nat)) (s : State) :
    Host.Outcome State Fault Refusal :=
  if s.portUp p.val = false then .next s
  else
    let b := (b ++ List.replicate 256 0).take 256
    let s := (List.range 8).foldl (fun s l =>
      let s := (s.count64 (rCH_FECCORR p.val l) (corr.getD l (0, 0)).1).count (rCH_FECUNC p.val l) (corr.getD l (0, 0)).2
      if (corr.getD l (0, 0)).1 = 0 then s else s.portCorrected p.val) s
    let refuse (s : State) : State := s.modPort p.val (fun q => if q.naked then q else { q with nak := true, naked := true })
    if bad ≠ 0 ∨ (crc32 (b.take 252)).toNat ≠ leNat (b.drop 252) then .next (refuse (s.count (rCH_CRCERR p.val) 1))
    else
      let hdr := leNat (b.take 8)
      let body := (b.drop 8).take 240
      let s := s.modPort p.val (fun q => q.takeAck hdr)
      let v := bitsOf 27 26 hdr
      match bitsOf 29 28 hdr with
      | 0 =>
        if bitsOf 11 0 hdr ≠ (s.port p.val).seqRx then .next (refuse s)
        else
          let s := if (s.port p.val).naked then s.portCorrected p.val else s
          let s := s.modPort p.val (fun q =>
            { q with seqRx := (q.seqRx + 1) % 4096, got := true, naked := false, ret := vput q.ret v (vget q.ret v + 1) })
          .next ((s.count64 (rCH_RXFLITS p.val) 1).acceptBody p.val v (bitsOf 3 0 (leNat ((b.drop 248).take 4))) body)
      | 2 =>
        let m := parseMsg body
        if m.typ = 7 ∧ m.sub = 0 ∧ bitsOf 28 24 (leNat ((body.drop 4).take 4)) = 1 then
          .next { s with inbox := s.inbox ++ [({ port := some p.val, vc := 4, transit := false, msg := m } : InMsg)] }
        else .next s.protoRec
      | _ => .next s

/-! ## Transmission (R268 to R270, R284 to R287) -/

/-- A slot entry grants domain DOM and work frame WF (R284). -/
def slotMatch (e : Word32) (dom wf : Nat) : Bool :=
  e.getLsbD 0 && bitsOf 15 4 e.toNat = dom && wf % 2 ^ bitsOf 18 16 e.toNat = bitsOf 23 20 e.toNat

/-- The index in a port's queue of the next message of channel v: in a slot the oldest of the owning domain, if its work frame
matches; on VC2 the oldest of source `src`. -/
def Port.pick (q : Port) (v src : Nat) (e : Word32) : Option Nat :=
  let p : OutMsg → Bool := match v with
    | 1 => fun o => o.vc = 1 && e.getLsbD 0 && o.msg.dom = bitsOf 15 4 e.toNat
    | 2 => fun o => o.vc = 2 && o.src = src
    | _ => fun o => o.vc = v
  let i := q.outq.findIdx p
  match q.outq[i]? with
  | none => none
  | some o => if v = 1 && !(slotMatch e o.msg.dom o.msg.wf) then none else some i

/-- The source whose turn it is on VC2: the first from `turn` on that has a message (R285). -/
def Port.turnSrc (q : Port) : Nat :=
  (((List.range 13).map (fun i => (q.turn + i) % 13)).find? (fun x => (q.pick 2 x 0).isSome)).getD q.turn

/-- Fill a flit's body with messages of one channel (R273): the body so far, FIRST, and how many messages end in it. -/
def Port.fill (v src : Nat) (e : Word32) : Nat → Port → List Byte → Nat → Nat → Port × List Byte × Nat × Nat
  | 0, q, b, f, n => (q, b, f, n)
  | fuel + 1, q, b, f, n =>
    if b.length ≥ 240 then (q, b, f, n)
    else match q.pick v src e with
      | none => (q, b, f, n)
      | some i =>
        match q.outq[i]? with
        | none => (q, b, f, n)
        | some o =>
          let q := { q with outq := q.outq.eraseIdx i }
          let f := if f = 15 then b.length / 16 else f
          let x := b ++ o.msg.bytes
          if x.length > 240 then
            ({ q with cur := vput q.cur v (some ⟨o.src, o.msg.dom, o.msg.wf, x.drop 240⟩) }, x.take 240, f, n)
          else Port.fill v src e fuel q x f (n + 1)

/-- Whether channel v has something eligible in this slot, against a credit (R268, R285). -/
def Port.eligible (q : Port) (v : Nat) (e : Word32) : Bool :=
  decide (vget q.cred v > 0) &&
    match vget q.cur v with
    | some c => v ≠ 1 || slotMatch e c.dom c.wf
    | none => (q.pick v (if v = 2 then q.turnSrc else 12) e).isSome

/-- The body of the next flit of channel v. -/
def Port.takeBody (q : Port) (v : Nat) (e : Word32) : Port × List Byte × Nat × Nat :=
  match vget q.cur v with
  | some c =>
    let rest := c.rest
    if rest.length > 240 then ({ q with cur := vput q.cur v (some { c with rest := rest.drop 240 }) }, rest.take 240, 15, 0)
    else Port.fill v c.src e 16 { q with cur := vput q.cur v none, turn := if v = 2 then (c.src + 1) % 13 else q.turn } rest 15 1
  | none =>
    let src := if v = 2 then q.turnSrc else 12
    Port.fill v src e 16 { q with turn := if v = 2 then (src + 1) % 13 else q.turn } [] 15 0

/-- Whether slot i of the port frame is offered: in a step frame only those that end before its tick (R41), a flit time being 1.664
cycles (R266). -/
def State.slotOffered (s : State) (i : Nat) : Bool :=
  decide (i < 16) && (match s.step with | some (_, len) => decide (48 * (i + 1) * 1664 ≤ 1000 * len) | none => true)

/-- FLIT_TRANSMIT (R269, R270, R285): at flit time t of the port frame, the port sends the next flit to be replayed, else the first
eligible flit, else an idle flit. -/
def execFlitTransmit (p : Fin 12) (t : Nat) (s : State) : Host.Outcome State Fault Refusal :=
  if s.portUp p.val = false then .next s
  else
    let q := s.port p.val
    match q.replay[q.next]? with
    | some f =>
      let s := s.modPort p.val (fun q => { q with next := q.next + 1, replays := if q.next = 0 then q.replays + 1 else q.replays })
      .next (((s.count (rCH_REPLAY p.val) 1).count64 (rCH_TXFLITS p.val) 1).sendFlit p.val 0 f.seq f.vc f.first f.body)
    | none =>
      let e : Word32 := if s.slotOffered (t / 48) then mapGet 0 q.slots (t / 48) else 0
      match (if q.replay.length ≥ 1600 then none else [0, 1, 3, 2].find? (fun v => q.eligible v e)) with
      | none => .next (s.sendFlit p.val 1 0 0 15 [])
      | some v =>
        let r := q.takeBody v e
        let body := (r.2.1 ++ List.replicate 240 0).take 240
        let f : TxFlit := { seq := q.seqTx, vc := v, first := r.2.2.1, body := body, ends := r.2.2.2 }
        let s := s.modPort p.val (fun _ =>
          { r.1 with seqTx := (q.seqTx + 1) % 4096, replay := q.replay ++ [f], next := q.replay.length + 1,
                     cred := vput q.cred v (vget q.cred v - 1) })
        .next ((s.count64 (rCH_TXFLITS p.val) 1).sendFlit p.val 0 f.seq v f.first body)

end Sys2Proof.Machine
end

