-- ==== Sys2Proof/Machine/Control.lean ====
section
/-!
DEFINITION. Control transfer, FRAME, EXIT, special registers, SCNTRD and the illegal-encoding fault (spec/10_isa.md, R205, R208,
R211 to R214; spec/09_sync.md, R184).
-/
namespace Sys2Proof.Machine

/-- SCNTRD (R184): the value of the counter captured at the last tick window. -/
def execScntrd (i : Issue) (f : Fields) (s : State) : Host.Outcome State Fault Refusal :=
  s.issueCore 0x36 i f (fun k => k.setS f.dst (BitVec.ofNat 64 (k.reg64 (kSCNT_COUNT (f.m 5 0)))))

/-- The test of Table 10-7. -/
def brTaken (cond : Nat) (a b : Word64) : Bool :=
  match cond with
  | 0 => true
  | 1 => a == b
  | 2 => a != b
  | 3 => a.slt b
  | 4 => !(a.slt b)
  | 5 => a.ult b
  | 6 => !(a.ult b)
  | 7 => a == 0
  | _ => a != 0

/-- (PC + offset) mod 2,048 (R211). -/
def brTarget (pc : Nat) (f : Fields) : Nat := (((pc : Int) + f.mods.toInt) % 2048).toNat

/-- BR (R211): the leader's registers alone decide (R45). -/
def execBr (i : Issue) (f : Fields) (s : State) : Host.Outcome State Fault Refusal :=
  s.issue 0x38 i f (fun m s => s.modCore m (fun k =>
    if m = i.core ∧ brTaken f.fmt.toNat (k.rs f.a) (k.rs f.b) then { k with npc := brTarget k.pc f } else k))

/-- JAL (R211): branches always and writes PC + 1, the leader's PC, to its destination. -/
def execJal (i : Issue) (f : Fields) (s : State) : Host.Outcome State Fault Refusal :=
  s.issue 0x39 i f (fun m s =>
    let pc := (s.core i.core).pc
    s.modCore m (fun k =>
      let k := k.setS f.dst (BitVec.ofNat 64 (pc + 1))
      if m = i.core then { k with npc := brTarget pc f } else k))

/-- JR (R211): to the value of source 1; 2,048 or more is a program fault of cause 2. -/
def execJr (i : Issue) (f : Fields) (s : State) : Host.Outcome State Fault Refusal :=
  s.issue 0x3A i f (fun m s =>
    if m ≠ i.core then s
    else
      let v := ((s.core m).rs f.a).toNat
      if v ≥ 2048 then s.seqFault m 2 0 (s.opOf m 0x3A)
      else s.modCore m (fun k => { k with npc := v }))

/-- The block ends with the bundle that issues now (R28): SEQ.LASTCY takes its issue cycle. -/
def Core.endBlock (k : Core) (frame cy : Nat) (w : WaitC) (exiting : Bool) : Core :=
  let last := k.blockCycle frame cy
  let k := k.setReg (kSEQ_LASTCY)
    (BitVec.ofNat 32 (last % 4096 + 2 ^ 16 * max (k.fld (kSEQ_LASTCY) 27 16) (last % 4096)))
  { k with active := false, framedNo := k.blockNo, spill := false, wait := w, waitFailed := decide (w ≠ .none), exiting := exiting }

/-- The wait condition of a FRAME (R213), each member with the target of its own register (R184). -/
def frameWait (f : Fields) (k : Core) : WaitC :=
  match f.m 1 0 with
  | 0 => .none
  | 1 => .counter (f.m 7 2) (k.rs f.a)
  | w => .barrier (w = 3) (f.m 7 2) (f.m 8 8)

/-- FRAME (R213): ends the block with a wait condition. -/
def execFrame (i : Issue) (f : Fields) (s : State) : Host.Outcome State Fault Refusal :=
  s.issue 0x3C i f (fun m s => s.modCore m (fun k => k.endBlock s.frame i.cy (frameWait f k) false))

/-- EXIT (R214): ends the block as a FRAME without wait, and the launch on the core or gang. -/
def execExit (i : Issue) (f : Fields) (s : State) : Host.Outcome State Fault Refusal :=
  s.issue 0x3D i f (fun m s => s.modCore m (fun k => k.endBlock s.frame i.cy .none true))

/-- Cores of the launch unit that are not failed, ascending. -/
def State.unitCores (s : State) (c : Fin 96) : List Nat :=
  match (s.core c).launch with
  | some l => l.cores.filter (fun n => (s.core (coreOf n)).st ≠ .failed)
  | none => []

/-- The special registers of Table 10-4. -/
def State.spr (s : State) (c : Fin 96) (n cy : Nat) : Word64 :=
  let k := s.core c
  BitVec.ofNat 64 (match n with
    | 0x00 => c.val
    | 0x01 => c.val / 12
    | 0x02 => c.val / 48
    | 0x03 => (match k.launch with | some l => l.part | none => 0)
    | 0x04 => (match k.launch with | some l => l.level | none => 0)
    | 0x05 => (s.unitCores c).length
    | 0x06 => (s.unitCores c).idxOf c.val
    | 0x07 => (s.members c).length
    | 0x08 => (s.members c).idxOf c
    | 0x09 => (match k.launch with | some l => l.addr | none => 0)
    | 0x0A => k.blockFrame.toNat
    | 0x0B => k.wframe.toNat
    | 0x0C => k.blockCycle s.frame cy
    | 0x10 => k.rd.srstep.toNat
    | _ => 0)

/-- SRD (R208). -/
def execSrd (i : Issue) (f : Fields) (s : State) : Host.Outcome State Fault Refusal :=
  s.issue 0x3E i f (fun m s => s.modCore m (fun k => k.setS f.dst (s.spr m (f.m 7 0) i.cy)))

/-- SWR (R208): SRSTEP takes bits [31:0] of source 1. -/
def execSwr (i : Issue) (f : Fields) (s : State) : Host.Outcome State Fault Refusal :=
  s.issueCore 0x3F i f (fun k => { k with opnd := { k.opnd with srstep := (k.rs f.a).setWidth 32 } })

/-- ILLEGAL_ENCODING (R205): a bundle next to issue that holds an illegal word stops the partition, no slot issues, and
SEQ.FAULT and SEQ.FWORD record the first such word in slot order. The words given are those of the buffer; a bundle without an illegal
one is no such event. -/
def execIllegalEncoding (c : Fin 96) (cy : Nat) (w0 w1 w2 w3 : Word64) (s : State) : Host.Outcome State Fault Refusal :=
  if s.canIssue ⟨c, cy, true⟩ = true ∧ (s.core c).view = none ∧ (s.core c).lineSt = .ready ∧ (s.core c).bundleWords = [w0, w1, w2, w3] then
    match bundleIllegal [w0, w1, w2, w3] with
    | (n, w) :: _ => .next ({ s with cycle := cy }.illegalFault c n w)
    | [] => .next s
  else .next s

end Sys2Proof.Machine
end

