-- ==== Sys2Proof/Machine/Errors.lean ====
section
/-!
DEFINITION. The safety die's reception of error records (spec/16_faults.md, R334 to R344): numbering, counting and permanence, the
bytes of a record, the pending queue, the host log and the history.
-/
namespace Sys2Proof.Machine

/-! ## History keys and permanence (R342 to R344) -/

/-- History keys (Table 16-7): SEQ, a physical array and a core with state, OPTIME + 1 of the last three counted faults, lifetime
count. -/
def hkSeq : Nat := 0x1
def hkArray (c ph : Nat) : Nat := 0x20000 + 8 * (5 * c + ph)
def hkCore (c : Nat) : Nat := 0x30000 + 8 * c
/-- Soft row repairs of a stack, hard ones, line faults. -/
def hkSoft (n : Nat) : Nat := 0x40000 + 4 * n
def hkHard (n : Nat) : Nat := 0x40001 + 4 * n
def hkLine (n : Nat) : Nat := 0x40002 + 4 * n

/-- Row repair i and line fault i of a stack in the history (Table 16-7): stack offset + 1 of the row's first sector, the oldest hard
ones first; 64 × pseudo-channel + line + 1. -/
def hkRepair (n i : Nat) : Nat := 0x60000 + 64 * n + i
def hkLineAt (n i : Nat) : Nat := 0x61000 + 4 * n + i

/-- States of an array in the history: 0 as manufactured, 1 classed permanent, 2 retired, 8 + i for the spare in service as logical array
i; of a core: 0 available, 1 failed, 2 classed failed. -/
def State.arrGone (s : State) (c ph : Nat) : Bool := s.histGet (hkArray c ph) = 1 || s.histGet (hkArray c ph) = 2

/-- The state that Table 16-7 names for an array: 0 in service, 1 spare, 2 retired. -/
def State.arrState (s : State) (c ph : Nat) : Nat :=
  if s.histGet (hkArray c ph) = 2 then 2 else if ph = 4 ∧ s.histGet (hkArray c ph) < 8 then 1 else 0
def State.coreGone (s : State) (c : Nat) : Bool :=
  s.histGet (hkCore c) ≠ 0 || ((List.range 5).filter (fun ph => s.arrGone c ph)).length ≥ 2

/-- Write the history's shadow to both copies in non-volatile memory, in turn (R342). -/
def State.saveHistory (s : State) : State := { s with nv := Vector.replicate 2 ⟨s.hist, s.evlog, true⟩ }

/-- The copy of the history that is read: the first whose CRCs hold. -/
def State.nvGood (s : State) : NvCopy := if s.nv[0].good then s.nv[0] else s.nv[1]

/-- A soft row repair enters the history (R233), which has room for 64 of a stack (Table 16-7); one more is counted alone. -/
def State.noteRepair (s : State) (n off : Nat) : State :=
  let i := s.histGet (hkSoft n) + s.histGet (hkHard n)
  (if i < 64 then s.histSet (hkRepair n i) (off + 1) else s).histAdd (hkSoft n) 1

/-- A line fault enters the history (R234), which has room for 4 of a stack. -/
def State.noteLine (s : State) (n pc line : Nat) : State :=
  let i := s.histGet (hkLine n)
  (if i < 4 then s.histSet (hkLineAt n i) (64 * pc + line + 1) else s).histAdd (hkLine n) 1

/-- OPTIME: operating seconds of the safety die (R342). -/
def State.optime (s : State) : Nat := s.clock / 1000000

/-- Core c is classed failed (R343): the mark takes effect at a tick window. -/
def State.classCore (s : State) (c : Fin 96) : State :=
  if (s.core c).st = .failed ∨ s.histGet (hkCore c.val) ≠ 0 then s
  else (s.modCore c (fun k => { k with failPend := true })).histSet (hkCore c.val) 2

/-- Physical array ph of core c is classed permanent in `frame` (R343, R344): the spare is to take its index. Where the spare is in
service or promised, the core is classed failed; of two arrays classed in one frame the lower takes the spare. -/
def State.classArray (s : State) (c : Fin 96) (ph frame : Nat) : State :=
  let s := s.histSet (hkArray c.val ph) 1
  if (s.core c).st = .failed then s
  else match (s.core c).retire with
  | some (q, f) =>
    if q = ph then s
    else
      let s := if f = frame ∧ ph < q then s.modCore c (fun k => { k with retire := some (ph, f) }) else s
      s.classCore c
  | none =>
    if (s.core c).fld (kUCB_core_ARRMAP) 18 16 = 7 then s.classCore c
    else s.modCore c (fun k => { k.setFld (kUCB_core_ARRMAP) 28 28 1 with retire := some (ph, frame) })

/-- The history key of the unit that a record's fault is counted against, if Table 16-8 names one. -/
def ErrRec.unitKey (r : ErrRec) : Option Nat :=
  if bitsOf 3 0 r.unit = 4 then some (hkArray (bitsOf 10 4 r.unit) (bitsOf 13 11 r.unit))
  else if bitsOf 3 0 r.unit = 3 then some (hkCore (bitsOf 10 4 r.unit))
  else none

/-- Whether a fault is counted (Table 16-8, second column); injected ones never are. -/
def ErrRec.counted (r : ErrRec) : Bool :=
  !r.inj && (if bitsOf 3 0 r.unit = 4 then decide (r.cls = 1)
    else decide (bitsOf 3 0 r.unit = 3 ∧ ((r.cls = 1 ∧ r.subkind = 4) ∨ (r.cls = 2 ∧ r.subkind = 2))))

/-- Whether a fault makes its unit permanent at once (Table 16-8, third column). -/
def ErrRec.atOnce (r : ErrRec) : Bool :=
  !r.inj && decide (r.cls = 6 ∧ (bitsOf 3 0 r.unit = 4 ∨ (bitsOf 3 0 r.unit = 3 ∧ r.subkind = 4)))

/-- The counted faults of the unit at key `k` within 86,400 operating seconds of now, up to three. -/
def State.within (s : State) (k : Nat) : Nat :=
  (([1, 2, 3].map (fun i => s.histGet (k + i))).filter (fun t => decide (t ≠ 0 ∧ s.optime + 1 ≤ t + 86400))).length

/-- Count a fault against its unit and class the unit (R343). -/
def State.judge (s : State) (r : ErrRec) : State :=
  match r.unitKey with
  | none => s
  | some k =>
    let s := if r.counted then
        (((s.histSet (k + 3) (s.histGet (k + 2))).histSet (k + 2) (s.histGet (k + 1))).histSet (k + 1) (s.optime + 1)).histAdd (k + 4) 1
      else s
    if s.histGet k = 0 ∧ ((r.counted ∧ s.within k = 3) ∨ r.atOnce) then
      let c := coreOf (bitsOf 10 4 r.unit)
      if bitsOf 3 0 r.unit = 4 then s.classArray c (bitsOf 13 11 r.unit) r.frame else s.classCore c
    else s

/-- ACTION of a record: the action, the count of faults within the window and PERM. -/
def State.actionOf (s : State) (r : ErrRec) : Nat :=
  match r.unitKey with
  | none => r.action
  | some k => r.action + 2 ^ 4 * s.within k + (if s.histGet k ≠ 0 then 2 ^ 6 else 0)

/-- A record of class CORRECTED of the safety die's non-volatile memory (Table 16-1). -/
def State.nvCorrected (s : State) : State := s.record 1 10 0 1 0 7 (s.reg (rERR_STATUS)).toNat false

/-! ## The record (R334 to R337) -/

/-- Groups of three numbers as the 24-byte entries of R336. -/
def entryBytes : List Nat → List Byte
  | w :: t :: v :: r => leBytes 4 w ++ leBytes 4 0 ++ leBytes 8 t ++ leBytes 8 v ++ entryBytes r
  | _ => []

/-- The bytes of a record (Table 16-3). -/
def ErrRec.bytes (r : ErrRec) (seq optime action : Nat) (first : Bool) : List Byte :=
  let dead := decide (r.cls = 5)
  let hdr := r.cls + 2 ^ 8 * (if dead then 8 else 2) + (if r.inj then 2 ^ 12 else 0) + (if r.waiters > 16 then 2 ^ 13 else 0)
    + (if r.locked then 2 ^ 14 else 0) + (if first then 2 ^ 15 else 0)
  let head := leBytes 4 hdr ++ leBytes 4 seq ++ leBytes 8 r.frame ++ leBytes 2 r.cycle ++ leBytes 2 r.temp ++ leBytes 4 r.vcore
    ++ leBytes 4 optime ++ leBytes 4 r.unit ++ leBytes 4 r.op ++ leBytes 4 action ++ leBytes 8 r.addr
    ++ leBytes 4 r.subkind ++ leBytes 12 r.synd ++ leBytes 64 0
  if dead then head ++ (entryBytes r.detail ++ leBytes 384 0).take 384 else head

/-! ## Reporting (R338 to R341) -/

/-- Place a record in the host log or refuse it (R339). In S2 the log's memory cannot be reached (R374). -/
def State.placeLog (s : State) (b : List Byte) (dead : Bool) : State :=
  if s.bit (rERR_CTRL) 0 = false then s
  else
    let slots := b.length / 128
    let n := s.fld (rERR_CTRL) 12 8
    let p := (s.reg (rERR_LOGP)).toNat
    if (p + slots + 2 ^ 32 - (s.reg (rERR_LOGC)).toNat) % 2 ^ 32 > 2 ^ n ∨ s.fld (rRST_STATUS) 5 4 = 2 then
      (s.count (rERR_LOST) slots).setBit (rERR_STATUS) 0 true
    else
      let w := b.mapIdx (fun i x => (s.reg64 (rERR_LOGBASE) + (p + i / 128) % 2 ^ n * 128 + i % 128, x, false))
      let s := s.devWriteL (w.filter (fun (x : Nat × Byte × Bool) => decide (x.1 < hbmEnd)))
      let s := s.setReg (rERR_LOGP) (BitVec.ofNat 32 (p + slots))
      let s := if s.logMsi then s else { s.raise 0 0 with logMsi := true }
      if dead then s.raise 0 3 else s

/-- A record dropped or displaced (R338). -/
def State.dropNote (s : State) : State := (s.count (rERR_DROP) 1).setBit (rERR_STATUS) 1 true

/-- Remove the newest CORRECTED record of a queue, if there is one. -/
def dropCorrected : List QRec → Option (List QRec)
  | [] => none
  | q :: r =>
    match dropCorrected r with
    | some t => some (q :: t)
    | none => if q.cls = 1 then some r else none

/-- Make room for a record (R338): the queue without what it displaces, or none where the record itself is dropped; and whether
anything was dropped. -/
def roomFor (q : List QRec) (cls : Nat) (failure : Bool) : Option (List QRec) × Bool :=
  if q.length < 32 then (some q, false)
  else if failure then (some q.dropLast, true)
  else if cls = 1 then (none, true)
  else (dropCorrected q, true)

/-- The newest 512 slots of the event log (Table 16-7): what is older is overwritten. -/
def trimLog (l : List (List Byte)) : List (List Byte) :=
  (l.foldr (fun (b : List Byte) (a : Nat × List (List Byte)) =>
    if a.1 + b.length / 128 ≤ 512 then (a.1 + b.length / 128, b :: a.2) else (513, a.2)) (0, [])).2

/-- A record's arrival at the safety die (R337, R338): it is numbered, counted and classed, and queued, logged and entered. -/
def State.takeRecord (s : State) (r : ErrRec) : State :=
  let seq := (s.histGet hkSeq + 1) % 2 ^ 32
  let s := ((s.histSet hkSeq seq).histAdd (hkClass r.cls) 1).judge r
  let s := (s.count (rERR_CLASS (r.cls - 1)) 1).setReg (rERR_SEQ) (BitVec.ofNat 32 seq)
  let s := if 13 ≤ r.cls ∧ r.cls ≤ 15 then s.alert true else s
  let b := r.bytes seq s.optime (s.actionOf r) s.firstRec
  let s := { s with firstRec := false }
  let room := roomFor s.errq r.cls (decide (r.cls = 14 ∧ r.action = 9))
  let s := if room.2 then s.dropNote else s
  match room.1 with
  | none => s
  | some q =>
    let s := { s with errq := q, lastRec := b, evlog := if r.cls = 1 then s.evlog else trimLog (s.evlog ++ [b]) }
    let s := s.placeLog b (decide (r.cls = 5))
    if s.bit (rERR_CTRL) 1 then
      { s with errq := s.errq ++ [({ cls := r.cls, seq := seq, bytes := b, attempts := 0 } : QRec)] }
    else s

/-- The rank of a unit among records of one cycle: UNIT.KIND, then INDEX, then PHYS (R337). -/
def ErrRec.rank (r : ErrRec) : Nat := 2 ^ 10 * bitsOf 3 0 r.unit + 8 * bitsOf 10 4 r.unit + bitsOf 13 11 r.unit

/-- The place of the record to be numbered first of those detected in the cycle of r (R337; log entry 91). -/
def firstOf (l : List ErrRec) (r : ErrRec) : Nat :=
  let same := l.filter (fun q => q.frame = r.frame && q.cycle = r.cycle)
  l.findIdx (fun q => q.frame = r.frame && q.cycle = r.cycle && same.all (fun x => decide (q.rank ≤ x.rank)))

/-- Every record on its way reaches the safety die: in the order of its detection, those of one cycle in the order of R337. -/
def State.takeN (s : State) : Nat → State
  | 0 => s
  | n + 1 =>
    match s.errPend with
    | [] => s
    | r :: _ =>
      let i := firstOf s.errPend r
      match s.errPend[i]? with
      | some q => ({ s with errPend := s.errPend.eraseIdx i }.takeRecord q).takeN n
      | none => s

def State.takeAll (s : State) : State := s.takeN s.errPend.length

end Sys2Proof.Machine
end

