-- ==== Sys2Proof/Machine/ResetOps.lean ====
section
/-!
DEFINITION. What the resets and the power states do to the state as a whole (spec/18_reset.md, R363 to R377, Table 18-9): the loss of
volatile state, the system reset and its delay, requests of core-level resets, and the entry of S3.
-/
namespace Sys2Proof.Machine

/-! ## Levels -/

/-- Whether a register keeps its value across a system reset: it resets at power-on alone (R363, Table 20-5). A core's halt bit is
cleared by the core's reset all the same (R423). -/
def keepReg (off : Nat) : Bool :=
  !(rDBG_HALT 0 ≤ off && off ≤ rDBG_HALT 2) && (match regAt off with | some d => d.lvl = .por | none => false)

/-- The DBG block, the only one that a system reset spares (Table 18-9). -/
def dbgBlock : Nat := 0x40

/-- Security state that outlives a system reset: what non-volatile memory and fuses hold, and the mark of an activation (R356). -/
def Security.restart (x : Security) : Security :=
  { x with running := none, cert := none, signing := none, issued := [], waiting := [], cdi0 := [], devEc := [], devMl := [], aliasEc := [],
           aliasMl := [], udsLocked := false, sessions := [],
           ideKeys := [], ideDown := [], noCert := true }

/-- Everything volatile is lost, but for the debug logic, RST.CAUSE and TRIM.FAILS (Tables 18-1, 18-9). What was detected is in the
history (R342), whose shadow goes on as if it had been written (log entry 31). -/
def State.loseVolatile (s : State) : State :=
  let s := s.takeAll
  { State.reset with
    pending := s.pending, cycle := s.cycle,
    regs := mapPut 0 (s.regs.filter (fun (e : Nat × Word32) => keepReg e.1)) (rSEC_STATUS) (s.reg (rSEC_STATUS) &&& 0x20#32),
    shadows := s.shadows.filter (fun (e : Nat × Word32) => e.1 / 2 ^ 20 = dbgBlock),
    guards := s.guards.filter (fun (e : Nat × (Nat × Word32)) => e.1 / 16 = dbgBlock),
    cores := Vector.ofFn (fun c => Core.cold (s.freeCtr + c.val)), hbm := ⟨s.freeCtr + 96, []⟩, hostIn := ⟨s.freeCtr + 97, []⟩,
    dieTemp := s.dieTemp, dieVolt := s.dieVolt, hist := s.hist, evlog := s.evlog, nv := s.nv, memLines := s.memLines,
    lastRec := [], phase := s.phase, pwrEn := s.pwrEn, perst := s.perst, nvPulse := s.nvPulse,
    power := Power.start s.power.wear s.power.capNv, sec := s.sec.restart, mon := s.mon, clock := s.clock, i3cAddr := s.i3cAddr,
    out := s.out, freeCtr := s.freeCtr + 98, nextId := s.nextId }

/-- PG and the compute rails (R369, Table 21-6): the pin follows the rails. -/
def Phase.powered : Phase → Bool
  | .memory | .start | .run => true
  | _ => false

/-- Change the phase; PG is driven where the rails change. -/
def State.toPhase (s : State) (p : Phase) : State :=
  { s with phase := p, out := s.out ++ (if s.phase.powered = p.powered then [] else [Output.pin "PG" p.powered]) }

/-- Whether the safety die runs: the bulk is charged and hold-up has not ended. -/
def Phase.alive : Phase → Bool
  | .off | .charging => false
  | _ => true

/-- Set RST.CAUSE bits (R364). -/
def State.cause (s : State) (mask : Nat) : State := s.setReg (rRST_CAUSE) (s.reg (rRST_CAUSE) ||| BitVec.ofNat 32 mask)

/-- The system reset itself: phase 1 begins (R368). One during phase 2 counts a restart (R372). -/
def State.sysResetNow (s : State) (mask : Nat) : State :=
  let s := if s.phase = .trims then
      s.setFld (rTRIM_FAILS) 31 16 (min (s.fld (rTRIM_FAILS) 31 16 + 1) 65535) else s
  (((s.cause mask).toPhase .boot).loseVolatile)

/-- A system reset (R364): delayed while a non-volatile write pulse is in progress (R366), and overridden by a power failure (R365). -/
def State.sysReset (s : State) (mask : Nat) : State :=
  if !s.phase.alive || s.power.failed then s
  else if s.nvPulse then { s with rstDelayed := some ((s.rstDelayed.getD 0) ||| mask) }
  else s.sysResetNow mask

/-- Request a core-level reset of the whole compute domain (R365, R367): it restarts one in progress, and absorbs partition resets.
Without ticks there is no compute domain to reset; the cause bit is set all the same. -/
def State.requestCore (s : State) (mask : Nat) : State :=
  let s := s.cause mask
  if s.phase ≠ .run then s else { s with coreRst := some .asked }

/-- Request a reset of partition p (R307, R365). -/
def State.requestPart (s : State) (p : Nat) : State :=
  let s := s.cause (2 ^ 7 + 2 ^ (16 + p))
  if s.phase ≠ .run ∨ s.coreRst ≠ none then s else s.modPart p (fun q => { q with rst := some .asked })

/-! ## What non-volatile memory gives back (R25, R319, R326, R337) -/

/-- Rebuild ARRMAP and the failed mark of core c (R23, R25): the spare serves as the history says it did. What was classed and had not
taken effect does so now, with its record (R344): the lowest such array takes a spare that is free. -/
def State.rebuildCore (s : State) (c : Fin 96) : State :=
  let gone := (List.range 5).filter (fun ph => s.arrGone c.val ph)
  let old := s.histGet (hkArray c.val 4)
  let q := if 8 ≤ old ∧ old < 12 then some (old - 8)
    else if gone.contains 4 then none else gone.head?
  let s := s.modCore c (fun k =>
    let k := gone.foldl (fun (k : Core) ph => k.setFld (kUCB_core_ARRMAP) (20 + ph) (20 + ph) 1) k
    let k := match q with | some ph => k.setFld (kUCB_core_ARRMAP) (4 * ph + 2) (4 * ph) 4 | none => k
    if gone = [] then k else k.setFld (kUCB_core_ARRMAP) 18 16 7)
  let s := match q with | some ph => s.histSet (hkArray c.val 4) (8 + ph) | none => s
  let s := (gone.filter (fun ph => decide (s.histGet (hkArray c.val ph) = 1))).foldl (fun (s : State) ph =>
    (s.histSet (hkArray c.val ph) 2).record 16 (s.unitArray c ph) 0 10 0 7 ((s.core c).reg (kUCB_core_ARRMAP)).toNat false) s
  if s.coreGone c.val then
    let s := (s.modCore c (fun k => { k with st := .failed })).setBit (rAVAIL (c.val / 32)) (c.val % 32) false
    let s := ((s.setFld (rAVSUM) 14 8 (s.fld (rAVSUM) 14 8 + 1)).setBit (rAVSUM) 16 true).alert true
    if s.histGet (hkCore c.val) = 1 then s
    else (s.histSet (hkCore c.val) 1).record 16 (s.unitCore c) 0 10 0 7 (s.reg (rAVSUM)).toNat false
  else if q.isSome then s.setFld (rAVSUM) 6 0 (s.fld (rAVSUM) 6 0 + 1) else s

/-- The history is in its shadow: ERR.SEQ, PWR.WEAR, the wear cap, ARRMAP and the availability map follow it (R25, R326, R337). -/
def State.loadHistory (s : State) : State :=
  let s := s.setReg (rERR_SEQ) (BitVec.ofNat 32 (s.histGet hkSeq))
  let s := s.setReg (rPWR_WEAR) (BitVec.ofNat 32 (s.power.wear / 1000000))
  let s := s.setBit (rPWR_STATUS) 4 s.power.capNv
  let s := { s with regs := mapClear s.regs (rAVAIL 0) (rAVSUM + 4) }
  let s := allCores.foldl (fun (s : State) c => s.modCore c (fun k => { k with cregs := mapErase k.cregs (kUCB_core_ARRMAP) })) s
  allCores.foldl State.rebuildCore s

def State.psus (s : State) : Nat := s.fld (rPWR_LIMITS) 15 0
def State.ppeak (s : State) : Nat := s.fld (rPWR_LIMITS) 31 16

/-- PPEAK_eff in mW, and whether the current term sets it (Table 15-1); without a measured voltage the term does not act. -/
def State.peakEff (s : State) : Nat × Bool :=
  let cur := 57 * s.fld (rPWR_INPUT) 15 0
  let m := min (1000 * s.ppeak) (if s.bit (rPWR_STATUS) 4 then 2400000 else 1000 * s.ppeak)
  if 0 < cur ∧ cur < m then (cur, true) else (m, false)

/-- PWR.EFF.PPEAK_EFF and STATUS.ILIM follow the limits, the voltage and the wear cap. -/
def State.showPeak (s : State) : State :=
  (s.setFld (rPWR_EFF) 31 16 (s.peakEff.1 / 1000)).setBit (rPWR_STATUS) 6 s.peakEff.2

/-- The committed option words that set limits and reserve (R319, Table 18-5). -/
def State.loadLimits (s : State) : State :=
  let o (i : Nat) : Nat := (s.reg (rTRIM_OPT i)).toNat
  let s := (s.setReg (rPWR_LIMITS) (BitVec.ofNat 32 (o 1))).setReg (rPWR_EFF) (BitVec.ofNat 32 (o 1))
  (s.setFld (rPWR_HOG) 31 16 (o 2 % 2 ^ 16)).showPeak

/-- S3 comes into force (R374, R375): the compute rails, HBM, the Chain and the CXL link are off and ticks stop. The committed trims
stay live, what Table 18-9 marks N is set from non-volatile memory, and records go on to be delivered (R340). A power failure comes
first (R365). -/
def State.toS3 (s : State) : State :=
  if s.power.failed then s else
  let trims := s.regs.filter (fun (e : Nat × Word32) => e.1 / 2 ^ 16 = rTRIM_STATUS / 2 ^ 16)
  let last := s.fld (rRST_STATUS) 5 4
  let fatal := s.fatal
  let t := (s.toPhase .s3).loseVolatile
  let s := { t with fatal := fatal, errq := (s.takeAll).errq }
  let s := trims.foldl (fun (s : State) (e : Nat × Word32) => s.setReg e.1 e.2) s
  let s := ((s.setFld (rRST_STATUS) 5 4 3).setFld (rRST_STATUS) 7 6 last)
  s.loadHistory.loadLimits

end Sys2Proof.Machine
end

