-- ==== Sys2Proof/Machine/Sync.lean ====
section
/-!
DEFINITION. Fences, signals, barriers and flags (spec/09_sync.md, R182 to R196).
-/
namespace Sys2Proof.Machine

/-- FENCE (R187): later ordered operations wait for the writes outstanding at the scope; with none it holds nothing. -/
def execFence (i : Issue) (f : Fields) (s : State) : Host.Outcome State Fault Refusal :=
  s.issue 0xD0 i f (fun m s =>
    let deps := (s.core m).outIds (f.m 1 0)
    if deps = [] then s
    else { s with nextId := s.nextId + 1 }.modCore m (fun k => { k with fences := k.fences ++ [
        ({ id := s.nextId, scope := f.m 1 0, deps := deps } : Fence)] }))

/-- The target core of a SIGNAL or FLGSET: the own core with SELF, else bits [6:0] of source 1, the others 0 (R219); a target
outside the partition is none (R183, R195). -/
def State.target (s : State) (c : Fin 96) (self : Bool) (v : Nat) : Option (Fin 96) :=
  if self then some c
  else if h : v < 96 then (if s.partOf ⟨v, h⟩ = s.partOf c ∧ s.partOf c ≠ none then some ⟨v, h⟩ else none)
  else none

/-- SIGNAL (R183, R185). -/
def execSignal (i : Issue) (f : Fields) (s : State) : Host.Outcome State Fault Refusal :=
  s.issue 0xD1 i f
    (fun m s =>
      let k := s.core m
      let op := s.opOf m 0xD1
      if f.mb 7 && k.fld (kSCNT_CFG (f.m 13 8)) 15 0 = 0 then s.scntFault m 4 (f.m 13 8) false op
      else match s.target m (f.mb 6) (k.rs f.a).toNat with
        | none => s.scntFault m 1 (f.m 5 0) false op
        | some t =>
          let s := s.modCore m (fun k =>
            let k := { k with guardStall := none }
            if f.mb 7 then k.addCount (f.m 13 8) (k.amountOf f.b) else k)
          s.ordered m (.signal t.val (f.m 5 0) (k.amountOf f.b)))

/-- COUNTER_INCREMENT (R182): increment k in flight reaches its counter. -/
def execCounterIncrement (k : Nat) (s : State) : Host.Outcome State Fault Refusal :=
  match s.flights[k]? with
  | some (.inc _ c n amount) =>
    .next ({ s with flights := s.flights.eraseIdx k }.modCore (coreOf c) (fun q => q.addCount n amount))
  | _ => .next s

/-- BARRIVE (R192): the gang's leader arrives with the round it enters; a third entry stalls. -/
def execBarrive (i : Issue) (f : Fields) (s : State) : Host.Outcome State Fault Refusal :=
  let n := f.m 5 0
  let mb := f.mb 6
  s.issue 0xD2 i f
    (fun m s =>
      if m ≠ i.core then s.modCore m (fun k => { k with stall := .none })
      else
        let k := s.core m
        let tag := mapGet 0 k.bseen (barKey mb n) + k.bo mb n
        let s := s.modCore m (fun k => { k with stall := .none, bout := mapPut 0 k.bout (barKey mb n) (k.bo mb n + 1) })
        s.ordered m (.arrive mb n tag))

/-- The key of a barrier as core c names it: die 0 from 0, die 1 from 64, the module from 128. -/
def barOf (c : Nat) (modbar : Bool) (n : Nat) : Nat := if modbar then 128 + n else 64 * (c / 48) + n

/-- BARCFG and BARSTAT of a barrier by its key. -/
def barCfgReg (b : Nat) : Nat := if b < 128 then rDIE_BARCFG (b / 64) (b % 64) else rGLB_BARCFG (b % 64)
def barStatReg (b : Nat) : Nat := if b < 128 then rDIE_BARSTAT (b / 64) (b % 64) else rGLB_BARSTAT (b % 64)

/-- The configuration in force of a barrier (R191). -/
def State.barNow (s : State) (b : Nat) : Word32 := mapGet 0 s.barCfg b

/-- BARRIER_ARRIVAL (R192): arrival k in flight reaches its barrier. -/
def execBarrierArrival (k : Nat) (s : State) : Host.Outcome State Fault Refusal :=
  match s.flights[k]? with
  | some (.arrive c mb n tag) =>
    let s := { s with flights := s.flights.eraseIdx k }
    let b := barOf c mb n
    let g := barStatReg b
    let cfg := (s.barNow b).toNat
    let count := bitsOf 6 0 cfg
    let round := mapGet 0 s.rounds b
    if bitsOf 15 15 cfg = 0 ∨ count = 0 ∨ s.partOf (coreOf c) ≠ some (bitsOf 10 8 cfg) then
      .next (s.scntFault (coreOf c) 2 n mb 0xD2)
    else if tag = round then
      let t := s.setFld g 6 0 (s.fld g 6 0 + 1)
      .next (if s.fld g 6 0 + 1 > count then t.scntFault (coreOf c) 3 n mb 0xD2 else t)
    else if tag = round + 1 then
      let t := s.setFld g 14 8 (s.fld g 14 8 + 1)
      .next (if s.fld g 14 8 + 1 > count then t.scntFault (coreOf c) 3 n mb 0xD2 else t)
    else .next (s.scntFault (coreOf c) 3 n mb 0xD2)
  | _ => .next s

/-- SCFG: bits [31:0] of source 1 to SCNT.CFGn, its reserved bits staying 0 (R185, R199). -/
def execScfg (i : Issue) (f : Fields) (s : State) : Host.Outcome State Fault Refusal :=
  s.issueCore 0xD3 i f (fun k => k.setReg (kSCNT_CFG (f.m 5 0)) ((k.rs f.a).setWidth 32 &&& 0x3FFFFF))

/-- FLGSET (R195). -/
def execFlgset (i : Issue) (f : Fields) (s : State) : Host.Outcome State Fault Refusal :=
  s.issue 0xD4 i f (fun m s =>
    match s.target m (f.mb 4) ((s.core m).rs f.a).toNat with
    | none => s.scntFault m 1 (f.m 3 0) false (s.opOf m 0xD4)
    | some t => s.ordered m (.flag t.val (f.m 3 0)))

/-- FLAG_ARRIVAL (R195): flag k in flight is set. -/
def execFlagArrival (k : Nat) (s : State) : Host.Outcome State Fault Refusal :=
  match s.flights[k]? with
  | some (.flag _ c n) =>
    .next ({ s with flights := s.flights.eraseIdx k }.modCore (coreOf c) (fun q => { q with flags := maskSet q.flags n true }))
  | _ => .next s

/-- FLGCLR (R195). -/
def execFlgclr (i : Issue) (f : Fields) (s : State) : Host.Outcome State Fault Refusal :=
  s.issueCore 0xD5 i f (fun k => { k with flags := maskSet k.flags (f.m 3 0) false })

/-- FLGWAIT (R195): stalls while the own flag is 0; AUTOCLR clears it as it issues. -/
def execFlgwait (i : Issue) (f : Fields) (s : State) : Host.Outcome State Fault Refusal :=
  s.issue 0xD6 i f (fun m s =>
    s.modCore m (fun k => if f.mb 4 then { k with flags := maskSet k.flags (f.m 3 0) false } else k))

end Sys2Proof.Machine
end

