-- ==== Sys2Proof/Machine/Frame.lean ====
section
/-!
DEFINITION. The tick and the events of the tick window (spec/02_time_base.md, Table 2-1): starts, captures, slips, map commits,
partition and domain changes, waits, barriers, the deadlock detector, table swaps and issue decisions. Each event comes as a command
at the cycle that Table 2-1 gives it, and carries that cycle into `cycle`.
-/
namespace Sys2Proof.Machine

/-- The leaders of the active gangs. -/
def State.leaders (s : State) : List (Fin 96) := allCores.filter (fun c => s.gang[c] = c)

/-- Apply an operation for every core of a list. -/
def State.eachCore (s : State) (l : List (Fin 96)) (g : Core → Core) : State := l.foldl (fun s c => s.modCore c g) s

/-- Whether a core of partition p is halted (R423). -/
def State.halted (s : State) (p : Nat) : Bool := (s.coresOf p).any (fun c => (s.core c).steps.isSome)

/-- The lag L of partition p's domain, from TIME.DOM as in force (R35). -/
def Part.lag (q : Part) : Nat := if q.domNow.getLsbD 17 then bitsOf 15 12 q.domNow.toNat else 1

/-! ## The tick -/

/-- Buffer lines of a launch's image in their order of arrival (R47). -/
def imageOrder (lines entry : Nat) : List Nat :=
  let l := entry / 32
  ((List.range lines).filter (fun i => l ≤ i)) ++ ((List.range lines).filter (fun i => i < l))

/-- Queue the loads of a launch's initial image on its leader (R47). -/
def State.loadImage (s : State) (c : Fin 96) (l : Launch) : State :=
  (imageOrder l.lines l.entry).foldl (fun s i =>
    { s with nextId := s.nextId + 1 }.modCore c (fun k =>
      { k with ibLoads := k.ibLoads ++ [({ uid := s.nextId, line := i, dev := true, addr := l.iaddr + 1024 * i, opw := 0 } : IbLoad)] })) s

/-- Start a block on the gang that core c leads (R27, R28, R47). -/
def State.startBlock (s : State) (c : Fin 96) : State :=
  let k := s.core c
  let s := match k.first, k.launch with
    | true, some l => s.loadImage c l
    | _, _ => s
  s.eachMember c (fun m s => s.modCore m (fun k =>
    { k with start := false, active := true, spill := false, wait := .none, waitFailed := false, blockFrame := BitVec.ofNat 64 s.frame,
             blockNo := k.blockNo + 1, blockBundles := 0, lastBc := 0, wframe := if k.first then k.wframe else k.wframe + 1, first := false }))

/-- Whether channel v of a port holds something and has had no credit in the frame that ends (R268). -/
def Port.starved (q : Port) (v : Nat) : Bool :=
  !(vget q.fed v) && decide (vget q.cred v = 0) && ((vget q.cur v).isSome || q.outq.any (fun o => o.vc = v))

/-- The port frame begins: slot entries written since take effect (R284), and channels without credit count a frame (R268). -/
def State.portFrame (s : State) (p : Nat) : State :=
  s.modPort p (fun q =>
    { q with slots := (List.range 16).foldl (fun m i => mapPut 0 m i (s.reg (rCHC_SLOT p i))) q.slots,
             starve := (List.range 4).foldl (fun v i => vput v i (if q.starved i then min (vget v i + 1) 1001 else 0)) q.starve,
             fed := (List.range 4).foldl (fun d i => vput d i (decide (vget q.cred i > 0))) q.fed })

/-- The compute domain of these cores enters reset at the tick (R367, Table 18-3): operations inside it are discarded, core-reset
registers take their reset values, and their memories are undefined until scrubbed. What failed or awaits retirement stays so. -/
def Core.enterReset (k : Core) (gen : Nat) : Core :=
  if k.st = .failed then k else
    { (Core.cold gen) with
      st := .inReset, retire := k.retire, failPend := k.failPend,
      cregs := k.cregs.filter (fun e => e.1 = kUCB_core_ARRMAP) }

/-- Whether core c's bit of DBG.HALT is set (R423). -/
def State.haltBit (s : State) (c : Fin 96) : Bool := s.bit (rDBG_HALT (c.val / 32)) (c.val % 32)

/-- Pending guarded writes and latched high words of register space [lo, hi) are lost at a reset (R389, R396). -/
def State.dropAccess (s : State) (lo hi : Nat) : State :=
  { s with guards := mapClear s.guards (lo / 2 ^ 12) (hi / 2 ^ 12), shadows := mapClear s.shadows (16 * lo) (16 * hi) }

def State.resetCores (s : State) (l : List (Fin 96)) : State :=
  l.foldl (fun s c =>
    (({ s with freeCtr := s.freeCtr + 1 }.modCore c (fun k => k.enterReset s.freeCtr)).setBit (rDBG_HALT (c.val / 32)) (c.val % 32)
      false).dropAccess (0x10000000 + 0x100000 * c.val) (0x10100000 + 0x100000 * c.val)) s

/-- Barriers whose PART, as in force, is p: counts and rounds cleared, and every core's outstanding count (R307). -/
def State.clearBarrier (s : State) (b : Nat) : State :=
  let s := { s with rounds := mapErase s.rounds b, podRel := s.podRel.filter (fun e => e.1 + 128 ≠ b),
                    podSent := s.podSent.filter (fun e => e.1 + 128 ≠ b) }
  let s := s.setReg (barStatReg b) 0
  let s := if b < 128 then s else s.setReg (rGLB_BARPCUR (b % 64)) 0
  s.eachCore (allCores.filter (fun c => decide (b ≥ 128) || decide (c.val / 48 = b / 64))) (fun k =>
    let key := barKey (decide (b ≥ 128)) (b % 64)
    { k with bout := mapErase k.bout key, bseen := mapErase k.bseen key })

/-- The identity gang map of cluster k, active and staged (R12). -/
def State.splitCluster (s : State) (k : Nat) : State :=
  let s := (s.setReg (rGANGMAP0 k) (regReset (rGANGMAP0 k))).setReg (rGANGMAP1 k) (regReset (rGANGMAP1 k))
  { s with gang := Vector.ofFn (fun c => if c.val / 12 = k then c else s.gang[c]), gangPend := s.gangPend.filter (fun e => e.1 ≠ k) }

/-- The registers of a core-reset level in a unit: cluster, die and module UCBs (Table 18-9). -/
def State.clearUcb (s : State) (base : Nat) : State :=
  { s with regs := mapClear s.regs base (base + 0x80) }.dropAccess base (base + 0x100)

/-- A partition enters reset at the tick (R307, Table 18-9 column P): what its cores have on the way inside the module, and what is on the
way to them, is discarded (Table 18-3). -/
def State.holdPart (s : State) (p : Nat) : State :=
  let cl := (List.range 8).filter (fun k => (s.clusters p).testBit k)
  let s := s.resetCores (s.coresOf p)
  let s := cl.foldl (fun s k => (s.splitCluster k).clearUcb (rUCB_cl_IDENT k)) s
  let s := ((List.range 192).filter (fun b => bitsOf 15 15 (s.barNow b).toNat = 1 && bitsOf 10 8 (s.barNow b).toNat = p)).foldl
    State.clearBarrier s
  let s := (s.setReg (rPART_FAULT p) 0).setReg (rCHC_PFAULT p) 0
  let s := (List.range 4).foldl (fun s r => s.setFld (rPART_RSTAT p r) 3 0 0) s
  let mine (n : Nat) : Bool := s.inPart p (coreOf n)
  let s := { s with flights := s.flights.filter (fun x => match x with
    | .inc m c _ _ | .flag m c _ => !(mine m || mine c)
    | .arrive m _ _ _ => !(mine m)) }
  s.modPart p (fun q => { q with rst := some .held, firstFault := none, quiet := 0 })

/-- The whole compute domain enters reset at the tick (R367, Table 18-9 column core reset). -/
def State.holdAll (s : State) : State :=
  let s := s.resetCores allCores
  let s := (List.range 8).foldl (fun s k => (s.splitCluster k).clearUcb (rUCB_cl_IDENT k)) s
  let s := (s.clearUcb (rUCB_die_IDENT 0)).clearUcb (rUCB_die_IDENT 1)
  let s := (s.clearUcb rUCB_mod_IDENT)
  let s := (List.range 192).foldl State.clearBarrier s
  let s := (List.range 8).foldl (fun s p => s.modPart p (fun q => { q with firstFault := none, quiet := 0 })) s
  { s with coreRst := some .held, flights := [] }

/-- What the tick does to a reset in progress (Table 18-3): the stopped units enter reset. An accepted RELEASE lets the scrub of a
compute domain held by a thermal trip begin (R325). -/
def State.tickResets (s : State) : State :=
  let s := if s.coreRst = some .stopping then s.holdAll else s
  let s := if s.power.release then
      { (s.setBit (rPWR_STATUS) 3 false).setBit (rRST_STATUS) 2 false with power := { s.power with release := false, hot105 := 0 } }
    else s
  (List.range 8).foldl (fun s p => if (s.part p).rst = some .stopping then s.holdPart p else s) s

/-- At the tick of a hold-rest frame (R37): a start there is a catch-up and takes one from BEHIND, and what is left goes to
SEQ.SLIPS.LOST. -/
def Core.settleCatch (k : Core) : Core :=
  match k.catchUp with
  | none => k
  | some c =>
    let b := if c then k.behind - 1 else k.behind
    let k := if c then k.setFld (kSEQ_SLIPS) 23 12 (min (k.fld (kSEQ_SLIPS) 23 12 + 1) 4095) else k
    { k.setFld (kSEQ_SLIPS) 31 24 (min (k.fld (kSEQ_SLIPS) 31 24 + b) 255) with behind := 0, catchUp := none }

/-- TICK (R26, R31): cycle 0 of the next frame; the tick that ends a step frame adopts the master's frame number (R41). -/
def execTick (s : State) : Host.Outcome State Fault Refusal :=
  if s.phase ≠ .run then .next s
  else
    let f := match s.step with | some (f, _) => f | none => s.frame + 1
    let s := { s.setReg64 (rTIME_FRAME) f with cycle := 0, clock := s.clock + 1, logMsi := false, step := none, winDue := [] }
    let s := (allCores.filter (fun c => (s.core c).steps.isSome && !(s.haltBit c))).foldl
      (fun s c => s.modCore c (fun k => { k with steps := none })) s
    let s := s.tickResets
    let s := s.eachCore allCores Core.settleCatch
    let s := (s.leaders.filter (fun c => (s.core c).start && decide ((s.core c).st = .running))).foldl State.startBlock s
    let s := (List.range 12).foldl State.portFrame s
    .next ((List.range 8).foldl (fun s p => s.modPart p (fun q => { q with restNow := q.restNext })) s)

/-! ## Cycle 1,280: capture and slips -/

/-- Whether a counter register is the low word of a 64-bit pair. -/
def wideReg (off : Nat) : Bool :=
  match regAt (0x10000000 + off) with
  | some d => d.fields.any (fun f => f.acc = .lh)
  | none => false

/-- One counter that changes only at the tick window takes its count of the frame just ended, and saturates (R96, R139, R158, R181,
R383). MAT.CSUM holds replays in [15:0] and failures in [23:16]. -/
def Core.flushOne (k : Core) (e : Nat × Nat) : Core :=
  if e.1 = kMAT_CSUM + 1 then k.setFld (kMAT_CSUM) 23 16 (min (k.fld (kMAT_CSUM) 23 16 + e.2) 255)
  else if e.1 = kMAT_CSUM then k.setFld (kMAT_CSUM) 15 0 (min (k.fld (kMAT_CSUM) 15 0 + e.2) 65535)
  else if wideReg e.1 then k.setReg64 e.1 (min (k.reg64 e.1 + e.2) (2 ^ 64 - 1))
  else k.setReg e.1 (BitVec.ofNat 32 (min ((k.reg e.1).toNat + e.2) 0xFFFFFFFF))

def Core.flush (k : Core) : Core := k.fcount.foldl Core.flushOne { k with fcount := [] }

/-- The counts of stall and freeze cycles depend on timing that the model leaves out (log entry 4): they advance by free values, the stalls
of a running core, and the freezes and waits of a core with work in its arrays or its layout engine. -/
def Core.timing (k : Core) (ctr : Nat) : Core :=
  (if k.st = .running then [kCNT_VSTALL, kMAT_FRZA, kMAT_FRZB, kMAT_FRZD, kLAY_BWAIT]
    else if k.mops ≠ [] ∨ k.xfers ≠ [] then [kMAT_FRZA, kMAT_FRZB, kMAT_FRZD, kLAY_BWAIT] else []).zipIdx.foldl
      (fun (k : Core) (e : Nat × Nat) => k.bump e.1 (Config.freeNat (ctr + e.2) % 5201)) k

/-- SCNT.COUNTn take the counters' values (R29, R184). -/
def Core.capture (k : Core) : Core :=
  k.scnt.foldl (fun (k : Core) (e : Nat × Word64) => k.setReg64 (kSCNT_COUNT e.1) e.2.toNat)
    { k with cregs := mapClear k.cregs (kSCNT_COUNT 0) (kSCNT_COUNT 64) }

/-- The snapshot a window's selector names (R19), `member` giving the core that MEMBER selects. -/
def State.window (s : State) (sel : Word32) (member : Option (Fin 96)) (bar : Option Nat) : Nat :=
  let n := bitsOf 5 0 sel.toNat
  if sel.getLsbD 31 = false then 0
  else if sel.getLsbD 6 then (match bar with | some b => mapGet 0 s.rounds (b + n) | none => 0)
  else match member with
    | some c => (s.core c).count n
    | none => 0

/-- The core that MEMBER of a selector names among `n` cores from `first`. -/
def memberOf (first n : Nat) (sel : Word32) : Option (Fin 96) :=
  if bitsOf 14 8 sel.toNat < n then some (coreOf (first + bitsOf 14 8 sel.toNat)) else none

/-- The windows of a core's UCB. -/
def State.coreWindows (s : State) (c : Fin 96) : State :=
  let k := s.core c
  let sels := k.cregs.filter (fun e => kUCB_core_WINSEL 0 ≤ e.1 && e.1 < kUCB_core_WINSEL 8)
  let k := { k with cregs := mapClear k.cregs (kUCB_core_WIN 0) (kUCB_core_WIN 8) }
  let ms := s.members c
  s.setCore c (sels.foldl (fun k e =>
    let m := if ms.length = 1 then some c else ms[bitsOf 14 8 e.2.toNat]?
    k.setReg64 (kUCB_core_WIN ((e.1 - kUCB_core_WINSEL 0) / 4)) (s.window e.2 m none)) k)

/-- The windows of a cluster's, a die's or the module's UCB, whose cores are the `n` from `first`. -/
def State.unitWindows (s : State) (base first n : Nat) (bar : Option Nat) : State :=
  let sels := s.regs.filter (fun e => base + 0x20 ≤ e.1 && e.1 < base + 0x40)
  let s0 := { s with regs := mapClear s.regs (base + 0x40) (base + 0x80) }
  sels.foldl (fun t e =>
    t.setReg64 (base + 0x40 + 2 * (e.1 - base - 0x20)) (s.window e.2 (memberOf first n e.2) bar)) s0

/-- Every window takes its snapshot (R19). -/
def State.windows (s : State) : State :=
  let s := allCores.foldl State.coreWindows s
  let s := (List.range 8).foldl (fun s k => s.unitWindows (rUCB_cl_IDENT k) (12 * k) 12 none) s
  let s := (s.unitWindows (rUCB_die_IDENT 0) 0 48 (some 0)).unitWindows (rUCB_die_IDENT 1) 48 48 (some 64)
  s.unitWindows (rUCB_mod_IDENT) 0 96 (some 128)

/-- Whether the block of leader c still issues and its partition, not halted, records a slip (R32, R423). -/
def State.slipping (s : State) (c : Fin 96) : Bool :=
  let k := s.core c
  match s.partOf c with
  | some p => k.active && !k.spill && decide (k.st = .running) && !(s.halted p)
  | none => false

/-- A slip of the block of the gang that core c leads, in partition p (R32, R34): relaxed, the block goes on under a hold; strict, it is a
program fault, and the partition has to stop. -/
def State.slip (s : State) (c : Fin 96) (p : Nat) : State :=
  let s := s.eachMember c (fun m s =>
    (s.modCore m (fun k => k.setFld (kSEQ_SLIPS) 11 0 (min (k.fld (kSEQ_SLIPS) 11 0 + 1) 4095))).errsum m eSLIP)
  if (s.part p).domNow.getLsbD 16 then (s.modCore c (fun k => k.faultReg (kSEQ_FAULT) (7 + 2 ^ 16 * k.pc))).progNote c 1 (kSEQ_FAULT) 0 0
  else
    (s.eachMember c (fun m s => s.modCore m (fun k => { k with spill := true, hold := true }))).modPart p
      (fun q => { q with reqHold := true })

/-- Every block still issuing is recorded as a slip (R31); then the partitions in strict mode stop, each for its first slip (R34). -/
def State.slips (s : State) : State :=
  let l := s.leaders.filter s.slipping
  let s := l.foldl (fun s c => match s.partOf c with | some p => s.slip c p | none => s) s
  l.foldl (fun s c => match s.partOf c with
    | some p => if (s.part p).domNow.getLsbD 16 then s.stopPart p c.val 1 .stopped else s
    | none => s) s

/-- Conditions that set ERR.STATUS.ALERT again while they hold (R341). -/
def State.alertHolds (s : State) : Bool :=
  s.bit (rAVSUM) 16 || s.bit (rPWR_STATUS) 3 || s.bit (rPWR_STATUS) 5 || s.fatal

/-- A change between S0 and S1 that was accepted takes effect (R375, Table 18-8). -/
def State.powerState (s : State) : State :=
  match s.psPend with
  | some t =>
    if t < 2 ∧ s.fld (rRST_STATUS) 5 4 < 2 then
      { (s.setFld (rRST_STATUS) 7 6 (s.fld (rRST_STATUS) 5 4)).setFld (rRST_STATUS) 5 4 t with psPend := none }
    else s
  | none => s

/-- What the tick window that begins has to apply, in the order of R14. -/
def State.windowDue (s : State) : List Nat :=
  let idle := allCores.filter (fun c => decide ((s.core c).st = .idle))
  (idle.filter (fun c => (s.core c).retire.isSome)).map (·.val)
    ++ (idle.filter (fun c => (s.core c).failPend)).map (fun c => 100 + c.val)
    ++ s.gangPend.map (fun e => 200 + e.1)
    ++ ((List.range 8).filter (fun p => s.bit (rPART_STATUS p) 8)).map (300 + ·)

/-- Whether nothing of an earlier step of R14 than those from code `n` is due in this window. -/
def State.windowAt (s : State) (n : Nat) : Bool := s.winDue.all (fun d => decide (n ≤ d))

/-- A step of R14 is done. -/
def State.windowDone (s : State) (d : Nat) : State := { s with winDue := s.winDue.filter (· ≠ d) }

/-- CAPTURE (R31): cycle 1,280. A power failure or a fall of PWR_EN stops every partition here (R328, R375). -/
def execCapture (s : State) : Host.Outcome State Fault Refusal :=
  if s.phase ≠ .run then .next s
  else
    let s := { s with cycle := s.winCy 1280 }
    let s := s.eachCore allCores (fun k => { k with hold := false, late := k.active })
    let s := s.slips
    let s := if s.power.stopAll then (List.range 8).foldl (fun s p => s.stopPart p 0 0 .stopped) s else s
    let s := allCores.foldl (fun s c => s.modCore c (fun k =>
      (((k.countStalls (k.blockCycle s.frame 1280)).timing (s.freeCtr + 5 * c.val)).flush).capture)) s
    let s := { s with freeCtr := s.freeCtr + 480 }
    let s := s.windows
    let caps := s.barCfg.filter (fun (e : Nat × Word32) => s.reg (barStatReg e.1) ≠ 0)
    let s := { s with barCap := caps.map (fun (e : Nat × Word32) => (e.1, s.reg (barStatReg e.1))) }
    let s := if s.lockLost then { (s.setBit (rTIME_STATUS) 0 false).setReg (rTIME_HOPS) 31 with lockLost := false, lockRun := 0 } else s
    let s := if s.alertHolds then s.alert true else s
    let s := { s with winDue := s.windowDue }
    .next (if s.power.stopAll && !s.power.failed then s.toS3 else s.powerState)

/-- BLOCK_OVERRUN (R33): at cycle 1,279 a slipped block of an earlier frame still issues; the partition stops. -/
def execBlockOverrun (c : Fin 96) (s : State) : Host.Outcome State Fault Refusal :=
  let k := s.core c
  match s.partOf c with
  | some p =>
    if s.gang[c] = c ∧ k.active ∧ k.spill ∧ k.st = .running ∧ k.blockFrame.toNat < s.frame ∧ s.halted p = false then
      .next ({ s with cycle := s.winCy 1279 }.seqFault c 4 0 0)
    else .next s
  | none => .next s

end Sys2Proof.Machine
end

