-- ==== Sys2Proof/Machine/Window.lean ====
section
/-!
DEFINITION. The tick window from cycle 1,281 on (spec/01_architecture.md, R12 to R14, R23 to R25; spec/02_time_base.md, Table 2-1;
spec/09_sync.md, R184, R191 to R198; spec/14_host.md, R306): remaps, failed marks, gang maps, partitions, domains, barriers,
stack-local windows, waits, releases, the deadlock detector, table swaps and issue decisions.
-/
namespace Sys2Proof.Machine

/-! ## Array remaps and failed cores (R23, R25, R344) -/

/-- The physical array serving logical array a of a core. -/
def Core.physOf (k : Core) (a : Nat) : Nat := k.fld (kUCB_core_ARRMAP) (4 * a + 2) (4 * a)

/-- The spare takes the logical index of the array that awaits retirement (R23); where that array is the spare itself, none. -/
def State.remap (s : State) (c : Fin 96) : State :=
  let k := s.core c
  match k.retire with
  | none => s
  | some (ph, _) =>
    let sp := k.fld (kUCB_core_ARRMAP) 18 16
    let k1 := (List.range 4).foldl (fun (k : Core) a =>
      if k.physOf a = ph then k.setFld (kUCB_core_ARRMAP) (4 * a + 2) (4 * a) sp else k) k
    let k2 := ((k1.setFld (kUCB_core_ARRMAP) 18 16 7).setFld (kUCB_core_ARRMAP) (20 + ph) (20 + ph) 1).setFld (kUCB_core_ARRMAP) 28 28 0
    let s := (s.setCore c { k2 with retire := none }).errsumArr c ph eRETIRE
    let s := if ph = sp then s else
      (s.setFld (rAVSUM) 6 0 (s.fld (rAVSUM) 6 0 + 1)).histSet (hkArray c.val sp) (8 + ph)
    let s := s.histSet (hkArray c.val ph) 2
    s.record 16 (s.unitArray c ph) 0 10 0 7 ((s.core c).reg (kUCB_core_ARRMAP)).toNat false

/-- Whether the spare of a core serves one of its logical arrays. -/
def Core.onSpare (k : Core) : Bool := (List.range 4).any (fun a => k.physOf a ≠ a)

/-- A core leaves its gang (R25): it leads itself, and so do the members that it led (log entry 71). -/
def State.leaveGang (s : State) (c : Fin 96) : State :=
  { s with gang := Vector.ofFn (fun d => if d = c ∨ s.gang[d] = c then d else s.gang[d]) }

/-- The failed mark of core c takes effect (R25): it is unavailable, no gang's member and counted on its spare no longer, and the module is
due for replacement. -/
def State.markFailed (s : State) (c : Fin 96) : State :=
  let s := if (s.core c).onSpare then s.setFld (rAVSUM) 6 0 (s.fld (rAVSUM) 6 0 - 1) else s
  let s := (s.leaveGang c).modCore c (fun k => { k with st := .failed, failPend := false })
  let s := (s.setBit (rAVAIL (c.val / 32)) (c.val % 32) false).errsum c eRETIRE
  let s := s.setFld (rAVSUM) 14 8 (s.fld (rAVSUM) 14 8 + 1)
  let s := ((s.setBit (rAVSUM) 16 true).alert true).histSet (hkCore c.val) 1
  s.record 16 (s.unitCore c) 0 10 0 7 (s.reg (rAVSUM)).toNat false

/-- ARRAY_REMAP (R23): at a tick window with core c idle. -/
def execArrayRemap (c : Fin 96) (s : State) : Host.Outcome State Fault Refusal :=
  .next (if (s.core c).st = .idle then ({ s with cycle := s.winCy 1281 }.remap c).windowDone c.val else s)

/-- CORE_FAILED (R25): at a tick window with core c idle, after the window's remaps (R14). -/
def execCoreFailed (c : Fin 96) (s : State) : Host.Outcome State Fault Refusal :=
  .next (if (s.core c).st = .idle ∧ (s.core c).failPend ∧ s.windowAt 100 then
    ({ s with cycle := s.winCy 1281 }.markFailed c).windowDone (100 + c.val) else s)

/-! ## Gang maps (R12, R13) -/

/-- The leader that the map under decision names for local core j of cluster k: itself in the split map, else the staged field. -/
def State.stagedLeader (s : State) (k : Nat) (split : Bool) (j : Nat) : Nat :=
  if split then j
  else if j < 8 then s.fld (rGANGMAP0 k) (4 * j + 3) (4 * j) else s.fld (rGANGMAP1 k) (4 * (j - 8) + 3) (4 * (j - 8))

/-- The conditions of R13 on a staged map of cluster k. -/
def State.mapOk (s : State) (k : Nat) (split : Bool) : Bool :=
  let ld := s.stagedLeader k split
  let avail (j : Nat) : Bool := (s.core (coreOf (12 * k + j))).st ≠ .failed
  (List.range 12).all (fun j =>
    decide (ld j ≤ j) && decide (ld (ld j) = ld j)
      && (avail j || (decide (ld j = j) && (List.range 12).all (fun i => i = j || ld i ≠ j)))
      && (decide ((s.gang[coreOf (12 * k + j)]).val = 12 * k + ld j)
          || decide ((s.core (coreOf (12 * k + j))).st = .idle)))

/-- Make a map of cluster k the active one. -/
def State.applyMap (s : State) (k : Nat) (split : Bool) : State :=
  let g (c : Fin 96) : Fin 96 := if c.val / 12 = k then coreOf (12 * k + s.stagedLeader k split (c.val % 12)) else s.gang[c]
  { s with gang := Vector.ofFn g }

/-- GANG_MAP_COMMIT (R13): at the tick window the commit of cluster k is decided, after the window's remaps and failed marks (R14). -/
def execGangMapCommit (k : Fin 8) (s : State) : Host.Outcome State Fault Refusal :=
  match mapFind s.gangPend k.val with
  | none => .next s
  | some split =>
    if s.windowAt 200 = false then .next s else
    let s := { s with cycle := s.winCy 1281, gangPend := mapErase s.gangPend k.val }.windowDone (200 + k.val)
    let s := s.setBit (rUCB_cl_GANGSTAT k.val) 24 false
    .next (if s.mapOk k.val split then (s.applyMap k.val split).setBit (rUCB_cl_GANGSTAT k.val) 25 false
      else s.setBit (rUCB_cl_GANGSTAT k.val) 25 true)

/-! ## Partitions, domains, barriers, stack-local windows -/

/-- The clusters a CFG word puts in force: none unless EN (R305). -/
def cfgClusters (w : Word32) : Nat := if w.getLsbD 8 then bitsOf 7 0 w.toNat else 0

/-- A core that a partition change may move: IDLE or out of service (R306). -/
def CoreSt.movable : CoreSt → Bool
  | .idle | .failed => true
  | _ => false

/-- PARTITION_CHANGE (R306): at the tick window the staged CFG of partition p becomes active or is rejected, after the window's remaps, failed
marks and gang-map commits (R14). -/
def execPartitionChange (p : Fin 8) (s : State) : Host.Outcome State Fault Refusal :=
  if s.bit (rPART_STATUS p.val) 8 = false ∨ s.windowAt 300 = false then .next s
  else
    let w := s.reg (rPART_CFG p.val)
    let old := s.clusters p.val
    let new := cfgClusters w
    let s := ({ s with cycle := s.winCy 1281 }.windowDone (300 + p.val)).setBit (rPART_STATUS p.val) 8 false
    let overlap := (List.range 8).any (fun q => q ≠ p.val && s.clusters q &&& new ≠ 0)
    let moved := (List.range 8).filter (fun k => old.testBit k != new.testBit k)
    let still := moved.all (fun k => (List.range 12).all (fun j => (s.core (coreOf (12 * k + j))).st.movable))
    let scrub := (List.range 8).any (fun q => (s.part q).scrubCl.any (fun k => new.testBit k && !old.testBit k))
    if overlap ∨ ¬ still ∨ scrub then .next (s.setBit (rPART_STATUS p.val) 9 true)
    else
      let gone := moved.filter old.testBit
      let s := gone.foldl (fun s k => s.resetCores ((allCores.filter (fun c => c.val / 12 = k && (s.core c).st ≠ .failed)))) s
      let s := s.setFld (rPART_STATUS p.val) 7 0 new
      let s := s.setBit (rPART_STATUS p.val) 14 (gone ≠ [] || (s.part p.val).scrubCl ≠ [])
      .next (s.modPart p.val (fun q => { q with cfgNow := w, scrubCl := q.scrubCl ++ gone }))

/-- Whether no core of partition p runs a program or stands stopped: a new TIME.DOM may take effect. -/
def State.allIdle (s : State) (p : Nat) : Bool := (s.coresOf p).all (fun c => (s.core c).st.movable)

/-- DOMAIN_CONFIG_CHANGE (spec/02_time_base.md, TIME.DOMn): takes effect at the first tick window with the partition idle. -/
def execDomainConfigChange (p : Fin 8) (s : State) : Host.Outcome State Fault Refusal :=
  .next (if s.allIdle p.val then
      { s with cycle := s.winCy 1281 }.modPart p.val (fun q => { q with domNow := s.reg (rTIME_DOM p.val) })
    else s)

/-- BARRIER_CONFIG_CHANGE (R191): a written BARCFG takes effect once no core of its partitions, old and new, runs or waits. -/
def execBarrierConfigChange (b : Fin 192) (s : State) : Host.Outcome State Fault Refusal :=
  if s.barPend.contains b.val = false then .next s
  else
    let w := s.reg (barCfgReg b.val)
    let busy (p : Nat) : Bool := (s.coresOf p).any (fun c => (s.core c).st = .running || (s.core c).st = .waiting)
    if busy (bitsOf 10 8 (s.barNow b.val).toNat) ∨ busy (bitsOf 10 8 w.toNat) then .next s
    else
      let s := { s with cycle := s.winCy 1281 }.clearBarrier b.val
      .next { s with barCfg := mapPut 0 s.barCfg b.val w, barPend := s.barPend.erase b.val }

/-- SLWIN_CHANGE (R228): at cycle 1,281 window k as written comes into force. -/
def execSlwinChange (k : Fin 16) (s : State) : Host.Outcome State Fault Refusal :=
  .next { s with cycle := s.winCy 1281, slwinNow := mapPut 0 s.slwinNow k.val (s.reg (rGLB_SLWIN k.val)) }

/-! ## Cycle 1,282: barriers and waits -/

/-- The participants of a barrier: leaders of the partition's gangs, on its die for a die barrier (R191). -/
def State.participants (s : State) (b : Nat) : List (Fin 96) :=
  s.leaders.filter (fun c => decide (s.partOf c = some (bitsOf 10 8 (s.barNow b).toNat)) && (decide (b ≥ 128) || decide (c.val / 48 = b / 64)))

/-- Release one round of barrier b (R193): every core of its partition on its die sees the release, a leader or not (R192). -/
def State.releaseRound (s : State) (b : Nat) : State :=
  let g := barStatReg b
  let look := s.fld g 14 8
  let s := s.setReg g (BitVec.ofNat 32 (look + 2 ^ 16 * ((s.fld g 31 16 + 1) % 65536)))
  let s := { s with rounds := mapPut 0 s.rounds b (mapGet 0 s.rounds b + 1) }
  let key := barKey (decide (b ≥ 128)) (b % 64)
  let s := s.eachCore (s.participants b) (fun k => { k with bout := mapPut 0 k.bout key (mapGet 0 k.bout key - 1) })
  s.eachCore ((s.coresOf (bitsOf 10 8 (s.barNow b).toNat)).filter (fun c => decide (b ≥ 128) || decide (c.val / 48 = b / 64)))
    (fun k => { k with bseen := mapPut 0 k.bseen key (mapGet 0 s.rounds b) })

/-- Whether a barrier's round is complete in the capture: CUR = COUNT, enabled (R193). -/
def State.roundDone (s : State) (b : Nat) : Bool :=
  let cfg := (s.barNow b).toNat
  let n := bitsOf 6 0 cfg
  bitsOf 15 15 cfg = 1 && n ≠ 0 && bitsOf 6 0 (mapGet 0 s.barCap b).toNat = n

/-- BARRIER_RELEASE (R193): at cycle 1,282 a barrier with a complete round releases it, once per window. A member of a pod barrier
does not release by itself (R194). -/
def execBarrierRelease (b : Fin 192) (s : State) : Host.Outcome State Fault Refusal :=
  if s.roundDone b.val ∧ (s.barNow b.val).getLsbD 16 = false then
    .next ({ s with cycle := s.winCy 1282, barCap := mapErase s.barCap b.val }.releaseRound b.val)
  else .next s

/-- Whether a member's wait condition holds against the capture (R184, R193); a barrier wait looks at the gang's leader. -/
def State.waitHolds (s : State) (c : Fin 96) : Bool :=
  match (s.core c).wait with
  | .none => true
  | .counter n target => decide ((s.core c).reg64 (kSCNT_COUNT n) ≥ target.toNat)
  | .barrier mb n level => decide ((s.core s.gang[c]).bo mb n ≤ level)

/-- Leaders whose block is complete and whose program goes on: those that wait for a tick. -/
def State.between (s : State) : List (Fin 96) :=
  s.leaders.filter (fun c =>
    let k := s.core c
    decide (k.st = .running) && !k.active && !k.late && !k.exiting && k.launch.isSome)

/-- WAIT_EVALUATION (R29, R184): cycle 1,282; a gang's wait holds when it holds for every member. -/
def execWaitEvaluation (s : State) : Host.Outcome State Fault Refusal :=
  .next (s.between.foldl (fun s c =>
    let ok := (s.members c).all s.waitHolds
    s.eachMember c (fun m s => s.modCore m (fun k => { k with waitFailed := !ok }))) { s with cycle := s.winCy 1282 })

/-! ## Cycle 1,283: the deadlock detector (R197, R198) -/

/-- What a core waits for (R197, SCNT.WAIT): a FRAME wait that failed, a guarded SIGNAL, a third barrier entry. -/
inductive Waits where
  | no
  | counter (n target : Nat)
  | barrier (mb : Bool) (n level : Nat)
  | guard (n limit : Nat)
deriving DecidableEq, Repr

def State.waits (s : State) (c : Fin 96) : Waits :=
  let k := s.core c
  if k.st ≠ .running ∧ k.st ≠ .frozen then .no
  else if k.waitFailed then
    match k.wait with
    | .counter n t => .counter n t.toNat
    | .barrier mb n l => .barrier mb n l
    | .none => .no
  else match k.guardStall, k.stall with
    | some n, _ => .guard n (k.guardLimit n)
    | none, .barrier mb n l => if k.bo mb n ≥ 2 then .barrier mb n l else .no
    | none, _ => .no

/-- A core is waiting when it, or a member of its gang whose stall holds the gang, waits. -/
def State.isWaiting (s : State) (c : Fin 96) : Bool := (s.members c).any (fun m => s.waits m ≠ .no)

/-- Whether Bushel work is pending for partition p (R261). -/
def State.bushelPending (s : State) (p : Nat) : Bool :=
  (s.coresOf p).any (fun c => (s.core c).bq.any (fun b => b.part = p))
    || s.bushels.toList.any (fun b => b.queue.any (fun r => r.part = p)
        || b.jobs.toList.any (fun j => j.part = p && (j.st = .updating || (j.st = .opened && j.blocks.any (fun e =>
            e.2.added = j.ranks && !e.2.updated)))))

/-- The conditions of R197 on partition p in this frame. -/
def State.quietFrame (s : State) (p : Nat) : Bool :=
  let cs := (s.coresOf p).filter (fun c => !(s.core c).st.movable)
  cs ≠ [] && cs.all (fun c => s.isWaiting c && !(s.core c).exiting)
    && !(s.part p).busyFrame && (s.coresOf p).all (fun c => (s.core c).xfers = []) && !(s.bushelPending p) && !(s.halted p)

/-- DEADLOCK_DETECTOR (R197): cycle 1,283; each partition with a launched program has its frame judged. -/
def execDeadlockDetector (s : State) : Host.Outcome State Fault Refusal :=
  .next ((List.range 8).foldl (fun s p =>
    let q := s.quietFrame p && (s.coresOf p).any (fun c => (s.core c).launch.isSome)
    s.modPart p (fun r => { r with quiet := if q then r.quiet + 1 else 0, busyFrame := false })) { s with cycle := s.winCy 1283 })

/-- The kind, index word and target of a wait, as SCNT.WAIT and SCNT.WTARGET show them. -/
def Waits.word : Waits → Nat
  | .no => 0
  | .counter n _ => 1 + 16 * n
  | .barrier mb n l => 2 + (if mb then 4 else 0) + 8 * l + 16 * n
  | .guard n _ => 3 + 16 * n

def Waits.target : Waits → Nat
  | .no => 0
  | .counter _ t => t
  | .barrier _ _ l => l
  | .guard _ l => l

/-- Entry of a waiting core in a DEADLOCK record (R336). -/
def State.waitEntry (s : State) (c : Fin 96) : List Nat :=
  let w := s.waits c
  let x := w.word
  let cap := match w with
    | .counter n _ | .guard n _ => (s.core c).reg64 (kSCNT_COUNT n)
    | .barrier mb n _ =>
      let v := (mapGet 0 s.barCap (barOf c.val mb n)).toNat
      bitsOf 31 16 v + 2 ^ 16 * bitsOf 6 0 v + 2 ^ 24 * bitsOf 14 8 v
    | .no => 0
  [c.val + 2 ^ 7 * bitsOf 1 0 x + 2 ^ 9 * bitsOf 2 2 x + 2 ^ 10 * bitsOf 3 3 x + 2 ^ 11 * bitsOf 9 4 x, w.target, cap]

/-- DEADLOCK (R198): the quiet count of partition p reaches its window; the partition is frozen. -/
def execDeadlock (p : Fin 8) (s : State) : Host.Outcome State Fault Refusal :=
  if (s.part p.val).quiet < s.fld (rPART_DLWIN p.val) 15 0 ∨ s.isStopped p.val then .next s
  else
    let ws := (s.coresOf p.val).filter (fun c => s.waits c ≠ .no)
    let det := ((ws.take 16).map s.waitEntry).flatten
    let s := { s with cycle := s.winCy 1283 }
    let s := ws.foldl (fun s c => s.errsum c eDEAD) s
    let s := s.record 5 (2 ^ 18 * p.val + 2 ^ 21) 0 5 0 7 ws.length false
    let s := { s with errPend := s.errPend.mapIdx (fun (i : Nat) (r : ErrRec) =>
      if i + 1 = s.errPend.length then { r with waiters := ws.length, detail := det } else r) }
    .next (s.stopPart p.val (match ws with | c :: _ => c.val | [] => 0) 0 .frozen)

/-! ## Cycles 1,285 and 1,296: table swaps and issue decisions -/

/-- Swap slot n of a core where its shadow is complete and the block that issued its TLOAD has issued its FRAME (R151). -/
def Core.swap (k : Core) (frame : Nat) (n : Nat) (t : TSlot) : TSlot :=
  if t.pend ∧ t.doneAt ≤ 1300 * frame + 1279 ∧ t.block ≤ k.framedNo ∧ n < 8 then
    { t with active := t.shadow, shadow := t.active, pend := false, gen := min (t.gen + 1) 65535 }
  else t

/-- TABLE_SWAP (R151): cycle 1,285. -/
def execTableSwap (s : State) : Host.Outcome State Fault Refusal :=
  .next (State.eachCore { s with cycle := s.winCy 1285 } allCores (fun k =>
    if k.tslots.toList.any (·.pend) then { k with tslots := k.tslots.mapIdx (fun i t => k.swap s.frame i t) } else k))

/-- A TLOAD that the core's last block issued has not swapped (R152). -/
def Core.deferred (k : Core) : Bool :=
  !k.active && (k.tloads.any (fun t => t.block = k.blockNo) || k.tslots.toList.any (fun t => t.pend && t.block = k.blockNo))

/-- What an issue decision leaves of R152: the core withholds its next start, and TBL.DEFERS counts it, whatever else withholds one. -/
def Core.noteDefer (k : Core) : Core :=
  if k.deferred && !k.exiting then
    { k.setReg (kTBL_DEFERS) (BitVec.ofNat 32 (min ((k.reg (kTBL_DEFERS)).toNat + 1) 0xFFFFFFFF)) with defer := true }
  else { k with defer := false }

/-- Whether frame f is a rest frame of a partition's domain, and whether a hold is among its requests (R35, R38). -/
def Part.rest (q : Part) (f : Nat) : Bool := q.restReq.any (fun r => r.1 = f) || q.forced.contains f
def Part.holdRest (q : Part) (f : Nat) : Bool := q.restReq.any (fun r => r.1 = f && r.2)

/-- BEHIND takes the work frames missed since the hold that a hold-rest frame f answers (R37). -/
def Core.countMissed (k : Core) (f l : Nat) : Core :=
  let hit (m : Nat) : Bool := decide (f < m + l) && decide (m < f)
  { k with behind := k.behind + (k.missed.filter hit).length, missed := k.missed.filter (fun m => !hit m) }

/-- The decision for frame f on the gang that core c leads, in partition p (R37, R152). What a hold-rest frame does to BEHIND happens at its
tick. -/
def State.decide1 (s : State) (p f : Nat) (c : Fin 96) : State :=
  let q := s.part p
  let rest := q.rest f
  let hr := q.holdRest f
  let s := if hr then s.eachMember c (fun m s => s.modCore m (fun k => k.countMissed f q.lag)) else s
  let k := s.core c
  let busy := k.active || k.late
  let defer := (s.members c).any (fun m => (s.core m).deferred)
  let halted := decide (k.steps = some 0)
  let able := !busy && !k.waitFailed && (!rest || (hr && decide (k.behind > 0)))
  let start := able && !defer && !halted && !k.exiting
  let s := s.eachMember c (fun m s => s.modCore m Core.noteDefer)
  let miss := !start && !k.first && !k.exiting && (!rest || q.forced.contains f)
  s.eachMember c (fun m s => s.modCore m (fun k =>
    { k with start := start, catchUp := if hr then some (start && rest) else none,
             missed := (k.missed ++ (if miss then [f] else [])).filter (fun m => f < m + 16) }))

/-- ISSUE_DECISION (R31, R37): cycle 1,296; each running gang is told to start, catch up or stay. -/
def execIssueDecision (s : State) : Host.Outcome State Fault Refusal :=
  let f := s.frame + 1
  .next ((List.range 8).foldl (fun s p =>
    let s := (s.leaders.filter (fun c => s.inPart p c && decide ((s.core c).st = .running) && (s.core c).launch.isSome)).foldl
      (fun s c => s.decide1 p f c) s
    s.modPart p (fun q => { q with restNext := q.rest f, restReq := q.restReq.filter (fun r => f < r.1), forced := q.forced.filter (f < ·) }))
    { s with cycle := s.winCy 1296 })

/-- TICK_LATE (R38): at cycle 1,280 a member's notice of frame M = FRAME + 1 − L is missing; the domain rests in M + L, and this module
raises hold. -/
def execTickLate (p : Fin 8) (s : State) : Host.Outcome State Fault Refusal :=
  let q := s.part p.val
  let m := s.frame + 1 - q.lag
  let got := (q.notices.filter (fun n => n.1 = m)).length
  if q.domNow.getLsbD 17 ∧ q.lag ≤ s.frame + 1 ∧ got < s.fld (rCHC_DOMCFG p.val) 20 8 - 1 ∧ q.forced.contains (m + q.lag) = false then
    let s := { s with cycle := s.winCy 1280 }.modPart p.val (fun q => { q with forced := q.forced ++ [m + q.lag], reqHold := true })
    let s := s.setBit (rTIME_STATUS) 4 true
    .next (s.record 9 (2 ^ 18 * p.val + 2 ^ 21) 0 0 0 7 (s.reg (rTIME_STATUS)).toNat false)
  else .next s

/-- Whether anything that core c issued is still in flight inside it (R214). -/
def Core.inFlight (k : Core) : Bool :=
  k.loads ≠ [] || k.ibLoads ≠ [] || k.xfers ≠ [] || k.tloads ≠ [] || k.mops ≠ [] || k.held ≠ [] || k.chq ≠ [] || k.bq ≠ []
    || k.replays ≠ [] || k.outw ≠ [] || k.dslots.toList.any (fun d => match d with | .deciding _ => true | _ => false)

/-- Whether anything that core c issued is still in flight (R30, R214): in the core, on its way inside the module, or a record in a Bushel's
queue. -/
def State.inFlight (s : State) (c : Fin 96) : Bool :=
  (s.core c).inFlight
    || s.flights.any (fun x => match x with
      | .inc m _ _ _ | .arrive m _ _ _ | .flag m _ _ => decide (m = c.val))
    || s.bushels.toList.any (fun b => b.queue.any (fun r => decide (r.core = c.val)))

/-- Launches of partition p whose cores have all become IDLE are complete in this frame (R315). -/
def State.noteDone (s : State) (p : Nat) : State :=
  s.modPart p (fun q => { q with launches := q.launches.map (fun (l : LaunchRec) =>
    if l.doneAt.isNone && l.cores.all (fun c => (s.core (coreOf c)).st = .idle || (s.core (coreOf c)).st = .failed) then
      { l with doneAt := some s.frame } else l) })

/-- CORE_IDLE (R214): after EXIT the last operation of the gang that core c leads is complete, and its cores become IDLE. -/
def execCoreIdle (c : Fin 96) (s : State) : Host.Outcome State Fault Refusal :=
  let k := s.core c
  if k.exiting ∧ k.st = .running ∧ s.gang[c] = c ∧ (s.members c).all (fun m => !(s.inFlight m)) then
    let t := s.eachMember c (fun m s => s.modCore m (fun k => { k with st := .idle, exiting := false, launch := none, view := none }))
    .next (match s.partOf c with | some p => t.noteDone p | none => t)
  else .next s

end Sys2Proof.Machine
end

