-- ==== Sys2Proof/Machine/TimeSync.lean ====
section
/-!
DEFINITION. Tick messages, pod time, domain notices and pod barriers (spec/02_time_base.md, R35 to R43; spec/09_sync.md, R194;
spec/13_chain.md, R288 to R291).
-/
namespace Sys2Proof.Machine

/-! ## Cycle 1,288: tick messages -/

/-- Partition p's requests of this window become rest frames (R35), and its domain notice leaves where its domain spans modules
(R290). A halted partition raises hold (R423). -/
def State.sendNotice (s : State) (p : Nat) : State :=
  let q := s.part p
  let hold := q.reqHold || s.halted p
  let rest := q.reqRest
  let s := s.modPart p (fun q =>
    { q with reqRest := false, reqHold := false,
             restReq := q.restReq ++ (if rest || hold then [(s.frame + q.lag, hold)] else []) })
  if q.domNow.getLsbD 17 then
    s.chSend { s.header p 7 1 (s.fld (rCHC_DOMCFG p) 7 0) 127 0 with
      mcast := true, w3 := (if rest then 1 else 0) + (if hold then 2 else 0), w4 := s.frame }
  else s

/-- The last link tick that port p received: its frame and its arrival time. -/
def Port.lastTick (q : Port) : Nat × Nat := match q.tickIn.getLast? with | some (f, r, _) => (f, r.toNat) | none => (0, 0)

/-- The link tick of port p, leaving `txt` ps after the tick (R288). -/
def State.sendLinkTick (s : State) (p txt : Nat) : State :=
  if s.portUp p then
    let q := s.port p
    let m : Msg := { s.header 0 7 0 (s.fld (rCH_PEER p) 11 0) 127 0 with
      dom := 0, w3 := s.fld (rTIME_HOPS) 4 0 + (if s.bit (rTIME_STATUS) 0 then 32 else 0) + (if s.isMaster then 64 else 0),
      w4 := s.frame + 2 ^ 64 * (txt % 2 ^ 32),
      data := leBytes 4 q.lastTick.1 ++ leBytes 4 q.lastTick.2 ++ List.replicate 8 0 }
    (s.sendFlit p 2 0 0 0 m.bytes).modPort p (fun q => { q with tickTx := (q.tickTx ++ [(s.frame, txt)]).drop (q.tickTx.length - 31) })
  else s

/-- The word of a BARRIER message: INDEX and ROUND. -/
def barWord (n round : Nat) : Nat := n + 2 ^ 16 * (round % 65536)

/-- A module barrier is one of a pod barrier: enabled, POD, as in force (R194). -/
def State.isPod (s : State) (n : Nat) : Bool := bitsOf 16 15 (s.barNow (128 + n)).toNat = 3

/-- Partition of a module barrier. -/
def State.barPart (s : State) (n : Nat) : Nat := bitsOf 10 8 (s.barNow (128 + n)).toNat

/-- A module arrival of round `tag` (modulo 65,536) at the home (R194): counted in PCUR, or in PLOOK for the round after. -/
def State.podArrive (s : State) (n tag : Nat) : State :=
  let r := mapGet 0 s.rounds (128 + n) % 65536
  let g := rGLB_BARPCUR n
  if tag = r then s.setFld g 12 0 (s.fld g 12 0 + 1)
  else if tag = (r + 1) % 65536 then s.setFld g 28 16 (s.fld g 28 16 + 1)
  else s.count (rCHC_PROTO) 1

/-- The local round of pod barrier n is complete in the capture: one arrival for it goes to the home (R194). -/
def State.podLocal (s : State) (n : Nat) : State :=
  let r := mapGet 0 s.rounds (128 + n)
  if s.isPod n ∧ s.roundDone (128 + n) ∧ s.podSent.contains (n, r) = false then
    let s := { s with podSent := s.podSent.filter (fun (e : Nat × Nat) => e.1 ≠ n) ++ [(n, r)] }
    let home := s.fld (rGLB_BARPOD n) 11 0
    if home = s.node then s.podArrive n (r % 65536)
    else s.chSend { s.header (s.barPart n) 4 0 home 127 0 with w3 := barWord n r }
  else s

/-- TICK_MESSAGE (R31, R288, R290): cycle 1,288; `txt` gives for each port the time at which its tick flit leaves, which timing decides
(log entry 4). -/
def execTickMessage (txt : List Nat) (s : State) : Host.Outcome State Fault Refusal :=
  let s := { s with cycle := s.winCy 1288 }
  let s := (List.range 8).foldl State.sendNotice s
  let s := (List.range 12).foldl (fun s p => s.sendLinkTick p (txt.getD p 0)) s
  .next ((List.range 64).foldl State.podLocal s)

/-! ## Link ticks (R289) -/

/-- The mean of a list, rounded toward minus infinity; 0 of none. -/
def meanInt (l : List Int) : Int := if l = [] then 0 else l.foldl (fun (a b : Int) => a + b) 0 / (l.length : Int)

/-- Delay and offset in ps of the exchange of frame m (R289): `rxt` the partner's echo. -/
def exchange (rxt tx rx txt : Int) : Int × Int :=
  let delay := ((rxt - tx) + (rx - txt)) / 2
  (delay, txt + delay - rx)

/-- An offset `o` is measured against the time source: consecutive frames with every offset within 5 ns are counted (R40). -/
def State.measured (s : State) (o : Int) : State :=
  { s with lockFrame := s.frame,
           lockRun := if 5000 < o.natAbs then 0
             else if s.frame = s.lockFrame ∧ s.lockRun ≠ 0 then s.lockRun
             else if s.frame = s.lockFrame + 1 then s.lockRun + 1 else 1 }

/-- The averages over 256 frames become CH.DELAY, and on the upstream port of a slave TIME.LINKDLY, TIME.OFFSET and the steer, whose
law the spec leaves open (R40). -/
def State.tickMeasure (s : State) (p : Nat) (d o : Int) : State :=
  let l := ((s.port p).samples ++ [(d, o)]).drop ((s.port p).samples.length - 255)
  let s := s.modPort p (fun q => { q with samples := l })
  let md := (meanInt (l.map Prod.fst) % 2 ^ 24).toNat
  let s := s.setFld (rCH_DELAY p) 23 0 md
  if s.isUpstream p then
    let s := (s.setFld (rTIME_LINKDLY) 23 0 md).setReg (rTIME_OFFSET) (BitVec.ofInt 32 (meanInt (l.map Prod.snd)))
    let st : Int := (Config.freeNat s.freeCtr % 10001 : Nat) - 5000
    let s := { s.setFld (rTIME_TRIM) 15 0 (st % 65536).toNat with freeCtr := s.freeCtr + 1 }
    { s.measured o with lockLost := s.lockLost || decide (o.natAbs > 10000) }
  else s

/-- HOPS of a slave: its partner's plus 1 while it is locked, else 31 (R289, TIME.HOPS). -/
def State.slaveHops (s : State) (p : Nat) : State :=
  if s.isUpstream p then s.setReg (rTIME_HOPS) (if s.bit (rTIME_STATUS) 0 then BitVec.ofNat 32 (min ((s.port p).hops + 1) 31) else 31) else s

/-- A link tick (Table 13-6). -/
def Msg.isLinkTick (m : Msg) : Bool := decide (m.typ = 7 ∧ m.sub = 0)

/-- LINK_TICK (R289): link tick k of the inbox, which arrived `rx` ps after this module's tick of its frame number. -/
def execLinkTick (k : Nat) (rx : Int) (s : State) : Host.Outcome State Fault Refusal :=
  match s.inbox[k]? with
  | some x =>
    match x.port with
    | some p =>
      if x.msg.isLinkTick then
        let m := x.msg
        let s := { s with inbox := s.inbox.eraseIdx k }
        let f := m.f4 16 8
        let rxf := leNat (m.data.take 4)
        let rxt := leNat ((m.data.drop 4).take 4)
        let q := s.port p
        let s := s.modPort p (fun q =>
          { q with tickIn := (q.tickIn ++ [(f, rx, m.f4 24 4)]).drop (q.tickIn.length - 31), hops := m.f3 4 0 })
        let s := match q.tickTx.find? (fun e => e.1 % 2 ^ 32 = rxf), q.tickIn.find? (fun e => e.1 % 2 ^ 32 = rxf) with
          | some (_, tx), some (_, rxm, txt) =>
            let e := exchange rxt tx rxm txt
            s.tickMeasure p e.1 e.2
          | _, _ => s
        .next (s.slaveHops p)
      else .next s
    | none => .next s
  | none => .next s

/-! ## Locking, stepping, holdover (R40 to R43) -/

/-- TIME_LOCK (R40, R42): 256 consecutive frames within 5 ns; a re-lock ends holdover. For the TICK_REF of an EXTERNAL module the model takes
the same measure (log entry 72). -/
def execTimeLock (s : State) : Host.Outcome State Fault Refusal :=
  let role := s.fld (rTIME_CTRL) 1 0
  if (role = 2 ∨ role = 3) ∧ s.lockRun ≥ 256 then
    .next (((s.setBit (rTIME_STATUS) 0 true).setBit (rTIME_STATUS) 1 false).slaveHops (s.fld (rTIME_CTRL) 7 4))
  else .next s

/-- A record of class TIME with TIME.STATUS (R331, R335). -/
def State.timeRec (s : State) : State := s.record 9 0 0 0 0 7 (s.reg (rTIME_STATUS)).toNat false

/-- The frame numbers that the upstream module may have at the tick that ends a step frame: its last link tick left in the frame it names,
and one tick or two have come since, as the phases lie (R41, R289; log entry 88). -/
def State.upstreamFrame (s : State) (f : Nat) : Bool :=
  let q := s.port (s.fld (rTIME_CTRL) 7 4)
  q.tickIn ≠ [] && (decide (f = q.lastTick.1 + 1) || decide (f = q.lastTick.1 + 2))

/-- STEP_FRAME (R41): no core runs, a failed one being left out of what every core is (log entry 73). The present frame becomes the step
frame of a slave: it lasts `len` cycles, and its tick adopts the upstream frame number `f`. A slave that may not step keeps LOCKED at 0 and
writes a record. -/
def execStepFrame (f len : Nat) (s : State) : Host.Outcome State Fault Refusal :=
  if s.fld (rTIME_CTRL) 1 0 ≠ 2 ∨ s.phase ≠ .run ∨ len < 650 ∨ 1950 < len ∨ s.upstreamFrame f = false then .next s
  else if s.bit (rTIME_CTRL) 8 ∧ allCores.all (fun c => (s.core c).st.movable || (s.core c).st = .off) then
    .next { s.setBit (rTIME_STATUS) 3 true with step := some (f, len) }
  else .next (((s.setBit (rTIME_STATUS) 0 false).setReg (rTIME_HOPS) 31).timeRec)

/-- HOLDOVER (R42): the upstream port of a slave is not UP. -/
def execHoldover (s : State) : Host.Outcome State Fault Refusal :=
  if s.fld (rTIME_CTRL) 1 0 = 2 ∧ s.portUp (s.fld (rTIME_CTRL) 7 4) = false then .next s.enterHoldover else .next s

/-- TICK_REF_EDGE (R43): a rising edge of TICK_REF, `off` ps from the tick; an EXTERNAL module steers its tick to it, and counts the frame
towards its lock (log entry 72). -/
def execTickRefEdge (off : Int) (s : State) : Host.Outcome State Fault Refusal :=
  if s.fld (rTIME_CTRL) 1 0 = 3 then
    let st : Int := (Config.freeNat s.freeCtr % 10001 : Nat) - 5000
    .next { (s.setFld (rTIME_TRIM) 15 0 (st % 65536).toNat).measured off with freeCtr := s.freeCtr + 1 }
  else .next s

/-- REF_LOST (R43): four consecutive edges of TICK_REF are missing. -/
def execRefLost (s : State) : Host.Outcome State Fault Refusal :=
  if s.fld (rTIME_CTRL) 1 0 = 3 then .next ((s.setBit (rTIME_STATUS) 2 true).enterHoldover) else .next s

/-! ## Domain notices (R290) and pod barriers (R194, R291) -/

/-- DOMAIN_NOTICE (R38, R290): message k of the inbox, a member's rest and hold for a frame. A domain of one member heeds none (R35). -/
def execDomainNotice (k : Nat) (s : State) : Host.Outcome State Fault Refusal :=
  .next (s.takeMsg k (·.is 7 1) (fun x s =>
    match (List.range 8).find? (fun q => (s.part q).domNow.getLsbD 17 && s.domId q = x.msg.dom) with
    | none => s.count (rCHC_PROTO) 1
    | some q =>
      let m := x.msg.f4 16 8
      if x.msg.src = s.node ∨ (s.part q).notices.contains (m, x.msg.src) ∨ s.fld (rCHC_DOMCFG q) 20 8 ≤ 1 then s
      else s.modPart q (fun r =>
        { r with notices := r.notices.filter (fun n => s.frame < n.1 + 32) ++ [(m, x.msg.src)],
                 restReq := r.restReq ++ (if x.msg.f3 1 0 = 0 then [] else [(m + r.lag, decide (x.msg.f3 1 1 = 1))]) })))

/-- Take a BARRIER message, which is discarded unless its barrier is one of a pod barrier of its partition (R291). -/
def State.takeBarrier (s : State) (k sub : Nat) (g : Nat → Nat → Msg → State → State) : State :=
  s.takeMsg k (·.is 4 sub) (fun x s =>
    let n := x.msg.f3 5 0
    if s.isPod n ∧ s.domId (s.barPart n) = x.msg.dom then g n (x.msg.f3 31 16) x.msg (s.touch (s.barPart n)) else s.count (rCHC_PROTO) 1)

/-- POD_BARRIER_ARRIVAL (R194): message k of the inbox; a module's round arrival is counted at the home. -/
def execPodBarrierArrival (k : Nat) (s : State) : Host.Outcome State Fault Refusal :=
  .next (s.takeBarrier k 0 (fun n tag _ s =>
    if s.fld (rGLB_BARPOD n) 11 0 = s.node then s.podArrive n tag else s.count (rCHC_PROTO) 1))

/-- Hold a release of pod barrier n for its frame F, or for the next window where F's capture has passed (R194). -/
def State.holdRelease (s : State) (n f round : Nat) : State :=
  let late := decide (f < s.frame) || (decide (f = s.frame) && decide (s.cycle ≥ s.winCy 1280))
  let g := if late then (if s.cycle ≥ s.winCy 1280 then s.frame + 1 else s.frame) else f
  let s := if late then s.setBit (rTIME_STATUS) 4 true else s
  { s with podRel := s.podRel ++ [(n, g, round)] }

/-- POD_RELEASE_DECISION (R194): PCUR of pod barrier n has reached MODULES, and the home decides the release for frame F. -/
def execPodReleaseDecision (n : Fin 64) (s : State) : Host.Outcome State Fault Refusal :=
  let pod := s.reg (rGLB_BARPOD n.val)
  let r := mapGet 0 s.rounds (128 + n.val)
  let m := bitsOf 28 16 pod.toNat
  if s.isPod n.val ∧ bitsOf 11 0 pod.toNat = s.node ∧ m ≠ 0 ∧ s.fld (rGLB_BARPCUR n.val) 12 0 ≥ m
      ∧ s.podRel.any (fun e => e.1 = n.val && e.2.2 = r % 65536) = false then
    let f := s.frame + bitsOf 15 12 pod.toNat
    let p := s.barPart n.val
    let s := { s with podRel := s.podRel ++ [(n.val, f, r % 65536)] }
    .next (s.chSend { s.header p 4 1 (s.fld (rCHC_DOMCFG p) 7 0) 127 0 with mcast := true, w3 := barWord n.val r, w4 := f })
  else .next s

/-- POD_BARRIER_RELEASE (R194, R291): message k of the inbox; the release is held for its frame. -/
def execPodBarrierRelease (k : Nat) (s : State) : Host.Outcome State Fault Refusal :=
  .next (s.takeBarrier k 1 (fun n round m s =>
    if s.podRel.any (fun e => e.1 = n && e.2.2 = round) then s else s.holdRelease n (m.f4 16 8) round))

/-- At the home the count of the next round is the lookahead of the last (R194). -/
def State.podNext (s : State) (n : Nat) : State :=
  if s.fld (rGLB_BARPOD n) 11 0 = s.node then
    s.setReg (rGLB_BARPCUR n) (BitVec.ofNat 32 (s.fld (rGLB_BARPCUR n) 28 16))
  else s

/-- POD_RELEASE_APPLY (R194): at cycle 1,282 of frame F the round of pod barrier n is released. -/
def execPodReleaseApply (n : Fin 64) (s : State) : Host.Outcome State Fault Refusal :=
  let r := mapGet 0 s.rounds (128 + n.val) % 65536
  match s.podRel.find? (fun e => e.1 = n.val && e.2.2 = r && decide (e.2.1 ≤ s.frame)) with
  | none => .next s
  | some e =>
    let s := { s with cycle := s.winCy 1282, podRel := s.podRel.erase e, barCap := mapErase s.barCap (128 + n.val) }
    .next ((s.releaseRound (128 + n.val)).podNext n.val)

end Sys2Proof.Machine
end

