-- ==== Sys2Proof/Machine/Launch.lean ====
section
/-!
DEFINITION. Work submission and the loss watch (spec/14_host.md, R311 to R317; spec/19_watch.md, R379 to R382): the command
processors' work at cycle 1,290 and the evaluation of the loss record at cycle 1,287.
-/
namespace Sys2Proof.Machine

/-! ## Accesses of a command processor -/

/-- The lowest core of a partition, which a fault of no core's own names. -/
def State.lowCore (s : State) (p : Nat) : Fin 96 := match s.coresOf p with | c :: _ => c | [] => 0

/-- UNIT of the command processor that serves partition p: that of the die of its lowest cluster (R312). -/
def State.unitCp (s : State) (p : Nat) : Nat :=
  let d := (s.lowCore p).val / 48
  8 + 16 * d + 2 ^ 14 * d + 2 ^ 18 * p + 2 ^ 21

/-- Poison consumed by a command processor for partition p (R237, R238): it stops. -/
def State.cpPoison (s : State) (p addr : Nat) : State :=
  let s := if s.isStopped p then s else (s.setBit (rUCB_die_ERRSUM ((s.lowCore p).val / 48)) ePOIS true).errsumMod ePOIS
  let s := s.record 3 (s.unitCp p) 0 4 addr 5 8 s.injPois
  s.stopPart p (s.lowCore p).val 8 .stopped

/-- What an access of a command processor answers. -/
inductive CpRead where
  | ok (bytes : List Byte) (poison : Bool) (addr : Nat)
  | fail
  | stopped
deriving DecidableEq, Repr

/-- Read `n` bytes at a partition virtual address. -/
def State.cpRead (s : State) (p va n : Nat) : State × CpRead :=
  match s.translateN p va n false with
  | (s, .ok as) =>
    let r := (s.hostAsk as).devReadL as
    (r.1, .ok r.2.1 r.2.2 (as.headD 0))
  | (s, .fail _) => (s, .fail)
  | (s, .poison o) =>
    let s := if s.isStopped p = false ∧ s.fld (rPART_FAULT p) 3 0 = 0 then s.setFld (rPART_FAULT p) 3 0 1 else s
    (s.cpPoison p o, .stopped)

/-- Write bytes at a partition virtual address; none where it does not translate. -/
def State.cpWrite (s : State) (p va : Nat) (b : List Byte) : State × Bool :=
  match s.translateN p va b.length true with
  | (s, .ok as) => (s.devWriteL ((as.zip b).map (fun x => (x.1, x.2, false))), true)
  | (s, .fail _) => (s, false)
  | (s, .poison o) =>
    let s := if s.isStopped p = false ∧ s.fld (rPART_FAULT p) 3 0 = 0 then s.setFld (rPART_FAULT p) 3 0 1 else s
    (s.cpPoison p o, true)

/-! ## Rings -/

def Part.ring (q : Part) (r : Nat) : Ring := q.rings[r % 4]'(Nat.mod_lt _ (by decide))

def State.ring (s : State) (p r : Nat) : Ring := (s.part p).ring r

def State.modRing (s : State) (p r : Nat) (g : Ring → Ring) : State :=
  s.modPart p (fun q => { q with rings := q.rings.set (r % 4) (g (q.ring r)) (Nat.mod_lt _ (by decide)) })

/-- A ring fault (R317): the ring is disabled, its cause and a record written; the partition runs on. -/
def State.ringFault (s : State) (p r cause : Nat) : State :=
  let s := (s.setBit (rPART_RCFG p r) 31 false).setFld (rPART_RSTAT p r) 3 0 cause
  let q := s.ring p r
  s.record 11 (s.unitCp p) 0 0 0 7 (setBits 28 16 ((q.t + 2 ^ 13 - q.d % 2 ^ 13) % 2 ^ 13) (s.reg (rPART_RSTAT p r))).toNat false

/-- The function bound to partition p: its VF when enabled, else the PF (R300). -/
def State.funcOf (s : State) (p : Nat) : Nat := if p < s.vfs then p + 1 else 0

/-- Whether a completion vector lies in a function's range (R300). -/
def vectorOk (fn v : Nat) : Bool := if fn = 0 then decide (8 ≤ v ∧ v < 64) else decide (v < 8)

/-! ## Launch descriptors (R313, R314) -/

/-- The cores a descriptor names: a gang, or every available core of clusters. -/
def State.targets (s : State) (ctrl : Nat) : List (Fin 96) :=
  if bitsOf 0 0 ctrl = 0 then s.members (coreOf (bitsOf 7 1 ctrl))
  else allCores.filter (fun c => (bitsOf 15 8 ctrl).testBit (c.val / 12) && decide ((s.core c).st ≠ .failed))

/-- The reserved fields of a descriptor that must be 0 (Table 14-5). -/
def descResv (d : List Byte) : Bool :=
  let ctrl := imgF d 0 4
  decide (bitsOf 31 23 ctrl = 0) && decide (bitsOf 31 18 (imgF d 4 4) = 0) && (d.drop 0xA8).all (· = 0)

/-- The cases in which a descriptor is refused (R314). -/
def State.refusedDesc (s : State) (p : Nat) (d : List Byte) : Bool :=
  let ctrl := imgF d 0 4
  let img := imgF d 4 4
  let n := bitsOf 7 1 ctrl
  let mask := bitsOf 15 8 ctrl
  let lines := bitsOf 6 0 img
  let bad0 := decide (n ≥ 96) || !(s.inPart p (coreOf n)) || decide ((s.core (coreOf n)).st = .failed) || decide (s.gang[coreOf n] ≠ coreOf n)
  let bad1 := decide (mask = 0) || decide (mask &&& s.clusters p ≠ mask)
    || allCores.any (fun c => mask.testBit (c.val / 12) && decide (s.gang[c] ≠ c))
  (if bitsOf 0 0 ctrl = 0 then bad0 else bad1) || decide (lines = 0 ∨ lines > 64 ∨ bitsOf 17 7 img / 32 ≥ lines)
    || decide (imgF d 8 8 % 1024 ≠ 0) || (bitsOf 16 16 ctrl = 1 && !(vectorOk (s.funcOf p) (bitsOf 22 17 ctrl))) || !(descResv d)

/-- Registers that each launch clears (R96, R138, R139, R158, R181, R199, R222, SEQ.LASTCY, SEQ.SLIPS), as ranges of the core. -/
def launchClears : List (Nat × Nat) :=
  [(0x10, 0x18), (0x20, 0x30), (0x10400, 0x10404), (0x20004, 0x20008), (0x20030, 0x20034), (0x30004, 0x30030), (0x30048, 0x30064),
   (0x40004, 0x40010), (0x40080, 0x400B0), (0x50004, 0x50010), (0x60000, 0x60050)]

/-- The state of a core at a launch (R24, R27, R81, R114, R153, R181, R195, R207, R208, R314): undefined content is that of generation
`g`. `aud` is the audit setting, `s1` the contract registers S1 to S15. -/
def Core.launchOn (k : Core) (g : Nat) (l : Launch) (wframe cclr aud : Nat) (s1 : List Nat) (late : Bool) : Core :=
  let o : Opnd :=
    { s := Vector.ofFn (fun i => if i.val = 0 ∨ i.val > 15 then 0 else BitVec.ofNat 64 (s1.getD (i.val - 1) 0)), srstep := 0,
      tiles := ⟨g, []⟩, tpois := 0, preds := ⟨g + 1, []⟩, ppois := 0, carry := ⟨g + 2, []⟩, cvalid := 0, cpois := 0 }
  let z := Core.zero .running
  let regs := launchClears.foldl (fun m r => mapClear m r.1 r.2) k.cregs
  { z with
    opnd := o, pc := l.entry, npc := l.entry, wframe := BitVec.ofNat 64 wframe, blockNo := k.blockNo, first := true, late := late,
    launch := some l, steps := k.steps, retire := k.retire, failPend := k.failPend, ib := k.ib,
    wbuf := ⟨g + 3, []⟩, wscale := ⟨g + 4, []⟩, wmeta := ⟨g + 5, []⟩, acc := ⟨g + 6, []⟩, lm := k.lm, lmPois := k.lmPois,
    scnt := k.scnt.filter (fun e => !cclr.testBit e.1), bout := k.bout, bseen := k.bseen,
    cregs := mapPut 0 regs (kMAT_AUDCTL) (BitVec.ofNat 32 aud) }

/-- The rounds of its die's and the module's barriers that have been released, as a core that begins to run sees them (R192). -/
def State.seenRounds (s : State) (c : Fin 96) : List (Nat × Nat) :=
  s.rounds.filterMap (fun e =>
    if e.1 ≥ 128 then some (e.1 - 64, e.2) else if e.1 / 64 = c.val / 48 then some (e.1 % 64, e.2) else none)

/-- Launch an accepted descriptor (R314). A launch that finds the module in S1 returns it to S0 and starts one frame later (R375). -/
def State.launch (s : State) (p r ix addr : Nat) (d : List Byte) : State :=
  let ctrl := imgF d 0 4
  let img := imgF d 4 4
  let cs := s.targets ctrl
  let s1 := (List.range 15).map (fun i => imgF d (0x20 + 8 * i) 8)
  let cfg := (s.part p).cfgNow.toNat
  let aud := bitsOf 14 10 cfg + 2 ^ 8 * bitsOf 9 9 cfg
  let l : Launch :=
    { part := p, addr := addr, level := if bitsOf 0 0 ctrl = 0 then 3 else 4, cores := cs.map Fin.val,
      key := BitVec.ofNat 64 (s.reg64 (rPART_SRKEY p)), ticket := s.nextId, lines := bitsOf 6 0 img, entry := bitsOf 17 7 img,
      iaddr := imgF d 8 8 }
  let s1' := s.fld (rRST_STATUS) 5 4 = 1
  let s := if s1' then (s.setFld (rRST_STATUS) 5 4 0).setFld (rRST_STATUS) 7 6 1 else s
  let s := { s with nextId := s.nextId + 1 }
  let s := cs.foldl (fun (s : State) c =>
    { s with freeCtr := s.freeCtr + 8 }.modCore c (fun k =>
      { k.launchOn s.freeCtr l (imgF d 0x18 8) (imgF d 0x10 8) aud s1 s1' with bseen := s.seenRounds c })) s
  let s := s.setReg (rCHC_PFAULT p) 0
  s.modPart p (fun q => { q with launches := q.launches ++
    [({ ring := r, index := ix, addr := addr, cores := l.cores, msien := decide (bitsOf 16 16 ctrl = 1), vector := bitsOf 22 17 ctrl,
        ticket := l.ticket, doneAt := none } : LaunchRec)] })

/-! ## Completion (R315, R316) -/

/-- Write a launch's STATUS and DFRAME, count it done, write D past every leading descriptor that is done, and raise its vector, each
step performed before the next (R315). -/
def State.report (s : State) (p : Nat) (x : Report) : State :=
  let l := x.launch
  let s := s.devWrite (l.addr + 0x98) (leBytes 8 (x.result + 2 ^ 4 * x.core + 2 ^ 16 * x.cause) ++ leBytes 8 x.frame) false
  let s := s.modRing p l.ring (fun q => { q with fin := l.index :: q.fin })
  let q := s.ring p l.ring
  let adv := (List.range (q.fin.length + 1)).takeWhile (fun i => q.fin.contains (q.d + i))
  let d := q.d + adv.length
  let s := s.modRing p l.ring (fun q => { q with d := d, fin := q.fin.filter (fun i => d ≤ i) })
  let s := if d = q.d then s else
    let w := s.cpWrite p (s.reg64 (rPART_DADDR p l.ring)) (leBytes 8 d)
    if w.2 then w.1 else w.1.ringFault p l.ring 3
  if l.msien then s.raise (s.funcOf p) l.vector else s

/-- Whether a launch is complete: every core of it is IDLE, or failed since (R315). -/
def State.launchDone (s : State) (l : LaunchRec) : Bool :=
  l.doneAt.isSome || l.cores.all (fun c => (s.core (coreOf c)).st = .idle || (s.core (coreOf c)).st = .failed)

/-- The report of a complete launch. -/
def State.doneReport (s : State) (l : LaunchRec) : Report := ⟨l, 0, 0, 0, l.doneAt.getD s.frame⟩

/-- Launches of partition p that have ended: complete (R315), or in flight when the partition stopped or froze (R316). -/
def State.collect (s : State) (p : Nat) : State :=
  if s.isStopped p ∧ s.power.failed = false ∧ s.fatal = false then
    let f := (s.part p).firstFault.getD ((s.lowCore p).val, 0)
    let frozen := (s.coresOf p).any (fun c => (s.core c).st = .frozen)
    s.modPart p (fun q => { q with
      reports := q.reports ++ q.launches.map (fun l =>
        if l.doneAt.isSome then s.doneReport l else ⟨l, if frozen then 2 else 1, f.1, f.2, s.frame⟩), launches := [] })
  else
    s.modPart p (fun q => { q with
      reports := q.reports ++ (q.launches.filter s.launchDone).map s.doneReport, launches := q.launches.filter (fun l => !s.launchDone l) })

/-! ## Sampling (R312 to R317) -/

/-- Take descriptors of a ring up to count P, at most `fuel` of them: each is launched, refused, or, where its target is not idle, left. -/
def State.takeDescs (s : State) (p r pc : Nat) : Nat → State
  | 0 => s
  | fuel + 1 =>
    let t := (s.ring p r).t
    if t ≥ pc ∨ s.isStopped p then s else
    match s.cpRead p (s.reg64 (rPART_RBASE p r) + 256 * (t % 2 ^ s.fld (rPART_RCFG p r) 3 0)) 256 with
    | (s, .fail) => s.ringFault p r 3
    | (s, .stopped) => s
    | (s, .ok d z addr) =>
      let next := s.modRing p r (fun q => { q with t := t + 1 })
      if z then
        let s := if next.fld (rPART_FAULT p) 3 0 = 0 then (next.setFld (rPART_FAULT p) 3 0 2).setFld (rPART_FAULT p) 5 4 r else next
        s.cpPoison p (s.dataAddr addr)
      else if s.refusedDesc p d then
        let ctrl := imgF d 0 4
        let l : LaunchRec := { ring := r, index := t, addr := addr, cores := [],
                               msien := decide (bitsOf 16 16 ctrl = 1) && vectorOk (s.funcOf p) (bitsOf 22 17 ctrl),
                               vector := bitsOf 22 17 ctrl, ticket := 0, doneAt := none }
        (next.modPart p (fun q => { q with reports := q.reports ++ [⟨l, 4, 0, 0, s.frame⟩] })).takeDescs p r pc fuel
      else if (s.targets (imgF d 0 4)).all (fun c => (s.core c).st = .idle) then (next.launch p r t addr d).takeDescs p r pc fuel
      else s

/-- Sample one ring (R312, R317). Of a stopped partition P is read and judged all the same; no descriptor is taken. -/
def State.sampleRing (s : State) (p r : Nat) : State :=
  if s.bit (rPART_RCFG p r) 31 = false then s else
  match s.cpRead p (s.reg64 (rPART_PADDR p r)) 8 with
  | (s, .fail) => s.ringFault p r 3
  | (s, .stopped) => s
  | (s, .ok b z addr) =>
    let pc := leNat b
    let q := s.ring p r
    if z then s.cpPoison p (s.dataAddr addr)
    else if pc < q.t then s.ringFault p r 1
    else if pc - q.d > 2 ^ s.fld (rPART_RCFG p r) 3 0 then s.ringFault p r 2
    else s.takeDescs p r pc 16

/-- Read the loss record of partition p where its watch is enabled (R380). -/
def State.readLoss (s : State) (p : Nat) : State :=
  if s.bit (rPART_WCTRL p) 0 = false then s else
  match s.cpRead p (s.reg64 (rPART_WADDR p)) 32 with
  | (s, .ok b z _) => s.modPart p (fun q => { q with wread := some (.got b z) })
  | (s, .fail) => s.modPart p (fun q => { q with wread := some .xlate })
  | (s, .stopped) => s

/-- Whether the rings of partition p are sampled: it is enabled, not in reset, and compute runs (R312, R324, R333, R367). -/
def State.samples (s : State) (p : Nat) : Bool :=
  decide (s.phase = .run) && (s.part p).cfgNow.getLsbD 8 && decide ((s.part p).rst = none) && decide (s.coreRst = none)
    && !s.bit (rPWR_STATUS) 3 && !s.fatal && !s.power.failed && decide (s.fld (rRST_STATUS) 5 4 < 2)
    && decide (s.psPend ≠ some 2)

/-- The command processor's work for partition p at cycle 1,290. -/
def State.sampling (s : State) (p : Nat) : State :=
  if !(s.samples p) then s
  else
    let s := s.collect p
    let s := (List.range 4).foldl (fun s r => s.sampleRing p r) s
    let rs := (s.part p).reports
    let s := rs.foldl (fun s x => s.report p x) (s.modPart p (fun q => { q with reports := [] }))
    s.readLoss p

/-- LAUNCH_SAMPLING (R312): cycle 1,290, after every other change of the window (R14); the command processors read rings, launch, report, and
read loss records. -/
def execLaunchSampling (s : State) : Host.Outcome State Fault Refusal :=
  .next (if s.winDue = [] then (List.range 8).foldl State.sampling { s with cycle := s.winCy 1290 } else s)

/-! ## The loss watch (R380 to R382) -/

def f32sub (a b : Nat) : Nat := fencode .fp32 (rnd .fp32 ((fdecode .fp32 a).sub (fdecode .fp32 b)))
def f32mul (a b : Nat) : Nat := fencode .fp32 (rnd .fp32 ((fdecode .fp32 a).mul (fdecode .fp32 b)))

/-- a > b of two FP32 numbers. -/
def f32gt (a b : Nat) : Bool := (fdecode .fp32 b).lt (fdecode .fp32 a)

/-- w = 2^-A as FP32 bits (R381). -/
def watchW (a : Nat) : Nat := (127 - a) * 2 ^ 23

/-- The test of a sample against the variance (R381): d > 0 and d · d > thr · v, each product rounded. -/
def spikes (x m v thr : Nat) : Bool :=
  let d := f32sub x m
  f32gt d 0 && f32gt (f32mul d d) (f32mul thr v)

/-- The mean and variance after a sample (R381). -/
def watchUpd (x m v a : Nat) : Nat × Nat :=
  let w := watchW a
  let d := f32sub x m
  let e := f32mul d w
  let q := f32mul d e
  let v1 := f32add v q
  (f32add m e, f32sub v1 (f32mul v1 w))

/-- A spike of partition p (R382): counted and recorded; with HALT it stops a partition that runs. -/
def State.spike (s : State) (p step x : Nat) : State :=
  let s := (s.count (rPART_WSPIKES p) 1).setBit (rPART_WSTAT p) 0 true
  let s := (s.setReg64 (rPART_WSPSTEP p) step).setReg (rPART_WSPLOSS p) (BitVec.ofNat 32 x)
  if s.bit (rPART_WCTRL p) 1 ∧ s.isStopped p = false then
    let s := s.record 4 (2 ^ 18 * p + 2 ^ 21) 0 4 0 6 (9 + 2 ^ 32 * x) false
    (s.stopPart p (s.lowCore p).val 9 .stopped).setBit (rPART_WSTAT p) 1 true
  else s

/-- Process a taken sample (R381). -/
def State.takeSample (s : State) (p step x : Nat) : State :=
  let ctl := s.reg (rPART_WCTRL p)
  let m := (s.reg (rPART_WMEAN p)).toNat
  let v := (s.reg (rPART_WVAR p)).toNat
  let n := (s.reg (rPART_WCOUNT p)).toNat
  if !(fdecode .fp32 x).isFin then s.spike p step x
  else if n = 0 then
    ((s.setReg (rPART_WMEAN p) (BitVec.ofNat 32 x)).setReg (rPART_WVAR p) 0).setReg (rPART_WCOUNT p) 1
  else
    let sp := decide (n ≥ bitsOf 23 8 ctl.toNat) && spikes x m v (s.reg (rPART_WTHR p)).toNat
    let s := if sp then s.spike p step x else s
    if sp ∧ ctl.getLsbD 2 = false then s
    else
      let u := watchUpd x m v (bitsOf 7 4 ctl.toNat)
      ((s.setReg (rPART_WMEAN p) (BitVec.ofNat 32 u.1)).setReg (rPART_WVAR p) (BitVec.ofNat 32 u.2)).count (rPART_WCOUNT p) 1

/-- Evaluate the record that partition p's watch read (R380). -/
def State.evalWatch (s : State) (p : Nat) : State :=
  match (s.part p).wread with
  | none => s
  | some w =>
    let s := s.modPart p (fun q => { q with wread := none })
    match w with
    | .xlate => (s.setBit (rPART_WCTRL p) 0 false).setBit (rPART_WSTAT p) 4 true
    | .got b z =>
      if z then s.setBit (rPART_WSTAT p) 3 true
      else
        let step := imgF b 0 8
        let last := s.reg64 (rPART_WLAST p)
        if step = last then s
        else if step < last then s.setBit (rPART_WSTAT p) 2 true
        else
          let s := s.setFld (rPART_WSTAT p) 31 16 (min (s.fld (rPART_WSTAT p) 31 16 + (step - last - 1)) 65535)
          (s.setReg64 (rPART_WLAST p) step).takeSample p step (imgF b 8 4)

/-- WATCH_EVALUATION (R380, R381): cycle 1,287. -/
def execWatchEvaluation (s : State) : Host.Outcome State Fault Refusal :=
  .next ((List.range 8).foldl State.evalWatch { s with cycle := s.winCy 1287 })

end Sys2Proof.Machine
end

