-- ==== Sys2Proof/Machine/MatrixOps.lean ====
section
/-!
DEFINITION. The operands and the arithmetic of the matrix arrays (spec/04_matrix.md, R76 to R94; spec/05_sparsity.md, R97 to R112):
layouts of the weight buffers and of the A stream, the tree step, accumulator banks and checksums.
-/
namespace Sys2Proof.Machine

/-! ## Layout (Tables 4-1 and 5-1) -/

/-- K of a step, in positions of the unpacked operand. -/
def stepK (fm : Nat) (s24 : Bool) : Nat :=
  (match fm with | 0 => 1 | 1 => 2 | 2 | 3 => 16 | 6 => 64 | _ => 32) * (if s24 then 2 else 1)

/-- Bytes of a step of B in a half. -/
def stepBytes (fm : Nat) : Nat := if fm ≤ 1 then 128 else 512

/-- Bytes of one column of a step: its stored values. -/
def colBytes (fm : Nat) : Nat := stepBytes fm / 16

/-- Bytes of one row of a step of A. -/
def rowBytesA (fm : Nat) (s24 : Bool) : Nat := colBytes fm * (if s24 then 2 else 1)

/-- Scale bytes per row or column of a block-scaled step. -/
def stepNb (fm : Nat) (s24 : Bool) : Nat :=
  (match fm with | 4 | 5 | 7 => 1 | 6 => 2 | _ => 0) * (if s24 then 2 else 1)

/-- Groups per column of a 2:4 step. -/
def stepG (fm : Nat) : Nat := stepK fm false / 2

/-- Metadata bytes of one column of a 2:4 step. -/
def colMeta (fm : Nat) : Nat := stepG fm / 2

/-- Element `ix` of packed elements of a format (R52). -/
def packedElt (fm : Nat) (b : List Byte) (ix : Nat) : Nat :=
  let w := fmtBits fm
  if w = 4 then (b.getD (ix / 2) 0).toNat / 16 ^ (ix % 2) % 16
  else leNat ((b.drop (w / 8 * ix)).take (w / 8))

/-- Nibble `ix` of packed nibbles (R99). -/
def packedNib (b : List Byte) (ix : Nat) : Nat := (b.getD (ix / 2) 0).toNat / 16 ^ (ix % 2) % 16

/-- Whether a metadata nibble is well-formed (R98). -/
def nibOk (n : Nat) : Bool := decide (n % 4 < n / 4)

/-- The entry that heads the queue of array a and every other queue it stands in. -/
def Core.mhead (k : Core) (a : Nat) (kd : MKind) : Option MOp :=
  match (k.mqueue a).head? with
  | some m => if m.kind = kd ∧ (kd.arrays m.f).all (fun b => ((k.mqueue b).head?.map (·.uid)) = some m.uid) then some m else none
  | none => none

/-- Free an entry in every queue. -/
def Core.mfree (k : Core) (m : MOp) : Core :=
  (m.kind.arrays m.f).foldl (fun k a => k.setMqueue a ((k.mqueue a).filter (fun x => x.uid ≠ m.uid))) k

/-- MAT.FAULT (R83, R92): cause and logical array; a program fault of the matrix unit. -/
def State.matFault (s : State) (c : Fin 96) (cause a op : Nat) : State :=
  let s := s.modCore c (fun k => k.faultReg (kMAT_FAULT) (cause + 16 * a))
  s.progFault c 2 (kMAT_FAULT) op 0

/-! ## Banks (R77, R85) -/

def Core.bank (k : Core) (b : Nat) : Bank := k.banks[b % 8]'(Nat.mod_lt _ (by decide))

def Core.setBank (k : Core) (b : Nat) (x : Bank) : Core := { k with banks := k.banks.set (b % 8) x (Nat.mod_lt _ (by decide)) }

/-- Row r of a bank. -/
def Core.accRow (k : Core) (b r : Nat) : BitVec 512 := k.acc.get Config.freeAcc (16 * b + r)

/-- The 16 elements of row r of a bank: FP64 elements lie in banks b and b + 1, columns 0 to 7 in the even one (log entry 9). -/
def Core.accElts (k : Core) (fm : BankFmt) (b r : Nat) : List Nat :=
  match fm with
  | .fp64 => (List.range 16).map (fun j => (k.accRow (b + j / 8) r).toNat / 2 ^ (64 * (j % 8)) % 2 ^ 64)
  | _ => (List.range 16).map (fun j => (k.accRow b r).toNat / 2 ^ (32 * j) % 2 ^ 32)

/-- Write the 16 elements of row r of a bank. -/
def Core.putAcc (k : Core) (fm : BankFmt) (b r : Nat) (v : List Nat) : Core :=
  match fm with
  | .fp64 =>
    let lo := k.acc.put (16 * b + r) (BitVec.ofNat 512 (packNat 64 (v.take 8)))
    { k with acc := lo.put (16 * (b + 1) + r) (BitVec.ofNat 512 (packNat 64 (v.drop 8))) }
  | _ => { k with acc := k.acc.put (16 * b + r) (BitVec.ofNat 512 (packNat 32 v)) }

/-- Give the rows of a bank free content, drawn with counter `n`. -/
def Core.freeBank (k : Core) (n b : Nat) : Core :=
  { k with acc := (List.range 16).foldl (fun (m : Rows 512) r => m.put (16 * b + r) (Config.freeAcc n (16 * b + r))) k.acc }

/-- The accumulation format of an MMA (Table 3-8). -/
def accFmt (f : Fields) : BankFmt :=
  if f.fmt = 0 then .fp64 else if f.fmt.toNat = 7 && !mmaScaled f then .int32 else .fp32

/-- The format code of an accumulator: 8 for INT32. -/
def BankFmt.code : BankFmt → Nat
  | .fp32 => 1 | .int32 => 8 | .fp64 => 0

/-- A value rounded, or wrapped, to the accumulation format (R77). -/
def accEnc (fm : BankFmt) (v : Fv) : Nat :=
  match fm with
  | .int32 => wrap 32 v.val.floor
  | .fp32 => fencode .fp32 (rnd .fp32 v)
  | .fp64 => fencode .fp64 (rnd .fp64 v)

def accDec (fm : BankFmt) (x : Nat) : Fv := srcVal fm.code x

/-- acc + s, rounded once (R77). -/
def accAdd (fm : BankFmt) (x y : Nat) : Nat := accEnc fm ((accDec fm x).add (accDec fm y))

/-- The exact sum of products (R77): −0 only where every product is −0, +0 where there is none (R100). -/
def exactSum : List Fv → Fv
  | [] => .fin false 0
  | p :: r => r.foldl Fv.add p

/-- Accumulate the steps' sums: the first replaces the accumulator when `zero` (R77). -/
def accSteps (fm : BankFmt) (zero : Bool) (old : Nat) (sums : List Fv) : Nat :=
  match zero, sums with
  | true, p :: r => (r.map (accEnc fm)).foldl (accAdd fm) (accEnc fm p)
  | _, ps => (ps.map (accEnc fm)).foldl (accAdd fm) old

/-! ## Operand B (R80, R98 to R101) -/

/-- Where arrays and halves keep a step: the key of its record. -/
def stepKey (a half t : Nat) : Nat := 512 * a + 256 * half + t

/-- The products' positions and values of one column: from its stored values, nibbles and scales. -/
def colVals (fm : Nat) (s24 scaled : Bool) (vals nib scl : List Byte) : List (Nat × Fv) :=
  let v (pos ix : Nat) : Nat × Fv :=
    (pos, if scaled then scaledVal fm (packedElt fm vals ix) (scl.getD (pos / 32) 0).toNat else srcVal fm (packedElt fm vals ix))
  if s24 then
    (List.range (stepG fm)).flatMap (fun g =>
      let n := packedNib nib g
      if nibOk n then [v (4 * g + n % 4) (2 * g), v (4 * g + n / 4) (2 * g + 1)] else [])
  else (List.range (stepK fm false)).map (fun i => v i i)

/-- Column j of step t of a half: nothing where the slot is empty (R107). -/
def Core.bCol (k : Core) (a half t j : Nat) (w : WStep) : List (Nat × Fv) :=
  if w.empty.getLsbD j then []
  else
    let cb := colBytes w.fmt
    let cm := colMeta w.fmt
    let nb := stepNb w.fmt w.s24
    colVals w.fmt w.s24 w.scaled
      (k.wbuf.getN (65536 * a + 32768 * half + stepBytes w.fmt * t + cb * j) cb)
      (if w.s24 then k.wmeta.getN (8192 * a + 4096 * half + 16 * cm * t + cm * j) cm else [])
      (if w.scaled then k.wscale.getN (4096 * a + 2048 * half + 16 * nb * t + nb * j) nb else [])

/-- The audit column of a step (R111). -/
def Core.audCol (k : Core) (a half t : Nat) (w : WStep) : List (Nat × Fv) :=
  match mapFind k.waud (stepKey a half t) with
  | some x => colVals w.fmt w.s24 w.scaled x.vals x.nib x.scl
  | none => []

/-! ## Operand A (R82, R100, R109) -/

/-- Rows that an MMA reads: 32 of a span, else 16. -/
def aRows (f : Fields) : Nat := if f.mb 10 then 32 else 16

/-- Row i of A at step t: the values by position, and whether the row carries poison. -/
def Core.aRow (k : Core) (m : MOp) (t i : Nat) : List Fv × Bool :=
  let fm := m.f.fmt.toNat
  let s24 := m.f.mb 25
  let rb := rowBytesA fm s24
  let n := stepK fm s24
  if m.f.mb 20 then
    let spt := 128 / rb
    let key := 32 * (m.f.a.toNat + t / spt) + i + (if m.f.mb 21 ∧ ¬ m.f.mb 10 then 16 else 0)
    let row := leBytes 128 (m.tiles.get Config.freeRow key).toNat
    let b := (row.drop (rb * (t % spt))).take rb
    ((List.range n).map (fun p => srcVal fm (packedElt fm b p)), m.tpois.getLsbD key)
  else
    let r := aRows m.f
    let base := m.v1.toNat + rb * (r * t + i)
    let b := k.lmRead base rb
    if mmaScaled m.f then
      let nb := stepNb fm s24
      let sa := m.v2.toNat + nb * (r * t + i)
      let sc := k.lmRead sa nb
      ((List.range n).map (fun p => scaledVal fm (packedElt fm b p) (sc.getD (p / 32) 0).toNat),
        k.lmPoison base rb || k.lmPoison sa nb)
    else ((List.range n).map (fun p => srcVal fm (packedElt fm b p)), k.lmPoison base rb)

/-- The entries of an index list from local offset `a` up to its sentinel (R106), and whether it has one before local memory ends. -/
def Core.idxList (k : Core) : Nat → Nat → List Nat × Bool
  | 0, _ => ([], false)
  | fuel + 1, a =>
    if a + 4 > lmEnd then ([], false)
    else
      let e := leNat (k.lmRead a 4)
      if e = 0xFFFFFFFF then ([], true) else let r := k.idxList fuel (a + 4); (e :: r.1, r.2)

/-- An active-input list (R109, R110): the valid entries as (position, ordinal), and the counts of ORDER and of OOR. An entry out of order
counts in ORDER alone (log entry 84). -/
def activeList (lim : Nat) (es : List Nat) : List (Nat × Nat) × Nat × Nat :=
  let cls := es.zipIdx.map (fun x =>
    if x.2 ≠ 0 ∧ x.1 ≤ es.getD (x.2 - 1) 0 then (x, 1) else if x.1 ≥ lim then (x, 2) else (x, 0))
  ((cls.filter (fun y => y.2 = 0)).map (·.1), (cls.filter (fun y => y.2 = 1)).length, (cls.filter (fun y => y.2 = 2)).length)

/-- Row i of A at step t of a sparse-sparse MMA (R109): the value of each position that a valid entry lists. -/
def Core.aSparse (k : Core) (m : MOp) (es : List (Nat × Nat)) (t i : Nat) : List (Nat × Fv) × Bool :=
  let fm := m.f.fmt.toNat
  let n := stepK fm true
  let sz := fmtBits fm / 8
  let here := es.filter (fun e => e.1 / n = t)
  let addr (e : Nat × Nat) := m.v1.toNat + (e.2 * aRows m.f + i) * sz
  (here.map (fun e => (e.1 % n, srcVal fm (leNat (k.lmRead (addr e) sz)))), here.any (fun e => k.lmPoison (addr e) sz))

/-- The exact sum of the products of a row and a column at one step. -/
def dotStep (av : Nat → Option Fv) (bs : List (Nat × Fv)) : Fv :=
  exactSum (bs.filterMap (fun b => (av b.1).map (fun x => x.mul b.2)))

/-- A row as a function of the position. -/
def rowFn (l : List Fv) (p : Nat) : Option Fv := l[p]?

/-- A row given by positions; of two entries that name one position the first stands (log entry 85). -/
def rowFnS (l : List (Nat × Fv)) (p : Nat) : Option Fv := (l.find? (fun x => x.1 = p)).map (·.2)

/-! ## Checksums (R93) -/

/-- Positions of a list of columns, with the exact sum over the columns of g of their values. -/
def colSum (g : Fv → Fv) (cols : List (List (Nat × Fv))) : List (Nat × Fv) :=
  let all := cols.flatten
  (all.map (·.1)).eraseDups.map (fun p => (p, exactSum ((all.filter (fun x => x.1 = p)).map (fun x => g x.2))))

/-- The sum over the rows of g of their values at each position. -/
def rowSum (g : Fv → Fv) (n : Nat) (rows : List (Nat → Option Fv)) : Nat → Option Fv := fun p =>
  if p < n then some (exactSum (rows.filterMap (fun r => (r p).map g))) else none

/-- The limit above which a row or column is not compared. -/
def csumLimit (fm : BankFmt) : ℚ := match fm with | .fp64 => pow2 1023 | _ => pow2 127

/-- Whether a row or column of a tile is compared, and if so whether it passes: `xs` its elements, `chk` and `abs` its checksums. -/
def csumCheck (fm : BankFmt) (xs : List Nat) (chk abs : Nat) : Option Bool :=
  match fm, xs with
  | _, [] => none
  | .int32, x :: r => some (decide (r.foldl (accAdd fm) x = chk))
  | _, x :: r =>
    match accDec fm abs with
    | .fin _ lim =>
      if lim > csumLimit fm then none
      else match accDec fm (r.foldl (accAdd fm) x), accDec fm chk with
        | .fin s a, .fin t b => some (decide (|(Fv.fin s a).val - (Fv.fin t b).val| ≤ pow2 (-14) * lim))
        | _, _ => some false
    | _ => none

end Sys2Proof.Machine
end

