-- ==== Sys2Proof/Machine/Matrix.lean ====
section
/-!
DEFINITION. The M slot: WLOAD, MMA, MDRAIN, their execution at the arrays, and the replay of a checksummed run
(spec/04_matrix.md, R76 to R96; spec/05_sparsity.md, R97 to R112).
-/
namespace Sys2Proof.Machine

/-! ## Issue (R86, R161, R217) -/

/-- Steps of a WLOAD or MMA. -/
def mSteps (f : Fields) : Nat := f.m 7 0 + 1

/-- Whether WLOAD loads block scales: BSCL, and E2M1 always (R217). -/
def wScaled (f : Fields) : Bool := f.mb 8 || f.fmt = 6

/-- Queue an M-slot instruction with the operands of its issue (R86). -/
def State.mQueue (s : State) (m : Fin 96) (kd : MKind) (op : Nat) (f : Fields) : State :=
  let k := s.core m
  let tile := kd = .mma ∧ f.mb 20
  let e : MOp :=
    { kind := kd, f := f, v1 := k.rs f.a, v2 := k.rs f.b, v3 := k.rs f.c, srstep := k.rd.srstep,
      tiles := if tile then k.rd.tiles else Rows.zero 1024, tpois := if tile then k.rd.tpois else 0,
      opw := s.opOf m op, uid := s.nextId, fid := k.newFence, tag := s.chTag m }
  { s with nextId := s.nextId + 1 }.modCore m (fun k =>
    (kd.arrays f).foldl (fun k a => k.setMqueue a (k.mqueue a ++ [e])) k)

/-- Whether a WLOAD's operands leave local memory (R161). -/
def Core.wloadOut (k : Core) (f : Fields) : Bool :=
  let fm := f.fmt.toNat
  let n := mSteps f
  let v1 := (k.rs f.a).toNat
  let v2 := (k.rs f.b).toNat
  let v3 := (k.rs f.c).toNat
  if f.mb 9 then decide (v1 ≥ lmEnd ∨ v2 + 68 > lmEnd)
  else decide (v1 + n * stepBytes fm > lmEnd)
    || (wScaled f && decide (v2 + n * 16 * stepNb fm (f.mb 25) > lmEnd))
    || (f.mb 25 && decide (v3 + n * 16 * colMeta fm > lmEnd))

/-- Whether an MMA's operands leave local memory (R161). -/
def Core.mmaOut (k : Core) (f : Fields) : Bool :=
  let fm := f.fmt.toNat
  let n := mSteps f
  let v1 := (k.rs f.a).toNat
  let v2 := (k.rs f.b).toNat
  if f.mb 20 then false
  else if f.mb 27 then decide (v1 ≥ lmEnd ∨ v2 ≥ lmEnd)
  else decide (v1 + n * rowBytesA fm (f.mb 25) * aRows f > lmEnd)
    || (mmaScaled f && decide (v2 + n * stepNb fm (f.mb 25) * aRows f > lmEnd))

/-- WLOAD: queue a copy of panel steps into a weight-buffer half. -/
def execWload (i : Issue) (f : Fields) (s : State) : Host.Outcome State Fault Refusal :=
  s.issue 0x40 i f (fun m s =>
    if (s.core m).wloadOut f then s.layFault m 2 0 (s.opOf m 0x40) else s.mQueue m .wload 0x40 f)

/-- MMA: queue steps of one array or span. -/
def execMma (i : Issue) (f : Fields) (s : State) : Host.Outcome State Fault Refusal :=
  s.issue 0x41 i f (fun m s =>
    if (s.core m).mmaOut f then s.layFault m 2 0 (s.opOf m 0x41) else s.mQueue m .mma 0x41 f)

/-- Whether the src2 fields of a DEST 2 drain are a program fault (R248). -/
def badBushelAddr (v : Word64) : Bool :=
  decide (bitsOf 63 60 v.toNat > 11) || decide (bitsOf 59 40 v.toNat ≠ 0) || decide (v.toNat % 64 ≠ 0)

/-- MDRAIN: queue the drain of a bank or span bank. -/
def execMdrain (i : Issue) (f : Fields) (s : State) : Host.Outcome State Fault Refusal :=
  s.issue 0x42 i f (fun m s =>
    let v2 := (s.core m).rs f.b
    if f.m 1 0 = 1 ∧ (v2.toNat ≥ lmEnd ∨ drainEnd f v2.toNat > lmEnd) then s.layFault m 2 0 (s.opOf m 0x42)
    else if f.m 1 0 = 2 ∧ badBushelAddr v2 then s.matFault m 6 ((MKind.mdrain.arrays f).headD 0) (s.opOf m 0x42)
    else s.mQueue m .mdrain 0x42 f)

/-! ## WLOAD at the array (R81, R99, R101, R106, R107, R111) -/

/-- One loaded step: values, metadata, scales, poison. -/
structure PStep where
  vals : List Byte
  nib : List Byte
  scl : List Byte
  poison : Bool

/-- What a WLOAD loads: its steps, empty slots, the audit column with its steps, the counts of SPMALF per array, SPOOR, AUDLOST. -/
structure Panel where
  steps : List PStep
  empty : BitVec 16
  aud : Option (Nat × List AudStep)
  malf : Nat
  oor : Nat
  lost : Nat

/-- Malformed nibbles of some metadata. -/
def malformed (b : List Byte) : Nat := ((List.range (2 * b.length)).filter (fun i => !nibOk (packedNib b i))).length

/-- A panel laid out in local memory (R80, R99). -/
def Core.panel (k : Core) (m : MOp) : Panel :=
  let fm := m.f.fmt.toNat
  let s24 := m.f.mb 25
  let sb := stepBytes fm
  let mb := if s24 then 16 * colMeta fm else 0
  let cb := if wScaled m.f then 16 * stepNb fm s24 else 0
  let st := (List.range (mSteps m.f)).map (fun t =>
    let a := m.v1.toNat + sb * t
    let b := m.v3.toNat + mb * t
    let c := m.v2.toNat + cb * t
    ({ vals := k.lmRead a sb, nib := k.lmRead b mb, scl := k.lmRead c cb,
       poison := k.lmPoison a sb || k.lmPoison b mb || k.lmPoison c cb } : PStep))
  { steps := st, empty := 0, aud := none, malf := (st.map (fun x => malformed x.nib)).sum, oor := 0, lost := 0 }

/-- The record of column x at step t of a gathering WLOAD (R106): values, metadata, scales, poison. -/
def Core.colRec (k : Core) (m : MOp) (x t : Nat) : PStep :=
  let fm := m.f.fmt.toNat
  let s24 := m.f.mb 25
  let n := mSteps m.f
  let v := colBytes fm
  let g := if s24 then colMeta fm else 0
  let nb := if wScaled m.f then stepNb fm s24 else 0
  let base := m.v1.toNat + x * (m.v3.toNat % 2 ^ 32)
  let a := base + t * v
  let b := base + n * v + t * g
  let c := base + n * (v + g) + t * nb
  { vals := k.lmRead a v, nib := k.lmRead b g, scl := k.lmRead c nb,
    poison := k.lmPoison a v || k.lmPoison b g || k.lmPoison c nb }

/-- Whether the record of column x leaves local memory at step t (R161). -/
def colRecOut (m : MOp) (t x : Nat) : Bool :=
  let fm := m.f.fmt.toNat
  let s24 := m.f.mb 25
  let n := mSteps m.f
  let v := colBytes fm
  let g := if s24 then colMeta fm else 0
  let nb := if wScaled m.f then stepNb fm s24 else 0
  let base := m.v1.toNat + x * (m.v3.toNat % 2 ^ 32)
  decide (base + (t + 1) * v > lmEnd) || (s24 && decide (base + n * v + (t + 1) * g > lmEnd))
    || (wScaled m.f && decide (base + n * (v + g) + (t + 1) * nb > lmEnd))

/-- The panel of a gathering WLOAD (R106, R107, R111): its steps before the first that has an address outside local memory (R161), and
whether there is one. All 17 entries are read, the ones after a sentinel included; the 17th counts as an entry of the panel; a candidate
is any index below e16; and the poison of an audit column is dropped (log entries 78 to 81). -/
def Core.gatherPanel (k : Core) (m : MOp) : Panel × Bool :=
  let fm := m.f.fmt.toNat
  let s24 := m.f.mb 25
  let n := mSteps m.f
  let es := (List.range 17).map (fun i => leNat (k.lmRead (m.v2.toNat + 4 * i) 4))
  let lz := k.lmPoison m.v2.toNat 68
  let ncol := m.v3.toNat / 2 ^ 32
  let used := es.takeWhile (fun e => e ≠ 0xFFFFFFFF)
  let slots := (List.range 16).map (fun c => match used[c]? with
    | some e => if e < ncol then some e else none
    | none => none)
  let oor := (used.filter (fun e => e ≥ ncol)).length
  let ctl := k.reg (kMAT_AUDCTL)
  let e0 := es.headD 0
  let e16 := if used.length < 17 then ncol else es.getD 16 0
  let cands := if ctl.getLsbD 8 then
      ((List.range (e16 - e0)).map (e0 + ·)).filter (fun x =>
        decide ((x + m.srstep.toNat) % 2 ^ bitsOf 4 0 ctl.toNat = 0) && !(slots.contains (some x)))
    else []
  let bad := decide (oor ≠ 0) || (List.range used.length).any (fun i => decide (i ≠ 0 ∧ used.getD i 0 ≤ used.getD (i - 1) 0))
  let audx := if bad then none else cands.head?
  let full := slots.filterMap id ++ audx.toList
  let stop := (List.range n).find? (fun t => full.any (colRecOut m t))
  let n := stop.getD n
  let blank (x : Nat) : List Byte := List.replicate x 0
  let g := if s24 then colMeta fm else 0
  let nb := if wScaled m.f then stepNb fm s24 else 0
  let col (t : Nat) (o : Option Nat) : PStep := match o with
    | some x => k.colRec m x t
    | none => { vals := blank (colBytes fm), nib := blank g, scl := blank nb, poison := false }
  let st := (List.range n).map (fun t =>
    let cs := slots.map (col t)
    ({ vals := cs.flatMap (·.vals), nib := cs.flatMap (·.nib), scl := cs.flatMap (·.scl),
       poison := lz || cs.any (·.poison) } : PStep))
  ({ steps := st
     empty := (List.range 16).foldl (fun b c => maskSet b c ((slots.getD c none).isNone)) 0
     aud := audx.map (fun x => (x, (List.range n).map (fun t =>
       let p := k.colRec m x t
       ({ vals := p.vals, nib := p.nib, scl := p.scl } : AudStep))))
     malf := (full.map (fun x => ((List.range n).map (fun t => malformed (k.colRec m x t).nib)).sum)).sum
     oor := oor
     lost := if bad then cands.length else cands.length - 1 }, stop.isSome)

/-- Write a panel into a half of array a (R81): each step is recorded and becomes valid. -/
def Core.loadPanel (m : MOp) (p : Panel) (k : Core) (a : Nat) : Core :=
  let fm := m.f.fmt.toNat
  let s24 := m.f.mb 25
  let half := m.f.m 11 11
  let k := k.bump (kMAT_SPMALF) p.malf
  p.steps.zipIdx.foldl (fun (k : Core) x =>
    let t := m.f.m 19 12 + x.2
    let key := stepKey a half t
    { k with
      wbuf := k.wbuf.putN (65536 * a + 32768 * half + stepBytes fm * t) x.1.vals
      wmeta := if s24 then k.wmeta.putN (8192 * a + 4096 * half + 16 * colMeta fm * t) x.1.nib else k.wmeta
      wscale := if wScaled m.f then k.wscale.putN (4096 * a + 2048 * half + 16 * stepNb fm s24 * t) x.1.scl else k.wscale
      wsteps := mapSet k.wsteps key
        { fmt := fm, scaled := wScaled m.f, s24 := s24, poison := x.1.poison, empty := p.empty, aud := p.aud.map (·.1) }
      waud := match p.aud with
        | some y => mapSet k.waud key (y.2.getD x.2 { vals := [], nib := [], scl := [] })
        | none => mapErase k.waud key }) k

/-- Whether a run locks a half of array a (R92). -/
def Core.halfLocked (k : Core) (a half : Nat) : Bool :=
  [2 * a, 2 * a + 1].any (fun b => match (k.bank b).run with | some r => r.halves.contains half | none => false)

/-- WLOAD_EXECUTE (R81): the WLOAD that heads the queue of array a loads its steps. A locked half is a program fault (R92); a record that
leaves local memory is another, and the steps loaded before it stand (R161). -/
def execWloadExecute (c : Fin 96) (a : Fin 4) (s : State) : Host.Outcome State Fault Refusal :=
  let k := s.core c
  match k.mhead a.val .wload with
  | none => .next s
  | some m =>
    let s := s.modCore c (fun k => k.mfree m)
    let as := MKind.wload.arrays m.f
    match as.find? (fun b => k.halfLocked b (m.f.m 11 11)) with
    | some b => .next (s.matFault c 1 b m.opw)
    | none =>
      let p := if m.f.mb 9 then k.gatherPanel m else (k.panel m, false)
      let s := s.modCore c (fun k =>
        ((as.foldl (Core.loadPanel m p.1) k).bump (kMAT_SPOOR) p.1.oor).bump (kMAT_AUDLOST) p.1.lost)
      .next (if p.2 then s.layFault c 2 0 m.opw else s)

/-! ## MMA at the array (R77 to R85, R91, R92, R109 to R112) -/

/-- B's format in an MMA (R83). -/
def mmaB (f : Fields) : Nat := match f.m 24 23 with | 1 => 4 | 2 => 5 | _ => f.fmt.toNat

/-- The record of MMA step t on array a. -/
def Core.mmaRec (k : Core) (m : MOp) (a t : Nat) : Option WStep := mapFind k.wsteps (stepKey a (m.f.m 11 11) (m.f.m 19 12 + t))

/-- The banks that an MMA accumulates into on array a: two for FP64. -/
def mmaBanks (f : Fields) (a : Nat) : List Nat :=
  let b := bankOf (f.mb 10) f.dst.toNat a
  if f.fmt = 0 then [b, b + 1] else [b]

/-- Why array a cannot run an MMA (R81, R83, R92): the cause of MAT.FAULT. -/
def Core.mmaCause (k : Core) (m : MOp) (a : Nat) : Option Nat :=
  let csum := m.f.mb 9
  let zero := m.f.mb 8
  let b := bankOf (m.f.mb 10) m.f.dst.toNat a
  let recs := (List.range (mSteps m.f)).map (k.mmaRec m a)
  let bytes := 16 * mSteps m.f * rowBytesA m.f.fmt.toNat (m.f.mb 25)
  let before := match (k.bank b).run with | some r => if zero then 0 else r.abytes | none => 0
  if !csum && (mmaBanks m.f a).any (fun b => (k.bank b).run.isSome) then some 3
  else if csum && !zero && (k.bank b).run.isNone then some 4
  else if csum && decide (before + bytes > 32768) then some 2
  else if recs.any Option.isNone then some 8
  else if recs.any (fun r => match r with
      | some w => w.fmt ≠ mmaB m.f || w.s24 ≠ m.f.mb 25 || (m.f.fmt.toNat = 7 && w.scaled ≠ mmaScaled m.f)
      | none => false) then some 5
  else none

/-- What A gives each row at each step: the values by position, and its poison. -/
def Core.mmaA (k : Core) (m : MOp) (es : List (Nat × Nat)) (lz : Bool) (t i : Nat) : (Nat → Option Fv) × Bool :=
  if m.f.mb 27 then
    let r := k.aSparse m es t i
    (rowFnS r.1, r.2 || lz)
  else
    let r := k.aRow m t i
    (rowFn r.1, r.2)

/-- The audit value after an MMA (R112): `ix` are the audit indices of the steps. An MMA without LIST bit 0 performs no audit, and ends
the validity of the bank's (R108). -/
def audNext (m : MOp) (old : Option Aud) (ix : List (Option Nat)) (val : List Nat → Bool → List Nat) : Option Aud :=
  let zero := m.f.mb 8
  if m.f.mb 9 then none
  else if !m.f.mb 26 then (if zero then none else old.map (fun u => { u with valid := false }))
  else
    match ix.headD none with
    | some x =>
      let same := ix.all (fun y => y = some x)
      if zero then some { col := x, valid := same, acc := val (List.replicate 16 0) true }
      else match old with
        | some u => some { col := x, valid := same && u.valid && u.col = x, acc := val u.acc false }
        | none => some { col := x, valid := false, acc := List.replicate 16 0 }
    | none =>
      if ix.any Option.isSome then some { col := 0, valid := false, acc := List.replicate 16 0 }
      else if zero then none else old.map (fun u => { u with valid := false })

/-- Accumulate an MMA on array a (R77): rows, poison, checksums and audit. An FP64 run stands on both banks of its pair (R92). A second MMA
with ZERO and CSUM begins the run's sums and its A bytes again and keeps the locks (log entry 77). -/
def Core.mmaArray (m : MOp) (es : List (Nat × Nat)) (lz : Bool) (k : Core) (a : Nat) : Core :=
  let fm := accFmt m.f
  let zero := m.f.mb 8
  let n := mSteps m.f
  let half := m.f.m 11 11
  let b := bankOf (m.f.mb 10) m.f.dst.toNat a
  let q := if m.f.mb 10 then 16 * (a / 2) else 0
  let recs := (List.range n).filterMap (fun t => (k.mmaRec m a t).map (fun w => (m.f.m 19 12 + t, w)))
  let av := (List.range 16).map (fun i => (List.range n).map (fun t => k.mmaA m es lz t (q + i)))
  let bv := (List.range 16).map (fun j => recs.map (fun x => k.bCol a half x.1 j x.2))
  let dots (g h : Fv → Fv) (r : List (Nat → Option Fv)) (c : List (List (Nat × Fv))) : List Fv :=
    List.zipWith (fun x y => dotStep (fun p => (x p).map g) (y.map (fun z => (z.1, h z.2)))) r c
  let fns (i : Nat) : List (Nat → Option Fv) := (av.getD i []).map (·.1)
  let acc (old : List Nat) (z : Bool) (sums : Nat → List Fv) : List Nat :=
    (List.range 16).map (fun j => accSteps fm z (old.getD j 0) (sums j))
  let old (i : Nat) := k.accElts fm b i
  let rows := (List.range 16).map (fun i => acc (old i) zero (fun j => dots id id (fns i) (bv.getD j [])))
  let bz := recs.any (fun x => x.2.poison)
  let bank := k.bank b
  let pz (old : BitVec 16) := (List.range 16).foldl (fun (p : BitVec 16) i => maskSet p i
    ((!zero && old.getLsbD i) || bz || (av.getD i []).any (·.2))) 0
  let byStep (g : Fv → Fv) := (List.range n).map (fun t => colSum g (bv.map (fun c => c.getD t [])))
  let aSum (g : Fv → Fv) := (List.range n).map (fun t =>
    rowSum g (stepK m.f.fmt.toNat (m.f.mb 25)) ((List.range 16).map (fun i => (fns i).getD t (fun _ => none))))
  let sums (r : List Nat) (z : Bool) (g : Nat → List Fv) := acc r z g
  let run :=
    if m.f.mb 9 then
      let o := bank.run.getD { steps := 0, abytes := 0, halves := [], rc := [], ra := [], cc := [], ca := [] }
      let locked := (mmaBanks m.f a).flatMap (fun b => match (k.bank b).run with | some r => r.halves | none => [])
      some
        { steps := (if zero then 0 else o.steps) + n
          abytes := (if zero then 0 else o.abytes) + 16 * n * rowBytesA m.f.fmt.toNat (m.f.mb 25)
          halves := if locked.contains half then locked else half :: locked
          rc := sums o.rc zero (fun i => dots id id (fns i) (byStep id))
          ra := sums o.ra zero (fun i => dots Fv.abs id (fns i) (byStep Fv.abs))
          cc := sums o.cc zero (fun j => dots id id (aSum id) (bv.getD j []))
          ca := sums o.ca zero (fun j => dots id Fv.abs (aSum Fv.abs) (bv.getD j [])) }
    else none
  let acol := recs.map (fun x => k.audCol a half x.1 x.2)
  let aud := audNext m bank.aud (recs.map (fun x => x.2.aud)) (fun o z => acc o z (fun i => dots id id (fns i) acol))
  let k := rows.zipIdx.foldl (fun (k : Core) x => k.putAcc fm b x.2 x.1) k
  let k := k.setBank b { fmt := some fm, poison := pz bank.poison, run := run, aud := aud }
  let k := if fm = .fp64 then k.setBank (b + 1) { fmt := some .fp64, poison := pz (k.bank (b + 1)).poison, run := run, aud := none } else k
  let lost := if m.f.mb 9 ∧ m.f.mb 26 ∧ recs.any (fun x => x.2.aud.isSome) then 1 else 0
  (k.bump (kMAT_AUDLOST) lost).bump (kMAT_STEPS) n

/-- Whether an MMA without ZERO meets a bank whose content has another layout: FP64 against the others (log entry 9). -/
def Core.mmaMixed (k : Core) (m : MOp) (a : Nat) : Bool :=
  let fs := (mmaBanks m.f a).map (fun b => (k.bank b).fmt)
  !m.f.mb 8 && (if m.f.fmt = 0 then fs.any (fun x => x ≠ some .fp64) && fs.any (fun x => x ≠ none)
                else fs.any (fun x => x = some .fp64))

/-- The first step of a sparse-sparse MMA whose list or values lie outside local memory (R161): of a list that leaves it before its
sentinel, the first. -/
def MOp.sparseStop (m : MOp) (ended : Bool) (es : List (Nat × Nat)) : Option Nat :=
  let sz := fmtBits m.f.fmt.toNat / 8
  if !ended then some 0
  else ((es.filter (fun e => decide (m.v1.toNat + (e.2 + 1) * aRows m.f * sz > lmEnd))).map
    (fun e => e.1 / stepK m.f.fmt.toNat true)).min?

/-- An MMA cut down to its first n steps, n not 0. -/
def MOp.firstSteps (m : MOp) (n : Option Nat) : MOp :=
  match n with
  | some n => { m with f := { m.f with mods := setBits 7 0 (n - 1) m.f.mods } }
  | none => m

/-- MMA_EXECUTE (R77): the MMA that heads the queue of array a accumulates its steps, or faults; an address formed in execution that
leaves local memory faults after the steps before it (R161). -/
def execMmaExecute (c : Fin 96) (a : Fin 4) (s : State) : Host.Outcome State Fault Refusal :=
  let k := s.core c
  match k.mhead a.val .mma with
  | none => .next s
  | some m =>
    let s := s.modCore c (fun k => k.mfree m)
    let as := MKind.mma.arrays m.f
    match as.findSome? (fun b => (k.mmaCause m b).map (fun x => (x, b))) with
    | some x => .next (s.matFault c x.1 x.2 m.opw)
    | none =>
      let sp := m.f.mb 27
      let l := if sp then k.idxList (lmEnd / 4 + 1) m.v2.toNat else ([], true)
      let lst := activeList (mSteps m.f * stepK m.f.fmt.toNat true) l.1
      let lz := sp && k.lmPoison m.v2.toNat (4 * l.1.length + 4)
      let stop := if sp then m.sparseStop l.2 lst.1 else none
      let n := s.freeCtr
      let s := { s with freeCtr := n + 1 }.modCore c (fun k =>
        let k := as.foldl (fun (k : Core) b =>
          if k.mmaMixed m b then (mmaBanks m.f b).foldl (fun (k : Core) x => k.freeBank n x) k else k) k
        let k := if sp then (k.bump (kMAT_SPORDER) lst.2.1).bump (kMAT_SPOOR) lst.2.2 else k
        if stop = some 0 then k else as.foldl (Core.mmaArray (m.firstSteps stop) lst.1 lz) k)
      .next (if stop.isSome then s.layFault c 2 0 m.opw else s)

/-! ## MDRAIN at the bank (R87 to R94, R248, R250, R378) -/

/-- Output code of a drain: 8 for the unchanged INT32. -/
def drainCode (f : Fields) : Nat := if f.fmt.toNat = 7 && !f.mb 5 then 8 else f.fmt.toNat

/-- Whether Table 4-4 permits a drain's output for a bank's format. -/
def drainOk (bf : BankFmt) (f : Fields) : Bool :=
  let fm := f.fmt.toNat
  let rm := f.m 3 2
  match bf with
  | .fp32 => if f.mb 5 then [4, 5, 6, 7].contains fm else (fm = 1 && rm = 0) || [2, 3, 4, 5].contains fm
  | .int32 => !f.mb 5 && rm = 0 && (fm = 7 || fm = 1)
  | .fp64 => !f.mb 5 && ((fm = 0 && rm = 0) || fm = 1)

/-- The bank that a drain reads on array a. -/
def drainBank (f : Fields) (a : Nat) : Nat := bankOf (f.mb 6) f.a.toNat a

/-- The physical array that serves logical array a. -/
def Core.phys (k : Core) (a : Nat) : Nat := k.fld (kUCB_core_ARRMAP) (4 * a + 2) (4 * a)

/-- The banks that hold what a drain of bank b reads: two for FP64. -/
def Core.bankSpan (k : Core) (b : Nat) : List Nat := if (k.bank b).fmt = some .fp64 then [b, b + 1] else [b]

/-- The rows and columns of array a's tile that fail their check, and how many are not compared (R93). -/
def Core.csumTile (k : Core) (b : Nat) (r : Run) (bf : BankFmt) : BitVec 16 × BitVec 16 × Nat :=
  if (k.bankSpan b).any (fun b => (k.bank b).poison ≠ 0) then (0, 0, 32)
  else
    let el := (List.range 16).map (fun i => k.accElts bf b i)
    let rows := (List.range 16).map (fun i => csumCheck bf (el.getD i []) (r.rc.getD i 0) (r.ra.getD i 0))
    let cols := (List.range 16).map (fun j => csumCheck bf (el.map (fun x => x.getD j 0)) (r.cc.getD j 0) (r.ca.getD j 0))
    let bad (l : List (Option Bool)) : BitVec 16 := (l.zipIdx).foldl (fun p x => maskSet p x.2 (x.1 = some false)) 0
    (bad rows, bad cols, ((rows ++ cols).filter Option.isNone).length)

/-- The first check of a drain (R93, R94, R347): the mismatches, computed, found by the upsets of the command, or injected. An armed
injection is spent by the first check of its array, also by one that fails of itself (log entry 82). -/
def State.csumFirst (s : State) (c : Fin 96) (m : MOp) (ups : List Upset) : State × List Mismatch :=
  (MKind.mdrain.arrays m.f).foldl (fun (x : State × List Mismatch) a =>
    let k := x.1.core c
    let b := drainBank m.f a
    match (k.bank b).run, (k.bank b).fmt with
    | some r, some bf =>
      let t := k.csumTile b r bf
      let s := x.1.modCore c (fun k => k.bump (kMAT_CSKIP) t.2.2)
      let inj := s.bit (rERR_INJARR) 31 && decide (s.fld (rERR_INJARR) 6 0 = c.val ∧ s.fld (rERR_INJARR) 9 7 = k.phys a)
      let s := if inj then s.setBit (rERR_INJARR) 31 false else s
      let up := ups.find? (fun u => u.array.val = a)
      if t.1 ≠ 0 ∨ t.2.1 ≠ 0 ∨ up.isSome then
        let u := up.getD { array := 0, rows := 0, cols := 0 }
        (s, x.2 ++ [({ array := a, rows := t.1 ||| u.rows, cols := t.2.1 ||| u.cols, inj := false } : Mismatch)])
      else if inj then
        (s, x.2 ++ [({ array := a, rows := 0, cols := 0, inj := true } : Mismatch)])
      else (s, x.2)
    | _, _ => x) (s, [])

/-- An element that a drain reads: its value, none where it is undefined, and its bits. -/
structure DElt where
  v : Option Fv
  raw : Nat

/-- The 16 elements of row r that a drain reads on array a; `n` draws what is undefined (R24, log entry 9). -/
def Core.drainElts (k : Core) (f : Fields) (n a r : Nat) : List DElt :=
  let b := drainBank f a
  let free := (List.range 16).map (fun j =>
    ({ v := none, raw := (Config.freeAcc n (16 * (b + 8 * (j / 8)) + r)).toNat / 2 ^ (64 * (j % 8)) % 2 ^ 64 } : DElt))
  match (k.bank b).fmt with
  | none => free
  | some .fp64 =>
    if b % 2 = 0 ∧ (k.bank (b + 1)).fmt = some .fp64 then
      (k.accElts .fp64 b r).map (fun x => { v := some (accDec .fp64 x), raw := x })
    else free
  | some bf => (k.accElts bf b r).map (fun x => { v := some (accDec bf x), raw := x })

/-- Row r of the drained region: its elements and the poison of each (R91). -/
def Core.drainRow (k : Core) (f : Fields) (n r : Nat) : List DElt × List Bool :=
  let as := if f.mb 6 then [2 * (r / 16), 2 * (r / 16) + 1] else MKind.mdrain.arrays f
  let z (a : Nat) : List Bool := match k.bankSpan (drainBank f a) with
    | [b, b'] => List.replicate 8 ((k.bank b).poison.getLsbD (r % 16)) ++ List.replicate 8 ((k.bank b').poison.getLsbD (r % 16))
    | _ => List.replicate 16 ((k.bank (drainBank f a)).poison.getLsbD (r % 16))
  (as.flatMap (fun a => k.drainElts f n a (r % 16)), as.flatMap z)

/-- The bits of row r in the output format, and its block scale (R55, R63 to R66, R87, R88). E of R88 takes PITCH for every destination
(log entry 76). -/
def Core.drainOut (k : Core) (m : MOp) (r : Nat) (es : List DElt) : List Nat × Nat :=
  let f := m.f
  let code := drainCode f
  let w := drainBits f
  let rm (j : Nat) := rmOf (f.m 3 2) k.srKey (m.v3.toNat % 2 ^ 32) m.srstep.toNat (m.v3.toNat / 2 ^ 32 + r * 16 * f.m 31 18 + j)
  if f.mb 5 then
    if es.any (fun e => e.v.isNone) then (es.map (fun e => e.raw % 2 ^ w), (es.map (·.raw)).headD 0 / 2 ^ 56 % 256)
    else
      let q := quantBlock code (es.zipIdx.map (fun x => x.1.v.map (fun v => (v, rm x.2))))
      (q.2.map (fun o => o.getD 0), q.1)
  else (es.zipIdx.map (fun x => match x.1.v with
    | some v => if code = 8 then x.1.raw else convTo code (rm x.2) (f.mb 4) v
    | none => x.1.raw % 2 ^ w), 0)

/-- Write a drained region into tiles (R87). -/
def Core.drainTile (k : Core) (f : Fields) (rows : List (List Nat × Nat × List Bool)) : Core :=
  let w := drainBits f
  let n := drainN f
  let c0 := 16 * f.m 10 8
  rows.zipIdx.foldl (fun (k : Core) x =>
    let t := f.dst.toNat
    let r := 16 * f.m 7 7 + x.2
    let z := x.1.2.2.any id
    let k := k.setRow t r (rowUpd w (k.trowNow t r) (fun c => if c0 ≤ c then x.1.1[c - c0]? else none))
      (decide (n = colsOf w)) z
    if f.mb 5 then
      k.setRow (t + 1) r (rowUpd 8 (k.trowNow (t + 1) r) (fun c => if c = f.m 10 8 / 2 then some x.1.2.1 else none)) false z
    else k) k

/-- The bytes, with poison, of a drain to local memory (R87, R91). -/
def drainBytesAt (f : Fields) (a : Nat) (rows : List (List Nat × Nat × List Bool)) : List (Nat × Byte × Bool) :=
  let w := drainBits f
  rows.zipIdx.flatMap (fun x =>
    let base := a + drainBytes f (x.2 * 16 * f.m 31 18)
    let any := x.1.2.2.any id
    let z (j : Nat) := if f.mb 5 then any else x.1.2.2.getD j false
    let el :=
      if w = 4 then (List.range (x.1.1.length / 2)).map (fun i =>
        (base + i, BitVec.ofNat 8 (x.1.1.getD (2 * i) 0 + 16 * x.1.1.getD (2 * i + 1) 0), z (2 * i)))
      else x.1.1.zipIdx.flatMap (fun y => (leBytes (w / 8) y.1).zipIdx.map (fun b => (base + w / 8 * y.2 + b.2, b.1, z y.2)))
    el ++ (if f.mb 5 then [(drainScaleAt f a x.2, BitVec.ofNat 8 x.1.2.1, any)] else []))

/-- Elements that are NaN or infinite among what a drain reads (R378); `n` draws the count of an undefined bank. -/
def drainAnonf (n : Nat) (rows : List (List DElt)) : Nat :=
  let es := rows.flatten
  (es.filter (fun e => match e.v with | some v => !v.isFin | none => false)).length
    + (if es.any (fun e => e.v.isNone) then Config.freeNat n % (es.length + 1) else 0)

/-- The audit counts of a drain on array a (R112). -/
def Core.audCount (f : Fields) (k : Core) (a : Nat) : Core :=
  let b := drainBank f a
  match (k.bank b).aud, (k.bank b).fmt with
  | some u, some bf =>
    if u.valid then
      let th := (fdecode .fp32 (k.reg (kMAT_AUDTH)).toNat)
      let hit := u.acc.zipIdx.any (fun x =>
        !((k.bankSpan b).any (fun b => (k.bank b).poison.getLsbD x.2)) && (let v := accDec bf x.1; v.isNan || th.lt v.abs))
      (k.bump (kMAT_AUDCOL) 1).bump (kMAT_AUDMISS) (if hit then 1 else 0)
    else k.bump (kMAT_AUDLOST) 1
  | _, _ => k

/-- Deliver a drain to its destination: none where the destination refuses it (R87, R247, R248, R250, R280). -/
def State.drainDeliver (s : State) (c : Fin 96) (m : MOp) (rows : List (List Nat × Nat × List Bool)) : State × Bool :=
  let f := m.f
  let p := (s.core c).part
  match f.m 1 0 with
  | 0 => (s.modCore c (fun k => k.drainTile f rows), true)
  | 1 => (s.modCore c (fun k => k.lmWriteZ (drainBytesAt f m.v2.toNat rows)), true)
  | 2 =>
    let n := bitsOf 63 60 m.v2.toNat
    let off := bitsOf 39 0 m.v2.toNat
    let at' (r : Nat) := off + r * 64 * f.m 31 18
    if rows.zipIdx.all (fun x => s.inRegion p n (at' x.2) (4 * x.1.1.length)) then
      (rows.zipIdx.foldl (fun s x => s.bshAddRow n (at' x.2) x.1.1 (x.1.2.2.any id)) s, true)
    else (s.bshRefuse n 6 0 c p m.opw, false)
  | _ =>
    let v := m.v2.toNat
    let node := bitsOf 11 0 v
    if !f.mb 6 then (s.bshRefuse (bitsOf 15 12 v % 12) 5 (bitsOf 19 16 v) c p m.opw, false)
    else if !(s.chainReach p node) then (s.chainFault c 1 node 0 m.opw, false)
    else
      let s := s.modCore c (fun k =>
        let o : ChainOp := { uid := m.uid, opw := m.opw, sigen := f.mb 11, scnt := f.m 17 12, left := 32 }
        { k with chq := k.chq ++ [o], outw := k.outw ++ [(m.uid, .chain)] })
      (rows.zipIdx.foldl (fun s x =>
        s.sendContrib (.core c m.tag) m.uid node (bitsOf 15 12 v) (bitsOf 19 16 v) (bitsOf 31 20 v) (bitsOf 63 32 v + x.2) x.1.1
          (x.1.2.2.any id)) s, true)

/-- Commit a drain (R87): convert, deliver, count, release the run's locks, and increment SIGEN's counter where the destination
holds the data. -/
def State.drainCommit (s : State) (c : Fin 96) (m : MOp) : State :=
  let n := s.freeCtr
  let k := s.core c
  let as := MKind.mdrain.arrays m.f
  let raw := (List.range (drainN m.f)).map (k.drainRow m.f n)
  let rows := raw.zipIdx.map (fun (x : (List DElt × List Bool) × Nat) =>
    ((k.drainOut m x.2 x.1.1).1, (k.drainOut m x.2 x.1.1).2, x.1.2))
  let intb := as.any (fun a => (k.bank (drainBank m.f a)).fmt = some .int32)
  let s := { s with freeCtr := n + 1 }.modCore c (fun k =>
    let k := k.bump (kCNT_ANONF) (if intb then 0 else drainAnonf n (raw.map Prod.fst))
    let k := as.foldl (Core.audCount m.f) k
    let k := (as.flatMap (fun a => k.bankSpan (drainBank m.f a))).foldl (fun (k : Core) b => k.setBank b { k.bank b with run := none }) k
    { k.mfree m with replays := k.replays.filter (fun r => r.uid ≠ m.uid) })
  let d := s.drainDeliver c m rows
  let s := if d.2 && m.f.mb 11 && decide (m.f.m 1 0 ≠ 3) then d.1.modCore c (fun k => k.addCount (m.f.m 17 12) 1) else d.1
  s.settle c

/-- The 128-byte blocks of a controller that a drain to the local Bushel adds to, as controller and block. -/
def MOp.bushelBlocks (m : MOp) : List (Nat × Nat) :=
  if m.kind ≠ .mdrain ∨ m.f.m 1 0 ≠ 2 then [] else
    (List.range (drainN m.f)).flatMap (fun r =>
      let a := bitsOf 39 0 m.v2.toNat + r * 64 * m.f.m 31 18
      [(bitsOf 63 60 m.v2.toNat, a / 128), (bitsOf 63 60 m.v2.toNat, (a + 4 * drainN m.f - 1) / 128)])

/-- Whether a drain that the core issued before drain m still has to add to a block that m adds to: m waits for it (R249). -/
def Core.bushelWaits (k : Core) (m : MOp) : Bool :=
  k.mops.any (fun x => decide (x.uid < m.uid) && x.bushelBlocks.any m.bushelBlocks.contains)

/-- MDRAIN_EXECUTE (R89): the drain that heads the queue of array a acts on its bank, unless a fence holds it or its Bushel block waits
for an earlier drain. -/
def execMdrainExecute (c : Fin 96) (a : Fin 4) (ups : List Upset) (s : State) : Host.Outcome State Fault Refusal :=
  let k := s.core c
  match k.mhead a.val .mdrain with
  | none => .next s
  | some m =>
    if (m.f.m 1 0 ≠ 0 ∧ k.heldBy m.fid) ∨ k.replays.any (fun r => r.uid = m.uid) ∨ k.bushelWaits m then .next s
    else
      let as := MKind.mdrain.arrays m.f
      match as.find? (fun b => match (k.bank (drainBank m.f b)).fmt with | some bf => !drainOk bf m.f | none => false) with
      | some b => .next (((s.modCore c (fun k => k.mfree m)).matFault c 7 b m.opw).settle c)
      | none =>
        match s.csumFirst c m ups with
        | (s, []) => .next (s.drainCommit c m)
        | (s, ms) => .next (s.modCore c (fun k => { k with replays := k.replays ++ [({ uid := m.uid, ms := ms } : Replay)] }))

/-- A record of a checksum mismatch (R94, R335). -/
def State.csumRecord (s : State) (c : Fin 96) (cls action op b : Nat) (x : Mismatch) : State :=
  s.record cls (s.unitArray c ((s.core c).phys x.array)) op action 0 3
    (b + 2 ^ 32 * x.rows.toNat + 2 ^ 48 * x.cols.toNat) x.inj

/-- An array's first mismatch was cleared by the replay (R94). -/
def State.csumCleared (s : State) (c : Fin 96) (m : MOp) (x : Mismatch) : State :=
  let s := (s.modCore c (fun k => k.bump (kMAT_CSUM) 1)).errsumArr c ((s.core c).phys x.array) eREPLAY
  s.csumRecord c 1 2 m.opw (drainBank m.f x.array) x

/-- An array failed its second check (R94): its retirement follows from the record (R343). -/
def State.csumFailed (s : State) (c : Fin 96) (m : MOp) (x : Mismatch) : State :=
  let s := if (s.core c).shut then s else (s.modCore c (fun k => k.bump (kMAT_CSUM + 1) 1)).errsumArr c ((s.core c).phys x.array) eCSFAIL
  s.csumRecord c 6 4 m.opw (drainBank m.f x.array) x

/-- CSUM_REPLAY (R94): the run of the drain that heads the queue of array a is recomputed and checked again, `fails` being the arrays whose
second check fails. Without one the drain commits; else nothing is written and the partition stops. Each array is recorded by itself,
an injected mismatch always passes (R347), and the second check adds nothing to MAT.CSKIP (log entry 83). -/
def execCsumReplay (c : Fin 96) (a : Fin 4) (fails : List Upset) (s : State) : Host.Outcome State Fault Refusal :=
  let k := s.core c
  match k.mhead a.val .mdrain with
  | none => .next s
  | some m =>
    match k.replays.find? (fun r => r.uid = m.uid) with
    | none => .next s
    | some r =>
      let bad := (MKind.mdrain.arrays m.f).filterMap (fun b =>
        if r.ms.any (fun x => x.array = b && x.inj) then none
        else (fails.find? (fun u => u.array.val = b)).map (fun u =>
          ({ array := b, rows := u.rows, cols := u.cols, inj := false } : Mismatch)))
      let s := (r.ms.filter (fun x => !(bad.any (fun y => y.array = x.array)))).foldl (fun s x => s.csumCleared c m x) s
      if bad = [] then .next (s.drainCommit c m)
      else
        let s := bad.foldl (fun s x => s.csumFailed c m x) s
        let s := s.modCore c (fun k => { k.mfree m with replays := k.replays.filter (fun y => y.uid ≠ m.uid) })
        .next ((match s.partOf c with | some p => s.stopPart p c.val 2 .stopped | none => s).settle c)

end Sys2Proof.Machine
end

