-- ==== Sys2Proof/Machine/RegView.lean ====
section
/-!
DEFINITION. What a register reads as: registers that show typed state are computed here, the rest are stored (spec/20_registers.md and
the register tables of every chapter).
-/
namespace Sys2Proof.Machine

/-! ## Offsets (R385, R400, R401) -/

/-- The window of a 64 KiB block (Table 20-1): 0 register, 1 guard, 2 set, 4 clear, 6 toggle. -/
def winOf (off : Nat) : Nat := off / 2 ^ 13 % 8
/-- The base address of the register that an offset in any window maps to. -/
def baseOf (off : Nat) : Nat := off - 2 ^ 13 * winOf off
def blockOf (off : Nat) : Nat := off / 2 ^ 16

/-- The core whose 1 MiB holds an offset. -/
def coreAt (off : Nat) : Option (Fin 96) :=
  if 0x10000000 ≤ off ∧ off < 0x16000000 then some (coreOf ((off - 0x10000000) / 0x100000)) else none

/-! ## Units (R16, R17) -/

/-- UCB.IDENT of a unit. -/
def identWord (level index logical parent : Nat) : Nat := level + 2 ^ 8 * index + 2 ^ 16 * logical + 2 ^ 24 * parent

/-- The logical index of a physical array; 0xFF when spare or retired. -/
def Core.logicalOf (k : Core) (ph : Nat) : Nat := ((List.range 4).find? (fun a => k.physOf a = ph)).getD 0xFF

/-- STATE of a core by itself (R16). -/
def State.coreState (s : State) (c : Fin 96) : Nat :=
  match (s.core c).st with
  | .off => 0
  | .idle => 1
  | .running | .waiting => if s.isWaiting c then 3 else 2
  | .stopped => 4
  | .frozen => 5
  | .inReset => 6
  | .failed => 9

/-- The state of highest priority among those of a composite unit (R17); FAILED where every member is left out. -/
def worstState (l : List Nat) : Nat := ([6, 5, 4, 2, 3, 1, 0].find? (fun x => l.contains x)).getD 9

/-- REST and HOLD of a core, as bits 4 and 5. -/
def State.coreRest (s : State) (c : Fin 96) : Bool := match s.partOf c with | some p => (s.part p).restNow | none => false

/-- STATE of a unit of several cores (R17). -/
def State.unitState (s : State) (cs : List (Fin 96)) : Nat :=
  worstState (cs.map s.coreState) + (if cs.any s.coreRest then 16 else 0) + (if cs.any (fun c => (s.core c).hold) then 32 else 0)

/-- STATE of physical array ph of a core. -/
def Core.arrState (k : Core) (ph : Nat) : Nat :=
  if k.fld (kUCB_core_ARRMAP) (20 + ph) (20 + ph) = 1 then 8
  else if k.fld (kUCB_core_ARRMAP) 18 16 = ph then 7
  else match k.st with
    | .off => 0
    | .inReset => 6
    | _ => if k.logicalOf ph < 4 ∧ k.mq.toList.getD (k.logicalOf ph) [] ≠ [] then 2 else 1

/-- GANGSTAT of physical array ph: the span of the operation in flight, an MMA or a drain that heads all four queues, whose gang index
is the logical array's number (R11). -/
def Core.arrGang (k : Core) (ph : Nat) : Nat :=
  let a := k.logicalOf ph
  let span := [MKind.mma, MKind.mdrain].any (fun kd => match k.mhead a kd with | some m => (kd.arrays m.f).length = 4 | none => false)
  if a < 4 ∧ span then 4 + 2 ^ 8 * a + 2 ^ 16 * k.physOf 0 else 1 + 2 ^ 16 * ph

/-- GANGSTAT of a cluster: its partition (R16), with PENDING and REJECT. -/
def State.clGang (s : State) (k : Nat) : Nat :=
  let mine := (List.range 8).find? (fun p => (s.clusters p).testBit k)
  let cl := match mine with | some p => (List.range 8).filter (fun j => (s.clusters p).testBit j) | none => [k]
  cl.length + 2 ^ 8 * cl.idxOf k + 2 ^ 16 * cl.headD k + 2 ^ 24 * s.fld (rUCB_cl_GANGSTAT k) 25 24

/-- The cores of a cluster or a die. -/
def coresFrom (first n : Nat) : List (Fin 96) := allCores.filter (fun c => first ≤ c.val && c.val < first + n)

/-! ## Cores -/

/-- Word `m` of a wide value. -/
def regWord (v m : Nat) : Nat := v / 2 ^ (32 * m) % 2 ^ 32

/-- MAT.STATUS (spec/04_matrix.md). -/
def Core.matStatus (k : Core) : Nat :=
  let bits (n : Nat) (p : Nat → Bool) : Nat := (List.range n).foldl (fun a i => a + (if p i then 2 ^ i else 0)) 0
  bits 4 (fun a => k.mq.toList.getD a [] ≠ [])
    + 2 ^ 4 * bits 4 (fun a => k.replays.any (fun r => k.mops.any (fun m => m.uid = r.uid && (MKind.mdrain.arrays m.f).contains a)))
    + 2 ^ 8 * bits 8 (fun i => k.halfLocked (i / 2) (i % 2))
    + 2 ^ 16 * bits 8 (fun b => k.mops.any (fun m => m.kind = .mdrain &&
        (MKind.mdrain.arrays m.f).any (fun a => (k.bankSpan (drainBank m.f a)).contains b)))

/-- TBL.STATUS (spec/07_functions.md). -/
def Core.tblStatus (k : Core) : Nat :=
  let bits (p : Nat → TSlot → Bool) : Nat := k.tslots.toList.zipIdx.foldl (fun a t => a + (if p t.2 t.1 then 2 ^ t.2 else 0)) 0
  bits (fun _ t => t.active.isSome) + 2 ^ 8 * bits (fun _ t => t.pend)
    + 2 ^ 16 * bits (fun n _ => k.tloads.any (fun l => l.slot = n)) +
        (if k.defer && k.deferred && !k.exiting && decide (k.st = .running) then 2 ^ 24 else 0)

/-- LAY.DSTAT of a slot. -/
def DSlot.word : DSlot → Nat
  | .valid _ => 1
  | .invalid r => 2 + 16 * r
  | _ => 0

/-- A table's bytes as a word of its image. -/
def Table.word32 (t : Table) (off : Nat) : Nat := leNat ((t.image.drop off).take 4)

/-- TBL.SLOTn by word of its 16 bytes: GEN, LO, SCALE. -/
def TSlot.view (t : TSlot) (i : Nat) : Nat :=
  match i, t.active with
  | 0, none => t.gen
  | 0, some b => t.gen + 2 ^ 16 * (b.word32 3080 % 2) + (if b.poison then 2 ^ 17 else 0)
  | 1, some b => b.word32 3072
  | 2, some b => b.word32 3076
  | _, _ => 0

/-- SCNT.BOUTm. -/
def Core.boutWord (k : Core) (m : Nat) : Nat :=
  (List.range 16).foldl (fun a i => a + 4 ^ i * (k.bo (decide (m ≥ 4)) (16 * (m % 4) + i) % 4)) 0

/-- A register of core c by its offset within the core's 1 MiB. A gang's SEQ registers are its leader's (spec/02_time_base.md). Which
pipes hold an instruction depends on timing that the model leaves out: VEC.STATUS of a core with a launch is free (log entry 4). -/
def State.viewCore (s : State) (c : Fin 96) (o : Nat) : Word32 :=
  let k := s.core c
  let l := s.core s.gang[c]
  let n (v : Nat) : Word32 := BitVec.ofNat 32 v
  if o < 0x10000 then
    if o = kSEQ_STATUS then n (s.seqStatus c)
    else if o = kSEQ_PC then n l.pc
    else if o = kSEQ_WFRAME then n l.wframe.toNat
    else if o = kSEQ_WFRAME_HI then n (regWord l.wframe.toNat 1)
    else if o = kSEQ_IBVALID then n l.ibValid.toNat
    else if o = kSEQ_IBVALID_HI then n (regWord l.ibValid.toNat 1)
    else l.reg o
  else if o < 0x20000 then
    if kSCNT_INC 0 ≤ o ∧ o ≤ kSCNT_INC 63 then 0
    else if o = kSCNT_WAIT then n (s.waits c).word
    else if o = kSCNT_WTARGET then n (s.waits c).target
    else if o = kSCNT_WTARGET_HI then n (regWord (s.waits c).target 1)
    else if o = kSCNT_FLAGS then k.flags.setWidth 32
    else if kSCNT_BOUT 0 ≤ o ∧ o ≤ kSCNT_BOUT 7 then n (l.boutWord ((o - kSCNT_BOUT 0) / 4))
    else k.reg o
  else if o < 0x30000 then
    if o = kVEC_STATUS then (if k.launch.isSome then n (Config.freeNat s.freeCtr % 8) else 0)
    else if kVEC_CVALID 0 ≤ o ∧ o ≤ kVEC_CVALID 3 then n (regWord k.opnd.cvalid.toNat ((o - kVEC_CVALID 0) / 4))
    else if kVEC_CPOIS 0 ≤ o ∧ o ≤ kVEC_CPOIS 3 then n (regWord k.opnd.cpois.toNat ((o - kVEC_CPOIS 0) / 4))
    else if kVEC_TPOIS 0 ≤ o ∧ o ≤ kVEC_TPOIS 31 then n (regWord k.opnd.tpois.toNat ((o - kVEC_TPOIS 0) / 4))
    else if kVEC_PPOIS 0 ≤ o ∧ o ≤ kVEC_PPOIS 7 then n (regWord k.opnd.ppois.toNat ((o - kVEC_PPOIS 0) / 4))
    else k.reg o
  else if o < 0x40000 then (if o = kMAT_STATUS then n k.matStatus else k.reg o)
  else if o < 0x50000 then
    if o = kLAY_STATUS then n (k.xfers.length + 16 * (k.xfers.filter (·.running)).length)
    else if kLAY_DSTAT 0 ≤ o ∧ o ≤ kLAY_DSTAT 15 then n (k.dslots.toList.getD ((o - kLAY_DSTAT 0) / 4) .empty).word
    else k.reg o
  else if o < 0x60000 then
    if o = kTBL_STATUS then n k.tblStatus
    else if 0x50040 ≤ o ∧ o < 0x500C0 then n ((k.tslots.toList.getD ((o - 0x50040) / 16) TSlot.zero).view ((o - 0x50040) / 4 % 4))
    else k.reg o
  else if o < 0x70000 then k.reg o
  else if o = kUCB_core_IDENT then n (identWord 3 c.val c.val (c.val / 12))
  else if o = kUCB_core_STATE then
    n (if s.gang[c] = c then s.unitState (s.members c) else s.unitState [c])
  else if o = kUCB_core_GANGSTAT then
    n ((s.members c).length + 2 ^ 8 * (s.members c).idxOf c + 2 ^ 16 * s.gang[c].val)
  else if 0x70200 ≤ o ∧ o < 0x70C00 then
    let ph := (o - 0x70200) / 0x200
    if o = kUCB_arr_IDENT ph then n (identWord 2 ph (k.logicalOf ph) c.val)
    else if o = kUCB_arr_STATE ph then n (k.arrState ph + (if s.coreRest c then 16 else 0) + (if k.hold then 32 else 0))
    else if o = kUCB_arr_GANGSTAT ph then n (k.arrGang ph)
    else k.reg o
  else k.reg o

/-! ## Blocks outside the cores -/

def JobSt.code : JobSt → Nat
  | .free => 0
  | .loaded => 1
  | .opened => 2
  | .updating => 3
  | .done => 4

/-- HELD and HIGH of BSH.STAGE. -/
def stageCode (n : Nat) : Nat := if n ≥ 32768 then 0xFFFF else n

/-- Registers of a Bushel (spec/12_bushel.md) that show its typed state. BUSY: something is queued, summed or updated. -/
def State.viewBsh (s : State) (n : Nat) (o : Nat) : Word32 :=
  let b := s.bsh n
  let w (v : Nat) : Word32 := BitVec.ofNat 32 v
  let j (i : Nat) : Job := b.jobs.toList.getD i Job.zero
  if o = rBSH_STATUS n then
    let open_ := (List.range 16).foldl (fun a i => a + (if (j i).st = .opened ∨ (j i).st = .updating then 2 ^ i else 0)) 0
    w ((if b.queue ≠ [] ∨ b.jobs.toList.any (fun j => j.st = .updating) then 1 else 0) + 2 * b.queue.length + 2 ^ 8 * open_)
  else if o = rBSH_STAGE n then w (stageCode b.heldN + 2 ^ 16 * stageCode b.high)
  else if rBSH_JOBSTAT n 0 ≤ o ∧ o ≤ rBSH_JOBSTAT n 15 then
    let x := j ((o - rBSH_JOBSTAT n 0) / 4)
    w (x.st.code + 2 ^ 3 * x.part + (if x.relaxed then 2 ^ 6 else 0) + (if x.poison then 2 ^ 7 else 0) + 2 ^ 8 * (x.rule % 4))
  else if rBSH_JOBDONE n 0 ≤ o ∧ o ≤ rBSH_JOBDONE n 15 then w (j ((o - rBSH_JOBDONE n 0) / 4)).nupd
  else if o = rBSH_RXSETS n then setBits 6 0 b.sets.length (s.reg o)
  else s.reg o

/-- Registers of partition p that show its state (spec/14_host.md). -/
def State.viewPart (s : State) (p : Nat) (o : Nat) : Word32 :=
  if o = rPART_STATUS p then
    let has (st : CoreSt) : Nat := if (s.coresOf p).any (fun c => (s.core c).st = st) then 1 else 0
    setBits 12 10 (has .stopped + 2 * has .frozen + (if (s.part p).rst ≠ none then 4 else 0)) (s.reg o)
  else match (List.range 4).find? (fun r => o = rPART_RSTAT p r) with
    | some r =>
      let q := s.ring p r
      setBits 28 16 (q.t - q.d) (s.reg o)
    | none => s.reg o

/-- The UCB of a unit of several cores at register-space offset `base`. -/
def State.viewUcb (s : State) (o base ident gang : Nat) (cs : List (Fin 96)) : Word32 :=
  if o = base then BitVec.ofNat 32 ident
  else if o = base + 4 then BitVec.ofNat 32 (s.unitState cs)
  else if o = base + 0x14 then BitVec.ofNat 32 gang
  else s.reg o

/-- The value of the register at base offset `o` for requester `r`, before any read side effect (R385, R400). In S2 the core
sub-blocks read 0 (R376). -/
def State.view (s : State) (r : Fin 10) (o : Nat) : Word32 :=
  match coreAt o with
  | some c => if s.fld (rRST_STATUS) 5 4 = 2 then 0 else s.viewCore c ((o - 0x10000000) % 0x100000)
  | none =>
    if o = rGLB_IDENT then s.reg o
    else if o = rGLB_REV then Config.revision.setWidth 32
    else if o = rGLB_GSTAT then
      setBits 2 2 (if s.guards.any (fun (e : Nat × (Nat × Word32)) => e.1 % 16 = r.val) then 1 else 0) (mapGet 0 s.gstat r.val)
    else if o = rGLB_GFAIL then
      BitVec.ofNat 32 ((List.range 10).foldl (fun a i => a + (if (mapGet 0 s.gstat i).getLsbD 0 then 2 ^ i else 0)) 0)
    else if o / 0x1000 = 1 then s.viewUcb o (rUCB_mod_IDENT) (identWord 6 0 0 0xFF) 1 allCores
    else if 0x8000000 ≤ o ∧ o < 0x8800000 ∧ o / 0x1000 % 0x100 = 1 then
      let k := (o - 0x8000000) / 0x100000
      s.viewUcb o (rUCB_cl_IDENT k) (identWord 4 k k (k / 4)) (s.clGang k) (coresFrom (12 * k) 12)
    else if 0xE000000 ≤ o ∧ o < 0xE200000 ∧ o / 0x1000 % 0x100 = 1 then
      let d := (o - 0xE000000) / 0x100000
      s.viewUcb o (rUCB_die_IDENT d) (identWord 5 d d 0) (2 + 2 ^ 8 * d) (coresFrom (48 * d) 48)
    else if o = rRST_STATUS then
      setBits 1 0 (if s.coreRst ≠ none then 2 else if (List.range 8).any (fun p => (s.part p).rst ≠ none) then 1 else 0) (s.reg o)
    else if o = rERR_STATUS then setBits 13 8 s.errq.length (s.reg o)
    else if 0x30200 ≤ o ∧ o < 0x30400 then BitVec.ofNat 32 (leNat ((s.lastRec.drop (o - 0x30200)).take 4))
    else if o = rERR_HDATA then BitVec.ofNat 32 (Config.freeNat s.freeCtr)
    else if 0x60000 ≤ o ∧ o < 0x60800 then s.viewPart ((o - 0x60000) / 0x100) o
    else if 0x100000 ≤ o ∧ o < 0x1C0000 ∧ o / 0x1000 % 16 = 1 then s.viewBsh ((o - 0x100000) / 0x10000) o
    else if o / 0x1000 = 0x301 then BitVec.ofNat 32 (Config.freeNat s.freeCtr)
    else s.reg o

end Sys2Proof.Machine
end

