-- ==== Sys2Proof/Machine/RegAccess.lean ====
section
/-!
DEFINITION. Accesses of the register interface (spec/20_registers.md, R385 to R396, R400): who reaches what, reads with their side
effects, writes by access code and alias, guarded writes, and what each register does with a value (the register tables of every
chapter; R13, R40, R183, R191, R228, R240, R306, R307, R309, R311, R329, R339, R347, R358, R361, R364, R375, R423).
-/
namespace Sys2Proof.Machine

/-! ## Who reaches what (R20, R191, R300, R384, R393, R400) -/

/-- Whether requester `r` can access registers at all: the safety die runs, not in recovery, where it takes a firmware update alone (R349),
and a host function needs the CXL link. -/
def State.online (s : State) (r : Fin 10) : Bool := s.phase.alive && decide (s.phase ≠ .recovery) && (r = 9 || decide (s.fld (rCXL_LINK) 3 0 ≠ 0))

/-- Whether a requester bound to partition v reaches the register at base offset `o`. Of the barriers it reads those of its own
partition (R359; log entry 33). -/
def State.boundReach (s : State) (v o : Nat) (write : Bool) : Bool :=
  let barOwn (b : Nat) : Bool := !write && decide (s.fld (barCfgReg b) 10 8 = v)
  match coreAt o with
  | some c => s.inPart v c
  | none =>
    if o < 0x10000 then
      o = rGLB_IDENT || o = rGLB_REV || o = rGLB_GSTAT
        || (0x400 ≤ o && o < 0x600 && barOwn (128 + (o - 0x400) / 8)) || (0x600 ≤ o && o < 0x800 && barOwn (128 + (o - 0x600) / 4 % 64))
    else if 0xE000000 ≤ o ∧ o < 0xE200000 ∧ o % 0x100000 < 0x1000 then
      0x400 ≤ o % 0x10000 && o % 0x10000 < 0x600 && barOwn (64 * ((o - 0xE000000) / 0x100000) + (o % 0x10000 - 0x400) / 8)
    else if 0x8000000 ≤ o ∧ o < 0x8800000 then (s.clusters v).testBit ((o - 0x8000000) / 0x100000)
    else if blockOf o = 2 then !write && o = rPWR_TPOWER
    else if blockOf o = 4 then
      !write && (o = rSEC_STATUS || o = rSEC_CERTGEN || o = rSEC_PSTATE v || (rSEC_TE v 0 ≤ o && o < rSEC_TE v 0 + 32))
    else if blockOf o = 5 then
      o = rTIME_DOM v || (!write && (o = rTIME_FRAME || o = rTIME_FRAME_HI || o = rTIME_STATUS))
    else if blockOf o = 6 then
      decide ((o - 0x60000) / 0x100 = v) && (!write || o = rPART_SRKEY v || o = rPART_SRKEY_HI v || o = rPART_WCTRL v || o = rPART_WTHR v
        || o = rPART_WADDR v || o = rPART_WADDR_HI v || o = rPART_WMEAN v || o = rPART_WVAR v)
    else false

/-- Whether requester `r` reaches the register at base offset `o` (Table 20-7). A VF reaches what it is bound to while enabled. -/
def State.reach (s : State) (r : Fin 10) (o : Nat) (write : Bool) : Bool :=
  s.online r && (r = 0 || r = 9 || (decide (r.val - 1 < s.vfs) && s.boundReach (r.val - 1) o write))

/-- Registers that a TSP lock of partition n protects (R358). -/
def lockedReg (n o : Nat) : Bool :=
  o = rPART_CFG n || o = rPART_PTBASE n || o = rPART_PTBASE_HI n || o = rPART_ALLOCBASE n || o = rPART_ALLOCBASE_HI n
    || o = rPART_SRKEY n || o = rPART_SRKEY_HI n || (rPART_RBASE n 0 ≤ o && o < rPART_RBASE n 0 + 0x80)
    || o = rCHC_PRIGHTS n || o = rCHC_DOMCFG n || o = rTIME_DOM n
    || (List.range 12).any (fun t => o = rBSH_PRIVBASE t n || o = rBSH_PRIVLEN t n)
    || (rGLB_SLWIN 0 ≤ o && o < rGLB_SLWIN 0 + 64)

/-- Whether a TSP lock refuses requester `r` the register: the partition is locked and `r` is not its own function (R358). -/
def State.lockRefuses (s : State) (r : Fin 10) (o : Nat) : Bool :=
  (List.range 8).any (fun n => s.bit (rSEC_PSTATE n) 1 && lockedReg n o && decide (r.val ≠ s.funcOf n))

/-! ## Observation (R362) -/

/-- An act of the operator on partition p: DBGOBS where the partition is confidential. -/
def State.observe (s : State) (p : Nat) : State :=
  if s.bit (rSEC_PSTATE p) 0 then s.setBit (rSEC_PSTATE p) 2 true else s

def State.observeCore (s : State) (c : Fin 96) : State := match s.partOf c with | some p => s.observe p | none => s

/-- The partition that a read of a register observes: core sub-blocks, and the loss statistics (R362, R384). -/
def State.observedBy (s : State) (o : Nat) : Option Nat :=
  match coreAt o with
  | some c =>
    let l := (o - 0x10000000) % 0x100000
    if l ≥ 0x70000 ∧ l % 0x200 < 12 ∧ l ≠ 0x70080 then none else s.partOf c
  | none => (List.range 8).find? (fun p => o = rPART_WMEAN p || o = rPART_WVAR p || o = rPART_WSPLOSS p)

/-- What a read by the operator observes. -/
def State.observeRead (s : State) (r : Fin 10) (o : Nat) : State :=
  if r ≠ 0 ∧ r ≠ 9 then s
  else match s.observedBy o with | some p => s.observe p | none => s

/-! ## Reads (R386 to R389) -/

/-- Bits of a register that a base-address read clears where it returns them as 1. -/
def RegDesc.rcMask (d : RegDesc) : Word32 :=
  d.fields.foldl (fun m f => if f.acc = .rc then m ||| setBits f.hi f.lo (2 ^ (f.hi + 1 - f.lo) - 1) 0 else m) 0

/-- Whether a register is the low word of a latched pair. -/
def RegDesc.low (d : RegDesc) : Bool := d.fields.any (fun f => f.acc = .lh || f.acc = .lhw || f.acc = .lhs)
def RegDesc.high (d : RegDesc) : Bool := d.fields.any (fun f => f.acc = .hs || f.acc = .hsw || f.acc = .hss)

/-- Store a register word; a gang's SEQ registers stand at its leader. -/
def State.regPut (s : State) (o : Nat) (v : Word32) : State :=
  match coreAt o with
  | some c =>
    let l := (o - 0x10000000) % 0x100000
    s.modCore (if l < 0x10000 then s.gang[c] else c) (fun k => k.setReg l v)
  | none => s.setReg o v

/-- The stored word of a register, apart from what is computed at a read. -/
def State.regGet (s : State) (o : Nat) : Word32 :=
  match coreAt o with
  | some c =>
    let l := (o - 0x10000000) % 0x100000
    (s.core (if l < 0x10000 then s.gang[c] else c)).reg l
  | none => s.reg o

/-- The partitions to which a register belongs: that of its core or PART block, that of a barrier, a domain's, and those of the Chain's
rights (R197). -/
def State.partsAt (s : State) (o : Nat) : List Nat :=
  let bar (b : Nat) : List Nat := [bitsOf 10 8 (s.barNow b).toNat]
  match coreAt o with
  | some c => (s.partOf c).toList
  | none =>
    if blockOf o = 6 then [(o - 0x60000) / 0x100 % 8]
    else if 0x400 ≤ o ∧ o < 0x600 then bar (128 + (o - 0x400) / 8)
    else if 0x600 ≤ o ∧ o < 0x800 then bar (128 + (o - 0x600) / 4 % 64)
    else if 0xE000000 ≤ o ∧ o < 0xE200000 ∧ 0x400 ≤ o % 0x100000 ∧ o % 0x100000 < 0x600 then
      bar (64 * ((o - 0xE000000) / 0x100000) + (o % 0x10000 - 0x400) / 8)
    else (List.range 8).filter (fun p => o = rTIME_DOM p || o = rCHC_PRIGHTS p || o = rCHC_DOMCFG p || o = rCHC_PFAULT p)

/-- A host access to a register of a partition (R197). -/
def State.hostTouch (s : State) (r : Fin 10) (o : Nat) : State :=
  if r = 9 then s else (s.partsAt o).foldl State.touch s

/-- One aligned 32-bit read of requester `r` at register-space offset `off` (R387, R389). -/
def State.regRead (s : State) (r : Fin 10) (off : Nat) : State × Word32 :=
  let w := winOf off
  let o := baseOf off
  match regAt o with
  | none => if o / 0x1000 = 0x301 ∧ w = 0 ∧ s.reach r o false then ({ s with freeCtr := s.freeCtr + 1 }, s.view r o) else (s, 0)
  | some d =>
    if !(w = 0 || w = 2 || w = 4 || w = 6) || !(s.reach r o false) then (s, 0)
    else
      let v := s.view r o
      let key := 16 * o + r.val
      let s := (s.observeRead r o).hostTouch r o
      let s := { s with freeCtr := s.freeCtr + 1 }
      if d.high then (s, mapGet 0 s.shadows key)
      else
        let s := if d.low then { s with shadows := mapPut 0 s.shadows (16 * (o + 4) + r.val) (s.view r (o + 4)) } else s
        if w ≠ 0 then (s, v)
        else if o = rGLB_GSTAT then ({ s with gstat := mapPut 0 s.gstat r.val (mapGet 0 s.gstat r.val &&& ~~~ d.rcMask) }, v)
        else if o = rERR_HDATA then (s.setFld (rERR_HIDX) 15 0 (s.fld (rERR_HIDX) 15 0 + 1), v)
        else if d.rcMask &&& v ≠ 0 then (s.regPut o (s.regGet o &&& ~~~ (d.rcMask &&& v)), v)
        else (s, v)

/-- Whether an access of `len` bytes is naturally aligned: a power of two that divides its offset (R386). -/
def aligned (off len : Nat) : Bool := [1, 2, 4, 8, 16, 32, 64].contains len && decide (off % len = 0)

/-- A read of `len` bytes (R386): successive aligned words; the bytes addressed of a narrower one; 0 where unaligned. -/
def State.readReg (s : State) (r : Fin 10) (off len : Nat) : State × Nat :=
  if !(aligned off len) then (s, 0)
  else if len < 4 then
    let x := s.regRead r (off - off % 4)
    (x.1, x.2.toNat / 2 ^ (8 * (off % 4)) % 2 ^ (8 * len))
  else (List.range (len / 4)).foldl (fun (a : State × Nat) i =>
    let x := a.1.regRead r (off + 4 * i)
    (x.1, a.2 + 2 ^ (32 * i) * x.2.toNat)) (s, 0)

/-! ## What registers do with a value (R391) -/

/-- Halt or resume the gang of core c, all of it (R423): its bits in DBG.HALT. Halted cores issue no further bundle; resumed ones go on at
the next tick. -/
def State.haltGang (s : State) (c : Fin 96) (on : Bool) : State :=
  (s.members c).foldl (fun (s : State) m =>
    let s := s.setBit (rDBG_HALT (m.val / 32)) (m.val % 32) on
    if on then (s.modCore m (fun k => { k with steps := some 0 })).observeCore m else s) s

/-- A write of DBG.HALTm: the gangs of cores whose bits change are halted or resumed, a halt prevailing (R423). -/
def State.writeHalt (s : State) (m : Nat) (v : Word32) : State :=
  let old := s.reg (rDBG_HALT m)
  let cs := (List.range 32).filter (fun i => old.getLsbD i != v.getLsbD i)
  let s := (cs.filter (fun i => !v.getLsbD i)).foldl (fun (s : State) i => s.haltGang (coreOf (32 * m + i)) false) s
  (cs.filter v.getLsbD).foldl (fun (s : State) i => s.haltGang (coreOf (32 * m + i)) true) s

/-- A change of TIME.CTRL (R40, R42, R43): a time master reads LOCKED 1 and HOPS 0, every other role must lock first; FREE and MASTER end
holdover unsteered. -/
def State.writeTimeCtrl (s : State) (new : Word32) : State :=
  let role := bitsOf 1 0 new.toNat
  let up := bitsOf 7 4 new.toNat
  if role = 2 ∧ up > 11 then s.setBit (rTIME_STATUS) 5 true
  else
    let moved := decide (bitsOf 7 0 (s.reg (rTIME_CTRL)).toNat ≠ bitsOf 7 0 new.toNat)
    let s := s.setReg (rTIME_CTRL) new
    if !moved then s
    else
      let s := if s.isMaster then (s.setBit (rTIME_STATUS) 0 true).setReg (rTIME_HOPS) 0
        else (s.setBit (rTIME_STATUS) 0 false).setReg (rTIME_HOPS) 31
      let s := { s with lockRun := 0, lockLost := false }
      if role < 2 then (s.setBit (rTIME_STATUS) 1 false).setReg (rTIME_TRIM) 0 else s

/-- A write of SLWINk (R228): refused with CFGERR, or staged. -/
def State.writeSlwin (s : State) (k : Nat) (new : Word32) : State :=
  let b (w : Word32) : Nat := bitsOf 6 0 w.toNat
  let z (w : Word32) : Nat := bitsOf 14 8 w.toNat
  let hits (j : Nat) : Bool :=
    let w := s.reg (rGLB_SLWIN j)
    j ≠ k && w.getLsbD 31 && new.getLsbD 31 && decide (b w < b new + z new ∧ b new < b w + z w)
  if b new + z new > 96 ∨ (z new = 0 ∧ new.getLsbD 31) ∨ (List.range 16).any hits then s.setBit (rGLB_SLWIN k) 16 true
  else s.setReg (rGLB_SLWIN k) new

/-- A write of MCn.INJCTL (R240): a bad symbol is refused, and ARM is not set. -/
def State.writeInj (s : State) (n : Nat) (new : Word32) : State :=
  let s0 := bitsOf 7 2 new.toNat
  let s1 := bitsOf 13 8 new.toNat
  if s0 > 35 ∨ s1 > 35 ∨ (bitsOf 1 0 new.toNat = 2 ∧ s0 = s1) then s.setBit (rMC_INJCTL n) 31 false
  else s.setReg (rMC_INJCTL n) new

/-- A write of ERR.INJARR (R347): refused for a spare or retired array, and for one that does not exist. -/
def State.writeInjArr (s : State) (new : Word32) : State :=
  let c := bitsOf 6 0 new.toNat
  let ph := bitsOf 9 7 new.toNat
  if c ≥ 96 ∨ ph > 4 ∨ (s.core (coreOf c)).logicalOf ph = 0xFF then s.setBit (rERR_INJARR) 31 false
  else s.setReg (rERR_INJARR) new

/-- A guarded write of PWR.MBCMD (R329): refused as busy while a request is being validated, else queued. -/
def State.mailbox (s : State) (cmd tag : Nat) : State :=
  let s := s.setFld (rPWR_MBCMD) 23 16 tag
  if s.bit (rPWR_MBSTAT) 0 then (s.setFld (rPWR_MBSTAT) 7 4 3).setFld (rPWR_MBSTAT) 15 8 tag
  else
    { s.setBit (rPWR_MBSTAT) 0 true with
      power := { s.power with requests := s.power.requests ++ [(false, cmd, (s.reg (rPWR_MBARG)).toNat, tag)] } }

/-- A request of the baseboard controller, through PLDM over MCTP: validated in arrival order (R329). -/
def State.pldmRequest (s : State) (cmd arg tag : Nat) : State :=
  { s.setBit (rPWR_MBSTAT) 0 true with power := { s.power with requests := s.power.requests ++ [(true, cmd, arg, tag)] } }

/-- Whether every core is IDLE or out of service (R375). -/
def State.idle (s : State) : Bool := allCores.all (fun c => (s.core c).st.movable)

/-- Start-up from S3: phase 1 (R375), unless the power has failed (R365). -/
def State.leaveS3 (s : State) : State := if s.power.failed then s else s.toPhase .boot

/-- A request of power state t (R375, Table 18-8). A request for the state in force changes nothing; after a power failure none is met
(R365). -/
def State.psRequest (s : State) (t : Nat) : State :=
  let ps := s.fld (rRST_STATUS) 5 4
  let refuse := s.setBit (rRST_STATUS) 8 true
  if s.power.failed then refuse
  else if s.phase = .s3 then (if t = 0 ∧ s.pwrEn then s.leaveS3 else if t = 3 then s else refuse)
  else if s.phase ≠ .run then refuse
  else match ps, t with
    | 0, 0 => s
    | 1, 1 => s
    | 2, 2 => s
    | 1, 0 => { s with psPend := some 0 }
    | 2, 0 => { s with psPend := some 0 }
    | 0, 1 => if s.idle then { s with psPend := some 1 } else refuse
    | 2, 1 => refuse
    | _, 2 =>
      if s.idle ∧ !(List.range 8).any s.bushelPending ∧ s.reqs = [] then { s with psPend := some 2 } else refuse
    | _, 3 => if s.idle ∨ ps = 2 then s.toS3 else refuse
    | _, _ => refuse

/-- SEC.SCRUBCTL.GO (R361). -/
def State.scrubGo (s : State) (len : Nat) : State :=
  let base := s.reg64 (rSEC_SCRUBBASE)
  let s := s.setFld (rSEC_SCRUBCTL) 19 0 len
  if s.bit (rSEC_SCRUBSTAT) 0 ∨ len = 0 ∨ base + len * 2 ^ 21 > hbmEnd then s.setBit (rSEC_SCRUBSTAT) 2 true
  else { s.setBit (rSEC_SCRUBSTAT) 0 true with scrub := some (base, len * 2 ^ 21), scrubW := [] }

/-- EN of a ring's RCFG rises (R311): D is read from DADDR and T := D. A DADDR that does not translate is a ring fault (R317). -/
def State.ringOn (s : State) (p r : Nat) : State :=
  match s.cpRead p (s.reg64 (rPART_DADDR p r)) 8 with
  | (s, .ok b z a) =>
    if z then s.cpPoison p (s.dataAddr a) else s.modRing p r (fun q => { q with t := leNat b, d := leNat b, fin := [] })
  | (s, .fail) => s.ringFault p r 3
  | (s, .stopped) => s

/-- A write of RINGr.RCFG: LOG2N outside 1 to 12 leaves it unchanged. -/
def State.writeRcfg (s : State) (p r : Nat) (new : Word32) : State :=
  let n := bitsOf 3 0 new.toNat
  if n = 0 ∨ n > 12 then s
  else
    let was := s.bit (rPART_RCFG p r) 31
    let s := s.setReg (rPART_RCFG p r) new
    if new.getLsbD 31 && !was then s.ringOn p r else s

/-- A write of ERR.CTRL: LOG2N outside 4 to 16 leaves it unchanged; LOGEN rising sets LOGP and LOGC to 0 (R339). -/
def State.writeErrCtrl (s : State) (new : Word32) : State :=
  let n := bitsOf 12 8 new.toNat
  if n < 4 ∨ n > 16 then s
  else
    let was := s.bit (rERR_CTRL) 0
    let s := s.setReg (rERR_CTRL) new
    let s := if new.getLsbD 1 then s else { s with errq := [] }
    if new.getLsbD 0 && !was then (s.setReg (rERR_LOGP) 0).setReg (rERR_LOGC) 0 else s

/-- A write of CH.CTRL (R265): EN cleared drops the link at once. -/
def State.writeChCtrl (s : State) (p : Nat) (new : Word32) (retrain : Bool) : State :=
  let was := s.bit (rCH_CTRL p) 0
  let s := s.setReg (rCH_CTRL p) (setBits 1 1 0 new)
  if was && !new.getLsbD 0 then (if s.portSt p = 0 then s else s.dropLink p)
  else if retrain then s.retrainPort p else s

/-- A CHC write refused (CHC.STATUS.CFGERR). -/
def State.chcRefuse (s : State) : State := s.setBit (rCHC_STATUS) 0 true

/-- A CTRL message of operation RESET to a node (R294). -/
def ctrlReset (src dst : Nat) : Msg :=
  { typ := 8, sub := 0, mcast := false, sched := false, dst := dst, src := src, dom := 0, wf := 0, pmask := 0, tag := 0, agent := 127,
    ttl := 31, w3 := 2, w4 := 0, data := [] }

/-- Replace a 4-bit field of value 0 by 1 ("a write of 0 stores 1"). -/
def min1 (hi lo : Nat) (w : Word32) : Word32 := if bitsOf hi lo w.toNat = 0 then setBits hi lo 1 w else w

/-- Index of an offset in an array of registers, if it lies in it. -/
def arrIx (o base stride n : Nat) : Option Nat :=
  if base ≤ o ∧ (o - base) % stride = 0 ∧ (o - base) / stride < n then some ((o - base) / stride) else none

/-- Apply `new` to a register of a core. INC adds to its counter (R182, R183). -/
def State.applyCore (s : State) (c : Fin 96) (o : Nat) (new act : Word32) : State :=
  let l := (o - 0x10000000) % 0x100000
  match arrIx l (kSCNT_INC 0) 4 64 with
  | some n => s.modCore c (fun k => k.addCount n act.toNat)
  | none => s.regPut o new

/-- Apply `new` to a register of PART. -/
def State.applyPart (s : State) (p o : Nat) (new act : Word32) : State :=
  if o = rPART_CFG p then (s.setReg o new).setBit (rPART_STATUS p) 8 true
  else if o = rPART_CTRL p then
    let s := if act.getLsbD 1 then s.setBit (rPART_STATUS p) 13 true else s
    if act.getLsbD 0 then s.requestPart p else s
  else if o = rPART_DLWIN p then s.setReg o (if bitsOf 15 0 new.toNat < 16 then setBits 15 0 16 new else new)
  else if o = rPART_WCTRL p then s.setReg o (min1 7 4 new)
  else match arrIx o (rPART_RCFG p 0) 0x20 4 with
    | some r => s.writeRcfg p r new
    | none => s.setReg o new

/-- Apply `new` to a register of CHC. -/
def State.applyChc (s : State) (o : Nat) (new act : Word32) : State :=
  if o = rCHC_NODEID then
    if (List.range 12).all (fun p => s.portSt p = 0) then s.setReg o new else s.chcRefuse
  else if o = rCHC_RTIMEOUT then s.setReg o (if bitsOf 15 0 new.toNat = 0 then setBits 15 0 1 new else new)
  else if o = rCHC_RSTSEND then
    let s := s.setReg o (setBits 31 31 0 new)
    if act.getLsbD 31 then s.chSend (ctrlReset s.node (bitsOf 11 0 new.toNat)) else s
  else if 0x2C1000 ≤ o then
    if bitsOf 18 16 new.toNat > 4 ∨ bitsOf 23 20 new.toNat ≥ 2 ^ bitsOf 18 16 new.toNat then s.chcRefuse else s.setReg o new
  else s.setReg o new

/-- The safety die's write of the limits (R319): what its mailbox would accept, and from then on (R329). -/
def State.limitsWrite (s : State) (sus peak : Nat) : State :=
  if 600 ≤ sus ∧ sus ≤ peak ∧ peak ≤ 2800 then
    { s with power := { s.power with accepted := s.power.accepted ++ [(1, sus), (2, peak)] } }
  else s

/-- The safety die's write of RESERVE. -/
def State.reserveWrite (s : State) (n : Nat) : State :=
  if 10 ≤ n ∧ n ≤ 1000 then { s with power := { s.power with accepted := s.power.accepted ++ [(3, n)] } } else s

/-- Apply `new`, the register word with the written fields, under the register's own rules (R391). `act` is what was written to fields
that act and store nothing; an alias writes none. -/
def State.apply (s : State) (o : Nat) (new act : Word32) : State :=
  match coreAt o with
  | some c => if s.fld (rRST_STATUS) 5 4 = 2 then s else s.applyCore c o new act
  | none =>
    if o < 0x10000 then
      match arrIx o (rGLB_BARCFG 0) 8 64, arrIx o (rGLB_SLWIN 0) 4 16, arrIx o (rGLB_BARPOD 0) 4 64 with
      | some n, _, _ => { s.setReg o new with barPend := if s.barPend.contains (128 + n) then s.barPend else s.barPend ++ [128 + n] }
      | _, some k, _ => s.writeSlwin k new
      | _, _, some _ => s.setReg o (min1 15 12 new)
      | _, _, _ => s.setReg o new
    else if 0xE000000 ≤ o then
      let d := (o - 0xE000000) / 0x100000
      match arrIx o (rDIE_BARCFG d 0) 8 64 with
      | some n => { s.setReg o new with barPend := if s.barPend.contains (64 * d + n) then s.barPend else s.barPend ++ [64 * d + n] }
      | none => s.setReg o new
    else if 0x8000000 ≤ o then
      let k := (o - 0x8000000) / 0x100000
      if o = rUCB_cl_GANGCTL k then
        if act.getLsbD 0 then { s.setBit (rUCB_cl_GANGSTAT k) 24 true with gangPend := mapSet s.gangPend k (act.getLsbD 1) } else s
      else s.setReg o new
    else if o = rRST_CTRL then
      let s := if act.getLsbD 1 then s.requestCore 0x40 else s
      if act.getLsbD 0 then s.sysReset 0x20 else s
    else if o = rRST_PSREQ then
      let s := s.setReg o (setBits 31 31 0 new)
      if act.getLsbD 31 then s.psRequest (bitsOf 1 0 new.toNat) else s
    else if o = rPWR_MBCMD then s.mailbox (bitsOf 3 0 act.toNat) (bitsOf 23 16 act.toNat)
    else if o = rPWR_LIMITS then s.limitsWrite (bitsOf 15 0 new.toNat) (bitsOf 31 16 new.toNat)
    else if o = rPWR_HOG then s.reserveWrite (bitsOf 31 16 new.toNat)
    else if rSEC_PSTATE 0 ≤ o ∧ o ≤ rSEC_PSTATE 7 then s.setReg o (new ||| (s.reg o &&& 4#32))
    else if o = rERR_STATUS then (s.setReg o new).alert (new.getLsbD 2)
    else if o = rERR_CTRL then s.writeErrCtrl new
    else if o = rERR_INJARR then s.writeInjArr new
    else if o = rSEC_SCRUBCTL then
      if act.getLsbD 31 then s.scrubGo (bitsOf 19 0 new.toNat) else s.setReg o (setBits 31 31 0 new)
    else if blockOf o = 4 ∧ rSEC_TE 0 0 ≤ o ∧ o < rSEC_TE 0 0 + 256 ∧ o % 8 = 0 then s.setReg o (setBits 24 0 0 new)
    else if o = rTIME_CTRL then s.writeTimeCtrl new
    else if rTIME_DOM 0 ≤ o ∧ o ≤ rTIME_DOM 7 then s.setReg o (min1 15 12 new)
    else if blockOf o = 6 then s.applyPart ((o - 0x60000) / 0x100) o new act
    else if 0x100000 ≤ o ∧ o < 0x1C0000 then
      let n := (o - 0x100000) / 0x10000
      if o = rMC_INJCTL n then s.writeInj n new
      else if o = rMC_SCRUBCTL n then s.setReg o (if bitsOf 7 0 new.toNat = 0 then setBits 7 0 1 new else new)
      else match arrIx o (rBSH_PRIVBASE n 0) 8 8, arrIx o (rBSH_PRIVLEN n 0) 8 8 with
        | some p, _ => if bitsOf 15 0 new.toNat + s.fld (rBSH_PRIVLEN n p) 15 0 > 49152 then s else s.setReg o new
        | _, some p => if bitsOf 15 0 new.toNat + s.fld (rBSH_PRIVBASE n p) 15 0 > 49152 then s else s.setReg o new
        | _, _ => s.setReg o new
    else if 0x200000 ≤ o ∧ o < 0x2C0000 then
      let p := (o - 0x200000) / 0x10000
      if o = rCH_CTRL p then s.writeChCtrl p new (act.getLsbD 1) else s.setReg o new
    else if blockOf o = 0x2C then s.applyChc o new act
    else match arrIx o (rDBG_HALT 0) 4 3 with
      | some m => s.writeHalt m new
      | none => s.setReg o new

/-! ## Writes (R390, R391, R394 to R396) -/

/-- Access codes that a base-address write of requester `r` acts on as RW (Table 20-2). -/
def Acc.plain (a : Acc) (r : Fin 10) : Bool :=
  match a with
  | .rw | .lhw | .hsw => true
  | .siw | .lhs | .hss => r = 9
  | _ => false

/-- Registers whose RW field acts and stores nothing: aliases ignore it (R391). -/
def actsOnly (o : Nat) : Bool :=
  match coreAt o with
  | some _ => (arrIx ((o - 0x10000000) % 0x100000) (kSCNT_INC 0) 4 64).isSome
  | none => (arrIx o (rPART_CTRL 0) 0x100 8).isSome

/-- Fields of a word that satisfy `p`, as a mask. -/
def RegDesc.mask (d : RegDesc) (p : Acc → Bool) : Word32 :=
  d.fields.foldl (fun m f => if p f.acc then m ||| setBits f.hi f.lo (2 ^ (f.hi + 1 - f.lo) - 1) 0 else m) 0

def Acc.isRwg : Acc → Bool | .rwg => true | _ => false
def Acc.isSt : Acc → Bool | .st => true | _ => false

/-- A guarded write of requester `r` fails (R396); `o` is the register that GSTAT names. -/
def State.guardFail (s : State) (r : Fin 10) (o : Nat) : State :=
  let g := mapGet 0 s.gstat r.val
  let g' := if g.getLsbD 0 then g else
    setBits 31 16 (blockOf o) (setBits 14 4 (o % 0x2000 / 4) (setBits 0 0 1 g))
  { s with gstat := mapPut 0 s.gstat r.val g' }

/-- The key of a requester's pending write of a block. -/
def guardKey (r : Fin 10) (o : Nat) : Nat := 16 * blockOf o + r.val

/-- The second part of a guarded write (R394). -/
def State.guardWrite (s : State) (r : Fin 10) (o : Nat) (v : Word32) : State :=
  match mapFind s.guards (guardKey r o) with
  | none => s.guardFail r o
  | some (po, pv) =>
    let s := { s with guards := mapErase s.guards (guardKey r o) }
    if po ≠ o ∨ v ≠ ~~~ pv then s.guardFail r po
    else match regAt o with
      | none => s
      | some d =>
        let m := d.mask Acc.isRwg
        s.apply o ((s.regGet o &&& ~~~ m) ||| (pv &&& m)) (pv &&& m)

/-- A write disturbs the requester's pending write of that block (R396). -/
def State.disturb (s : State) (r : Fin 10) (o : Nat) : State :=
  match mapFind s.guards (guardKey r o) with
  | none => s
  | some (po, _) => { s with guards := mapErase s.guards (guardKey r o) }.guardFail r po

/-- A write at the base address (R390, R395): RW fields take the value at once, and a change of an RWG field becomes pending. -/
def State.baseWrite (s : State) (r : Fin 10) (o : Nat) (v : Word32) (d : RegDesc) : State :=
  let s := s.disturb r o
  let m := d.mask (fun a => a.plain r)
  let g := d.mask Acc.isRwg
  let pend := decide ((s.regGet o ^^^ v) &&& g ≠ 0)
  let s := if m = 0 then s else s.apply o ((s.regGet o &&& ~~~ m) ||| (v &&& m)) (v &&& m)
  if pend then { s with guards := mapSet s.guards (guardKey r o) (o, v) } else s

/-- A write at an alias (R391). -/
def State.aliasWrite (s : State) (r : Fin 10) (w o : Nat) (v : Word32) (d : RegDesc) : State :=
  let s := s.disturb r o
  let m := d.mask (fun a => a.plain r)
  let old := s.regGet o
  let x := if w = 2 then old ||| v else if w = 4 then old &&& ~~~ v else old ^^^ v
  let s := if m = 0 ∨ actsOnly o then s else s.apply o ((old &&& ~~~ m) ||| (x &&& m)) 0
  if w = 4 then
    let t := d.mask Acc.isSt
    if t = 0 then s
    else
      let s := if o = rERR_STATUS ∧ v.getLsbD 2 then s.alert false else s
      s.regPut o (s.regGet o &&& ~~~ (v &&& t))
  else s

/-- One aligned 32-bit write of requester `r` at register-space offset `off`. -/
def State.regWrite (s : State) (r : Fin 10) (off : Nat) (v : Word32) : State :=
  let w := winOf off
  let o := baseOf off
  if !(s.reach r o true) || o / 0x1000 = 0x301 then s
  else if s.lockRefuses r o then s.setBit (rSEC_STATUS) 7 true
  else
  let s := s.hostTouch r o
  if w = 1 then s.guardWrite r o v
  else match regAt o with
    | none => if w = 0 ∨ w = 2 ∨ w = 4 ∨ w = 6 then s.disturb r o else s
    | some d =>
      if w = 0 then s.baseWrite r o v d
      else if w = 2 ∨ w = 4 ∨ w = 6 then s.aliasWrite r w o v d
      else s

/-- A write of `len` bytes (R386): successive words; narrower and unaligned ones are discarded and set SIZEERR. -/
def State.writeReg (s : State) (r : Fin 10) (off len v : Nat) : State :=
  if !(s.online r) then s
  else if !(aligned off len) || len < 4 then
    { s with gstat := mapPut 0 s.gstat r.val (setBits 1 1 1 (mapGet 0 s.gstat r.val)) }
  else (List.range (len / 4)).foldl (fun (s : State) i => s.regWrite r (off + 4 * i) (BitVec.ofNat 32 (v / 2 ^ (32 * i)))) s

/-- Both parts of a guarded write (R394). -/
def State.guarded (s : State) (r : Fin 10) (o : Nat) (v : Word32) : State := (s.regWrite r o v).regWrite r (o + 0x2000) (~~~ v)

end Sys2Proof.Machine
end

