-- ==== Sys2Proof/Machine/SecOps.lean ====
section
/-!
DEFINITION. Images, measurements and the attestation extension (spec/17_security.md, R348 to R355, Tables 17-1 to 17-4).
-/
namespace Sys2Proof.Machine

/-! ## Images (R348, Table 17-1) -/

/-- `n` bytes of an image's header from an offset, as a number. -/
def hdrNat (img : List Byte) (off n : Nat) : Nat := leNat ((img.drop off).take n)
def hdrBytes (img : List Byte) (off n : Nat) : List Byte := (img.drop off).take n

def imgSvn (img : List Byte) : Nat := hdrNat img 8 4
def imgBody (img : List Byte) : List Byte := (img.drop 0x2400).take (hdrNat img 0x10 8)

/-- Whether an image is accepted as KIND `kind`: form, both signatures, body digest, key set, and SVN at least the OTP counter. -/
def Security.imageOk (x : Security) (img : List Byte) (kind : Nat) : Bool :=
  let ks := hdrNat img 0xC 4
  decide (hdrNat img 0 4 = 0x5746545A ∧ hdrNat img 4 4 = kind ∧ imgSvn img ≤ 64 ∧ ks < 4 ∧ img.length = 0x2400 + hdrNat img 0x10 8)
    && decide (Config.sha384 (imgBody img) = hdrBytes img 0x18 48)
    && decide (Config.sha384 (hdrBytes img 0x48 416) = Config.keyDigest ks) && !x.revoked.getLsbD ks
    && Config.rsaVerify (hdrBytes img 0x48 384) (img.take 0x200) (hdrBytes img 0x200 384)
    && Config.slhVerify (hdrBytes img 0x1C8 32) (img.take 0x200) (hdrBytes img 0x380 7856)
    && decide (x.otp ≤ imgSvn img)

/-- A firmware slot: 0 A, 1 B. -/
def Security.slot (x : Security) (i : Nat) : FwSlot := if i % 2 = 0 then x.slots[0] else x.slots[1]

/-! ## Measurements and the extension (R354, Tables 17-3 and 17-4) -/

/-- The committed option words, all of them 0 when no load has committed. -/
def State.committed (s : State) : List Word32 := (List.range 16).map (fun i => s.reg (rTRIM_OPT i))

/-- Measurement 3: of the committed set, or of nothing in safe mode (R351). -/
def State.meas3 (s : State) : List Byte :=
  if s.bit (rTRIM_STATUS) 0 then Config.measure3 s.committed else Config.sha384 []

/-- Measurement m with its SVN (Table 17-4). -/
def State.measure (s : State) (m : Nat) : Nat × List Byte :=
  let x := s.sec
  let r := x.running.getD ⟨[], []⟩
  match m with
  | 0 => (0, Config.measure0)
  | 1 => (imgSvn r.sfw, Config.sha384 r.sfw)
  | 2 => (imgSvn r.cpfw, Config.sha384 r.cpfw)
  | 3 => (0, s.meas3)
  | 4 => (0, Config.measure4 x.lifecycle x.revoked.toNat)
  | 5 => (0, Config.measure5)
  | _ => (0, Config.measure6 x.otp)

/-- The fields of Table 17-3 from 0x08 on but for FRAME: a change of any of them asks for a new certificate (R355). -/
def State.attested (s : State) : List Byte :=
  let st := (s.reg (rSEC_STATUS)).toNat
  let flags := bitsOf 5 5 st + 2 * bitsOf 6 6 st + 4 * bitsOf 4 4 st + 8 * bitsOf 3 3 st + 16 * bitsOf 2 2 st
  let part (p : Nat) : Nat :=
    let w := (s.reg (rSEC_PSTATE p)).toNat
    (if (s.part p).cfgNow.getLsbD 8 then 1 else 0) + 2 * bitsOf 2 0 w + 16 * bitsOf 6 4 w
  leBytes 4 s.sec.lifecycle ++ leBytes 4 flags ++ (List.range 8).flatMap (fun p => leBytes 4 (part p)) ++ leBytes 8 0
    ++ (List.range 7).flatMap (fun m => leBytes 4 m ++ leBytes 4 (s.measure m).1 ++ ((s.measure m).2 ++ List.replicate 48 0).take 48)

/-- The extension of Table 17-3 with generation `gen`, issued now. -/
def State.extension (s : State) (gen : Nat) : List Byte :=
  leBytes 4 1 ++ leBytes 4 gen ++ s.attested.take 8 ++ leBytes 8 s.frame ++ s.attested.drop 8

end Sys2Proof.Machine
end

