-- ==== Sys2Proof/Machine/Reset.lean ====
section
/-!
DEFINITION. Resets, start-up and power states as commands (spec/18_reset.md, R364 to R376; spec/17_security.md, R348 to R351, R360;
spec/21_module.md, R404, R407; spec/13_chain.md, R294).
-/
namespace Sys2Proof.Machine

/-! ## Core-level resets (R367, Table 18-3) -/

/-- Launches of partition p end with a reset (R316): those in flight with RESULT 3, or that of the fault that stopped the partition
before; a complete one is reported as such. -/
def State.endLaunches (s : State) (p : Nat) : State :=
  let frozen := (s.coresOf p).any (fun c => (s.core c).st = .frozen)
  let r (l : LaunchRec) : Report :=
    if l.doneAt.isSome then ⟨l, 0, 0, 0, l.doneAt.getD s.frame⟩
    else match (s.part p).firstFault with
    | some (c, x) => if s.isStopped p && !s.bit (rPWR_STATUS) 3 then ⟨l, if frozen then 2 else 1, c, x, s.frame⟩ else ⟨l, 3, 0, 0, s.frame⟩
    | none => ⟨l, 3, 0, 0, s.frame⟩
  s.modPart p (fun q => { q with reports := q.reports ++ q.launches.map r, launches := [] })

/-- CORE_RESET_ENTRY (R367): cycle 1,280; the partitions concerned stop and compute is about to enter reset. -/
def execCoreResetEntry (s : State) : Host.Outcome State Fault Refusal :=
  let enter (s : State) (p : Nat) : State := (s.endLaunches p).stopPart p (s.lowCore p).val 0 .stopped
  if s.coreRst = some .asked then
    let s := (List.range 8).foldl enter { s with cycle := s.winCy 1280 }
    let s := (List.range 8).foldl (fun s p => s.modPart p (fun q => { q with rst := none })) s
    .next { s.setBit (rSEC_STATUS) 6 true with coreRst := some .stopping }
  else
    let ps := (List.range 8).filter (fun p => (s.part p).rst = some .asked)
    if ps = [] then .next s
    else
      let s := ps.foldl (fun (s : State) p => (enter s p).modPart p (fun q => { q with rst := some .stopping })) { s with cycle := s.winCy 1280 }
      .next (s.setBit (rSEC_STATUS) 6 true)

/-- A core whose memories the scrub has written with zero (R360). -/
def Core.scrubbed (k : Core) : Core :=
  if k.st = .failed then k
  else { (Core.zero .inReset) with retire := k.retire, failPend := k.failPend, cregs := k.cregs }

def State.scrubCores (s : State) (l : List (Fin 96)) : State := s.eachCore l Core.scrubbed

/-- COMPUTE_SCRUB_DONE (R360): the scrub of the compute held in reset completes. A thermal trip keeps it from beginning (R367). -/
def execComputeScrubDone (s : State) : Host.Outcome State Fault Refusal :=
  let s := if s.coreRst = some .held ∧ s.bit (rRST_STATUS) 2 = false ∧ s.fld (rRST_STATUS) 5 4 < 2
      then { s.scrubCores allCores with coreRst := some .scrubbed } else s
  .next ((List.range 8).foldl (fun s p =>
    if (s.part p).rst = some .held then (s.scrubCores (s.coresOf p)).modPart p (fun q => { q with rst := some .scrubbed }) else s) s)

/-- Cores leave reset: they become IDLE, and remaps and failed marks that wait take effect, in the order of R14. Clusters that await the
scrub of R306 stay in reset. -/
def State.releaseCores (s : State) (l : List (Fin 96)) : State :=
  let wait (c : Fin 96) : Bool := (List.range 8).any (fun p => (s.part p).scrubCl.contains (c.val / 12))
  let cs := l.filter (fun c => decide ((s.core c).st = .inReset) && !wait c && !s.fatal)
  let s := s.eachCore cs (fun k => { k with st := .idle })
  let s := cs.foldl State.remap s
  (cs.filter (fun c => (s.core c).failPend)).foldl State.markFailed s

/-- RIP clears once no reset remains in progress (R367). -/
def State.endRip (s : State) : State :=
  if s.coreRst = none ∧ (List.range 8).all (fun p => (s.part p).rst = none) then s.setBit (rSEC_STATUS) 6 false else s

/-- CORE_RESET_RELEASE (R367): cycle 1,281; scrubbed cores become IDLE. -/
def execCoreResetRelease (s : State) : Host.Outcome State Fault Refusal :=
  let s := { s with cycle := s.winCy 1281 }
  let s := if s.coreRst = some .scrubbed ∧ s.bit (rRST_STATUS) 2 = false then { s.releaseCores allCores with coreRst := none } else s
  .next ((List.range 8).foldl (fun s p =>
    if (s.part p).rst = some .scrubbed then (s.releaseCores (s.coresOf p)).modPart p (fun q => { q with rst := none }) else s) s).endRip

/-- CLUSTER_SCRUB_DONE (R360): cluster k, removed from partition p, is scrubbed, and usable by another. -/
def execClusterScrubDone (p k : Fin 8) (s : State) : Host.Outcome State Fault Refusal :=
  if (s.part p.val).scrubCl.contains k.val = false then .next s
  else
    let cs := coresFrom (12 * k.val) 12
    let s := s.modPart p.val (fun q => { q with scrubCl := q.scrubCl.filter (· ≠ k.val) })
    let s := s.setBit (rPART_STATUS p.val) 14 (decide ((s.part p.val).scrubCl ≠ []))
    .next (if s.coreRst = none then (s.scrubCores cs).releaseCores cs else s)

/-- CTRL_RESET (R294): message k of the inbox is a CTRL RESET; from the node that RSTSRC names it performs the Chain reset. -/
def execCtrlReset (k : Nat) (s : State) : Host.Outcome State Fault Refusal :=
  .next (s.takeMsg k (fun x => x.is 8 0 && decide (x.msg.f3 7 0 = 2)) (fun x s =>
    if s.bit (rCHC_RSTSRC) 31 ∧ s.fld (rCHC_RSTSRC) 11 0 = x.msg.src then s.requestCore 0x100 else s.count (rCHC_PROTO) 1))

/-! ## Sources of a system reset (R364, R369, R407) -/

/-- The CXL interface is held in reset, or its link is lost: CXL.LINK reads down (R295, R296), and configuration space is reset. -/
def State.linkDown (s : State) : State := { s.setReg (rCXL_LINK) 0 with bar0 := 0, msix := [], msixPend := [] }

/-- PERST_FALL (R364). -/
def execPerstFall (s : State) : Host.Outcome State Fault Refusal := .next ({ s with perst := false }.linkDown.sysReset 0x2)

/-- PERST_RISE (R369): the CXL interface leaves reset, and its link may train. -/
def execPerstRise (s : State) : Host.Outcome State Fault Refusal := .next { s with perst := true }

/-- HOT_RESET (R364): received on the CXL link. -/
def execHotReset (s : State) : Host.Outcome State Fault Refusal :=
  .next (if s.fld (rCXL_LINK) 3 0 = 0 then s else s.linkDown.sysReset 0x4)

/-- WATCHDOG (R364): the safety firmware has not serviced its watchdog for 2 s. -/
def execWatchdog (s : State) : Host.Outcome State Fault Refusal := .next (s.sysReset 0x8)

/-- NV_WRITE_PULSE_END (R366): a reset delayed for the pulse proceeds, unless the power has failed (R365), and NVDLY
records the delay. -/
def execNvWritePulseEnd (s : State) : Host.Outcome State Fault Refusal :=
  if s.nvPulse = false then .next s
  else match s.rstDelayed with
    | none => .next { s with nvPulse := false }
    | some m =>
      let s := { s with nvPulse := false, rstDelayed := none }
      .next (if s.power.failed then s else (s.sysResetNow m).setBit (rRST_STATUS) 3 true)

/-! ## Start-up (R348 to R351, R368 to R373, R404) -/

/-- SOFT_START (R404): the input has stood at 44 V long enough; the bulk charges. -/
def execSoftStart (s : State) : Host.Outcome State Fault Refusal :=
  .next (if s.phase = .off then { s with phase := .charging } else s)

/-- Every volatile state as at power-on, non-volatile memory, fuses, slots and the clock of manufacture kept (Tables 18-1, 18-9). -/
def State.powerOff (s : State) (p : Phase) : State :=
  let t := ({ s with regs := [] }.toPhase p).loseVolatile
  { t with regs := [], shadows := [], guards := [], mon := ⟨none, [], []⟩, hist := s.nvGood.hist, evlog := s.nvGood.evlog, nvPulse := false,
           rstDelayed := none, power := Power.start s.power.wearNv s.power.capNv, i3cAddr := none,
           sec := { t.sec with activating := false } }

/-- BULK_CHARGED (R404): the switch closes and the safety die leaves reset; a power-on reset (R364), which makes every soft
row repair hard (R233). -/
def execBulkCharged (s : State) : Host.Outcome State Fault Refusal :=
  if s.phase ≠ .charging then .next s
  else
    .next ((List.range 12).foldl (fun (s : State) n =>
      (s.histAdd (hkHard n) (s.histGet (hkSoft n))).histSet (hkSoft n) 0) (s.powerOff .boot))

/-- A record of class HOST of the safety die: the module falls back to the other slot (R349). -/
def State.fallbackRec (s : State) : State := s.record 11 10 0 0 0 7 (s.reg (rSEC_STATUS)).toNat false

/-- Boot slot i, whose SFW is accepted: SEC.STATUS and SEC.SVN show it. -/
def State.bootSlot (s : State) (i : Nat) : State :=
  let x := s.sec
  let s := ((s.setFld (rSEC_STATUS) 1 0 x.lifecycle).setFld (rSEC_STATUS) 2 2 i).setFld (rSEC_SVN) 7 0 x.otp
  let s := s.setFld (rSEC_SVN) 15 8 (imgSvn (x.slot i).sfw)
  { s with phase := .trims, sec := { x with running := some (x.slot i) } }

/-- The DeviceID keys (R351): from the UDS, until it is locked, and the lifecycle state. -/
def State.withDevice (s : State) : State :=
  if s.sec.udsLocked then s
  else
    let x := Config.uds ++ leBytes 4 s.sec.lifecycle
    { s with sec := { s.sec with devEc := Config.expand 0 x, devMl := Config.expand 1 x } }

/-- BOOT_ROM (R348, R349, R351): phase 1. The DeviceID keys are derived. The slot of the boot option word is tried, unless its firmware
has been refused in this boot, then the other; with both refused the module is in recovery. -/
def execBootRom (s : State) : Host.Outcome State Fault Refusal :=
  if s.phase ≠ .boot then .next s
  else
    let s := s.withDevice
    let x := s.sec
    let pref := (x.options[0].get.getD 0).toNat % 2
    let ok (i : Nat) : Bool := x.imageOk (x.slot i).sfw 1
    let back := s.bit (rSEC_STATUS) 3
    if ok pref ∧ !back then .next (s.bootSlot pref)
    else if ok (1 - pref) then
      let s := s.setBit (rSEC_STATUS) 3 true
      .next ((if back then s else s.fallbackRec).bootSlot (1 - pref))
    else .next { s with phase := .recovery }

/-- Whether option word i is good (R371): a copy of it is, and its value lies within Table 18-5. -/
def optionOk (i : Nat) (w : OptWord) : Bool :=
  match w.get with
  | none => false
  | some v =>
    let lo := bitsOf 15 0 v.toNat
    let hi := bitsOf 31 16 v.toNat
    match i with
    | 0 => true
    | 1 => decide (600 ≤ lo ∧ lo ≤ hi ∧ hi ≤ 2800)
    | 2 => decide (10 ≤ lo ∧ lo ≤ 1000)
    | _ => decide (v = 0)

/-- The first option word that is not good. -/
def badOption (o : Vector OptWord 16) : Option Nat :=
  (List.range 16).find? (fun i => !optionOk i (o.toList.getD i (OptWord.both 0)))

/-- A load rewrites the copy of an option word that fails its CRC where the other is good, and records each (Table 16-1). -/
def State.mendOptions (s : State) : State :=
  let half (w : OptWord) : Bool := w.a.isSome != w.b.isSome
  let n := (s.sec.options.toList.filter half).length
  let s := { s with sec := { s.sec with options := s.sec.options.map (fun w => match w.get with | some v => OptWord.both v | none => w) } }
  (List.range n).foldl (fun (s : State) _ => s.nvCorrected) s

/-- CDI0 at the end of phase 2, where the UDS is locked (R351). -/
def State.withCdi0 (s : State) : State :=
  { s with sec := { s.sec with
      cdi0 := Config.hmac384 Config.uds ((s.measure 0).2 ++ (s.measure 1).2 ++ (s.measure 3).2 ++ (s.measure 4).2), udsLocked := true } }

/-- TRIM_LOAD (R371 to R373): phase 2. `crc` is the first record that fails its CRC or a fuse record's own checks, `n` the number of
records read; option word i is record i (log entry 36). -/
def execTrimLoad (crc : Option (Fin 256)) (n : BitVec 8) (s : State) : Host.Outcome State Fault Refusal :=
  if s.phase ≠ .trims then .next s
  else
    let s := s.mendOptions.setFld (rTRIM_STATUS) 15 8 n.toNat
    let bad := match crc, badOption s.sec.options with
      | some c, some o => some (min c.val o)
      | some c, none => some c.val
      | none, o => o
    match bad with
    | none =>
      let s := (List.range 16).foldl (fun (s : State) i => s.setReg (rTRIM_OPT i) (((s.sec.options.toList.getD i (OptWord.both 0)).get).getD 0)) s
      let s := ((s.setBit (rTRIM_STATUS) 0 true).setFld (rTRIM_STATUS) 23 16 0xFF).setFld (rTRIM_FAILS) 1 0 0
      .next { s.withCdi0 with phase := .sfw }
    | some b =>
      let k := min (s.fld (rTRIM_FAILS) 1 0 + 1) 3
      let s := (s.setFld (rTRIM_STATUS) 23 16 b).setFld (rTRIM_FAILS) 1 0 k
      if k = 3 then
        let s := (s.setBit (rTRIM_STATUS) 1 true).setBit (rSEC_STATUS) 4 true
        .next { s.withCdi0 with phase := .sfw }
      else .next ({ s with phase := .sfw }.sysReset 0x200)

/-- The alias keys (R351): both pairs from CDI, which is erased with CDI0. -/
def State.withAlias (s : State) : State :=
  let cdi := Config.hmac384 s.sec.cdi0 ((s.measure 2).2 ++ (s.measure 5).2)
  { s with sec := { s.sec with aliasEc := Config.expand 0 cdi, aliasMl := Config.expand 1 cdi, cdi0 := [] } }

/-- SFW_PHASE (R368): phase 3. CPFW refused sends the ROM to the other slot (R349). In safe mode no later phase runs (R373). -/
def execSfwPhase (s : State) : Host.Outcome State Fault Refusal :=
  if s.phase ≠ .sfw then .next s
  else
    let x := s.sec
    let r := x.running.getD ⟨[], []⟩
    let s := s.loadHistory
    let s := if s.bit (rTRIM_STATUS) 0 then s.loadLimits else s
    if x.imageOk r.cpfw 2 then
      let s := (s.setFld (rSEC_SVN) 23 16 (imgSvn r.cpfw)).withAlias
      if s.bit (rTRIM_STATUS) 1 then .next { s with phase := .safe }
      else .next { (if s.pwrEn then s else s.setFld (rRST_STATUS) 5 4 3) with phase := .rails }
    else if s.bit (rSEC_STATUS) 3 then .next { s with phase := .recovery, sec := { s.sec with running := none } }
    else
      let s := (s.setBit (rSEC_STATUS) 3 true).fallbackRec
      .next { s with phase := .boot, sec := { s.sec with running := none, cdi0 := [] } }

/-- COMPUTE_RAILS (R369): phase 4, once PWR_EN is high; PG is asserted at its end. -/
def execComputeRails (s : State) : Host.Outcome State Fault Refusal :=
  .next (if s.phase = .rails ∧ s.pwrEn then s.toPhase .memory else s)

/-- HBM_TRAINING (R368): phase 5. Every sector of HBM is zero, and the local memories are scrubbed. -/
def execHbmTraining (s : State) : Host.Outcome State Fault Refusal :=
  if s.phase ≠ .memory then .next s
  else
    let s := { s with hbm := Store.zero, hbmPois := [], hbmInj := [], damage := [], memErrs := [], phase := .start }
    let s := (List.range 12).foldl (fun (s : State) n =>
      ((s.setBit (rMC_STATUS n) 0 true).setFld (rMC_PPR n) 7 0 (min 255 (s.histGet (hkSoft n)))).setFld (rMC_PPR n) 15 8
        (min 255 (s.histGet (hkSoft n) + s.histGet (hkHard n)))) s
    .next (s.eachCore allCores (fun k => { k with lm := Store.zero, lmPois := [] }))

/-- The raise of the OTP counter at the first tick (R350); the burn is a non-volatile write, which none starts once a reset waits (R366). -/
def State.raiseSvn (s : State) : State :=
  let r := s.sec.running.getD ⟨[], []⟩
  let m := min (imgSvn r.sfw) (imgSvn r.cpfw)
  if m > s.sec.otp ∧ s.rstDelayed = none then { s.setFld (rSEC_SVN) 7 0 m with sec := { s.sec with otp := m }, nvPulse := true } else s

/-- FIRST_TICK (R370): phase 6 ends with the first tick; frame 0 begins. From S3 the power state left is shown (R375). -/
def execFirstTick (s : State) : Host.Outcome State Fault Refusal :=
  if s.phase ≠ .start then .next s
  else
    let s := { s.setReg64 (rTIME_FRAME) 0 with phase := .run, cycle := 0 }
    let s := if s.fld (rRST_STATUS) 5 4 = 3 then (s.setFld (rRST_STATUS) 5 4 0).setFld (rRST_STATUS) 7 6 3 else s
    .next (s.eachCore allCores (fun k => if k.st = .off ∧ s.fatal = false then { (Core.zero .idle) with cregs := k.cregs } else k)).raiseSvn

/-! ## PWR_EN and S2 (R369, R374 to R376, R407) -/

/-- PWR_EN_RISE (R375): from S3 through start-up. -/
def execPwrEnRise (s : State) : Host.Outcome State Fault Refusal :=
  let s := { s with pwrEn := true }
  .next (if s.phase = .s3 then s.leaveS3 else s)

/-- PWR_EN_FALL (R375, R407): every partition stops at cycle 1,280 and the module is in S3; in phases 4 and 5, and before the first
tick, at once. -/
def execPwrEnFall (s : State) : Host.Outcome State Fault Refusal :=
  let s := { s with pwrEn := false }
  .next (match s.phase with
    | .run => { s with power := { s.power with stopAll := true } }
    | .memory | .start => s.toS3
    | .rails => s.setFld (rRST_STATUS) 5 4 3
    | _ => s)

/-- A core switched off (Table 18-7): its state is lost as after a core reset. -/
def Core.switchOff (k : Core) (gen : Nat) : Core := if k.st = .failed then k else { k.enterReset gen with st := .off }

/-- S2_ENTRY_COMPLETE (R375, R377): compute is off, every port is DOWN, HBM refreshes itself; S2 is in force. The release that a thermal
trip withholds stays withheld (R325). -/
def execS2EntryComplete (s : State) : Host.Outcome State Fault Refusal :=
  if s.psPend ≠ some 2 ∨ s.fld (rRST_STATUS) 5 4 ≥ 2 ∨ s.power.failed then .next s
  else
    let old := s.fld (rRST_STATUS) 5 4
    let s := { s.holdAll with coreRst := if s.bit (rRST_STATUS) 2 then some .held else none, psPend := none }
    let s := s.eachCore allCores (fun k => if k.st = .inReset then { k with st := .off } else k)
    let s := (List.range 12).foldl (fun s p => if s.portSt p = 0 then s else s.dropLink p) s
    let s := (List.range 12).foldl (fun s n => s.setBit (rMC_STATUS n) 1 true) s
    .next ((s.setFld (rRST_STATUS) 5 4 2).setFld (rRST_STATUS) 7 6 old)

/-- S2_EXIT_COMPLETE (R375): HBM serves again and compute is scrubbed; S0 is in force. A reset in progress, such as that of a thermal trip,
goes on to its own scrub and release (R325). -/
def execS2ExitComplete (s : State) : Host.Outcome State Fault Refusal :=
  if s.psPend ≠ some 0 ∨ s.fld (rRST_STATUS) 5 4 ≠ 2 ∨ s.power.failed then .next s
  else
    let s := (List.range 12).foldl (fun s n => s.setBit (rMC_STATUS n) 1 false) { s with psPend := none }
    let s := s.eachCore allCores (fun k => if k.st = .off then { k with st := .inReset } else k)
    let s := if s.coreRst = none then (s.scrubCores allCores).releaseCores allCores else { s with coreRst := some .held }
    .next ((s.setFld (rRST_STATUS) 5 4 0).setFld (rRST_STATUS) 7 6 2)

end Sys2Proof.Machine
end

