-- ==== Sys2Proof/Machine/Power.lean ====
section
/-!
DEFINITION. Power, heat and the Hogshead (spec/15_power.md, R318 to R329). The account is held in nanojoules × 1,300, so that a step
frame of any whole number of cycles is exact (R41, R320); powers of frames come in milliwatts.
-/
namespace Sys2Proof.Machine

/-! ## Measurement and the Hogshead -/

/-- HCAP, 30 J, in the units of `hog`. -/
def hogCap : Int := 30000000000 * 1300

/-- One mJ in the units of `hog`. -/
def hogMJ : Int := 1000000 * 1300

/-- HOG.LEVEL and STATUS.CREDIT show H. The spec gives LEVEL no value where H lies outside a signed 16-bit number of mJ. -/
def State.showHog (s : State) : State :=
  let h := s.power.hog
  let mj := h.fdiv hogMJ
  let lv := if -32768 ≤ mj then (mj % 65536).toNat else Config.freeNat s.freeCtr % 65536
  { (s.setFld (rPWR_HOG) 15 0 lv).setBit (rPWR_STATUS) 0 (decide (h ≥ (s.fld (rPWR_HOG) 31 16 : Int) * hogMJ)) with
    freeCtr := s.freeCtr + 1 }

/-- HOGSHEAD_UPDATE (R318, R320, R326): at the end of a frame, whose mean input power is `p` mW at `vin` mV and `iin` × 10 mA. -/
def execHogsheadUpdate (p vin iin : Nat) (s : State) : Host.Outcome State Fault Refusal :=
  if s.phase ≠ .run then .next s
  else
    let len := match s.step with | some (_, l) => l | none => 1300
    let w := s.power
    let h := min hogCap (w.hog + ((1000 * s.psus : Nat) - (p : Int)) * len)
    let hist := (p :: w.hist).take 64
    let wear := if p > 2400000 then w.wear + 1 else w.wear
    let full := decide (w.frames + 1 = 64000)
    let sum := w.sum + p
    let s := { s with power := { w with hog := h, hist := hist, wear := wear, sum := if full then 0 else sum,
                                        frames := if full then 0 else w.frames + 1 } }
    let s := (s.setFld (rPWR_POWER) 15 0 (p / 1000)).setFld (rPWR_POWER) 31 16 (hist.sum / 64000)
    let s := ((s.setFld (rPWR_INPUT) 15 0 vin).setFld (rPWR_INPUT) 31 16 iin).setReg (rPWR_WEAR) (BitVec.ofNat 32 (wear / 1000000))
    let s := if full then s.setFld (rPWR_TPOWER) 15 0 (sum / 64000 / 10000 * 10) else s
    .next s.showPeak.showHog

/-! ## Decisions at cycle 1,284 -/

/-- An accepted change takes effect (R329). H is unchanged; a PSUS_eff that was not lowered follows PSUS. -/
def State.applyLimit (s : State) (x : Nat × Nat) : State :=
  match x.1 with
  | 1 =>
    let eff := s.fld (rPWR_EFF) 15 0
    let e := if eff = s.psus then x.2 else min eff x.2
    (s.setFld (rPWR_LIMITS) 15 0 x.2).setFld (rPWR_EFF) 15 0 e
  | 2 => s.setFld (rPWR_LIMITS) 31 16 x.2
  | _ => s.setFld (rPWR_HOG) 31 16 x.2

/-- Whether the governor requests rest (R321). -/
def State.wantsRest (s : State) : Bool :=
  let sum := s.power.hist.sum
  let eff := s.fld (rPWR_EFF) 15 0
  decide (s.power.hog < (s.fld (rPWR_HOG) 31 16 : Int) * hogMJ) || decide (sum > 64 * s.peakEff.1)
    || (decide (eff < s.psus) && decide (sum > 64000 * eff))

/-- GOVERNOR_DECISION (R321, R329): accepted changes take effect; then rest is requested of every domain with a partition of this
module, or of none. -/
def execGovernorDecision (s : State) : Host.Outcome State Fault Refusal :=
  if s.phase ≠ .run then .next s
  else
    let s := s.power.accepted.foldl State.applyLimit { s with cycle := s.winCy 1284, power := { s.power with accepted := [] } }
    let s := s.showPeak.showHog
    let r := s.wantsRest
    let s := s.setBit (rPWR_STATUS) 1 r
    .next (if r then
      ((List.range 8).foldl (fun s p =>
        if (s.part p).cfgNow.getLsbD 8 then s.modPart p (fun q => { q with reqRest := true }) else s) s).count64 (rPWR_RESTREQ) 1
      else s)

/-! ## The mailbox (R325, R329, Table 15-4) -/

/-- The value that a limit will have once what is accepted has taken effect. -/
def State.coming (s : State) (cmd now : Nat) : Nat :=
  match s.power.accepted.reverse.find? (fun x => x.1 = cmd) with
  | some x => x.2
  | none => now

/-- RESULT of a request. -/
def State.mailResult (s : State) (cmd arg : Nat) : Nat :=
  match cmd with
  | 1 => if 600 ≤ arg ∧ arg ≤ s.coming 2 s.ppeak then 0 else 2
  | 2 => if s.coming 1 s.psus ≤ arg ∧ arg ≤ 2800 then 0 else 2
  | 3 => if 10 ≤ arg ∧ arg ≤ 1000 then 0 else 2
  | 4 =>
    let tj := s.fld (rPWR_TEMP) 11 0
    if arg ≠ 0 then 2
    else if s.bit (rPWR_STATUS) 3 ∧ (tj ≤ 85 * 8 ∨ 2048 ≤ tj) then 0 else 4
  | _ => 1

/-- MAILBOX_RESULT (R329): the safety firmware answers the request at the head, of the mailbox or of PLDM. -/
def execMailboxResult (s : State) : Host.Outcome State Fault Refusal :=
  match s.power.requests with
  | [] => .next s
  | (pldm, cmd, arg, tag) :: rest =>
    let res := s.mailResult cmd arg
    let w := { s.power with requests := rest }
    let w := if res ≠ 0 then w
      else if cmd = 4 then { w with release := true }
      else { w with accepted := w.accepted ++ [(cmd, arg)] }
    let s := { s with power := w }.setBit (rPWR_MBSTAT) 0 (decide (rest ≠ []))
    .next (if pldm then { s with out := s.out ++ [Output.pldm "PWR" (res + 2 ^ 8 * tag)] }
      else (s.setFld (rPWR_MBSTAT) 7 4 res).setFld (rPWR_MBSTAT) 15 8 tag)

/-! ## Wear (R326) -/

/-- WEAR_CAP (R326): at 7,200,000 s the cap is set for good; not once a reset waits for a pulse (R366). -/
def execWearCap (s : State) : Host.Outcome State Fault Refusal :=
  .next (if s.power.wear ≥ 7200000000000 ∧ s.phase.alive ∧ s.rstDelayed = none then
    { s.setBit (rPWR_STATUS) 4 true with power := { s.power with capNv := true } }.showPeak else s)

/-- WEAR_WRITE (R326): a non-volatile write of the wear count; no pulse starts during another, or once a reset waits (R366). -/
def execWearWrite (s : State) : Host.Outcome State Fault Refusal :=
  .next (if s.phase.alive ∧ s.nvPulse = false then { s with power := { s.power with wearNv := s.power.wear }, nvPulse := true } else s)

/-! ## Heat (R323 to R325) -/

/-- The largest reading and the lowest index that has it. -/
def hottest (l : List Int) : Int × Nat :=
  l.zipIdx.foldl (fun (a : Int × Nat) (x : Int × Nat) => if x.1 > a.1 then x else a) (l.headD 0, 0)

/-- A record of the safety die's own events: class, action, and PWR.STATUS as it stands. -/
def State.powerRec (s : State) (cls action : Nat) : State := s.record cls 0 0 action 0 7 (s.reg (rPWR_STATUS)).toNat false

/-- THERMAL_SAMPLE (R323): the junctions of the eight clusters and the twelve stacks in 0.125 °C, and the two core voltages in mV. -/
def execThermalSample (tj : Vector Int 8) (ts : Vector Int 12) (v : Vector Nat 2) (s : State) : Host.Outcome State Fault Refusal :=
  if s.phase ≠ .run then .next s
  else
    let j := hottest tj.toList
    let k := hottest ts.toList
    let hot := decide (j.1 ≥ 92 * 8 ∨ k.1 ≥ 95 * 8)
    let cool := decide (j.1 < 90 * 8 ∧ k.1 < 93 * 8)
    let first := hot && decide (s.power.hotNow ≠ some true)
    let w := { s.power with
      hotFr := s.power.hotFr + (if hot then 1 else 0), coolFr := s.power.coolFr + (if cool then 1 else 0),
      hotNow := if hot then some true else if cool then some false else none,
      hot105 := if j.1 ≥ 105 * 8 then s.power.hot105 + 1 else 0 }
    let s := { s with power := w, dieTemp := #v[(hottest (tj.toList.take 4)).1, (hottest (tj.toList.drop 4)).1], dieVolt := v }
    let s := s.setReg (rPWR_TEMP) (BitVec.ofNat 32 ((j.1 % 4096).toNat + 2 ^ 12 * j.2 + 2 ^ 16 * (k.1 % 4096).toNat + 2 ^ 28 * k.2))
    let s := (List.range 12).foldl (fun (s : State) n => s.setBit (rMC_STATUS n) 3 (decide ((ts.toList.getD n 0) > 85 * 8))) s
    let s := s.setBit (rPWR_STATUS) 2 hot
    let s := if hot then s.count (rPWR_THROTFR) 1 else s
    .next (if first then (s.raise 0 1).powerRec 12 0 else s)

/-- PSUS_EFF_STEP (R323): after 1,000 frames in a condition PSUS_eff moves by 50 W. -/
def execPsusEffStep (s : State) : Host.Outcome State Fault Refusal :=
  let e := s.fld (rPWR_EFF) 15 0
  .next (if s.power.hotFr ≥ 1000 then
      { s.setFld (rPWR_EFF) 15 0 (max 600 (e - 50)) with power := { s.power with hotFr := s.power.hotFr - 1000 } }
    else if s.power.coolFr ≥ 1000 then
      { s.setFld (rPWR_EFF) 15 0 (min s.psus (e + 50)) with power := { s.power with coolFr := s.power.coolFr - 1000 } }
    else s)

/-- THERMAL_TRIP (R324): two samples in a row at 105 °C; at cycle 1,280 compute stops and goes into a reset whose release is withheld. -/
def execThermalTrip (s : State) : Host.Outcome State Fault Refusal :=
  if s.power.hot105 < 2 ∨ s.bit (rPWR_STATUS) 3 ∨ s.phase ≠ .run ∨ s.power.failed then .next s
  else
    let s := (List.range 8).foldl (fun s p =>
      (((s.endLaunches p).stopPart p (s.lowCore p).val 0 .stopped)).modPart p (fun q => { q with rst := none })) { s with cycle := s.winCy 1280 }
    let s := ((s.setBit (rPWR_STATUS) 3 true).setBit (rRST_STATUS) 2 true).setBit (rSEC_STATUS) 6 true
    let s := { s.cause 0x10 with coreRst := some .stopping }.raise 0 1
    .next (s.powerRec 13 7)

/-! ## The input (R327, R328) -/

/-- VIN_LOW (R327): input between 42 V and 44 V; one record for each excursion. -/
def execVinLow (s : State) : Host.Outcome State Fault Refusal :=
  .next (if s.phase.alive = false ∨ s.power.excursion ∨ s.power.failed then s
    else ({ s.setBit (rPWR_STATUS) 5 true with power := { s.power with excursion := true } }.powerRec 14 0))

/-- VIN_RESTORED (R327): input of 44 V or more ends the excursion. A power failure goes on (R328). -/
def execVinRestored (s : State) : Host.Outcome State Fault Refusal :=
  .next (if s.phase.alive = false ∨ s.power.failed then s
    else { s.setBit (rPWR_STATUS) 5 false with power := { s.power with excursion := false } })

/-- A power failure (R328): every partition is to stop at cycle 1,280, and hold-up writes the records and the wear count. -/
def State.powerFail (s : State) : State :=
  if s.phase = .charging then { s with phase := .off }
  else if s.phase.alive = false ∨ s.power.failed then s
  else
    let s := (s.takeAll.powerRec 14 9).takeAll
    { s.saveHistory with
             power := { s.power with failed := true, stopAll := true, wearNv := s.power.wear } }

/-- POWER_FAILURE (R328): input below 42 V for more than 20 µs. -/
def execPowerFailure (s : State) : Host.Outcome State Fault Refusal := .next s.powerFail

/-- OVERVOLTAGE (R327): input above 57 V for more than 20 µs opens the hot-swap switch, as a power failure. -/
def execOvervoltage (s : State) : Host.Outcome State Fault Refusal := .next s.powerFail

/-- OVERCURRENT (R327): input above 60 A for more than 100 µs opens the hot-swap switch, as a power failure. -/
def execOvercurrent (s : State) : Host.Outcome State Fault Refusal := .next s.powerFail

/-- HOLD_UP_EXPIRY (R328): 15 ms after the failure the module is off, even if the input has recovered. -/
def execHoldUpExpiry (s : State) : Host.Outcome State Fault Refusal :=
  .next (if s.power.failed then s.powerOff .off else s)

end Sys2Proof.Machine
end

