-- ==== Sys2Proof/Machine/Faults.lean ====
section
/-!
DEFINITION. Detected faults and their records (spec/16_faults.md, R330 to R344), scrubbing and repair of memories (spec/11_hbm.md,
R231 to R234; spec/08_layout.md, R162, R163; spec/17_security.md, R361), and the safety die's reporting and history.
-/
namespace Sys2Proof.Machine

/-! ## Faults that detectors report -/

/-- SYNDROME of what the read of a protected word finds (Table 16-6): the check bits, which are free, and the bit corrected or 0xFF. -/
def foundSynd (f : Found) (n : Nat) : Nat :=
  Config.freeNat n % 256 + 2 ^ 8 * (match f with | .corrected b => b.val | _ => 0xFF)

/-- A SECDED error in a core's local memory (R162). -/
def State.localFault (s : State) (c : Fin 96) (off : Nat) (f : Found) : State :=
  match f with
  | .clean => s
  | .corrected _ =>
    let t := s.fresh.modCore c (fun k => k.bump (kLAY_CE) 1)
    (t.errsum c eCE).record 1 (t.unitCore c) 0 1 off 2 (foundSynd f s.freeCtr) false
  | .uncorrectable =>
    let t := s.fresh.modCore c (fun k => { k.bump (kLAY_UE) 1 with lmPois := mapPut false k.lmPois (off / 32) true })
    (t.errsum c eUE).record 2 (t.unitCore c) 0 3 off 2 (foundSynd f s.freeCtr) false

/-- A FATAL fault (R333): every partition stops, nothing more is launched, and the host is told at once. -/
def State.fatalFault (s : State) (unit : Nat) : State :=
  let s := (List.range 8).foldl (fun s p => s.stopPart p (s.lowCore p).val 0 .stopped) s
  let s := { (s.setBit (rERR_STATUS) 3 true).alert true with fatal := true }.raise 0 0
  s.record 15 unit 0 8 0 7 (setBits 13 8 s.errq.length (s.reg (rERR_STATUS))).toNat false

/-- An error in a core's or array's state (R330): corrected, or the partition stops. -/
def State.stateFault (s : State) (c : Fin 96) (array : Option (Fin 5)) (synd : Nat) (fixed : Bool) : State :=
  let unit := match array with | some ph => s.unitArray c ph.val | none => s.unitCore c
  if fixed then (s.errsum c eCE).record 1 unit 0 1 0 4 synd false
  else
    let s := (if (s.core c).shut then s else s.errsum c eUE).record 6 unit 0 4 0 4 synd false
    match s.partOf c with
    | some p => s.stopPart p c.val 0 .stopped
    | none => s

/-- The held contribution `held` of block `b` of a job takes poison (R242). -/
def Job.poisonHeld (j : Job) (b held : Nat) : Job :=
  { j with blocks := j.blocks.map (fun (x : Nat × Block) =>
      if x.1 = b then (x.1, { x.2 with window := x.2.window.mapIdx (fun i (h : HeldC) => if i = held then { h with poison := true } else h) })
      else x) }

/-- An error in the staging memory of Bushel n (R242). -/
def State.stagingFault (s : State) (n : Fin 12) (off : Nat) (job : Fin 16) (b held : Nat) (f : Found) : State :=
  match f with
  | .clean => s
  | .corrected _ => (s.fresh.errsumMod eCE).record 1 (unitMc n.val) 0 1 off 2 (foundSynd f s.freeCtr) false
  | .uncorrectable =>
    let u := s.bushels[n]
    let u := { u with jobs := u.jobs.set job.val (u.jobs[job].poisonHeld b held) }
    let s := { s.fresh with bushels := s.bushels.set n.val u }
    (s.errsumMod eUE).record 2 (unitMc n.val) 0 3 off 2 (foundSynd f (s.freeCtr - 1)) false

/-- Bit i of PMASK in the bytes of a message's header (Table 13-5). -/
def markHeader (i : Nat) (b : List Byte) : List Byte := b.mapIdx (fun j x => if j = 6 then x ||| BitVec.ofNat 8 (2 ^ i) else x)

/-- The message of a buffer's k-th entry with its PMASK bit i set (R276). Of a flit kept for a replay it is the first message that begins
there. -/
def Port.markBuffer (q : Port) (buf : PortBuf) (k i : Nat) : Port :=
  match buf with
  | .out => { q with outq := q.outq.mapIdx (fun j (o : OutMsg) =>
      if j = k then { o with msg := { o.msg with pmask := o.msg.pmask ||| 2 ^ i } } else o) }
  | .part => { q with rx := vput q.rx k (markHeader i (vget q.rx k)) }
  | .replay => { q with replay := q.replay.mapIdx (fun j (t : TxFlit) =>
      if j = k ∧ t.first < 15 then { t with body := t.body.take (16 * t.first) ++ markHeader i (t.body.drop (16 * t.first)) } else t) }
  | .received => q

/-- The buffer without the message of its k-th entry, whose header is lost (R276): a channel that had received a part of one resumes at the
next FIRST, and a flit kept for a replay carries its units as zeros. -/
def Port.dropBuffer (q : Port) (buf : PortBuf) (k : Nat) : Port :=
  match buf with
  | .out => { q with outq := q.outq.eraseIdx k }
  | .part => { q with rx := vput q.rx k [], lost := vput q.lost k true }
  | .replay => { q with replay := q.replay.mapIdx (fun j (t : TxFlit) =>
      if j = k ∧ t.first < 15 then { t with body := t.body.take (16 * t.first) ++ List.replicate (240 - 16 * t.first) 0 } else t) }
  | .received => q

/-- The place in the inbox of the k-th message that port p has received. -/
def State.inboxIx (s : State) (p k : Nat) : Nat :=
  (((List.range s.inbox.length).filter (fun i => s.inbox[i]?.any (fun x => x.port = some p)))[k]?).getD s.inbox.length

/-- An error in a buffer of a Chain port (R276): a marked data sector, or a message discarded for its header. -/
def State.portFault (s : State) (p : Fin 12) (buf : PortBuf) (k : Nat) (sector : Option (Fin 8)) (f : Found) : State :=
  match f with
  | .clean => s
  | .corrected _ => (s.fresh.errsumMod eCE).record 1 (unitPort p.val) 0 1 0 2 (foundSynd f s.freeCtr) false
  | .uncorrectable =>
    let n := s.freeCtr
    let s := s.fresh
    let j := s.inboxIx p.val k
    match sector with
    | some i =>
      let s := if buf = .received then { s with inbox := s.inbox.modify j (fun x => { x with msg := { x.msg with pmask := x.msg.pmask ||| 2 ^ i.val } }) }
        else s.modPort p.val (fun q => q.markBuffer buf k i.val)
      (s.errsumMod eUE).record 2 (unitPort p.val) 0 3 0 2 (foundSynd f n) false
    | none =>
      (if buf = .received then { s with inbox := s.inbox.eraseIdx j } else s.modPort p.val (fun q => q.dropBuffer buf k)).protoRec

/-- Symbols of sector `k` fall into error (R229, R230): the bits given, of each symbol not in error already. -/
def State.addDamage (s : State) (k : Nat) (x : Symbols) : State :=
  let held := (mapFind s.damage k).getD []
  let new := x.errs.foldl (fun (l : List SymErr) e =>
    if e.2.2.val = 0 ∨ l.any (fun q => q.cw = e.1.val ∧ q.sym = e.2.1.val) then l else l ++ [⟨e.1.val, e.2.1.val, e.2.2.val, false⟩]) held
  { s with damage := mapPut [] s.damage k new }

/-- UNIT of the die network, the die bridge (no die) or the control link of a die (Table 16-4). -/
def netUnit (d : Option (Fin 2)) (ctl : Bool) : Nat :=
  match d with
  | none => 9
  | some d => if ctl then 10 else 1 + 16 * d.val + 2 ^ 14 * d.val

/-- A CRC of copy i of the history fails (Table 16-1): the good copy is used, and rewritten over it; with none good both stay bad. -/
def State.historyFault (s : State) (i : Nat) : State :=
  let a := s.nv[0]
  let b := s.nv[1]
  if i = 0 then (if b.good then { s with nv := #v[b, b] }.nvCorrected else { s with nv := #v[{ a with good := false }, b] })
  else if a.good then { s with nv := #v[a, a] }.nvCorrected else { s with nv := #v[a, { b with good := false }] }

/-- The CRC of copy j of option word i fails (R371): a load uses and rewrites the other, if that is good. -/
def State.optionFault (s : State) (i : Fin 16) (j : Fin 2) : State :=
  let w := s.sec.options[i]
  { s with sec := { s.sec with options := s.sec.options.set i.val (if j = 0 then { w with a := none } else { w with b := none }) } }

/-- A fault is detected. -/
def State.detect (s : State) (f : HwFault) : State :=
  match f with
  | .core c a st ix w fixed => s.stateFault c a (st.val + 2 ^ 8 * ix.toNat + 2 ^ 16 * w.toNat) fixed
  | .localMem c off x => if off.toNat < lmEnd then s.localFault c off.toNat x else s
  | .staging n off j b h f => s.stagingFault n off.toNat j b h f
  | .portBuffer p b k x f => s.portFault p b k x f
  | .commandProc p fixed =>
    if fixed then s.record 1 (s.unitCp p.val) 0 1 0 4 0 false else s.fatalFault (s.unitCp p.val)
  | .cxl => s.record 11 7 0 0 0 7 (s.reg (rCXL_LINK)).toNat false
  | .network d ctl true => s.record 1 (netUnit d ctl) 0 1 0 7 (s.reg (rERR_STATUS)).toNat false
  | .network d ctl false => s.fatalFault (netUnit d ctl)
  | .history i => s.historyFault i.val
  | .option i j => s.optionFault i j
  | .hbm n off x => s.addDamage ((2 ^ 37 * n.val + off.toNat) / 32) x
  | .hbmLine n pc line one => { s with memLines := mapSet s.memLines (36 * (32 * n.val + pc.val) + line.val) one }

/-- ERROR_RECORD (R334, R337): a hardware fault, if given, is detected; then record k of those on their way reaches the safety die, or
what R337 numbers before it. -/
def execErrorRecord (k : Nat) (f : Option HwFault) (s : State) : Host.Outcome State Fault Refusal :=
  if s.phase.alive = false then .next s
  else
    let s := match f with | some x => s.detect x | none => s
    .next (match s.errPend[k]? with
      | some r =>
        let i := firstOf s.errPend r
        match s.errPend[i]? with
        | some q => { s with errPend := s.errPend.eraseIdx i }.takeRecord q
        | none => s
      | none => s)

/-! ## The management path and the history (R340, R342) -/

/-- Send the record at the head of the queue (R340), as a PlatformEventMessage of event class 0xF0: acknowledged it leaves the queue, else
its attempts count. -/
def State.mctpSend (s : State) (ack : Bool) : State :=
  match s.errq with
  | [] => s
  | q :: r =>
    { s with out := s.out ++ [Output.mctp 0xF0 q.bytes], errq := if ack then r else { q with attempts := q.attempts + 1 } :: r }

/-- MCTP_DELIVERY (R340): the oldest record is sent for the first time. -/
def execMctpDelivery (ack : Bool) (s : State) : Host.Outcome State Fault Refusal :=
  .next (if s.phase.alive ∧ (s.errq.head?.any (fun q => q.attempts = 0)) then s.mctpSend ack else s)

/-- MCTP_RETRY (R340): 1 s after an attempt without acknowledgement the record is sent again, and after the third it is given up. -/
def execMctpRetry (ack : Bool) (s : State) : Host.Outcome State Fault Refusal :=
  .next (match s.errq with
    | [] => s
    | q :: r =>
      if s.phase.alive = false ∨ q.attempts = 0 then s
      else if q.attempts < 3 then s.mctpSend ack
      else { s with errq := r }.count (rERR_MCTPLOST) 1)

/-- HISTORY_WRITE (R342): the shadow is written to both copies in non-volatile memory; a pulse (R366). -/
def execHistoryWrite (s : State) : Host.Outcome State Fault Refusal :=
  .next (if s.phase.alive ∧ s.nvPulse = false then { s.saveHistory with nvPulse := true } else s)

/-! ## Scrubbing and repair -/

/-- Whether the stacks serve requests: trained, and not in self-refresh. -/
def State.hbmUp (s : State) : Bool := decide (s.phase = .run) && decide (s.fld (rRST_STATUS) 5 4 < 2)

/-- HBM_SCRUB_READ (R231): the patrol scrub of stack n reads the sector at SCRUBPOS, with what it finds in error there. -/
def execHbmScrubRead (n : Fin 12) (x : Option Symbols) (s : State) : Host.Outcome State Fault Refusal :=
  if s.hbmUp = false ∨ s.bit (rMC_SCRUBCTL n.val) 31 = false then .next s
  else
    let pos := s.reg64 (rMC_SCRUBPOS n.val)
    let k := (2 ^ 37 * n.val + pos) / 32
    let s := match x with | some d => s.addDamage k d | none => s
    let s := if mapGet false s.hbmPois k then s.count (rMC_SCRUBPOIS n.val) 1 else (s.decodeSector k true).1
    let last := decide (pos + 32 ≥ 96 * 2 ^ 30)
    let s := s.setReg64 (rMC_SCRUBPOS n.val) (if last then 0 else pos + 32)
    let s := if last then s.count (rMC_SCRUBPASS n.val) 1 else s
    .next (s.setBit (rMC_STATUS n.val) 2 (!last))

/-- LOCAL_PATROL_SCRUB (R163): the word at offset `off` of core c's local memory is read, and what is found corrected or poisoned. -/
def execLocalPatrolScrub (c : Fin 96) (off : BitVec 24) (f : Found) (s : State) : Host.Outcome State Fault Refusal :=
  .next (if s.hbmUp ∧ off.toNat < lmEnd ∧ (s.core c).st ≠ .failed then s.localFault c off.toNat f else s)

/-- A record of class MEMORY of controller n: 1 repair, 2 repair exhausted, 3 line fault (Table 16-6). -/
def State.memRec (s : State) (n off what : Nat) : State :=
  s.record 7 (unitMc n) 0 (if what = 1 then 10 else 0) off 1 ((s.reg (rMC_ERRINFO n)).toNat + 2 ^ 32 * what) false

/-- 24 h in µs. -/
def dayUs : Nat := 86400000000

/-- Whether some 24 h hold at least `n` of these times. -/
def inDay (n : Nat) (ts : List Nat) : Bool :=
  ts.any (fun t => decide (n ≤ (ts.filter (fun u => decide (u ≤ t ∧ t ≤ u + dayUs))).length))

/-- Whether the sectors `ks` of one row class it permanent (R233): an uncorrectable read, or corrected errors at three distinct times
within 24 h, those of a line classed as a fault apart (R234). -/
def State.rowPermanent (s : State) (ks : List Nat) : Bool :=
  let es := s.memErrs.filter (fun e => ks.contains e.key)
  let fixed := es.filter (fun e => e.sym.any (fun y => !s.lineFaults.contains (36 * pcKey e.key + y)))
  es.any (fun e => decide (e.sym = none)) || inDay 3 (fixed.map (·.time)).eraseDups

/-- Whether an error on line `y` in 16 or more of these sectors, one of each row, within 24 h makes it a line fault (R234). -/
def State.lineFaulty (s : State) (ks : List Nat) (y : Nat) : Bool :=
  let hit (k t : Nat) : Bool := s.memErrs.any (fun e => decide (e.key = k ∧ e.sym = some y ∧ e.time ≤ t ∧ t ≤ e.time + dayUs))
  ks.all (fun k => decide (pcKey k = pcKey (ks.headD 0))) && !s.lineFaults.contains (36 * pcKey (ks.headD 0) + y) &&
    s.memErrs.any (fun e => decide (16 ≤ (ks.eraseDups.filter (fun k => hit k e.time)).length))

/-- SOFT_PPR (R233, R234): a row that its errors class permanent, whose sectors on stack n lie at the stack offsets given, is read,
corrected where it can be, remapped and written back; with no spare row it stays as it is. A line fault, for which the offsets name one
sector of each row, is noted and not repaired. Which sectors make a row is the controller's own (R226). -/
def execSoftPpr (n : Fin 12) (row : List (BitVec 37)) (e : RowEnd) (s : State) : Host.Outcome State Fault Refusal :=
  if s.hbmUp = false then .next s
  else
    let off := (row.headD 0).toNat / 32 * 32
    let ks := row.map (fun o => (2 ^ 37 * n.val + o.toNat) / 32)
    match e with
    | .repaired =>
      if s.rowPermanent ks = false then .next s
      else
        let s := ks.foldl (fun (s : State) k =>
          let d := s.decodeSector k false
          d.1.flip d.2) s
        let s := (s.setFld (rMC_PPR n.val) 7 0 (min 255 (s.fld (rMC_PPR n.val) 7 0 + 1))).setFld (rMC_PPR n.val) 15 8
          (min 255 (s.fld (rMC_PPR n.val) 15 8 + 1))
        let s := { s with memErrs := s.memErrs.filter (fun e => !ks.contains e.key),
                          damage := s.damage.filter (fun (x : Nat × List SymErr) => !ks.contains x.1) }
        .next ((s.noteRepair n.val off).memRec n.val off 1)
    | .exhausted =>
      if s.rowPermanent ks = false then .next s
      else .next (((s.setBit (rMC_STATUS n.val) 5 true).setBit (rMC_PPR n.val) 16 true).memRec n.val off 2)
    | .lineFault line =>
      if s.lineFaulty ks line.val = false then .next s
      else
        let s := (s.setBit (rMC_STATUS n.val) 4 true).noteLine n.val (pcKey (ks.headD 0) % 32) line.val
        let s := { s with lineFaults := (36 * pcKey (ks.headD 0) + line.val) :: s.lineFaults }
        .next (s.memRec n.val off 3)

/-! ## Requested scrubs of HBM (R361) -/

/-- What writes of a sector leave that a scrub's write of zeros precedes: the bytes written, as a mask, and their poison. -/
def keptWrites (l : List (Nat × Bool)) : Nat × Bool :=
  l.foldl (fun x w => (x.1 ||| w.1, w.2 || (decide (w.1 ≠ 2 ^ 32 - 1) && x.2))) (0, false)

/-- Write zero, without poison, to every sector of the device range [base, base + len); of the sectors that `keep` names, what the writes
listed, which follow the zeros, leave. Lines there that the host holds are back-invalidated (R303), and an injection armed there is
performed (R240). -/
def State.zeroRange (s : State) (base len : Nat) (keep : List (Nat × List (Nat × Bool))) : State :=
  let inR (key : Nat) : Bool :=
    let a := s.unplace (key / 2 ^ 37) (key % 2 ^ 37)
    decide (base ≤ a ∧ a < base + len)
  let stays (key : Nat) : Bool := !inR key || (keptWrites (mapGet [] keep (key / 32))).1.testBit (key % 32)
  let whole (k : Nat) : Bool := !inR (32 * k) || decide (mapGet [] keep k ≠ [])
  let held := s.hostLines.filter (fun l => inR (64 * l))
  let s := if held = [] then s else s.count64 (rCXL_BISNP) held.length
  let pois := keep.foldl (fun z (e : Nat × List (Nat × Bool)) => mapPut false z e.1 (keptWrites e.2).2)
    (s.hbmPois.filter (fun (e : Nat × Bool) => !inR (32 * e.1)))
  let s := { s with hostLines := s.hostLines.filter (fun l => !inR (64 * l)), snoopIn := s.snoopIn.filter (fun e => !inR (64 * e.1)),
                    hbm := { s.hbm with cells := s.hbm.cells.filter (fun (e : Nat × Byte) => stays e.1) }, hbmPois := pois,
                    hbmInj := s.hbmInj.filter (fun (e : Nat × Bool) => whole e.1),
                    damage := s.damage.filter (fun (e : Nat × List SymErr) => whole e.1) }
  (List.range 12).foldl (fun (s : State) n =>
    let k := hbmKey (s.place (s.reg64 (rMC_INJADDR n))) / 32
    if whole k then s else s.applyInject k) s

/-- HBM_SCRUB_DONE (R361): the requested scrub completes. It has written each sector before, between or after the writes made there
meanwhile: a free choice for each. -/
def execHbmScrubDone (s : State) : Host.Outcome State Fault Refusal :=
  match s.scrub with
  | none => .next s
  | some (base, len) =>
    if s.hbmUp = false then .next s
    else
      let keep := s.scrubW.mapIdx (fun i (x : Nat × List (Nat × Bool)) =>
        (x.1, x.2.drop (Config.freeNat (s.freeCtr + i) % (x.2.length + 1))))
      let n := s.scrubW.length
      let s := s.zeroRange base len (keep.filter (fun x => decide (x.2 ≠ [])))
      .next { (s.setBit (rSEC_SCRUBSTAT) 0 false).setBit (rSEC_SCRUBSTAT) 1 true with
        scrub := none, scrubW := [], freeCtr := s.freeCtr + n }

end Sys2Proof.Machine
end

