-- ==== Sys2Proof/Machine/VecElem.lean ====
section
/-!
DEFINITION. Element-wise, integer, bitwise, compare and predicate instructions of the vector engine (spec/06_vector.md, R115 to
R124, R137).
-/
namespace Sys2Proof.Machine

/-! ## Writing a tile row by row -/

/-- What an instruction writes to one row: elements (none keeps the old one), whether it writes the row whole, its poison
contribution, and its counts of R137. -/
structure RowOut where
  vals : List (Option Nat)
  whole : Bool
  poison : Bool
  cnt : Nat × Nat

/-- Write the rows of tile t in the view of width w. -/
def Core.writeTile (k : Core) (t w : Nat) (g : Nat → RowOut) : Core :=
  let outs := rows32.map (fun r => (r, g r))
  let k := outs.foldl (fun (k : Core) (x : Nat × RowOut) =>
    k.setRow t x.1 (rowUpd w (k.trowNow t x.1) (fun c => (x.2.vals.getD c none))) x.2.whole x.2.poison) k
  k.nfBump (sumCounts (outs.map (fun x => x.2.cnt)))

/-- An element computed where its predicate bit is set: zero bits under ZM, else unchanged (R116). -/
def maskElt (f : Fields) (on : Bool) (v : Nat) : Option Nat := if on then some v else if f.mb 4 then some 0 else none

/-- One row of a predicated element-wise instruction: `val c` gives element c and its counts, `pz` the poison of the tile rows
read (R117). -/
def Core.ewRow (k : Core) (f : Fields) (w r : Nat) (pz : Bool) (val : Nat → Nat × (Nat × Nat)) : RowOut :=
  let on := (List.range (colsOf w)).map (k.predOn f r)
  let outs := (List.range (colsOf w)).map (fun c => if on.getD c false then (some (val c), true) else (none, false))
  { vals := outs.map (fun x => match x.1 with | some v => some v.1 | none => maskElt f false 0)
    whole := f.mb 4 || on.all id
    poison := pz || k.ppz (f.m 2 0) r
    cnt := sumCounts (outs.filterMap (fun x => x.1.map (·.2))) }

/-- Element c of row r of source 2: a tile's, or the scalar of SCAL (R120). -/
def Core.eltB (k : Core) (f : Fields) (w r c : Nat) : Nat :=
  if f.mb 5 then (k.rs f.b).toNat % 2 ^ w else elt w (k.trow f.b.toNat r) c

/-- The poison of row r of source 2; a scalar carries none (R120). -/
def Core.pzB (k : Core) (f : Fields) (r : Nat) : Bool := !f.mb 5 && k.tpz f.b.toNat r

/-! ## Floating point (R121) -/

/-- Round a value once to the format, with its encoding and its counts of R137. -/
def fpOut (fm : Ff) (v : Fv) (ops : List Fv) : Nat × (Nat × Nat) :=
  let e := rnd fm v
  (fencode fm e, nfCount e ops)

/-- One source. -/
def Core.fpMap1 (f : Fields) (g : Fv → Fv) (k : Core) : Core :=
  let fm := ffOf f.fmt.toNat
  let w := fm.bits
  k.writeTile f.dst.toNat w (fun r => k.ewRow f w r (k.tpz f.a.toNat r) (fun c =>
    let a := fdecode fm (elt w (k.trow f.a.toNat r) c)
    fpOut fm (g a) [a]))

/-- Two sources. -/
def Core.fpMap2 (f : Fields) (g : Fv → Fv → Fv) (k : Core) : Core :=
  let fm := ffOf f.fmt.toNat
  let w := fm.bits
  k.writeTile f.dst.toNat w (fun r => k.ewRow f w r (k.tpz f.a.toNat r || k.pzB f r) (fun c =>
    let a := fdecode fm (elt w (k.trow f.a.toNat r) c)
    let b := fdecode fm (k.eltB f w r c)
    fpOut fm (g a b) [a, b]))

/-- Three sources. -/
def Core.fpMap3 (f : Fields) (g : Fv → Fv → Fv → Fv) (k : Core) : Core :=
  let fm := ffOf f.fmt.toNat
  let w := fm.bits
  k.writeTile f.dst.toNat w (fun r => k.ewRow f w r (k.tpz f.a.toNat r || k.pzB f r || k.tpz f.c.toNat r) (fun c =>
    let a := fdecode fm (elt w (k.trow f.a.toNat r) c)
    let b := fdecode fm (k.eltB f w r c)
    let d := fdecode fm (elt w (k.trow f.c.toNat r) c)
    fpOut fm (g a b d) [a, b, d]))

/-- The magnitude of a with the sign of b; NaN if either is (Table 6-3). -/
def copySign (a b : Fv) : Fv := if a.isNan || b.isNan then .nan else if b.sgn then a.abs.neg else a.abs

/-- VADD (R121). -/
def execVadd (i : Issue) (f : Fields) (s : State) : Host.Outcome State Fault Refusal :=
  s.issueCore 0x50 i f (Core.fpMap2 f (fun a b => a.add b))

/-- VSUB (R121). -/
def execVsub (i : Issue) (f : Fields) (s : State) : Host.Outcome State Fault Refusal :=
  s.issueCore 0x51 i f (Core.fpMap2 f (fun a b => a.sub b))

/-- VMUL (R121). -/
def execVmul (i : Issue) (f : Fields) (s : State) : Host.Outcome State Fault Refusal :=
  s.issueCore 0x52 i f (Core.fpMap2 f (fun a b => a.mul b))

/-- VMAX (R121). -/
def execVmax (i : Issue) (f : Fields) (s : State) : Host.Outcome State Fault Refusal :=
  s.issueCore 0x55 i f (Core.fpMap2 f (fun a b => a.max b))

/-- VMIN (R121). -/
def execVmin (i : Issue) (f : Fields) (s : State) : Host.Outcome State Fault Refusal :=
  s.issueCore 0x56 i f (Core.fpMap2 f (fun a b => a.min b))

/-- VCPSGN (R121). -/
def execVcpsgn (i : Issue) (f : Fields) (s : State) : Host.Outcome State Fault Refusal :=
  s.issueCore 0x59 i f (Core.fpMap2 f (fun a b => copySign a b))

/-- VFMA (R121): rounded once. -/
def execVfma (i : Issue) (f : Fields) (s : State) : Host.Outcome State Fault Refusal :=
  s.issueCore 0x53 i f (Core.fpMap3 f (fun a b c => a.fma b c))

/-- VFMS (R121): rounded once. -/
def execVfms (i : Issue) (f : Fields) (s : State) : Host.Outcome State Fault Refusal :=
  s.issueCore 0x54 i f (Core.fpMap3 f (fun a b c => a.neg.fma b c))

/-- VABS (R121). -/
def execVabs (i : Issue) (f : Fields) (s : State) : Host.Outcome State Fault Refusal :=
  s.issueCore 0x57 i f (Core.fpMap1 f Fv.abs)

/-- VNEG (R121). -/
def execVneg (i : Issue) (f : Fields) (s : State) : Host.Outcome State Fault Refusal :=
  s.issueCore 0x58 i f (Core.fpMap1 f Fv.neg)

/-- VMOV (R121): every bit of the elements of any view. -/
def execVmov (i : Issue) (f : Fields) (s : State) : Host.Outcome State Fault Refusal :=
  s.issueCore 0x5A i f (fun k =>
    let w := fmtBits f.fmt.toNat
    k.writeTile f.dst.toNat w (fun r => k.ewRow f w r (k.tpz f.a.toNat r) (fun c => (elt w (k.trow f.a.toNat r) c, (0, 0)))))

/-- One row of a comparison: bit c is its outcome, or the old bit, or 0 under ZM; bits beyond the view are cleared (R115). -/
def Core.cmpRow (k : Core) (f : Fields) (w r : Nat) (test : Nat → Nat → Bool) : BitVec 128 :=
  let old := k.opnd.preds.get Config.freePred (32 * f.dst.toNat + r)
  BitVec.ofNat 128 ((List.range (colsOf w)).foldl (fun n c =>
    n + (if (if k.predOn f r c then test (elt w (k.trow f.a.toNat r) c) (k.eltB f w r c) else !f.mb 4 && old.getLsbD c)
      then 2 ^ c else 0)) 0)

/-- A comparison into predicate dst (R122, R123). -/
def Core.cmpTile (f : Fields) (w : Nat) (test : Nat → Nat → Bool) (k : Core) : Core :=
  let outs := rows32.map (fun r => (r, k.cmpRow f w r test))
  outs.foldl (fun (m : Core) (x : Nat × BitVec 128) =>
    m.setPRow f.dst.toNat x.1 x.2 (f.mb 4 || (List.range (colsOf w)).all (k.predOn f x.1))
      (k.tpz f.a.toNat x.1 || k.pzB f x.1 || k.ppz (f.m 2 0) x.1)) k

/-- VCMP (R122). -/
def execVcmp (i : Issue) (f : Fields) (s : State) : Host.Outcome State Fault Refusal :=
  let fm := ffOf f.fmt.toNat
  s.issueCore 0x5B i f (Core.cmpTile f fm.bits (fun a b => fcond (f.m 17 14) (fdecode fm a) (fdecode fm b)))

/-- VSEL (R122): a where the predicate bit is 1, else b; every element is written. -/
def execVsel (i : Issue) (f : Fields) (s : State) : Host.Outcome State Fault Refusal :=
  s.issueCore 0x5C i f (fun k =>
    let w := fmtBits f.fmt.toNat
    k.writeTile f.dst.toNat w (fun r =>
      { vals := (List.range (colsOf w)).map (fun c =>
          some (elt w (k.trow (if k.predOn f r c then f.a.toNat else f.b.toNat) r) c))
        whole := true
        poison := k.tpz f.a.toNat r || k.tpz f.b.toNat r || k.ppz (f.m 2 0) r
        cnt := (0, 0) }))

/-! ## Integers and bits (R123) -/

/-- The integer an element holds: signed, or unsigned with UNS. -/
def intOf (f : Fields) (w v : Nat) : Int := if f.mb 29 then (v : Int) else sint w v

/-- A two-source integer or bitwise operation. -/
def Core.intMap2 (f : Fields) (g : Nat → Nat → Nat → Nat) (k : Core) : Core :=
  let w := fmtBits f.fmt.toNat
  k.writeTile f.dst.toNat w (fun r => k.ewRow f w r (k.tpz f.a.toNat r || k.pzB f r) (fun c =>
    (g w (elt w (k.trow f.a.toNat r) c) (k.eltB f w r c), (0, 0))))

/-- VIADD (R123). -/
def execViadd (i : Issue) (f : Fields) (s : State) : Host.Outcome State Fault Refusal :=
  s.issueCore 0x60 i f (Core.intMap2 f (fun w => fun a b => (a + b) % 2 ^ w))

/-- VISUB (R123). -/
def execVisub (i : Issue) (f : Fields) (s : State) : Host.Outcome State Fault Refusal :=
  s.issueCore 0x61 i f (Core.intMap2 f (fun w => fun a b => (a + 2 ^ w - b) % 2 ^ w))

/-- VIMUL (R123). -/
def execVimul (i : Issue) (f : Fields) (s : State) : Host.Outcome State Fault Refusal :=
  s.issueCore 0x62 i f (Core.intMap2 f (fun w => fun a b => a * b % 2 ^ w))

/-- VIMAX (R123). -/
def execVimax (i : Issue) (f : Fields) (s : State) : Host.Outcome State Fault Refusal :=
  s.issueCore 0x63 i f (Core.intMap2 f (fun w => fun a b => if intOf f w a < intOf f w b then b else a))

/-- VIMIN (R123). -/
def execVimin (i : Issue) (f : Fields) (s : State) : Host.Outcome State Fault Refusal :=
  s.issueCore 0x64 i f (Core.intMap2 f (fun w => fun a b => if intOf f w b < intOf f w a then b else a))

/-- VAND (R123). -/
def execVand (i : Issue) (f : Fields) (s : State) : Host.Outcome State Fault Refusal :=
  s.issueCore 0x65 i f (Core.intMap2 f (fun _ => fun a b => a &&& b))

/-- VOR (R123). -/
def execVor (i : Issue) (f : Fields) (s : State) : Host.Outcome State Fault Refusal :=
  s.issueCore 0x66 i f (Core.intMap2 f (fun _ => fun a b => a ||| b))

/-- VXOR (R123). -/
def execVxor (i : Issue) (f : Fields) (s : State) : Host.Outcome State Fault Refusal :=
  s.issueCore 0x67 i f (Core.intMap2 f (fun _ => fun a b => a ^^^ b))

/-- VANDN (R123). -/
def execVandn (i : Issue) (f : Fields) (s : State) : Host.Outcome State Fault Refusal :=
  s.issueCore 0x68 i f (Core.intMap2 f (fun w => fun a b => a &&& (2 ^ w - 1 - b)))

/-- VSHL (R123): b is an unsigned n-bit amount; n or more gives 0 (R70). -/
def execVshl (i : Issue) (f : Fields) (s : State) : Host.Outcome State Fault Refusal :=
  s.issueCore 0x6A i f (Core.intMap2 f (fun w => fun a b => if b < w then a * 2 ^ b % 2 ^ w else 0))

/-- VSHR (R123): an amount of n or more gives 0, or all sign bits when arithmetic (R70). -/
def execVshr (i : Issue) (f : Fields) (s : State) : Host.Outcome State Fault Refusal :=
  s.issueCore 0x6B i f (Core.intMap2 f (fun w => fun a b => wrap w (intOf f w a / 2 ^ (min b w))))

/-- VNOT (R123). -/
def execVnot (i : Issue) (f : Fields) (s : State) : Host.Outcome State Fault Refusal :=
  s.issueCore 0x69 i f (fun k =>
    let w := fmtBits f.fmt.toNat
    k.writeTile f.dst.toNat w (fun r => k.ewRow f w r (k.tpz f.a.toNat r)
      (fun c => (2 ^ w - 1 - elt w (k.trow f.a.toNat r) c, (0, 0)))))

/-- VICMP (R123). -/
def execVicmp (i : Issue) (f : Fields) (s : State) : Host.Outcome State Fault Refusal :=
  let w := fmtBits f.fmt.toNat
  s.issueCore 0x6C i f (Core.cmpTile f w (fun a b => icond (f.m 17 14) (intOf f w a) (intOf f w b)))

/-- VIOTA (R123): s + r × C + c modulo 2^n, not predicated. -/
def execViota (i : Issue) (f : Fields) (s : State) : Host.Outcome State Fault Refusal :=
  s.issueCore 0x6D i f (fun k =>
    let w := fmtBits f.fmt.toNat
    k.writeTile f.dst.toNat w (fun r =>
      { vals := (List.range (colsOf w)).map (fun c => some (((k.rs f.a).toNat + r * colsOf w + c) % 2 ^ w))
        whole := true, poison := false, cnt := (0, 0) }))

/-! ## Predicates (R124) -/

/-- Combine two predicates bit by bit; the poison of a row is the OR of the source rows. -/
def Core.predMap (f : Fields) (two : Bool) (g : BitVec 128 → BitVec 128 → BitVec 128) (k : Core) : Core :=
  rows32.foldl (fun (m : Core) r =>
    m.setPRow f.dst.toNat r (g (k.prow f.a.toNat r) (k.prow f.b.toNat r)) true
      (k.ppz f.a.toNat r || (two && k.ppz f.b.toNat r))) k

/-- PAND (R124). -/
def execPand (i : Issue) (f : Fields) (s : State) : Host.Outcome State Fault Refusal :=
  s.issueCore 0x70 i f (Core.predMap f true (fun a b => a &&& b))

/-- POR (R124). -/
def execPor (i : Issue) (f : Fields) (s : State) : Host.Outcome State Fault Refusal :=
  s.issueCore 0x71 i f (Core.predMap f true (fun a b => a ||| b))

/-- PXOR (R124). -/
def execPxor (i : Issue) (f : Fields) (s : State) : Host.Outcome State Fault Refusal :=
  s.issueCore 0x72 i f (Core.predMap f true (fun a b => a ^^^ b))

/-- PANDN (R124). -/
def execPandn (i : Issue) (f : Fields) (s : State) : Host.Outcome State Fault Refusal :=
  s.issueCore 0x73 i f (Core.predMap f true (fun a b => a &&& ~~~b))

/-- PNOT (R124). -/
def execPnot (i : Issue) (f : Fields) (s : State) : Host.Outcome State Fault Refusal :=
  s.issueCore 0x74 i f (Core.predMap f false (fun a _ => ~~~a))

/-- The bits set in a predicate, in the view of the format code; a row holds 128 bits (R115). -/
def Core.predCount (k : Core) (f : Fields) : Nat :=
  let n := min 128 (colsOf (fmtBits f.fmt.toNat))
  (rows32.map (fun r => ((List.range n).filter (fun c => (k.prow f.a.toNat r).getLsbD c)).length)).sum

/-- Move a value of predicate source 1 to a scalar register: any poisoned row is consumed and stops the partition (R118). -/
def State.predMove (s : State) (op : Nat) (i : Issue) (f : Fields) (g : Nat → Nat) : Host.Outcome State Fault Refusal :=
  s.issue op i f (fun m s =>
    if rows32.any ((s.core m).ppz f.a.toNat) then s.poisonUse m 8 (s.opOf m op) 0
    else s.modCore m (fun k => k.setS f.dst (BitVec.ofNat 64 (g (k.predCount f)))))

/-- PANY (R124): 1 if any bit of the view is set. -/
def execPany (i : Issue) (f : Fields) (s : State) : Host.Outcome State Fault Refusal :=
  s.predMove 0x75 i f (fun n => if n = 0 then 0 else 1)

/-- PCOUNT (R124): the number of bits set in the view. -/
def execPcount (i : Issue) (f : Fields) (s : State) : Host.Outcome State Fault Refusal := s.predMove 0x76 i f id

end Sys2Proof.Machine
end

