-- ==== Sys2Proof/Machine/VecReduce.lean ====
section
/-!
DEFINITION. Reductions of the vector engine (spec/06_vector.md, R127 to R129).
-/
namespace Sys2Proof.Machine

/-- The accumulation format of a reduction (R127). -/
inductive AccF where
  | f64 | f32 | i64 | i32
deriving DecidableEq, Repr

/-- Whether the source of a reduction is an integer: SUB bit 3, or plain INT8. -/
def redInt (f : Fields) : Bool := f.m 17 14 = 8 || (f.fmt.toNat = 7 && !f.mb 13)

def redAcc (f : Fields) : AccF :=
  if redInt f then (if f.m 17 14 = 8 && f.fmt.toNat = 0 then .i64 else .i32)
  else if f.fmt.toNat = 0 then .f64 else .f32

/-- The floating-point format of an accumulation. -/
def AccF.ff : AccF → Ff
  | .f64 => .fp64
  | _ => .fp32

/-- Width in bits of a result in the destination view: 64 for FP64 and INT64, else 32 (R129). -/
def AccF.bits : AccF → Nat
  | .f64 => 64 | .i64 => 64 | _ => 32

/-- A computed element in its accumulation format: a value, or an integer. -/
inductive RElt where
  | f (v : Fv)
  | i (n : Int)
deriving DecidableEq, Repr

/-- Element (r, c) of the source where its predicate bit is set (R127). -/
def Core.redElt (k : Core) (f : Fields) (r c : Nat) : Option RElt :=
  if k.predOn f r c then
    let w := fmtBits f.fmt.toNat
    let raw := elt w (k.trow f.a.toNat r) c
    if redInt f then some (.i (sint w raw))
    else if redScaled f then
      some (.f (rnd .fp32 (scaledVal f.fmt.toNat raw (elt 8 (k.trow f.b.toNat r) (c / 32)))))
    else some (.f (fdecode (ffOf f.fmt.toNat) raw))
  else none

/-- The pairwise tree over 2^d elements from `lo` (R127). -/
def treeSum (add : RElt → RElt → RElt) (x : Nat → RElt) : Nat → Nat → RElt
  | 0, lo => x lo
  | d + 1, lo => add (treeSum add x d lo) (treeSum add x d (lo + 2 ^ d))

/-- One addition of the tree, rounded or wrapped to the accumulation format. -/
def redAdd (a : AccF) : RElt → RElt → RElt
  | .f x, .f y => .f (rnd a.ff (x.add y))
  | .i x, .i y => .i (sint a.bits (wrap a.bits (x + y)))
  | x, _ => x

/-- The square of an element, rounded or wrapped once (R127). -/
def redSq (a : AccF) : RElt → RElt
  | .f x => .f (rnd a.ff (x.mul x))
  | .i n => .i (sint a.bits (wrap a.bits (n * n)))

/-- The identity of a sum (R128). -/
def sumId (a : AccF) : RElt :=
  match a with
  | .f64 | .f32 => .f (.fin true 0)
  | _ => .i 0

/-- The identities of a maximum and a minimum (R128). -/
def extId (a : AccF) (mx : Bool) : RElt :=
  match a with
  | .f64 | .f32 => .f (.inf mx)
  | a => .i (if mx then -(2 ^ (a.bits - 1)) else 2 ^ (a.bits - 1) - 1)

/-- The maximum or minimum of two elements (R69). -/
def redExt (mx : Bool) : RElt → RElt → RElt
  | .f x, .f y => .f (if mx then x.max y else x.min y)
  | .i x, .i y => .i (if mx then max x y else min x y)
  | x, _ => x

/-- A sum of a sequence, of its squares when `sq`. -/
def foldSum (a : AccF) (sq : Bool) (xs : List (Option RElt)) : RElt :=
  let x := fun (n : Nat) => match xs.getD n none with
    | some e => if sq then redSq a e else e
    | none => sumId a
  treeSum (redAdd a) x (Nat.log2 xs.length) 0

/-- A maximum or minimum of a sequence. -/
def foldExt (a : AccF) (mx : Bool) (xs : List (Option RElt)) : RElt :=
  (xs.filterMap id).foldl (redExt mx) (extId a mx)

/-- Whether element y is above element x. -/
def rGt : RElt → RElt → Bool
  | .f y, .f x => x.lt y
  | .i y, .i x => decide (x < y)
  | _, _ => false

def RElt.isNan : RElt → Bool
  | .f v => v.isNan
  | _ => false

/-- VRARGMAX of a sequence (R128): the first NaN, else the first element equal to the maximum, else 0xFFFF_FFFF. -/
def foldArg (xs : List (Option RElt)) : Nat :=
  match xs.findIdx? (fun x => match x with | some e => e.isNan | none => false) with
  | some n => n
  | none =>
    match (xs.zipIdx).foldl (fun (b : Option (RElt × Nat)) x => match x.1, b with
        | some e, none => some (e, x.2)
        | some e, some m => if rGt e m.1 then some (e, x.2) else b
        | none, _ => b) none with
    | some m => m.2
    | none => 0xFFFFFFFF

/-- The bits of a result in the destination view. -/
def redBits (a : AccF) : RElt → Nat
  | .f v => fencode a.ff v
  | .i n => wrap a.bits n

/-- The counts of R137 of a result. -/
def redCount (r : RElt) (xs : List (Option RElt)) : Nat × Nat :=
  match r with
  | .f v => nfCount v (xs.filterMap (fun x => match x with | some (.f y) => some y | _ => none))
  | _ => (0, 0)

/-- The sequences of a reduction: rows for AXIS 0, columns for AXIS 1. -/
def Core.redSeqs (k : Core) (f : Fields) : List (List (Option RElt)) :=
  let n := colsOf (fmtBits f.fmt.toNat)
  if f.mb 9 then (List.range n).map (fun c => rows32.map (fun r => k.redElt f r c))
  else rows32.map (fun r => (List.range n).map (fun c => k.redElt f r c))

/-- The poison of source row r (R117, R127). -/
def Core.redPz (k : Core) (f : Fields) (r : Nat) : Bool := k.tpz f.a.toNat r || (redScaled f && k.tpz f.b.toNat r)

/-- A reduction with fold `g`, which answers the bits and the counts of each sequence (R129). `bits` is the destination view. -/
def Core.reduce (f : Fields) (bits : Nat) (g : List (Option RElt) → Nat × (Nat × Nat)) (k : Core) : Core :=
  let outs := (k.redSeqs f).map g
  let dc := colsOf bits
  let idx := f.m 22 18
  if f.mb 9 then
    let z := rows32.any (k.redPz f)
    let rows := (List.range ((outs.length + dc - 1) / dc)).map (idx + ·)
    let k := rows.foldl (fun (m : Core) r =>
      let part := (outs.drop ((r - idx) * dc)).take dc
      m.setRow f.dst.toNat r (rowUpd bits (m.trowNow f.dst.toNat r) (fun c => (part[c]?).map (·.1)))
        (decide (part.length = dc)) z) k
    k.nfBump (sumCounts (outs.map (·.2)))
  else
    k.writeTile f.dst.toNat bits (fun r =>
      let o := outs.getD r (0, (0, 0))
      { vals := List.replicate idx none ++ [some o.1], whole := false, poison := k.redPz f r, cnt := o.2 })

/-- A sum or an extreme: its result in the accumulation format. -/
def redOut (f : Fields) (g : AccF → List (Option RElt) → RElt) (xs : List (Option RElt)) : Nat × (Nat × Nat) :=
  let r := g (redAcc f) xs
  (redBits (redAcc f) r, redCount r xs)

/-- VRSUM (R127 to R129): the pairwise tree of the elements. -/
def execVrsum (i : Issue) (f : Fields) (s : State) : Host.Outcome State Fault Refusal :=
  s.issueCore 0x80 i f (Core.reduce f (redAcc f).bits (redOut f (fun a => foldSum a false)))

/-- VRSSQ (R127 to R129): the tree of their squares. -/
def execVrssq (i : Issue) (f : Fields) (s : State) : Host.Outcome State Fault Refusal :=
  s.issueCore 0x81 i f (Core.reduce f (redAcc f).bits (redOut f (fun a => foldSum a true)))

/-- VRMAX (R127 to R129): the maximum. -/
def execVrmax (i : Issue) (f : Fields) (s : State) : Host.Outcome State Fault Refusal :=
  s.issueCore 0x82 i f (Core.reduce f (redAcc f).bits (redOut f (fun a => foldExt a true)))

/-- VRMIN (R127 to R129): the minimum. -/
def execVrmin (i : Issue) (f : Fields) (s : State) : Host.Outcome State Fault Refusal :=
  s.issueCore 0x83 i f (Core.reduce f (redAcc f).bits (redOut f (fun a => foldExt a false)))

/-- VRARGMAX (R128): the index as an INT32, in the view of the accumulation format (R129). -/
def execVrargmax (i : Issue) (f : Fields) (s : State) : Host.Outcome State Fault Refusal :=
  s.issueCore 0x84 i f (Core.reduce f (redAcc f).bits (fun xs => (foldArg xs, (0, 0))))

end Sys2Proof.Machine
end

