-- ==== Sys2Proof/Machine/FuncUnit.lean ====
section
/-!
DEFINITION. The instructions of the function unit: published functions, VDIV, VTBL and VRSTAT (spec/07_functions.md, R140 to R156).
-/
namespace Sys2Proof.Machine

/-- The computed elements of an instruction, for CNT.SFRES (R140). -/
def Core.computed (k : Core) (f : Fields) (w : Nat) : Nat :=
  (rows32.map (fun r => ((List.range (colsOf w)).filter (k.predOn f r)).length)).sum

/-- A published function over the tile (R140, R141). -/
def Core.fnMap (f : Fields) (g : Fn) (k : Core) : Core :=
  let d := ffOf f.fmt.toNat
  let w := d.bits
  (k.writeTile f.dst.toNat w (fun r => k.ewRow f w r (k.tpz f.a.toNat r) (fun c =>
    let a := fdecode d (elt w (k.trow f.a.toNat r) c)
    let v := fnEval g d a
    (fencode d v, nfCount v [a])))).bump (kCNT_SFRES) (k.computed f w)

/-- VEXP2 (Table 7-1). -/
def execVexp2 (i : Issue) (f : Fields) (s : State) : Host.Outcome State Fault Refusal :=
  s.issueCore 0xA0 i f (Core.fnMap f .exp2)

/-- VEXP (Table 7-1). -/
def execVexp (i : Issue) (f : Fields) (s : State) : Host.Outcome State Fault Refusal :=
  s.issueCore 0xA1 i f (Core.fnMap f .exp)

/-- VLOG2 (Table 7-1). -/
def execVlog2 (i : Issue) (f : Fields) (s : State) : Host.Outcome State Fault Refusal :=
  s.issueCore 0xA2 i f (Core.fnMap f .log2)

/-- VLOG (Table 7-1). -/
def execVlog (i : Issue) (f : Fields) (s : State) : Host.Outcome State Fault Refusal :=
  s.issueCore 0xA3 i f (Core.fnMap f .log)

/-- VRCP (Table 7-1). -/
def execVrcp (i : Issue) (f : Fields) (s : State) : Host.Outcome State Fault Refusal :=
  s.issueCore 0xA4 i f (Core.fnMap f .rcp)

/-- VRSQRT (Table 7-1). -/
def execVrsqrt (i : Issue) (f : Fields) (s : State) : Host.Outcome State Fault Refusal :=
  s.issueCore 0xA5 i f (Core.fnMap f .rsqrt)

/-- VSQRT (Table 7-1). -/
def execVsqrt (i : Issue) (f : Fields) (s : State) : Host.Outcome State Fault Refusal :=
  s.issueCore 0xA6 i f (Core.fnMap f .sqrt)

/-- VSIN (Table 7-1). -/
def execVsin (i : Issue) (f : Fields) (s : State) : Host.Outcome State Fault Refusal :=
  s.issueCore 0xA7 i f (Core.fnMap f .sin)

/-- VCOS (Table 7-1). -/
def execVcos (i : Issue) (f : Fields) (s : State) : Host.Outcome State Fault Refusal :=
  s.issueCore 0xA8 i f (Core.fnMap f .cos)

/-- VTANH (Table 7-1). -/
def execVtanh (i : Issue) (f : Fields) (s : State) : Host.Outcome State Fault Refusal :=
  s.issueCore 0xA9 i f (Core.fnMap f .tanh)

/-- VSIG (Table 7-1). -/
def execVsig (i : Issue) (f : Fields) (s : State) : Host.Outcome State Fault Refusal :=
  s.issueCore 0xAA i f (Core.fnMap f .sig)

/-- VERF (Table 7-1). -/
def execVerf (i : Issue) (f : Fields) (s : State) : Host.Outcome State Fault Refusal :=
  s.issueCore 0xAB i f (Core.fnMap f .erf)

/-- VSOFTP (Table 7-1). -/
def execVsoftp (i : Issue) (f : Fields) (s : State) : Host.Outcome State Fault Refusal :=
  s.issueCore 0xAC i f (Core.fnMap f .softp)

/-- VDIV (R145). -/
def execVdiv (i : Issue) (f : Fields) (s : State) : Host.Outcome State Fault Refusal :=
  s.issueCore 0xAD i f (fun k =>
    let d := ffOf f.fmt.toNat
    let w := d.bits
    (k.writeTile f.dst.toNat w (fun r => k.ewRow f w r (k.tpz f.a.toNat r || k.tpz f.b.toNat r) (fun c =>
      let a := fdecode d (elt w (k.trow f.a.toNat r) c)
      let b := fdecode d (elt w (k.trow f.b.toNat r) c)
      let v := divEval d a b
      (fencode d v, nfCount v [a, b])))).bump (kCNT_SFRES) (k.computed f w))

/-! ## User tables (R148, R150, R153) -/

/-- An FP32 word of a table image. -/
def Table.word (t : Table) (off : Nat) : Fv := fdecode .fp32 (leNat ((t.image.drop off).take 4))

/-- A lookup (R150). -/
def Table.lookup (t : Table) (d : Ff) (x : Fv) : Fv :=
  if x.isNan then .nan
  else
    let p := tblPos (t.word 3072) (t.word 3076) (leNat ((t.image.drop 3080).take 4) = 1) x
    rnd d (interp (t.word (12 * p.1), t.word (12 * p.1 + 4), t.word (12 * p.1 + 8)) p.2)

/-- TBL.FAULT with its slot, a program fault of the vector engine. -/
def State.tblFault (s : State) (c : Fin 96) (cause slot op : Nat) : State :=
  let s := s.modCore c (fun k => k.faultReg (kTBL_FAULT) (cause + 16 * slot))
  s.progFault c 3 (kTBL_FAULT) op 0

/-- The slot a table-slot field names. -/
def Core.tslot (k : Core) (n : Nat) : TSlot := k.tslots[n % 8]'(by omega)

/-- VTBL (R150): a slot with no active table is a program fault (R153). -/
def execVtbl (i : Issue) (f : Fields) (s : State) : Host.Outcome State Fault Refusal :=
  s.issue 0xAE i f (fun m s =>
    match ((s.core m).tslot f.b.toNat).active with
    | none => s.tblFault m 1 f.b.toNat (s.opOf m 0xAE)
    | some t => s.modCore m (fun k =>
      let d := ffOf f.fmt.toNat
      let w := d.bits
      (k.writeTile f.dst.toNat w (fun r => k.ewRow f w r (k.tpz f.a.toNat r || t.poison) (fun c =>
        let a := fdecode d (elt w (k.trow f.a.toNat r) c)
        let v := t.lookup d a
        (fencode d v, nfCount v [a])))).bump (kCNT_SFRES) (k.computed f w)))

/-! ## Row statistics (R154, R155) -/

/-- An exact quotient by a positive number; by 0 it is NaN (R155). -/
def Fv.divNat (v : Fv) (n : Nat) : Fv :=
  if n = 0 then .nan
  else match v with
    | .fin s q => .fin s (q / n)
    | x => x

/-- The four values of a row (R154, R155), and whether the variance was clamped. -/
def rowStat (pivot : Bool) (xs : List (Option Fv)) : List Fv × Bool :=
  let live := xs.filterMap id
  let n := live.length
  let x0 : Fv := if pivot then live.headD (.fin false 0) else .fin false 0
  let ys := xs.map (fun x => x.map (fun v => RElt.f (if pivot then rnd .fp32 (v.sub x0) else v)))
  let val := fun (e : RElt) => match e with | .f v => v | .i _ => .nan
  let s1 := val (foldSum .f32 false ys)
  let s2 := val (foldSum .f32 true ys)
  if n = 0 then ([s1, s2, .nan, .nan], false)
  else
    let mean := rnd .fp32 (if pivot then x0.add (s1.divNat n) else s1.divNat n)
    let q := rnd .fp32 (s1.mul s1)
    let d := rnd .fp32 (s2.sub (q.divNat n))
    let v := rnd .fp32 (d.divNat n)
    let clamp := v.sgn
    ([s1, s2, mean, if clamp then .fin false 0 else v], clamp)

/-- Row statistics of a tile: the four values of each row from column IDX of dst on, clamped variances counted (R154, R155). -/
def Core.rowStats (f : Fields) (k : Core) : Core :=
  let d := ffOf f.fmt.toNat
  let w := d.bits
  let rows := rows32.map (fun r =>
    let xs := (List.range (colsOf w)).map (fun c =>
      if k.predOn f r c then some (fdecode d (elt w (k.trow f.a.toNat r) c)) else none)
    (r, rowStat (f.m 17 14 = 1) xs, xs.filterMap id))
  let row := fun (r : Nat) => (rows.getD r (0, ([], false), [])).2
  let clamps := (rows.filter (fun x => x.2.1.2)).length
  ((k.writeTile f.dst.toNat 32 (fun r =>
    { vals := List.replicate (f.m 22 18) none ++ (row r).1.1.map (fun v => some (fencode .fp32 v))
      whole := false
      poison := k.tpz f.a.toNat r || k.ppz (f.m 2 0) r
      cnt := sumCounts ((row r).1.1.map (fun v => nfCount v (row r).2)) })).bump (kTBL_VCLAMP) clamps).bump
    (kCNT_SFRES) (k.computed f w)

/-- VRSTAT (R154). -/
def execVrstat (i : Issue) (f : Fields) (s : State) : Host.Outcome State Fault Refusal :=
  s.issueCore 0xAF i f (Core.rowStats f)

end Sys2Proof.Machine
end

