-- ==== Sys2Proof/Machine/Layout.lean ====
section
/-!
DEFINITION. The layout engine: validation of descriptors, LDESC, LXFER and the execution of a transfer (spec/08_layout.md, R166 to
R181; spec/14_host.md, R310).
-/
namespace Sys2Proof.Machine

/-! ## Validation (R174, Table 8-4) -/

/-- Whether a descriptor format code is permitted (R167). -/
def fmtOk (c : Nat) : Bool := c ≤ 5 || c = 7 || c = 8

/-- Reason 2: formats, conversion pair, RM (R173). -/
def Desc.badFmt (d : Desc) : Bool :=
  let s := d.sfmt
  let t := d.dfmt
  let int := fun (c : Nat) => decide (c = 7 ∨ c = 8)
  !fmtOk s || !fmtOk t || d.rm = 3
    || (if s = t ∨ (int s ∧ int t) then d.rm ≠ 0
        else !(wideSide s || wideSide t) || (d.rm = 1 && widening s t false) || (d.rm = 2 && !(int t && !int s)))

/-- Whether some padding is set. -/
def Desc.padOn (d : Desc) (k : Nat) : Bool := d.plo.getD k 0 ≠ 0 || d.phi.getD k 0 ≠ 0

/-- Reason 3 (R170). -/
def Desc.badPad (d : Desc) : Bool :=
  (List.range 5).any (fun k => d.padOn k && (decide (k ≥ d.ndim) || d.lmode = 2))

/-- Reason 4 (R171). -/
def Desc.badList (d : Desc) : Bool :=
  d.lmode = 3 || ((d.lmode = 1 || d.lmode = 2) &&
    (d.ldim = 0 || decide (d.ldim ≥ d.ndim) || d.llimit = 0 || d.laddr % 4 ≠ 0
      || decide (d.laddr + 4 * d.n.getD d.ldim 0 > lmEnd)))

/-- Reason 10: space 3 or a reserved field (Table 8-3). -/
def Desc.badResv (d : Desc) : Bool :=
  d.sspace = 3 || d.dspace = 3 || bitsOf 7 7 d.ctrl0 ≠ 0 || bitsOf 31 24 d.ctrl0 ≠ 0 || bitsOf 31 16 d.ctrl1 ≠ 0 || d.resv ≠ 0

/-- An entry of the allocation table (R310): base, length, V, R, W. -/
structure Alloc where
  base : Nat
  len : Nat
  v : Bool
  r : Bool
  w : Bool
deriving DecidableEq, Repr

/-- Read entry `ix` of partition p's table: none when it is read with poison. -/
def State.allocEntry (s : State) (p ix : Nat) : State × Option Alloc :=
  let r := s.devRead (s.reg64 (rPART_ALLOCBASE p) + 16 * ix) 16
  let f := leNat (r.2.1.drop 8)
  (r.1, if r.2.2 then none else
    some ⟨leNat (r.2.1.take 8), f % 2 ^ 48, bitsOf 60 60 f = 1, bitsOf 61 61 f = 1, bitsOf 62 62 f = 1⟩)

/-- What a side's check answers: in place, a reason of Table 8-4, or poison at a stack offset. -/
inductive SideChk where
  | ok
  | reason (n : Nat)
  | poison (off : Nat)
deriving DecidableEq, Repr

/-- Check one side's extent against its space or allocation; `out` is the reason of an extent outside it (5 or 6), which is judged only
where the allocation is registered and no computation overflowed. -/
def State.sideChk (s : State) (p space ix : Nat) (e : Int × Int) (write : Bool) (out : Nat) : State × SideChk :=
  let wraps := decide (e.1 < 0 ∨ e.2 ≥ 2 ^ 64)
  if space = 3 then (s, if wraps then .reason 9 else .ok)
  else if space = 0 then
    match s.allocEntry p ix with
    | (s, none) => (s, .poison (s.dataAddr (s.reg64 (rPART_ALLOCBASE p) + 16 * ix)))
    | (s, some a) =>
      (s, if !a.v then .reason 7
        else if wraps then .reason 9
        else if e.1 < (a.base : Int) ∨ e.2 ≥ (a.base + a.len : Nat) then .reason out
        else if (if write then a.w else a.r) then .ok else .reason 8)
  else (s, if wraps then .reason 9 else if e.2 < (if space = 1 then (lmEnd : Int) else 0x20000) then .ok else .reason out)

/-- Whether a side's check finds its extent outside its space or allocation: a right that the table has withdrawn is none of an extent's
(R174, R175). -/
def SideChk.outside : SideChk → Bool
  | .reason n => n ≠ 8
  | _ => false

/-- The lowest of some reasons, 0 for none. -/
def lowest (l : List Nat) : Nat := l.foldl (fun a b => if a = 0 ∨ b < a then b else a) 0

/-- Validate a descriptor for partition p: reason 0 is VALID; none when an allocation entry is poisoned, at the offset given. -/
def State.validate (s : State) (p : Nat) (d : Desc) : State × Option Nat × Nat :=
  if d.ndim = 0 ∨ d.ndim > 5 ∨ (List.range d.ndim).any (fun k => d.n.getD k 0 = 0) then (s, some 1, 0)
  else
    let fixed := (if d.badFmt then [2] else []) ++ (if d.badPad then [3] else []) ++ (if d.badList then [4] else [])
      ++ (if d.badResv then [10] else [])
    let a := s.sideChk p d.sspace d.salloc (d.srcExt d.sbase) false 5
    let b := a.1.sideChk p d.dspace d.dalloc (d.dstExt d.dbase) true 6
    match a.2, b.2 with
    | .poison o, _ => (b.1, none, o)
    | _, .poison o => (b.1, none, o)
    | x, y =>
      let rs := [x, y].filterMap (fun c => match c with | .reason n => some n | _ => none)
      (b.1, some (lowest (fixed ++ rs)), 0)

/-- Poison consumed by LDESC or by a list entry (R172, R174): LAY.FAULT cause 4. -/
def State.layPoison (s : State) (c : Fin 96) (slot op addr : Nat) (inj : Bool := false) : State :=
  let s := s.modCore c (fun k => k.faultReg (kLAY_FAULT) (4 + 16 * slot))
  s.poisonUse c 8 op addr inj

/-- LDESC (R174): read the image and begin its validation. -/
def execLdesc (i : Issue) (f : Fields) (s : State) : Host.Outcome State Fault Refusal :=
  s.issue 0xC8 i f (fun m s =>
    let k := s.core m
    let a := (k.rs f.a).toNat
    let n := f.dst.toNat
    if a % 64 ≠ 0 then s.layFault m 5 n (s.opOf m 0xC8)
    else if a + 128 > lmEnd then s.layFault m 2 n (s.opOf m 0xC8)
    else if k.lmPoison a 128 then s.layPoison m n (s.opOf m 0xC8) a
    else s.modCore m (fun k => k.setDslot n (.deciding (k.lmRead a 128))))

/-- LDESC_DECIDE (R174): the slot becomes VALID or INVALID. A poisoned allocation entry stops the partition (R310). -/
def execLdescDecide (c : Fin 96) (n : Fin 16) (s : State) : Host.Outcome State Fault Refusal :=
  match (s.core c).dslot n.val with
  | .deciding img =>
    match s.validate (s.core c).part (parseDesc img) with
    | (s, some 0, _) => .next (s.modCore c (fun k => k.setDslot n.val (.valid img)))
    | (s, some r, _) => .next (s.modCore c (fun k => k.setDslot n.val (.invalid r)))
    | (s, none, off) => .next ((s.modCore c (fun k => k.setDslot n.val .empty)).layPoison c n.val 0xC8 off s.injPois)
  | _ => .next s

/-! ## LXFER (R175) -/

/-- LXFER (R175): a copy of the slot joins the queue. -/
def execLxfer (i : Issue) (f : Fields) (s : State) : Host.Outcome State Fault Refusal :=
  s.issue 0xC9 i f (fun m s =>
    let k := s.core m
    let n := f.dst.toNat
    let op := s.opOf m 0xC9
    match k.dslot n with
    | .valid img =>
      let d := parseDesc img
      let b := k.xferBases f d
      let shifted := decide (k.rs f.a ≠ 0 ∨ k.rs f.b ≠ 0)
      let x := if shifted then s.sideChk k.part d.sspace d.salloc (d.srcExt b.1) false 5 else (s, .ok)
      let y := if shifted then x.1.sideChk k.part d.dspace d.dalloc (d.dstExt b.2) true 6 else (x.1, .ok)
      match x.2, y.2 with
      | .poison o, _ => y.1.layPoison m n op o y.1.injPois
      | _, .poison o => if x.2.outside then y.1.layFault m 2 n op else y.1.layPoison m n op o y.1.injPois
      | _, _ =>
        if x.2.outside || y.2.outside then y.1.layFault m 2 n op else
        let t := y.1
        let q : Xfer :=
          { uid := t.nextId, image := img, sbase := b.1, dbase := b.2, t := (k.rs f.c).toNat % 2 ^ 32,
            b := (k.rs f.c).toNat / 2 ^ 32, srstep := k.rd.srstep.toNat,
            tiles := if d.sspace = 2 then k.rd.tiles else Rows.zero 1024,
            tpois := if d.sspace = 2 then k.rd.tpois else 0, opw := op, sigen := f.mb 0, scnt := f.m 6 1,
            slot := n, running := false, sent := false, since := [], fid := k.newFence }
        ({ t with nextId := t.nextId + 1 }.modCore m (fun k => { k with xfers := k.xfers ++ [q] })).touch k.part
    | _ => s.layFault m 1 n op)

/-- Start the first queued transfer of a list. -/
def startFirst : List Xfer → List Xfer
  | [] => []
  | x :: r => if x.running then x :: startFirst r else { x with running := true } :: r

/-- LXFER_START (R177): the next queued transfer starts, in issue order, when fewer than four run and no fence holds it. -/
def execLxferStart (c : Fin 96) (s : State) : Host.Outcome State Fault Refusal :=
  let k := s.core c
  match k.xfers.find? (fun x => !x.running) with
  | some x =>
    if (k.xfers.filter (·.running)).length < 4 ∧ !(k.heldBy x.fid) then
      .next (s.modCore c (fun k => { k with xfers := startFirst k.xfers }))
    else .next s
  | none => .next s

/-! ## Execution (R168 to R173, R180) -/

/-- The coordinates of box position p, dimension 0 fastest (R168, R177). -/
def Desc.coords (d : Desc) (p : Nat) : List Nat :=
  (List.range 5).map (fun k => p / ((List.range k).foldl (fun a j => a * d.box j) 1) % d.box k)

/-- Positions of the box. -/
def Desc.boxSize (d : Desc) : Nat := (List.range 5).foldl (fun a j => a * d.box j) 1

/-- Whether box position `b` holds a data element (R170). -/
def Desc.isData (d : Desc) (b : List Nat) : Bool :=
  (List.range 5).all (fun k => decide (k ≥ d.ndim ∨ (d.plo.getD k 0 ≤ b.getD k 0 ∧ b.getD k 0 < d.plo.getD k 0 + d.ext k)))

/-- The index tuple of a data element. -/
def Desc.index (d : Desc) (b : List Nat) : List Nat :=
  (List.range 5).map (fun k => if k < d.ndim then b.getD k 0 - d.plo.getD k 0 else 0)

/-- The linear index L of R168. -/
def Desc.linear (d : Desc) (ix : List Nat) : Nat := (List.range 5).foldr (fun k a => ix.getD k 0 + d.ext k * a) 0

/-- Σ index × stride × element size. -/
def offs (ix : List Nat) (str : Nat → Int) (es : Nat) : Int :=
  (List.range 5).foldl (fun a k => a + ((ix.getD k 0 : Nat) : Int) * str k * (es : Int)) 0

/-- One access of a transfer: its bytes with their addresses in the destination space and their poison, and whether it is
padding. -/
structure Acc1 where
  pad : Bool
  bytes : List (Nat × Byte × Bool)
deriving DecidableEq, Repr

/-- Why a transfer ends early. -/
inductive XStop where
  | xlate (va : Nat)
  | pte (off : Nat)
  | list (addr : Nat)
deriving DecidableEq, Repr

/-- Read `n` source bytes at `a` in the source space (R167, R180). -/
def State.xferGet (s : State) (c : Fin 96) (x : Xfer) (d : Desc) (a n : Nat) : State × Except XStop (List Byte × Bool) :=
  let k := s.core c
  if d.sspace = 1 then (s, .ok (k.lmRead a n, k.lmPoison a n))
  else if d.sspace = 2 then
    (s, .ok ((List.range n).map (fun i =>
        let o := a + i
        BitVec.ofNat 8 (elt 8 (x.tiles.get Config.freeRow (o / 128)) (o % 128))),
      (List.range n).any (fun i => x.tpois.getLsbD ((a + i) / 128))))
  else match s.translateN k.part a n false with
    | (s, .ok l) => let r := (s.hostAsk l).devReadL l; (r.1, .ok r.2)
    | (s, .fail va) => (s, .error (.xlate va))
    | (s, .poison o) => (s, .error (.pte o))

/-- Translate destination bytes of space 0 (R176); other spaces take their offsets. -/
def State.xferDst (s : State) (c : Fin 96) (d : Desc) (a n : Nat) : State × Except XStop (List Nat) :=
  if d.dspace = 0 then
    match s.translateN (s.core c).part a n true with
    | (s, .ok l) => (s, .ok l)
    | (s, .fail va) => (s, .error (.xlate va))
    | (s, .poison o) => (s, .error (.pte o))
  else (s, .ok ((List.range n).map (a + ·)))

/-- List entry k of a listed transfer: none when it is read with poison (R172). -/
def Core.listEntry (q : Core) (d : Desc) (k : Nat) : Option Nat :=
  let a := d.laddr + 4 * k
  if q.lmPoison a 4 then none else some (leNat (q.lmRead a 4))

/-- An element converted to the destination format (R173). -/
def convElt (d : Desc) (key : Nat) (x : Xfer) (lin v : Nat) : Nat :=
  if d.sfmt = d.dfmt then v
  else convTo d.dfmt (rmOf d.rm key x.t x.srstep (x.b + lin)) d.sat (srcVal d.sfmt v)

/-- The access of box position p: none when a scatter suppresses it (R171). -/
def State.xferAt (s : State) (c : Fin 96) (x : Xfer) (d : Desc) (p : Nat) : State × Except XStop (Option Acc1) :=
  let k := s.core c
  let des := descSize d.dfmt
  let b := d.coords p
  if !d.isData b then
    let a := (x.dbase + offs b d.ds des).toNat
    match s.xferDst c d a des with
    | (s, .error e) => (s, .error e)
    | (s, .ok l) => (s, .ok (some ⟨true, l.zip ((leBytes des d.padval).map (fun v => (v, false)))⟩))
  else
    let ix := d.index b
    let ent : Option (Option Nat) := if d.lmode = 0 then some none
      else match k.listEntry d (ix.getD d.ldim 0) with
        | some e => some (some e)
        | none => none
    match ent with
    | none => (s, .error (.list (d.laddr + 4 * ix.getD d.ldim 0)))
    | some e =>
      let oor := match e with | some v => decide (v ≥ d.llimit) | none => false
      if d.lmode = 2 && oor then (s, .ok none)
      else
        let dix := match e with | some v => if d.lmode = 2 then b.set d.ldim v else b | none => b
        let six := match e with | some v => if d.lmode = 1 then ix.set d.ldim v else ix | none => ix
        let src := if d.lmode = 1 && oor then (s, .ok ([], false))
          else s.xferGet c x d (x.sbase + offs six d.ss (descSize d.sfmt)).toNat (descSize d.sfmt)
        match src with
        | (s, .error e) => (s, .error e)
        | (s, .ok (raw, z)) =>
          let v := if d.lmode = 1 && oor then 0 else convElt d k.srKey x (d.linear ix) (leNat raw)
          match s.xferDst c d (x.dbase + offs dix d.ds des).toNat des with
          | (s, .error e) => (s, .error e)
          | (s, .ok l) => (s, .ok (some ⟨false, l.zip ((leBytes des v).map (fun y => (y, z)))⟩))

/-- The accesses of box positions p, p + 1, … in order, up to the first failure and its position. -/
def State.xferScan (s : State) (c : Fin 96) (x : Xfer) (d : Desc) : Nat → Nat → State × List (Nat × Acc1) × Option (Nat × XStop)
  | 0, _ => (s, [], none)
  | fuel + 1, p =>
    match s.xferAt c x d p with
    | (s, .error e) => (s, [], some (p, e))
    | (s, .ok o) =>
      let r := s.xferScan c x d fuel (p + 1)
      (r.1, (match o with | some a => [(p, a)] | none => []) ++ r.2.1, r.2.2)

/-- Whether the row that holds position p is a data row: padding positions within it move with it (R178). -/
def Desc.dataRow (d : Desc) (p : Nat) : Bool :=
  let b := d.coords p
  (List.range 5).all (fun k => k = 0 || decide (k ≥ d.ndim ∨ (d.plo.getD k 0 ≤ b.getD k 0 ∧ b.getD k 0 < d.plo.getD k 0 + d.ext k)))

/-- Whether the row that holds position p moves on the block path (R178): contiguous on both sides, or padding alone. -/
def Desc.blockRow (d : Desc) (p : Nat) : Bool := !d.dataRow p || (d.ds 0 = 1 && d.ss 0 = 1)

/-- What one access of a transfer writes (R177): a 64-byte block of a row, or a narrow access of at most 4 bytes; `pos` is the last box
position that it serves. -/
structure XAcc where
  pos : Nat
  bytes : List (Nat × Byte × Bool)
deriving DecidableEq, Repr

/-- The access that byte `i` of box position p belongs to, at address `a`: of a row on the block path the 64-byte block, else the
four bytes of the element. -/
def Desc.cellOf (d : Desc) (p i a : Nat) : Bool × Nat × Nat :=
  if d.blockRow p then (true, p / d.box 0, a / 64) else (false, p, i / 4)

/-- Join neighbours of one cell: each access with its bytes, and whether a byte is padding. -/
def joinCells : List ((Bool × Nat × Nat) × Nat × Bool × (Nat × Byte × Bool)) →
    List ((Bool × Nat × Nat) × Nat × List (Bool × (Nat × Byte × Bool)))
  | [] => []
  | (c, p, b) :: r =>
    match joinCells r with
    | (c', p', l) :: t => if c = c' then (c, p', b :: l) :: t else (c, p, [b]) :: (c', p', l) :: t
    | [] => [(c, p, [b])]

/-- The accesses in order, without the padding that falls on bytes a data element has written (R170). `seen` are those, kept where the
descriptor has padding. -/
def standing (track : Bool) : List Nat → List ((Bool × Nat × Nat) × Nat × List (Bool × (Nat × Byte × Bool))) → List XAcc
  | _, [] => []
  | seen, (_, p, l) :: t =>
    let seen' := if track then (l.filter (fun b => !b.1)).map (fun b => b.2.1) ++ seen else []
    ⟨p, (l.filter (fun b => !(b.1 && seen'.contains b.2.1))).map (·.2)⟩ :: standing track seen' t

/-- The accesses that some box positions make, in the order in which they are performed (R177). -/
def Desc.accesses (d : Desc) (as : List (Nat × Acc1)) : List XAcc :=
  standing ((List.range 5).any d.padOn) []
    (joinCells (as.flatMap (fun x => x.2.bytes.mapIdx (fun i b => (d.cellOf x.1 i b.1, x.1, x.2.pad, b)))))

/-- Write bytes into tile registers; a row takes its poison as R117 gives it. -/
def Core.tileWriteZ (k : Core) (w : List (Nat × Byte × Bool)) : Core :=
  ((w.map (fun x => x.1 / 128)).eraseDups).foldl (fun (k : Core) q =>
    let part := w.filter (fun x => x.1 / 128 = q)
    let row := part.foldl (fun (r : BitVec 1024) x => rowUpd 8 r (fun c => if c = x.1 % 128 then some x.2.1.toNat else none))
      (k.trowNow (q / 32) (q % 32))
    k.setRow (q / 32) (q % 32) row (decide ((part.map (·.1)).eraseDups.length = 128)) (part.any (fun x => x.2.2))) k

/-- Perform accesses of a transfer in its destination space. -/
def State.xferPut (s : State) (c : Fin 96) (d : Desc) (ws : List XAcc) : State :=
  if d.dspace = 2 then s.modCore c (fun k => k.tileWriteZ (ws.flatMap (·.bytes)))
  else if d.dspace = 1 then s.modCore c (fun k => ws.foldl (fun k w => k.lmWriteZ w.bytes) k)
  else ws.foldl (fun s w => s.devWriteL w.bytes) s

/-- The accesses performed before a failure at position p: of the row on the block path that holds p, the whole blocks alone. -/
def Desc.beforeStop (d : Desc) (p : Nat) (l : List XAcc) : List XAcc :=
  if d.blockRow p then l.filter (fun a => a.pos / d.box 0 ≠ p / d.box 0 || a.bytes.any (fun b => b.1 % 64 = 63)) else l

/-- The accesses of a transfer in order, and why it ends early. -/
def State.xferAccs (s : State) (c : Fin 96) (x : Xfer) : State × List XAcc × Option (Nat × XStop) :=
  let d := parseDesc x.image
  let r := s.xferScan c x d d.boxSize 0
  let l := d.accesses r.2.1
  (r.1, (match r.2.2 with | some e => d.beforeStop e.1 l | none => l), r.2.2)

/-- A key of a destination byte by which transfers of core c meet: own local memory, own tiles, HBM, the rest. -/
def State.xferKey (s : State) (c : Fin 96) (d : Desc) (a : Nat) : Nat :=
  if d.dspace = 1 then a
  else if d.dspace = 2 then 2 ^ 24 + a
  else match s.locate a with
    | .hbm k => 2 ^ 44 + k
    | .lm m o => if m = c then o else 2 ^ 48 + a
    | _ => 2 ^ 48 + a

/-- The accesses that still stand when a transfer completes after others of its engine that ran with it: an access may have been
performed before one of theirs to the same bytes, by a free choice for each pair, and theirs then stands (R177). -/
def State.interleave (s : State) (c : Fin 96) (x : Xfer) (l : List XAcc) : List XAcc :=
  if x.since = [] then l else
  l.mapIdx (fun i a =>
    let lost := x.since.zipIdx.filter (fun o => Config.freeNat (s.freeCtr + i * x.since.length + o.2) % 2 = 1)
    { a with bytes := a.bytes.filter (fun b => !(lost.any (fun o => o.1.contains (s.xferKey c (parseDesc x.image) b.1)))) })

/-! ## Counts (R171, R178, R181) -/

/-- The first box position whose data element has index j along LDIM. -/
def Desc.firstPos (d : Desc) (j : Nat) : Nat :=
  (List.range 5).foldr (fun k a => (if k < d.ndim then d.plo.getD k 0 + (if k = d.ldim then j else 0) else 0) + d.box k * a) 0

/-- Out-of-range entries of a listed transfer that its first `lim` box positions use (R171). -/
def Core.xferOor (k : Core) (d : Desc) (lim : Nat) : Nat :=
  if d.lmode = 0 then 0
  else ((List.range (d.ext d.ldim)).filter (fun j => decide (d.firstPos j < lim) &&
    (match k.listEntry d j with | some e => decide (e ≥ d.llimit) | none => false))).length

/-- How R178 charges the row that holds position p: 0 a narrow row, 1 half rate, 2 full rate. -/
def Core.xferRate (k : Core) (x : Xfer) (d : Desc) (p : Nat) : Nat :=
  if !d.dataRow p then 2
  else if d.ss 0 ≠ 1 ∨ d.ds 0 ≠ 1 then 0
  else
    let b := (d.coords p).set 0 (d.plo.getD 0 0)
    let ix := d.index b
    let e := match k.listEntry d (ix.getD d.ldim 0) with | some e => e | none => 0
    let sa := x.sbase + offs (if d.lmode = 1 then ix.set d.ldim e else ix) d.ss (descSize d.sfmt)
    let da := x.dbase + offs ((if d.lmode = 2 then b.set d.ldim e else b).set 0 0) d.ds (descSize d.dfmt)
    if sa % 64 ≠ 0 ∨ da % 64 ≠ 0 ∨ d.ext 0 * descSize d.sfmt % 64 ≠ 0 ∨ d.box 0 * descSize d.dfmt % 64 ≠ 0 then 1 else 2

/-- The counts of the accesses that a transfer performed, `lim` being the end of the box positions reached: an element of 8 bytes on one
side takes two narrow accesses (R178). -/
def Core.xferCounts (k : Core) (x : Xfer) (l : List XAcc) (lim : Nat) : Core :=
  let d := parseDesc x.image
  let n (r : Nat) : Nat := (l.filter (fun a => k.xferRate x d a.pos = r)).length
  (((k.bump (kLAY_OOR) (k.xferOor d lim)).bump (kLAY_BLOCKS) (n 2)).bump (kLAY_HBLOCKS) (n 1)).bump (kLAY_NARROW)
    (n 0 * (if descSize d.sfmt = 8 ∧ descSize d.dfmt < 8 then 2 else 1))

/-- The other transfers that run in the engine learn what this one wrote (R177). -/
def State.noteOver (s : State) (c : Fin 96) (x : Xfer) (l : List XAcc) : State :=
  let d := parseDesc x.image
  if (s.core c).xfers.any (fun y => y.running && decide (y.uid ≠ x.uid)) then
    let ks := l.map (fun a => a.bytes.map (fun b => s.xferKey c d b.1))
    s.modCore c (fun k => { k with xfers := k.xfers.map (fun y => if y.running ∧ y.uid ≠ x.uid then { y with since := y.since ++ ks } else y) })
  else s

/-- Perform a transfer, or its first `n` accesses and no more: the state and why it ended early (R168 to R178). -/
def State.xferRun (s : State) (c : Fin 96) (x : Xfer) (n : Option Nat) : State × Option XStop :=
  let d := parseDesc x.image
  let r := s.xferAccs c x
  match n with
  | none =>
    let l := r.1.interleave c x r.2.1
    let lim := match r.2.2 with | some e => e.1 + 1 | none => d.boxSize
    (((r.1.xferPut c d l).modCore c (fun k => k.xferCounts x l lim)).noteOver c x l, r.2.2.map (·.2))
  | some n =>
    let l := s.interleave c x (r.2.1.take n)
    let lim := match l.getLast? with | some a => a.pos + 1 | none => 0
    (((((s.xferScan c x d lim 0).1).xferPut c d l).modCore c (fun k => k.xferCounts x l lim)).noteOver c x l, none)

/-- What a transfer that ended early does to its partition (R172, R176, R308). -/
def State.xferStop (s : State) (c : Fin 96) (x : Xfer) (e : XStop) : State :=
  match e with
  | .xlate va => s.xlateFault c va x.slot x.opw
  | .pte off => s.ptePoison (s.core c).part c x.opw off
  | .list a => s.layPoison c x.slot x.opw a

/-- The running transfers of a core without number k of them. -/
def Core.dropXfer (k : Core) (uid : Nat) : Core := { k with xfers := k.xfers.filter (fun x => x.uid ≠ uid) }

/-- A transfer is complete: it leaves the engine, SIGEN increments its counter, and what waits for it goes on (R177, R187). -/
def State.xferDone (s : State) (c : Fin 96) (x : Xfer) : State :=
  (s.modCore c (fun q =>
    let q := q.dropXfer x.uid
    if x.sigen ∧ q.st = .running then q.addCount x.scnt 1 else q)).settle c

/-- Whether performing a transfer sends writes to host memory. -/
def State.hostWrites (s : State) (c : Fin 96) (x : Xfer) : Bool :=
  decide ((parseDesc x.image).dspace = 0) &&
    (s.xferAccs c x).2.1.any (fun a => a.bytes.any (fun b => match s.locate b.1 with | .host _ => true | _ => false))

/-- LXFER_COMPLETE (R177): running transfer k of the core performs its writes and ends; SIGEN then increments its counter. Writes to host
memory are performed when the host acknowledges them, and the transfer runs until then (R304). On a core whose partition has stopped, a
prefix of free length is what the transfer has performed. -/
def execLxferComplete (c : Fin 96) (k : Nat) (s : State) : Host.Outcome State Fault Refusal :=
  let q := s.core c
  match (q.xfers.filter (·.running))[k]? with
  | none => .next s
  | some x =>
    if x.sent then .next s
    else
      let t := s.touch q.part
      let n := (t.xferAccs c x).2.1.length * x.since.length
      if q.st = .running then
        match t.xferRun c x none with
        | (v, some e) => .next ((({ v with freeCtr := v.freeCtr + n }.modCore c (fun q => q.dropXfer x.uid)).xferStop c x e).settle c)
        | (v, none) =>
          let v := { v with freeCtr := v.freeCtr + n }
          .next (if t.hostWrites c x then
              v.modCore c (fun q => { q with
                xfers := q.xfers.map (fun y => if y.uid = x.uid then { y with sent := true } else y), outw := q.outw ++ [(x.uid, .host)] })
            else v.xferDone c x)
      else
        let v := ({ t with freeCtr := t.freeCtr + 1 }.xferRun c x (some (Config.freeNat t.freeCtr))).1
        .next ({ v with freeCtr := v.freeCtr + n }.modCore c (fun q => q.dropXfer x.uid))

end Sys2Proof.Machine
end

