-- ==== Sys2Proof/Machine/Security.lean ====
section
/-!
DEFINITION. Attestation, firmware update, IDE, TSP and the I3C address as commands (spec/17_security.md, R348 to R360;
spec/21_module.md, R409). `doe` tells the path of an SPDM request: CXL DOE, or MCTP on I3C.
-/
namespace Sys2Proof.Machine

/-! ## SPDM (R353, R355, R356) -/

/-- An SPDM response. -/
def State.spdmOut (s : State) (doe : Bool) (name : String) (body : List Byte) : State :=
  { s with out := s.out ++ [Output.spdm doe name body] }

/-- The CXL link is up. -/
def State.linkUp (s : State) : Bool := s.fld (rCXL_LINK) 3 0 ≠ 0

/-- Serve an SPDM request where Table 17-5 and R349 let it be served; over DOE nothing is received while the link is down. -/
def State.spdm (s : State) (doe : Bool) (serve : State → State) : State :=
  if s.phase.alive = false ∨ (doe ∧ s.linkUp = false) then s
  else if s.phase = .recovery then s.spdmOut doe "ERROR UnexpectedRequest" []
  else if s.sec.activating then s.spdmOut doe "ERROR ResponseNotReady" [16, 7]
  else if s.sec.noCert then s.spdmOut doe "ERROR Busy" []
  else serve s

/-- The alias certificate of an extension (R352): the TBSCertificate names both alias public keys and ends with the ML-DSA signature of
itself without that extension; the DeviceID ECDSA key signs it. -/
def Security.aliasCert (x : Security) (ext : List Byte) : List Byte :=
  let tbs := Config.tbsCert ext (Config.pubKey x.aliasEc) (Config.mldsaPub x.aliasMl)
  let full := tbs (some (Config.mldsaSign x.devMl (tbs none)))
  Config.x509 full (Config.ecdsaSign x.devEc full)

/-- The certificate chain of slot 0: root, DeviceID and alias certificate. -/
def State.chain (s : State) : List Byte :=
  Config.rootCerts ++ (match s.sec.cert with | some c => s.sec.aliasCert c.ext | none => [])

/-- Answer a request that rests on the certificate: 0 GET_CERTIFICATE, 1 CHALLENGE, 2 GET_DIGESTS, 3 KEY_EXCHANGE. -/
def State.answerCert (s : State) (x : Bool × Nat × List Byte) : State :=
  let d := Config.sha384 s.chain
  match x.2.1 with
  | 0 => s.spdmOut x.1 "CERTIFICATE" s.chain
  | 1 => s.spdmOut x.1 "CHALLENGE_AUTH" (d ++ Config.ecdsaSign s.sec.aliasEc (d ++ x.2.2))
  | 2 => s.spdmOut x.1 "DIGESTS" d
  | _ =>
    if s.sec.sessions.length ≥ 4 then s.spdmOut x.1 "ERROR SessionLimitExceeded" []
    else
      let e := Config.randomBytes s.freeCtr
      let id := ((List.range 4).find? (fun i => s.sec.sessions.all (fun t => t.id ≠ i))).getD 0
      let t : Session := ⟨id, Config.sessionSecret e x.2.2, false⟩
      let s := { s with freeCtr := s.freeCtr + 1, sec := { s.sec with sessions := s.sec.sessions ++ [t] } }
      s.spdmOut x.1 "KEY_EXCHANGE_RSP" ([BitVec.ofNat 8 id] ++ Config.pubKey e ++ Config.ecdsaSign s.sec.aliasEc (d ++ x.2.2 ++ Config.pubKey e))

/-- A request that rests on the certificate waits while one is being signed (R355). -/
def State.askCert (s : State) (x : Bool × Nat × List Byte) : State :=
  s.spdm x.1 (fun s =>
    if s.sec.signing.isSome then { s with sec := { s.sec with waiting := s.sec.waiting ++ [x] } } else s.answerCert x)

/-- CERT_ISSUE (R355): in a tick window after an attested field has changed, the next certificate is formed and GEN increases; a change
while one is being signed waits for the certificate after it. In safe mode, without ticks, certificates are issued all the same
(R373). -/
def execCertIssue (s : State) : Host.Outcome State Fault Refusal :=
  if (s.phase ≠ .run ∧ s.phase ≠ .safe) ∨ s.sec.signing.isSome ∨ s.sec.issued = s.attested then .next s
  else
    let g := (s.reg (rSEC_CERTGEN)).toNat + 1
    let s := s.setReg (rSEC_CERTGEN) (BitVec.ofNat 32 g)
    .next { s with sec := { s.sec with signing := some ⟨s.extension g, false⟩, issued := s.attested } }

/-- CERT_SIGNED (R355, R356): signing ends, and the requests that waited are answered. -/
def execCertSigned (s : State) : Host.Outcome State Fault Refusal :=
  match s.sec.signing with
  | none => .next s
  | some c =>
    let w := s.sec.waiting
    let s := { s with sec := { s.sec with
      cert := some { c with signed := true }, signing := none, waiting := [], activating := false, noCert := false } }
    .next (w.foldl State.answerCert s)

/-- GET_CERTIFICATE (R353). -/
def execGetCertificate (doe : Bool) (s : State) : Host.Outcome State Fault Refusal := .next (s.askCert (doe, 0, []))

/-- CHALLENGE (R353): signed with the alias ECDSA key over the chain's digest and the nonce. -/
def execSpdmChallenge (doe : Bool) (nonce : List Byte) (s : State) : Host.Outcome State Fault Refusal := .next (s.askCert (doe, 1, nonce))

/-- GET_MEASUREMENTS (R353). -/
def execGetMeasurements (doe : Bool) (s : State) : Host.Outcome State Fault Refusal :=
  .next (s.spdm doe (fun s => s.spdmOut doe "ERROR UnsupportedRequest" []))

/-- GET_VERSION (R353): versions 1.2 and 1.3. -/
def execGetVersion (doe : Bool) (s : State) : Host.Outcome State Fault Refusal :=
  .next (s.spdm doe (fun s => s.spdmOut doe "VERSION" [0x12, 0x13]))

/-- GET_CAPABILITIES (R353): CTExponent 14 and the capabilities of Table 17-2. -/
def execGetCapabilities (doe : Bool) (s : State) : Host.Outcome State Fault Refusal :=
  .next (s.spdm doe (fun s => s.spdmOut doe "CAPABILITIES CERT CHAL KEY_EX MAC ENCRYPT" [14]))

/-- NEGOTIATE_ALGORITHMS (R353). -/
def execNegotiateAlgorithms (doe : Bool) (s : State) : Host.Outcome State Fault Refusal :=
  .next (s.spdm doe (fun s => s.spdmOut doe "ALGORITHMS ECDSA-P384 SHA-384 secp384r1 AES-256-GCM" []))

/-- GET_DIGESTS (R353). -/
def execGetDigests (doe : Bool) (s : State) : Host.Outcome State Fault Refusal := .next (s.askCert (doe, 2, []))

/-- KEY_EXCHANGE (R353): opens a session, of which there are up to four. -/
def execKeyExchange (doe : Bool) (exch : List Byte) (s : State) : Host.Outcome State Fault Refusal := .next (s.askCert (doe, 3, exch))

/-- FINISH (R353): completes the handshake of a session whose MAC verifies; else the session ends. -/
def execSpdmFinish (doe : Bool) (id : Nat) (mac : Bool) (s : State) : Host.Outcome State Fault Refusal :=
  .next (s.spdm doe (fun s =>
    match s.sec.sessions.find? (fun t => t.id = id && !t.finished) with
    | none => s.spdmOut doe "ERROR InvalidRequest" []
    | some _ =>
      let l := if mac then s.sec.sessions.map (fun (t : Session) => if t.id = id then { t with finished := true } else t)
        else s.sec.sessions.filter (fun t => t.id ≠ id)
      { s with sec := { s.sec with sessions := l } }.spdmOut doe (if mac then "FINISH_RSP" else "ERROR DecryptError") []))

/-- END_SESSION (R353). -/
def execEndSession (doe : Bool) (id : Nat) (s : State) : Host.Outcome State Fault Refusal :=
  .next (s.spdm doe (fun s =>
    if s.sec.sessions.any (fun t => t.id = id && t.finished) then
      { s with sec := { s.sec with sessions := s.sec.sessions.filter (fun t => t.id ≠ id) } }.spdmOut doe "END_SESSION_ACK" []
    else s.spdmOut doe "ERROR InvalidRequest" []))

/-! ## Firmware (R348, R350, R356) -/

/-- An answer to the baseboard controller over PLDM. -/
def State.pldmOut (s : State) (name : String) (v : Nat) : State := { s with out := s.out ++ [Output.pldm name v] }

/-- FIRMWARE_UPDATE (R348, R356): an image is verified and written into a slot, or a key set is revoked for good. After a power failure no
write begins (R328); none begins during another, or once a reset waits (R366). An option word takes effect at the next system reset
(R371). -/
def execFirmwareUpdate (u : FwUpdate) (s : State) : Host.Outcome State Fault Refusal :=
  if s.phase.alive = false ∨ s.power.failed ∨ s.nvPulse then .next s
  else match u with
  | .revoke k => .next { s.pldmOut "Revoked" k.val with nvPulse := true, sec := { s.sec with revoked := s.sec.revoked ||| 1#4 <<< k.val } }
  | .option i v =>
    .next { s.pldmOut "Written" i.val with nvPulse := true, sec := { s.sec with options := s.sec.options.set i.val (OptWord.both v) } }
  | .image i cp b =>
    if s.sec.imageOk b (if cp then 2 else 1) then
      let o := s.sec.slots[i]
      let n : FwSlot := if cp then { o with cpfw := b } else { o with sfw := b }
      .next { s.pldmOut "Written" i.val with nvPulse := true, sec := { s.sec with slots := s.sec.slots.set i.val n } }
    else .next (s.pldmOut "VerifyFailed" i.val)

/-- ACTIVATE_FIRMWARE (R356): the slot becomes the preferred one of the boot option word, and a system reset follows. Where a reset waits already
no write starts (R366). -/
def execActivateFirmware (i : Fin 2) (s : State) : Host.Outcome State Fault Refusal :=
  if s.phase.alive = false ∨ s.power.failed ∨ s.rstDelayed ≠ none then .next s
  else if s.sec.imageOk (s.sec.slots[i]).sfw 1 && s.sec.imageOk (s.sec.slots[i]).cpfw 2 then
    let w : Word32 := ((s.sec.options[0].get.getD 0) &&& ~~~1#32) ||| BitVec.ofNat 32 i.val
    .next ({ s.pldmOut "Activated" i.val with sec := { s.sec with options := s.sec.options.set 0 (OptWord.both w), activating := true } }.sysReset 0x20)
  else .next (s.pldmOut "NotVerified" i.val)

/-! ## IDE (R357) -/

/-- IDE_KM (R357): in a secured session, the key of a stream is installed or refreshed: selective streams 0 to 3 of CXL.io, 4 the link. -/
def execIdeKm (id : Nat) (stream : Fin 5) (key : List Byte) (s : State) : Host.Outcome State Fault Refusal :=
  .next (if s.phase.alive ∧ s.sec.sessions.any (fun t => t.id = id && t.finished) then
      { s.setBit (rCXL_LINK) 11 s.linkUp with sec := { s.sec with
        ideKeys := mapSet s.sec.ideKeys stream.val key, ideDown := s.sec.ideDown.filter (· ≠ stream.val) } }
    else s)

/-- IDE_FAILURE (R357): an integrity check fails or a key expires: the stream stops, CXL.LINK.IDE clears, and a record of class HOST is
written. -/
def execIdeFailure (stream : Fin 5) (s : State) : Host.Outcome State Fault Refusal :=
  .next (if (mapFind s.sec.ideKeys stream.val).isSome then
      let s := { s.setBit (rCXL_LINK) 11 false with sec :=
        { s.sec with ideKeys := mapErase s.sec.ideKeys stream.val, ideDown := stream.val :: s.sec.ideDown } }
      s.record 11 7 0 0 0 7 (s.reg (rCXL_LINK)).toNat false
    else s)

/-! ## TSP (R358 to R360) -/

/-- TSP_LOCK (R358): partition p becomes confidential and locked, with up to four TE ranges in force: base and length in units of 32
MiB. A locked partition stays as it is. -/
def execTspLock (p : Fin 8) (te : List (BitVec 23 × BitVec 16)) (s : State) : Host.Outcome State Fault Refusal :=
  if s.phase ≠ .run ∨ s.bit (rSEC_PSTATE p.val) 1 ∨ te.length > 4 then .next s
  else
    let s := (List.range 4).foldl (fun (s : State) r =>
      let x := te.getD r (0, 0)
      s.setReg64 (rSEC_TE p.val r) (x.1.toNat * 2 ^ 25 + 2 ^ 48 * x.2.toNat)) s
    let n := (te.filter (fun (x : BitVec 23 × BitVec 16) => x.2 ≠ 0)).length
    .next (s.setReg (rSEC_PSTATE p.val) ((s.reg (rSEC_PSTATE p.val) &&& 4#32) ||| 3#32 ||| BitVec.ofNat 32 (16 * n)))

/-- What a scrub writes zero to (R360): local memory, tile and predicate registers, carry store, accumulators, weight buffers, table
banks and descriptor slots. -/
def Core.wiped (k : Core) : Core :=
  { k with opnd := { Opnd.zero with s := k.opnd.s, srstep := k.opnd.srstep }, lm := Store.zero, lmPois := [], acc := Rows.zero 512,
           banks := k.banks.map (fun (b : Bank) => { b with poison := 0 }), wbuf := Store.zero, wscale := Store.zero,
           wmeta := Store.zero, dslots := Vector.replicate 16 .empty,
           tslots := k.tslots.map (fun (t : TSlot) => { t with active := none, shadow := none }) }

/-- TSP_UNLOCK (R358, R360, R361): the partition's cores and its TE ranges are scrubbed, then CONF, LOCKED, DBGOBS and the ranges clear. -/
def execTspUnlock (p : Fin 8) (s : State) : Host.Outcome State Fault Refusal :=
  if s.phase ≠ .run ∨ s.bit (rSEC_PSTATE p.val) 1 = false then .next s
  else
    let s := s.eachCore (s.coresOf p.val) Core.wiped
    let s := (List.range 4).foldl (fun (s : State) r =>
      let w := s.reg64 (rSEC_TE p.val r)
      (s.zeroRange (w % 2 ^ 48) (w / 2 ^ 48 * 2 ^ 25) []).setReg64 (rSEC_TE p.val r) 0) s
    .next (s.setReg (rSEC_PSTATE p.val) 0)

/-! ## The I3C target (R409) -/

/-- ENTDAA (R409): a target without a dynamic address takes one. -/
def execEntdaa (a : BitVec 7) (s : State) : Host.Outcome State Fault Refusal :=
  .next (if s.phase.alive ∧ s.i3cAddr = none then { s with i3cAddr := some a.toNat } else s)

/-- SETDASA (R409): the target of static address 0x30 + MOD_ID takes a dynamic address. -/
def execSetdasa (static a : BitVec 7) (s : State) : Host.Outcome State Fault Refusal :=
  .next (if s.phase.alive ∧ s.i3cAddr = none ∧ static.toNat = 0x30 + Config.modId.toNat then { s with i3cAddr := some a.toNat } else s)

end Sys2Proof.Machine
end

