-- ==== Sys2Proof/Machine/HostLink.lean ====
section
/-!
DEFINITION. The CXL link as the host uses it (spec/14_host.md, R295 to R304; spec/17_security.md, R358; spec/18_reset.md, R369, R376):
link state, configuration requests, HDM decoders, CXL.mem accesses, snoops and CXL.cache transactions.
-/
namespace Sys2Proof.Machine

/-! ## The link (R295, R296) -/

/-- CXL_LINK_TRAINED (R296): 2^w lanes at RATE code r + 1. The link trains once phase 4 has ended and PERST# is high (R369). -/
def execCxlLinkTrained (w : Fin 4) (r : Fin 6) (flit : Bool) (s : State) : Host.Outcome State Fault Refusal :=
  .next (if s.phase.powered ∧ s.perst then
      let on := if flit ∧ r.val ≥ 4 then 0x600 else 0
      s.setReg (rCXL_LINK) ((s.reg (rCXL_LINK) &&& 0x800#32) |||
        BitVec.ofNat 32 (2 ^ w.val + 2 ^ 4 * (r.val + 1) + (if flit then 2 ^ 8 else 0) + on))
    else s)

/-- CXL_LINK_DOWN (R296). -/
def execCxlLinkDown (s : State) : Host.Outcome State Fault Refusal := .next s.linkDown

/-! ## Configuration (R298, R300, R370, R396) -/

def State.emit (s : State) (o : Output) : State := { s with out := s.out ++ [o] }

/-- A word of configuration space that Table 14-2 gives, and the PF's BAR0 as the header of PCI Express places it: of 64 bits, not
prefetchable, of 64 MiB. Where the capabilities lie is not given, and the rest is free here. -/
def State.configWord (s : State) (fn off : Nat) : Word32 :=
  if off = 0 then (if fn = 0 then 0x96401F6A#32 else 0x96411F6A#32)
  else if off = 8 ∧ fn = 0 then 0x12000000#32 ||| (Config.revision.setWidth 8).setWidth 32
  else if off = 0x10 ∧ fn = 0 then BitVec.ofNat 32 (s.bar0 % 2 ^ 32 + 4)
  else if off = 0x14 ∧ fn = 0 then BitVec.ofNat 32 (s.bar0 / 2 ^ 32)
  else BitVec.ofNat 32 (Config.freeNat s.freeCtr)

/-- A write of configuration space: of BAR0, whose low 26 bits stay 0. -/
def State.configWrite (s : State) (fn off : Nat) (v : Word32) : State :=
  if fn = 0 ∧ off = 0x10 then { s with bar0 := s.bar0 / 2 ^ 32 * 2 ^ 32 + v.toNat / 2 ^ 26 * 2 ^ 26 }
  else if fn = 0 ∧ off = 0x14 then { s with bar0 := 2 ^ 32 * v.toNat + s.bar0 % 2 ^ 32 }
  else s

/-- What a capability tells (Table 14-2): a VF has those of its MSI-X vectors alone (R300). -/
def capItems (fn : Nat) (c : CfgCap) : List (String × Nat) :=
  match c with
  | .msix => [("Vectors", if fn = 0 then 64 else 8), ("Table BAR0 offset", 0xF00000), ("PBA BAR0 offset", 0xF80000)]
  | .dvsecDevice => if fn = 0 then [("Cache_Capable", 1), ("Mem_Capable", 1), ("HDM_Count", 2)] else []
  | .dvsecMap => if fn = 0 then (List.range 8).map (fun v => ("Non-CXL function", v + 1)) else []
  | .dvsecFlexBus => if fn = 0 then [("DVSEC ID", 7)] else []
  | .dvsecLocator => if fn = 0 then [("Component registers BAR0 offset", 0x301000)] else []
  | .extended => if fn = 0 then [("AER", 1), ("ARI", 1), ("SR-IOV", 1), ("DOE", 3), ("IDE", 1)] else []

/-! ## BAR0 (R299, Table 14-3) -/

/-- The register-space offset of a BAR0 offset, if it has one. -/
def barReg (o : Nat) : Option Nat :=
  if o < 0x500000 then some o
  else if o < 0x580000 then some (0x8000000 + (o - 0x500000) / 0x10000 * 0x100000 + o % 0x10000)
  else if o < 0x5A0000 then some (0xE000000 + (o - 0x580000) / 0x10000 * 0x100000 + o % 0x10000)
  else if 0x1000000 ≤ o ∧ o < 0x4000000 then some (0x10000000 + (o - 0x1000000) / 0x80000 * 0x100000 + o % 0x80000)
  else none

/-- The word of the MSI-X table or pending-bit array of a function at a BAR0 offset; other offsets read 0. -/
def State.msixWord (s : State) (fn o : Nat) : Nat :=
  let n := if fn = 0 then 64 else 8
  if 0xF00000 ≤ o ∧ o < 0xF00000 + 16 * n then (mapGet 0 s.msix (256 * fn + (o - 0xF00000) / 4)).toNat
  else if 0xF80000 ≤ o ∧ o < 0xF80000 + n / 8 then
    ((List.range 32).filter (fun i => s.msixPend.contains (64 * fn + 8 * (o - 0xF80000) + i))).foldl (fun a i => a + 2 ^ i) 0
  else 0

/-- A write of the MSI-X table: a vector unmasked while it is pending leaves. -/
def State.msixWrite (s : State) (fn o : Nat) (v : Word32) : State :=
  let n := if fn = 0 then 64 else 8
  if 0xF00000 ≤ o ∧ o < 0xF00000 + 16 * n then
    let i := (o - 0xF00000) / 4
    let s := { s with msix := mapPut 0 s.msix (256 * fn + i) v }
    let p := 64 * fn + i / 4
    if s.msixPend.contains p ∧ (mapGet 0 s.msix (256 * fn + 4 * (i / 4) + 3)).toNat % 2 = 0 then
      let w (j : Nat) : Nat := (mapGet 0 s.msix (256 * fn + 4 * (i / 4) + j)).toNat
      { s with msixPend := s.msixPend.filter (· ≠ p), out := s.out ++ [Output.message (w 0 + 2 ^ 32 * w 1) (w 2)] }
    else s
  else s

/-- A read of a function's BAR0: a register as at its base address, or the MSI-X structures, in aligned words. -/
def State.barRead (s : State) (fn : Fin 9) (o len : Nat) : State × Nat :=
  match barReg o with
  | some a => s.readReg ⟨fn.val, by omega⟩ a len
  | none =>
    if aligned o len = false then (s, 0)
    else if len < 4 then (s, s.msixWord fn.val (o - o % 4) / 2 ^ (8 * (o % 4)) % 2 ^ (8 * len))
    else (s, (List.range (len / 4)).foldl (fun a i => a + 2 ^ (32 * i) * s.msixWord fn.val (o + 4 * i)) 0)

/-- A write of a function's BAR0. -/
def State.barWrite (s : State) (fn : Fin 9) (o len v : Nat) : State :=
  match barReg o with
  | some a => s.writeReg ⟨fn.val, by omega⟩ a len v
  | none =>
    if aligned o len = false ∨ len < 4 then s
    else (List.range (len / 4)).foldl (fun (s : State) i => s.msixWrite fn.val (o + 4 * i) (BitVec.ofNat 32 (v / 2 ^ (32 * i)))) s

/-- A VF is reset: its pending writes are discarded, its GLB.GSTAT clears (R396), and its MSI-X structures with it. -/
def State.vfReset (s : State) (fn : Nat) : State :=
  { s with guards := s.guards.filter (fun (e : Nat × (Nat × Word32)) => e.1 % 16 ≠ fn), gstat := mapErase s.gstat fn,
           msix := s.msix.filter (fun (e : Nat × Word32) => e.1 / 256 ≠ fn), msixPend := s.msixPend.filter (fun e => e / 64 ≠ fn) }

/-- CONFIG_REQUEST (R295, R298, R299): a request to the configuration space, the CDAT mailbox or the BAR0 of a function. Configuration
requests are completed with retry status until the first tick (R369). -/
def execConfigRequest (q : ConfigReq) (s : State) : Host.Outcome State Fault Refusal :=
  if s.linkUp = false then .next s
  else if s.phase ≠ .run then .next (s.emit .cfgRetry)
  else match q with
  | .read fn off =>
    if fn.val > s.vfs then .next (s.emit .unsupported)
    else .next { s.emit (.cfgData (s.configWord fn.val off.toNat)) with freeCtr := s.freeCtr + 1 }
  | .write fn off v =>
    .next (if fn.val > s.vfs then s.emit .unsupported else (s.configWrite fn.val off.toNat v).emit .hostDone)
  | .cap fn c => .next (if fn.val > s.vfs then s.emit .unsupported else s.emit (.cfgItems (capItems fn.val c)))
  | .cdat n => .next (s.emit (.cdat (Config.cdat n)))
  | .barRead fn o len =>
    if fn.val > s.vfs then .next (s.emit .unsupported)
    else
      let r := s.barRead fn o.toNat len
      .next (r.1.emit (.value r.2))
  | .barWrite fn o len v =>
    .next (if fn.val > s.vfs then s.emit .unsupported else (s.barWrite fn o.toNat len v).emit .hostDone)
  | .vfs n =>
    let s := ((List.range 9).filter (fun f => decide (n.val < f))).foldl State.vfReset s
    .next ({ s with vfs := n.val }.emit .hostDone)
  | .flr fn =>
    if fn.val > s.vfs then .next (s.emit .unsupported)
    else .next ((if fn = 0 then s else s.vfReset fn.val).emit .hostDone)

/-! ## HDM decoders (R296, R301, R358) -/

/-- The end of the aperture in DPA. -/
def dpaEnd : Nat := 0x12080000000

/-- The DPA after the decoders committed. -/
def State.hdmEnd (s : State) : Nat := match s.hdm.getLast? with | some d => d.dpa + d.size | none => 0

/-- HDM_COMMIT (R301): decoders commit in order, in ascending DPA and host address, in units of 256 MiB, `skip` past the one before. A TSP
lock of a partition that the PF does not serve refuses it (R358). -/
def execHdmCommit (base size skip : BitVec 36) (s : State) : Host.Outcome State Fault Refusal :=
  if s.linkUp = false ∨ s.phase ≠ .run ∨ s.bit (rCXL_LINK) 10 = false then .next s
  else if (List.range 8).any (fun n => s.bit (rSEC_PSTATE n) 1 && decide (s.funcOf n ≠ 0)) then .next (s.setBit (rSEC_STATUS) 7 true)
  else
    let u := 2 ^ 28
    let d : Hdm := ⟨base.toNat * u, size.toNat * u, s.hdmEnd + skip.toNat * u⟩
    let after : Bool := match s.hdm.getLast? with | some e => decide (e.base + e.size ≤ d.base) | none => true
    .next (if s.hdm.length < 2 ∧ size ≠ 0 ∧ d.dpa + d.size ≤ dpaEnd ∧ after then { s with hdm := s.hdm ++ [d] } else s)

/-- The DPA of a host address that a decoder covers. -/
def State.dpaOf (s : State) (hpa : Nat) : Option Nat :=
  (s.hdm.find? (fun d => decide (d.base ≤ hpa ∧ hpa < d.base + d.size))).map (fun d => d.dpa + (hpa - d.base))

/-! ## CXL.mem (R301 to R303, R358, R376) -/

/-- Whether a request at a DPA is refused by a TE range of a locked partition whose context the request does not carry (R358). -/
def State.teRefuses (s : State) (dpa : Nat) (te : Option (Fin 8)) : Bool :=
  (List.range 8).any (fun n => s.bit (rSEC_PSTATE n) 1 && decide (te.map (·.val) ≠ some n) && (List.range 4).any (fun r =>
    let w := s.reg64 (rSEC_TE n r)
    decide (w % 2 ^ 48 ≤ dpa ∧ dpa < w % 2 ^ 48 + w / 2 ^ 48 * 2 ^ 25)))

/-- Whether the link's IDE stream, of CXL.cache and CXL.mem, has failed: its traffic stops (R357). -/
def State.ideStopped (s : State) : Bool := s.sec.ideDown.contains 4

/-- The TSP context of a request: none where no link key is installed, since the TE attribute comes in an IDE stream (R358). -/
def State.teCtx (s : State) (te : Option (Fin 8)) : Option (Fin 8) := if (mapFind s.sec.ideKeys 4).isSome then te else none

/-- A record of class HOST of the CXL interface. -/
def State.cxlRec (s : State) : State := s.record 11 7 0 0 0 7 (s.reg (rCXL_LINK)).toNat false

/-- The host is granted a line: a full snoop filter of its die first gives up its oldest entry (R303). -/
def State.grant (s : State) (l : Nat) : State :=
  if s.hostLines.contains l then s
  else
    let mine (x : Nat) : Bool := decide (64 * x / 2 ^ 37 / 6 = 64 * l / 2 ^ 37 / 6)
    let held := s.hostLines.filter mine
    let s := if held.length ≥ 2 ^ 22 then (match held with | x :: _ => s.snoopLine x | [] => s) else s
    { s with hostLines := s.hostLines ++ [l] }

/-- The host holds the line after its access, or no longer. -/
def State.setHold (s : State) (l : Nat) (hold : Bool) : State :=
  if hold then s.grant l else { s with hostLines := s.hostLines.filter (· ≠ l), snoopIn := mapErase s.snoopIn l }

/-- The register-space offset of an alias of a register (Table 20-1). -/
def aliasOf (o : Nat) : Nat := o + 2 * 2 ^ 13

/-- The local window at a device address: its core is observed, and its partition reached (R197, R362). -/
def State.windowUse (s : State) (a : Nat) (te : Option (Fin 8)) (read : Bool) : State :=
  match s.locate a with
  | .lm c _ =>
    match s.partOf c with
    | some p =>
      let s := s.touch p
      if read && decide (te.map (·.val) ≠ some p) then s.observe p else s
    | none => s
  | _ => s

/-- A host access to HBM reaches the memory of every partition: no register divides HBM among them (R197; log entry 87). -/
def State.touchAll (s : State) : State := (List.range 8).foldl State.touch s

/-- Read the 16 registers of a line as alias reads of the PF: in an alias window each gives its register's value, and the component
registers read as they do by themselves (R302, R385). -/
def State.readLine (s : State) (o : Nat) : State × List Byte :=
  (List.range 16).foldl (fun (x : State × List Byte) i =>
    let r := if winOf (o + 4 * i) = 0 ∧ (o + 4 * i) / 0x1000 ≠ 0x301 then x.1.regRead 0 (aliasOf (o + 4 * i)) else x.1.regRead 0 (o + 4 * i)
    (r.1, x.2 ++ leBytes 4 r.2.toNat)) (s, [])

/-- CXL_MEM_READ (R301 to R303): a Bushel's private region reads as zeros (R243). The line at host address `hpa` / 64 × 64; `te` the TSP
context its IDE stream is bound to when it carries the TE attribute, `hold` whether the host takes the line into its caches. -/
def execCxlMemRead (hpa : Nat) (te : Option (Fin 8)) (hold : Bool) (s : State) : Host.Outcome State Fault Refusal :=
  if s.linkUp = false ∨ s.bit (rCXL_LINK) 10 = false ∨ s.phase ≠ .run ∨ s.ideStopped then .next s
  else match s.dpaOf (hpa / 64 * 64) with
  | none => .next (s.emit .unsupported)
  | some dpa =>
    let te := s.teCtx te
    if s.teRefuses dpa te then .next ((s.count (rSEC_TEREF) 1).emit (.hostData (List.replicate 64 0) false))
    else if dpa ≥ hbmEnd + 0x60000000 then
      let r := s.readLine (dpa - hbmEnd - 0x60000000)
      .next (r.1.emit (.hostData r.2 false))
    else if s.fld (rRST_STATUS) 5 4 = 2 then
      let b := (List.range 64).map (fun i => Config.freeByte s.freeCtr i)
      .next ({ s with freeCtr := s.freeCtr + 1 }.cxlRec.emit (.hostData b true))
    else if dpa < hbmEnd then
      let k := hbmKey (s.place dpa)
      if s.inPriv (s.place dpa) then .next ((s.touchAll.setHold (k / 64) hold).emit (.hostData (List.replicate 64 0) false))
      else
        let r := s.touchAll.hbmReadRaw ((List.range 64).map (k + ·))
        .next ((r.1.setHold (k / 64) hold).emit (.hostData r.2.1 r.2.2))
    else
      let a := 0xA00000000000 + (dpa - hbmEnd)
      let r := (s.windowUse a te true).devRead a 64
      .next (r.1.emit (.hostData r.2.1 r.2.2))

/-- Write the fully enabled dwords of a line as register writes of the PF (R302). -/
def State.writeLine (s : State) (o : Nat) (b : List (Option Byte)) : State :=
  (List.range 16).foldl (fun (s : State) i =>
    match (b.drop (4 * i)).take 4 with
    | [some w, some x, some y, some z] => s.writeReg 0 (o + 4 * i) 4 (leNat [w, x, y, z])
    | _ => s) s

/-- CXL_MEM_WRITE (R301 to R303): a write into a Bushel's private region is discarded (R243). The enabled bytes of the line, with CXL
poison where carried. Poisoned data writes no register (log entry 47). -/
def execCxlMemWrite (hpa : Nat) (bytes : Vector (Option Byte) 64) (poison : Bool) (te : Option (Fin 8)) (hold : Bool) (s : State) :
    Host.Outcome State Fault Refusal :=
  if s.linkUp = false ∨ s.bit (rCXL_LINK) 10 = false ∨ s.phase ≠ .run ∨ s.ideStopped then .next s
  else match s.dpaOf (hpa / 64 * 64) with
  | none => .next (s.emit .unsupported)
  | some dpa =>
    let b := bytes.toList
    let w := b.zipIdx.filterMap (fun (x : Option Byte × Nat) => x.1.map (fun v => (x.2, v, poison)))
    let s := if poison then s.count (rCXL_MPOIS) 1 else s
    let te := s.teCtx te
    if s.teRefuses dpa te then .next ((s.count (rSEC_TEREF) 1).emit .hostDone)
    else if dpa ≥ hbmEnd + 0x60000000 then
      .next ((if poison then s else s.writeLine (dpa - hbmEnd - 0x60000000) b).emit .hostDone)
    else if s.fld (rRST_STATUS) 5 4 = 2 then .next (s.cxlRec.emit .hostDone)
    else if dpa < hbmEnd then
      let k := hbmKey (s.place dpa)
      if s.inPriv (s.place dpa) then .next ((s.touchAll.setHold (k / 64) hold).emit .hostDone)
      else .next (((s.touchAll.hbmWriteRaw (w.map (fun (x : Nat × Byte × Bool) => (k + x.1, x.2)))).setHold (k / 64) hold).emit .hostDone)
    else
      let a := 0xA00000000000 + (dpa - hbmEnd)
      .next (((s.windowUse a te false).devWriteL (w.map (fun (x : Nat × Byte × Bool) => (a + x.1, x.2)))).emit .hostDone)

/-- BISNP_RESPONSE (R303): the host's answer for a line that it holds, with its data where it held the line modified; the access that
needs the line takes the answer (log entry 46). -/
def execBisnpResponse (dpa : Nat) (data : Option (Vector Byte 64)) (s : State) : Host.Outcome State Fault Refusal :=
  let l := hbmKey (s.place dpa) / 64
  .next (if dpa < hbmEnd ∧ s.hostLines.contains l then { s with snoopIn := mapSet s.snoopIn l (data.map (·.toList)) } else s)

/-! ## CXL.cache (R304) -/

/-- HOST_READ_RESPONSE (R304): the host's data for the addresses from h, with its poison. -/
def execHostReadResponse (h : Nat) (bytes : List Byte) (poison : Bool) (s : State) : Host.Outcome State Fault Refusal :=
  if s.bit (rCXL_LINK) 9 = false ∨ h + bytes.length > 2 ^ 45 ∨ s.ideStopped then .next s
  else
    let s := if poison then s.count (rCXL_HPOIS) 1 else s
    .next { s with hostIn := s.hostIn.putN h bytes,
                   hostPois := (List.range bytes.length).foldl (fun z i => mapPut false z (h + i) poison) s.hostPois }

/-- HOST_WRITE_COMPLETION (R304): the host acknowledges the k-th outstanding write of core c to its memory, which is then performed at
module scope. -/
def execHostWriteCompletion (c : Fin 96) (k : Nat) (s : State) : Host.Outcome State Fault Refusal :=
  let hs := ((s.core c).outw.filter (fun w => w.2 = .host)).map (·.1)
  .next (match hs[k]? with
    | some id =>
      let t := s.modCore c (fun q => { q with outw := q.outw.filter (fun w => !(w.1 = id && w.2 = .host)) })
      match (s.core c).xfers.find? (fun x => x.uid = id) with
      | some x => t.xferDone c x
      | none => t.settle c
    | none => s)

/-- HOST_SNOOP (R304): the module holds no host line beyond its transaction, so a snoop misses. -/
def execHostSnoop (h : Nat) (s : State) : Host.Outcome State Fault Refusal :=
  .next (if s.bit (rCXL_LINK) 9 then s.emit (.snoopMiss h) else s)

end Sys2Proof.Machine
end

