-- ==== Sys2Proof/Machine/RegRows.lean ====
section
/-!
DEFINITION. The commands that are accesses of registers: the general write and reads (R387 to R390), and those writes whose effect has a
row of its own. `r` is the requester (R393): 0 the PF, 1 to 8 the VFs, 9 the safety die with Ifendi and PLDM. A row of a guarded write
stands for both its parts (R394).
-/
namespace Sys2Proof.Machine

/-- REGISTER_WRITE (R390): requester r writes `len` bytes at register-space offset `off`, in any window. -/
def execRegisterWrite (r : Fin 10) (off len v : Nat) (s : State) : Host.Outcome State Fault Refusal := .next (s.writeReg r off len v)

/-- CLEARING_READ (R387): requester r reads `len` bytes; at the base address the RC bits returned as 1 clear. -/
def execClearingRead (r : Fin 10) (off len : Nat) (s : State) : Host.Outcome State Fault Refusal :=
  let x := s.readReg r off len
  .next { x.1 with out := x.1.out ++ [Output.value x.2] }

/-- LATCHED_READ (R389): requester r reads the low word of a pair, which latches the high word for it. -/
def execLatchedRead (r : Fin 10) (off : Nat) (s : State) : Host.Outcome State Fault Refusal :=
  let x := s.readReg r off 4
  .next { x.1 with out := x.1.out ++ [Output.value x.2] }

/-! ## Chain (R264, R265, R277, R284, R294) -/

/-- PORT_ENABLE (R264). -/
def execPortEnable (r : Fin 10) (p : Fin 12) (s : State) : Host.Outcome State Fault Refusal := .next (s.guarded r (rCH_CTRL p.val) 1)

/-- PORT_DISABLE (R265): the port is DOWN at once, and loses its link (R293). -/
def execPortDisable (r : Fin 10) (p : Fin 12) (s : State) : Host.Outcome State Fault Refusal := .next (s.guarded r (rCH_CTRL p.val) 0)

/-- RETRAIN (R265): a port that is UP goes back to TRAIN; EN is written as it stands. -/
def execRetrain (r : Fin 10) (p : Fin 12) (s : State) : Host.Outcome State Fault Refusal :=
  .next (s.guarded r (rCH_CTRL p.val) (setBits 1 1 1 (s.reg (rCH_CTRL p.val))))

/-- NODEID (R277): refused unless every port is DOWN. -/
def execNodeid (r : Fin 10) (n : BitVec 12) (s : State) : Host.Outcome State Fault Refusal :=
  .next (s.guarded r (rCHC_NODEID) (n.setWidth 32))

/-- RSTSEND (R294): a CTRL RESET to node n. -/
def execRstsend (r : Fin 10) (n : BitVec 12) (s : State) : Host.Outcome State Fault Refusal :=
  .next (s.guarded r (rCHC_RSTSEND) (setBits 31 31 1 (n.setWidth 32)))

/-- SLOT_CONFIG (R284): entry i of port p's slot schedule, in force from the next port frame. -/
def execSlotConfig (r : Fin 10) (p : Fin 12) (i : Fin 16) (v : Word32) (s : State) : Host.Outcome State Fault Refusal :=
  .next (s.regWrite r (rCHC_SLOT p.val i.val) v)

/-! ## Units, time, memory -/

/-- COMMIT (R13): cluster k's staged gang map is to be committed. -/
def execCommit (r : Fin 10) (k : Fin 8) (s : State) : Host.Outcome State Fault Refusal := .next (s.guarded r (rUCB_cl_GANGCTL k.val) 1)

/-- SPLITALL (R13): cluster k's split map is to be committed. -/
def execSplitall (r : Fin 10) (k : Fin 8) (s : State) : Host.Outcome State Fault Refusal := .next (s.guarded r (rUCB_cl_GANGCTL k.val) 3)

/-- TIME_CTRL (R40). -/
def execTimeCtrl (r : Fin 10) (v : Word32) (s : State) : Host.Outcome State Fault Refusal := .next (s.guarded r (rTIME_CTRL) v)

/-- SLWIN (R228): window k is staged or refused. -/
def execSlwin (r : Fin 10) (k : Fin 16) (v : Word32) (s : State) : Host.Outcome State Fault Refusal :=
  .next (s.guarded r (rGLB_SLWIN k.val) v)

/-- INJECT_ARM (R240): controller n's injection. -/
def execInjectArm (r : Fin 10) (n : Fin 12) (v : Word32) (s : State) : Host.Outcome State Fault Refusal :=
  .next (s.guarded r (rMC_INJCTL n.val) v)

/-- INJARR (R347). -/
def execInjarr (r : Fin 10) (v : Word32) (s : State) : Host.Outcome State Fault Refusal := .next (s.guarded r (rERR_INJARR) v)

/-- SCNT_INC (R183): v is added to counter n of core c. -/
def execScntInc (r : Fin 10) (c : Fin 96) (n : Fin 64) (v : Word32) (s : State) : Host.Outcome State Fault Refusal :=
  .next (s.regWrite r (0x10000000 + 0x100000 * c.val + kSCNT_INC n.val) v)

/-! ## Partitions and rings (R306 to R311) -/

/-- PART_CFG (R306): staged until the tick window. -/
def execPartCfg (r : Fin 10) (p : Fin 8) (v : Word32) (s : State) : Host.Outcome State Fault Refusal :=
  .next (s.guarded r (rPART_CFG p.val) v)

/-- PART_RESET (R307). -/
def execPartReset (r : Fin 10) (p : Fin 8) (s : State) : Host.Outcome State Fault Refusal := .next (s.guarded r (rPART_CTRL p.val) 1)

/-- INVAL (R309): the cached translations of partition p are invalidated. The model caches none: a translation uses the entry in
memory (log entry 34). -/
def execInval (r : Fin 10) (p : Fin 8) (s : State) : Host.Outcome State Fault Refusal := .next (s.regWrite r (rPART_CTRL p.val) 2)

/-- INVAL_COMPLETE (R309). -/
def execInvalComplete (p : Fin 8) (s : State) : Host.Outcome State Fault Refusal :=
  .next (s.setBit (rPART_STATUS p.val) 13 false)

/-- RING_ENABLE (R311): ring q of partition p, of 2^n descriptors. -/
def execRingEnable (r : Fin 10) (p : Fin 8) (q : Fin 4) (n : Fin 16) (s : State) : Host.Outcome State Fault Refusal :=
  .next (s.regWrite r (rPART_RCFG p.val q.val) (BitVec.ofNat 32 (n.val + 2 ^ 31)))

/-! ## The error block (R339, R387) -/

/-- LOGEN (R339): the host log is enabled. -/
def execLogen (r : Fin 10) (s : State) : Host.Outcome State Fault Refusal :=
  .next (s.regWrite r (rERR_CTRL) (setBits 0 0 1 (s.reg (rERR_CTRL))))

/-- LOGC (R339): slots consumed by the host. -/
def execLogc (r : Fin 10) (v : Word32) (s : State) : Host.Outcome State Fault Refusal := .next (s.regWrite r (rERR_LOGC) v)

/-- HDATA (R387): a base-address read answers a word of the history and advances HIDX. Where the history's words lie in its image the
spec does not say: the word is free (log entry 35). -/
def execHdata (r : Fin 10) (s : State) : Host.Outcome State Fault Refusal :=
  let x := s.readReg r (rERR_HDATA) 4
  .next { x.1 with out := x.1.out ++ [Output.value x.2] }

/-! ## Debug, resets, power states, scrub (R361, R364, R375, R423) -/

/-- DBG_HALT_WRITE (R423). -/
def execDbgHaltWrite (r : Fin 10) (m : Fin 3) (v : Word32) (s : State) : Host.Outcome State Fault Refusal :=
  .next (s.guarded r (rDBG_HALT m.val) v)

/-- SYSRST (R364). -/
def execSysrst (r : Fin 10) (s : State) : Host.Outcome State Fault Refusal := .next (s.guarded r (rRST_CTRL) 1)

/-- CORERST (R364). -/
def execCorerst (r : Fin 10) (s : State) : Host.Outcome State Fault Refusal := .next (s.guarded r (rRST_CTRL) 2)

/-- PSREQ_S0 (R375). -/
def execPsreqS0 (r : Fin 10) (s : State) : Host.Outcome State Fault Refusal := .next (s.guarded r (rRST_PSREQ) 0x80000000)

/-- PSREQ_S1 (R375). -/
def execPsreqS1 (r : Fin 10) (s : State) : Host.Outcome State Fault Refusal := .next (s.guarded r (rRST_PSREQ) 0x80000001)

/-- PSREQ_S2 (R375). -/
def execPsreqS2 (r : Fin 10) (s : State) : Host.Outcome State Fault Refusal := .next (s.guarded r (rRST_PSREQ) 0x80000002)

/-- PSREQ_S3 (R375). -/
def execPsreqS3 (r : Fin 10) (s : State) : Host.Outcome State Fault Refusal := .next (s.guarded r (rRST_PSREQ) 0x80000003)

/-- SCRUB_GO (R361): a scrub of `len` units of 2 MiB from SEC.SCRUBBASE. -/
def execScrubGo (r : Fin 10) (len : Nat) (s : State) : Host.Outcome State Fault Refusal :=
  .next (s.guarded r (rSEC_SCRUBCTL) (BitVec.ofNat 32 (len % 2 ^ 20 + 2 ^ 31)))

/-! ## Requests to the power firmware (R325, R329): by mailbox, or with no requester by PLDM -/

/-- A request: MBARG and then the guarded write of MBCMD, or PLDM. -/
def State.request (s : State) (r : Option (Fin 10)) (cmd arg tag : Nat) : State :=
  match r with
  | some r => (s.regWrite r (rPWR_MBARG) (BitVec.ofNat 32 arg)).guarded r (rPWR_MBCMD) (BitVec.ofNat 32 (cmd + 2 ^ 16 * (tag % 256)))
  | none => if s.phase.alive ∧ s.phase ≠ .recovery then s.pldmRequest cmd arg tag else s

/-- SET_SUS (R329). -/
def execMbSetSus (r : Option (Fin 10)) (arg tag : Nat) (s : State) : Host.Outcome State Fault Refusal := .next (s.request r 1 arg tag)

/-- SET_PEAK (R329). -/
def execMbSetPeak (r : Option (Fin 10)) (arg tag : Nat) (s : State) : Host.Outcome State Fault Refusal := .next (s.request r 2 arg tag)

/-- SET_RESERVE (R329). -/
def execMbSetReserve (r : Option (Fin 10)) (arg tag : Nat) (s : State) : Host.Outcome State Fault Refusal :=
  .next (s.request r 3 arg tag)

/-- RELEASE (R325). -/
def execMbRelease (r : Option (Fin 10)) (arg tag : Nat) (s : State) : Host.Outcome State Fault Refusal :=
  .next (s.request r 4 arg tag)

end Sys2Proof.Machine
end

