-- ==== Sys2Proof/Machine/Ifendi.lean ====
section
/-!
DEFINITION. The Ifendi monitor (spec/22_ifendi.md, R417 to R424). Each command is one line of the operator; a reply is a list of output
lines, each of which the monitor ends with CR LF, and the last of which its prompt follows. Where the spec names what a reply holds and
not its text, the text is this model's (log entry 48).
-/
namespace Sys2Proof.Machine

/-! ## Sessions and replies -/

/-- DBG.STATUS.LEVEL. -/
def State.level (s : State) : Nat := s.fld (rDBG_STATUS) 1 0

def State.setLevel (s : State) (n : Nat) : State := s.setFld (rDBG_STATUS) 1 0 n

/-- Print a line. -/
def State.say (s : State) (t : String) : State := s.emit (.line t)

/-- A reply of the session's new level. -/
def State.sayLevel (s : State) : State := s.say ("level " ++ hexText s.level 1)

/-- Serve a command of `lvl` (R418, R421): nothing answers while the safety die is off or in recovery, and until phase 3 of a start-up has
ended the monitor is busy. -/
def State.ifendi (s : State) (lvl : Nat) (act : State → State) : State :=
  if s.phase.alive = false ∨ s.phase = .recovery then s
  else if s.phase = .boot ∨ s.phase = .trims ∨ s.phase = .sfw then s.say "E 20 busy"
  else if s.level < lvl then s.say "E 10 level"
  else act s

/-- Note an act of R362 on partition p: DBGOBS, and the line that says so (R420). -/
def State.observed (s : State) (p : Option Nat) : State :=
  match p with
  | some n => if s.bit (rSEC_PSTATE n) 0 then (s.observe n).say ("W observed " ++ hexText n 1) else s
  | none => s

/-- The partitions observed, each noted once. -/
def State.observedAll (s : State) (ps : List (Option Nat)) : State := ps.eraseDups.foldl State.observed s

/-- MALFORMED_COMMAND (R417, R421): a line too long, or one that names no valid command. -/
def execMalformedCommand (long : Bool) (s : State) : Host.Outcome State Fault Refusal :=
  .next (s.ifendi 0 (fun s => s.say (if long then "E 01 line" else "E 02 syntax")))

/-- IFENDI_ROM_RECOVERY (R418): once per second in recovery. -/
def execIfendiRomRecovery (s : State) : Host.Outcome State Fault Refusal :=
  .next (if s.phase = .recovery then s.say "IFENDI ROM RECOVERY" else s)

/-! ## Level 0 (R419, R421) -/

/-- HELP (R421): the commands of the session's level. -/
def execIfHelp (s : State) : Host.Outcome State Fault Refusal :=
  .next (s.ifendi 0 (fun s =>
    let l := ["help", "ver", "login", "unlock [sig]", "lock"] ++ (if s.level ≥ 1 then ["status", "log [n]", "rd a [n]"] else [])
      ++ (if s.level ≥ 2 then ["rdc a", "wr a v", "wrg a v", "dump a n", "halt c", "go c", "step c [n]", "trace c on", "trace off",
            "trace show [n]", "reset core", "reset sys", "ps s"] else [])
    l.foldl State.say s))

/-- VER (R421): GLB.IDENT, GLB.REV, the SVNs and the slot booted. -/
def execIfVer (s : State) : Host.Outcome State Fault Refusal :=
  .next (s.ifendi 0 (fun s =>
    (((s.say (hexText (s.view 9 (rGLB_IDENT)).toNat 8)).say (hexText (s.view 9 (rGLB_REV)).toNat 8)).say
      (hexText (s.reg (rSEC_SVN)).toNat 8)).say (if s.bit (rSEC_STATUS) 2 then "slot B" else "slot A")))

/-- LOGIN (R419): a closed session becomes observer. -/
def execIfLogin (s : State) : Host.Outcome State Fault Refusal :=
  .next (s.ifendi 0 (fun s => (if s.level = 0 then s.setLevel 1 else s).sayLevel))

/-- LOCK (R419): the session closes; DBGMOD stays. -/
def execIfLock (s : State) : Host.Outcome State Fault Refusal :=
  .next (s.ifendi 0 (fun s => ({ s with mon := { s.mon with challenge := none } }.setLevel 0).sayLevel))

/-- A failed answer (R419): the session closes, and five failures within 10 minutes lock `unlock` out. -/
def State.unlockFails (s : State) : State :=
  let l := (s.optime :: s.mon.fails).filter (fun t => decide (s.optime ≤ t + 600))
  let s := { s with mon := { s.mon with fails := if l.length ≥ 5 then [] else l } }.setLevel 0
  (if l.length ≥ 5 then s.setBit (rDBG_STATUS) 2 true else s).sayLevel

/-- The operator public key in the running SFW (R419). -/
def State.operatorKey (s : State) : List Byte := Config.operatorKey (imgBody (s.sec.running.getD ⟨[], []⟩).sfw)

/-- UNLOCK (R419): without a signature, a fresh challenge; with one, the answer to it. -/
def execIfUnlock (sig : Option (List Byte)) (s : State) : Host.Outcome State Fault Refusal :=
  .next (s.ifendi 0 (fun s =>
    if s.bit (rDBG_STATUS) 2 then s.say "E 31 refused"
    else match sig with
    | none =>
      let ch := (Config.randomBytes s.freeCtr).take 8
      { s with freeCtr := s.freeCtr + 1, mon := { s.mon with challenge := some ch } }.say
        (ch.foldl (fun (t : String) (b : Byte) => t ++ hexText b.toNat 2) "")
    | some x =>
      if x.length ≠ 96 then s.say "E 02 syntax"
      else
        let ok := match s.mon.challenge with
          | some ch => Config.ecdsaVerify s.operatorKey (Config.sha384 (ch ++ Config.deviceSerial)) x
          | none => false
        let s := { s with mon := { s.mon with challenge := none } }
        if ok then ((s.setLevel 2).setBit (rSEC_STATUS) 5 true).sayLevel else s.unlockFails))

/-- UNLOCK_TIMEOUT (R419): 60 s without the answer. -/
def execUnlockTimeout (s : State) : Host.Outcome State Fault Refusal :=
  .next (if s.phase.alive ∧ s.mon.challenge ≠ none then { s with mon := { s.mon with challenge := none } }.setLevel 0 else s)

/-- LOCKOUT_EXPIRY (R419): 10 minutes after the lockout began. -/
def execLockoutExpiry (s : State) : Host.Outcome State Fault Refusal :=
  .next (if s.phase.alive then s.setBit (rDBG_STATUS) 2 false else s)

/-! ## Level 1 (R421) -/

/-- STATUS (R421): power state, PWR.STATUS, TJMAX, the partitions' STATUS, AVSUM. -/
def execIfStatus (s : State) : Host.Outcome State Fault Refusal :=
  .next (s.ifendi 1 (fun s =>
    let s := ((s.say ("S" ++ hexText (s.fld (rRST_STATUS) 5 4) 1)).say (hexText (s.reg (rPWR_STATUS)).toNat 8)).say
      (hexText (s.fld (rPWR_TEMP) 11 0) 3)
    let s := (List.range 8).foldl (fun (s : State) p => s.say (hexText (s.view 9 (rPART_STATUS p)).toNat 8)) s
    s.say (hexText (s.reg (rAVSUM)).toNat 8)))

/-- Lines of 16 bytes, each as two digits. -/
def byteLines (b : List Byte) : List String :=
  (List.range ((b.length + 15) / 16)).map (fun i =>
    ((b.drop (16 * i)).take 16).foldl (fun (t : String) (x : Byte) => (if t = "" then t else t ++ " ") ++ hexText x.toNat 2) "")

/-- LOG (R421): the n newest records of the event log, newest last. -/
def execIfLog (n : Nat) (s : State) : Host.Outcome State Fault Refusal :=
  .next (s.ifendi 1 (fun s => ((s.evlog.drop (s.evlog.length - n)).flatMap byteLines).foldl State.say s))

/-! ## Reads and writes (R420 to R422) -/

/-- Where an address of the monitor lies: a register-space offset, memory, or out of range. -/
inductive MonAddr where
  | reg (off : Nat)
  | mem
  | none
deriving DecidableEq, Repr

/-- Table 20-6 without host memory. -/
def monAddr (a : Nat) : MonAddr :=
  if 0xF00000000000 ≤ a ∧ a < 0xF00016000000 then .reg (a - 0xF00000000000)
  else if a < hbmEnd ∨ (0xA00000000000 ≤ a ∧ a < 0xA00060000000) then .mem
  else .none

/-- Registers that an observer may read: GLB, RST, PWR, ERR, SEC, TIME, PART, TRIM and every UCB (R419). -/
def observerReg (off : Nat) : Bool :=
  decide (off < 0x80000) || decide (0x8000000 ≤ off ∧ off < 0x8800000)
    || (decide (0xE000000 ≤ off ∧ off < 0xE200000) && decide (off % 0x2000 ≥ 0x1000))
    || (decide (0x10000000 ≤ off ∧ off < 0x16000000) && decide (off % 0x100000 / 0x10000 = 7))

/-- The partition that a read of device memory observes: the core's, or the one whose TE range holds the address (R362). -/
def State.observedMem (s : State) (a : Nat) : Option Nat :=
  if a < hbmEnd then
    (List.range 8).find? (fun n => (List.range 4).any (fun r =>
      let w := s.reg64 (rSEC_TE n r)
      decide (w % 2 ^ 48 ≤ a ∧ a < w % 2 ^ 48 + w / 2 ^ 48 * 2 ^ 25)))
  else match s.locate a with
    | .lm c _ => s.partOf c
    | _ => none

/-- The partition that a 32-bit read at an address observes. -/
def State.observedAt (s : State) (a : Nat) : Option Nat :=
  match monAddr a with
  | .reg off => s.observedBy (baseOf off)
  | .mem => s.observedMem a
  | .none => none

/-- One 32-bit read: its value, or nothing where the data is poisoned. -/
def State.monRead (s : State) (a : Nat) (base : Bool) : State × Option Nat :=
  match monAddr a with
  | .reg off =>
    let r := s.regRead 9 (if !base ∧ winOf off = 0 then aliasOf off else off)
    (r.1, some r.2.toNat)
  | _ => let r := s.devRead a 4; (r.1, if r.2.2 then none else some (leNat r.2.1))

/-- A line of a read. -/
def readLineText (a : Nat) (v : Option Nat) : String :=
  hexText a 12 ++ ": " ++ (match v with | some x => hexText x 8 | none => "P")

/-- RD (R421): n 32-bit reads from a, as alias reads. -/
def execIfRd (a n : Nat) (s : State) : Host.Outcome State Fault Refusal :=
  .next (s.ifendi 1 (fun s =>
    let as := (List.range n).map (fun i => a + 4 * i)
    if n = 0 then s.say "E 02 syntax"
    else if a % 4 ≠ 0 ∨ as.any (fun x => monAddr x = .none) then s.say "E 11 range"
    else if s.level < 2 ∧ !(as.all (fun x => match monAddr x with | .reg o => observerReg o | _ => false)) then s.say "E 10 level"
    else
      let s := s.observedAll (as.map s.observedAt)
      as.foldl (fun (s : State) x => let r := s.monRead x false; r.1.say (readLineText x r.2)) s))

/-- RDC (R421): one read at the base address, with its side effects. -/
def execIfRdc (a : Nat) (s : State) : Host.Outcome State Fault Refusal :=
  .next (s.ifendi 2 (fun s =>
    if a % 4 ≠ 0 ∨ monAddr a = .none then s.say "E 11 range"
    else
      let r := (s.observed (s.observedAt a)).monRead a true
      r.1.say (readLineText a r.2)))

/-- WR (R421): one 32-bit write. -/
def execIfWr (a : Nat) (v : Word32) (s : State) : Host.Outcome State Fault Refusal :=
  .next (s.ifendi 2 (fun s =>
    if a % 4 ≠ 0 then s.say "E 11 range"
    else match monAddr a with
    | .none => s.say "E 11 range"
    | .reg off => (s.writeReg 9 off 4 v.toNat).say "ok"
    | .mem => (s.devWrite a (leBytes 4 v.toNat) false).say "ok"))

/-- WRG (R421, R422): a guarded write, its two parts together. -/
def execIfWrg (a : Nat) (v : Word32) (s : State) : Host.Outcome State Fault Refusal :=
  .next (s.ifendi 2 (fun s =>
    match monAddr a with
    | .reg off =>
      if a % 4 ≠ 0 then s.say "E 11 range"
      else
        let t := s.guarded 9 off v
        let clean := { s with gstat := mapPut 0 s.gstat 9 (mapGet 0 s.gstat 9 &&& ~~~1#32) }
        if (mapGet 0 (clean.guarded 9 off v).gstat 9).getLsbD 0 then
          t.say ("E 30 guard " ++ hexText (t.view 9 (rGLB_GSTAT)).toNat 8)
        else t.say "ok"
    | _ => s.say "E 11 range"))

/-- DUMP (R421): n bytes of HBM or a local-memory window, 16 on a line. -/
def execIfDump (a n : Nat) (s : State) : Host.Outcome State Fault Refusal :=
  .next (s.ifendi 2 (fun s =>
    if n = 0 ∨ n > 4096 ∨ a % 32 ≠ 0 then s.say "E 02 syntax"
    else if monAddr a ≠ .mem ∨ monAddr (a + n - 1) ≠ .mem then s.say "E 11 range"
    else
      let s := s.observedAll ((List.range ((n + 31) / 32)).map (fun i => s.observedMem (a + 32 * i)))
      (List.range ((n + 15) / 16)).foldl (fun (s : State) i =>
        let r := s.devRead (a + 16 * i) (min 16 (n - 16 * i))
        r.1.say (hexText (a + 16 * i) 12 ++ ": " ++ (if r.2.2 then "P" else (byteLines r.2.1).headD ""))) s))

/-! ## Halt, step and trace (R423, R424) -/

/-- HALT (R423): the whole gang of core c. -/
def execIfHalt (c : Fin 96) (s : State) : Host.Outcome State Fault Refusal :=
  .next (s.ifendi 2 (fun s => ((s.observed (s.partOf c)).haltGang c true).say "ok"))

/-- GO (R423): the block goes on at the next tick. -/
def execIfGo (c : Fin 96) (s : State) : Host.Outcome State Fault Refusal :=
  .next (s.ifendi 2 (fun s => (s.haltGang c false).say "ok"))

/-- STEP (R423): the halted gang of core c is to issue n bundles; the PC is printed after each. -/
def execIfStep (c : Fin 96) (n : Nat) (s : State) : Host.Outcome State Fault Refusal :=
  .next (s.ifendi 2 (fun s =>
    if n = 0 ∨ n > 256 then s.say "E 02 syntax"
    else if s.haltBit c = false then s.say "E 31 refused"
    else (s.observed (s.partOf c)).eachMember c (fun m s => s.modCore m (fun k => { k with steps := some n }))))

/-- TRACE_ON (R424): bundles of core c are recorded; another core's ring is discarded. -/
def execIfTraceOn (c : Fin 96) (s : State) : Host.Outcome State Fault Refusal :=
  .next (s.ifendi 2 (fun s =>
    let s := s.observed (s.partOf c)
    let s := if s.fld (rDBG_STATUS) 10 4 = c.val then s
      else { s with mon := { s.mon with trace := [] } }.setReg (rDBG_TRPTR) 0
    ((s.setFld (rDBG_STATUS) 10 4 c.val).setBit (rDBG_STATUS) 3 true).say "ok"))

/-- TRACE_OFF (R424). -/
def execIfTraceOff (s : State) : Host.Outcome State Fault Refusal :=
  .next (s.ifendi 2 (fun s => (s.setBit (rDBG_STATUS) 3 false).say "ok"))

/-- Ring indices of the entries held, oldest first. -/
def State.traceOrder (s : State) : List Nat :=
  let n := s.fld (rDBG_TRPTR) 11 0
  if s.bit (rDBG_TRPTR) 12 then (List.range 4096).map (fun i => (n + i) % 4096) else List.range n

/-- TRACE_SHOW (R424): the n newest entries, or all of them, newest last. -/
def execIfTraceShow (n : Option Nat) (s : State) : Host.Outcome State Fault Refusal :=
  .next (s.ifendi 2 (fun s =>
    let l := s.traceOrder
    let l := match n with | some k => l.drop (l.length - k) | none => l
    l.foldl (fun (s : State) i =>
      match mapFind s.mon.trace i with
      | some e => s.say (hexText e.1 16 ++ " " ++ hexText e.2.1 4 ++ " " ++ hexText e.2.2.1 4 ++ " " ++ hexText e.2.2.2 8)
      | none => s) s))

/-! ## Resets and power states (R421) -/

/-- RESET_CORE (R421): a guarded write of RST.CTRL.CORERST. -/
def execIfResetCore (s : State) : Host.Outcome State Fault Refusal :=
  .next (s.ifendi 2 (fun s => (s.guarded 9 (rRST_CTRL) 2).say "ok"))

/-- RESET_SYS (R421): a guarded write of RST.CTRL.SYSRST. -/
def execIfResetSys (s : State) : Host.Outcome State Fault Refusal :=
  .next (s.ifendi 2 (fun s => (s.guarded 9 (rRST_CTRL) 1).say "ok"))

/-- PS (R421): a request of power state t through RST.PSREQ. -/
def execIfPs (t : Fin 4) (s : State) : Host.Outcome State Fault Refusal :=
  .next (s.ifendi 2 (fun s =>
    let v : Word32 := BitVec.ofNat 32 (2 ^ 31 + t.val)
    let refused := ((s.setBit (rRST_STATUS) 8 false).guarded 9 (rRST_PSREQ) v).bit (rRST_STATUS) 8
    (s.guarded 9 (rRST_PSREQ) v).say (if refused then "E 31 refused" else "ok")))

end Sys2Proof.Machine
end

