-- ==== Sys2Proof/Machine/LoadStore.lean ====
section
/-!
DEFINITION. Scalar loads and stores, instruction-buffer loads and table loads (spec/10_isa.md, R215, R216; spec/07_functions.md, R148,
R149, R153).
-/
namespace Sys2Proof.Machine

/-- The value a load of `width` bytes delivers: sign-extended, or zero-extended with UNS (R215). -/
def loadVal (width : Nat) (uns : Bool) (v : Nat) : Word64 :=
  if uns then BitVec.ofNat 64 v else BitVec.ofInt 64 (sint (8 * width) v)

/-- Bytes of own local memory as a load of the core reads them: a byte that a running transfer writes is its old value or a new
one, by a free choice (R177). -/
def State.ownRead (s : State) (m : Fin 96) (a w : Nat) : State × Nat × Bool :=
  let k := s.core m
  let alts := (k.xfers.filter (·.running)).map (fun x => (s.xferRun m x none).1.core m)
  if alts = [] then (s, leNat (k.lmRead a w), k.lmPoison a w)
  else
    let pick (i : Nat) : Core :=
      let q := Config.freeNat s.freeCtr / (alts.length + 1) ^ i % (alts.length + 1)
      if q = 0 then k else alts.getD (q - 1) k
    ({ s with freeCtr := s.freeCtr + 1 }, leNat ((List.range w).map (fun i => (pick i).lm.get (a + i))),
      (List.range w).any (fun i => (pick i).lmPoison (a + i) 1))

/-- LD (R215): a load from own local memory. It stalls while 8 loads are outstanding, or a queued drain writes its bytes (R89). -/
def execLd (i : Issue) (f : Fields) (s : State) : Host.Outcome State Fault Refusal :=
  let w := accWidth f
  s.issue 0xC0 i f
    (fun m s =>
      let k := s.core m
      let a := k.accAddr f
      let op := s.opOf m 0xC0
      if a % w ≠ 0 then s.seqFault m 5 3 op
      else if a + w > lmEnd then s.layFault m 2 0 op
      else
        let r := s.ownRead m a w
        let l : Load := { dst := f.dst, width := w, uns := f.mb 24, src := .value r.2.1 r.2.2, opw := op, addr := a, inj := false }
        r.1.modCore m (fun k => { k with loads := k.loads ++ [l] }))

/-- A device access of `w` bytes at partition virtual address `a` for core m: where it lies, or the fault it takes (R176, R308). -/
def State.devAccess (s : State) (m : Fin 96) (a w : Nat) (write : Bool) (op : Nat) (g : Nat → State → State) : State :=
  match s.translateN (s.core m).part a w write with
  | (s, .ok as) => g (as.headD 0) s
  | (s, .fail va) => s.xlateFault m va 0 op
  | (s, .poison off) => s.ptePoison (s.core m).part m op off

/-- LDG (R215): a load from a device address. Data of host memory is read when it returns. -/
def execLdg (i : Issue) (f : Fields) (s : State) : Host.Outcome State Fault Refusal :=
  let w := accWidth f
  s.issue 0xC2 i f (fun m s =>
    let a := (s.core m).accAddr f
    let op := s.opOf m 0xC2
    if a % w ≠ 0 then s.seqFault m 5 3 op
    else s.devAccess m a w false op (fun pa s =>
      match s.locate pa with
      | .host h =>
        let l : Load := { dst := f.dst, width := w, uns := f.mb 24, src := .device pa, opw := op, addr := h, inj := false }
        (s.hostAsk ((List.range w).map (pa + ·))).modCore m (fun k => { k with loads := k.loads ++ [l] })
      | _ =>
        let r : State × Nat × Bool :=
          match s.locate pa with
          | .lm c o => if c = m then s.ownRead m o w else let r := s.devRead pa w; (r.1, leNat r.2.1, r.2.2)
          | _ => let r := s.devRead pa w; (r.1, leNat r.2.1, r.2.2)
        let l : Load :=
          { dst := f.dst, width := w, uns := f.mb 24, src := .value r.2.1 r.2.2, opw := op, addr := s.dataAddr pa,
            inj := match s.locate pa with | .hbm _ => r.1.injPois | _ => false }
        r.1.modCore m (fun k => { k with loads := k.loads ++ [l] })))

/-- Poison consumed by a load (R215, R238): SEQ.FAULT cause 6 with the slot and buffer index of the load. -/
def State.loadPoison (s : State) (c : Fin 96) (l : Load) : State :=
  let s := s.modCore s.gang[c] (fun k => k.faultReg (kSEQ_FAULT) (6 + 16 * 3 + 2 ^ 16 * bitsOf 20 10 l.opw))
  s.poisonUse c 8 l.opw l.addr l.inj

/-- LOAD_RETURN (R215): load k of the core returns and writes its register; poison stops the partition and writes none. -/
def execLoadReturn (c : Fin 96) (k : Nat) (s : State) : Host.Outcome State Fault Refusal :=
  match (s.core c).loads[k]? with
  | none => .next s
  | some l =>
    let s := s.modCore c (fun q => { q with loads := q.loads.eraseIdx k })
    let r : State × Nat × Bool := match l.src with
      | .value v p => (s, v, p)
      | .device a =>
        let r := s.devRead a l.width
        (r.1, leNat r.2.1, r.2.2)
    if r.2.2 then .next (r.1.loadPoison c l)
    else .next (r.1.modCore c (fun q => q.setS l.dst (loadVal l.width l.uns r.2.1)))

/-- ST (R215): a store to own local memory, an ordered operation (R187). -/
def execSt (i : Issue) (f : Fields) (s : State) : Host.Outcome State Fault Refusal :=
  let w := accWidth f
  s.issue 0xC1 i f (fun m s =>
    let k := s.core m
    let a := k.accAddr f
    if a % w ≠ 0 then s.seqFault m 5 3 (s.opOf m 0xC1)
    else if a + w > lmEnd then s.layFault m 2 0 (s.opOf m 0xC1)
    else s.ordered m (.store false a w (k.rs f.b).toNat))

/-- STG (R215): a store to a device address, an ordered operation. -/
def execStg (i : Issue) (f : Fields) (s : State) : Host.Outcome State Fault Refusal :=
  let w := accWidth f
  s.issue 0xC3 i f (fun m s =>
    let k := s.core m
    let a := k.accAddr f
    let op := s.opOf m 0xC3
    if a % w ≠ 0 then s.seqFault m 5 3 op
    else s.devAccess m a w true op (fun pa s => s.ordered m (.store true pa w (k.rs f.b).toNat)))

/-! ## Instruction buffer (R46, R216) -/

/-- IBLOAD (R216): the leader's buffer loads COUNT + 1 lines. -/
def execIbload (i : Issue) (f : Fields) (s : State) : Host.Outcome State Fault Refusal :=
  s.issue 0xCB i f (fun m s =>
    if m ≠ i.core then s
    else
      let k := s.core m
      let a := (k.rs f.a).toNat
      let n := f.m 11 6 + 1
      let op := s.opOf m 0xCB
      if a % 64 ≠ 0 then s.seqFault m 5 3 op
      else if !f.mb 12 && decide (a + 1024 * n > lmEnd) then s.layFault m 2 0 op
      else
        let ls := (List.range n).map (fun j =>
          ({ uid := s.nextId, line := (f.m 5 0 + j) % 64, dev := f.mb 12, addr := a + 1024 * j, opw := op } : IbLoad))
        { s with nextId := s.nextId + 1 }.modCore m (fun k =>
          { k with ibValid := ls.foldl (fun (v : BitVec 64) (l : IbLoad) => maskSet v l.line false) k.ibValid, ibLoads := k.ibLoads ++ ls }))

/-- Put a line into the buffer: valid unless a later load of it is under way, poisoned as its data is (R46, R216). -/
def Core.ibPut (k : Core) (line : Nat) (b : List Byte) (p : Bool) (src : Bool × Nat) : Core :=
  { k with ibSrc := if p then mapSet k.ibSrc line src else mapErase k.ibSrc line,
           ib := k.ib.putN (1024 * line) b,
           ibValid := maskSet k.ibValid line (!(k.ibLoads.any (fun l => l.line = line))),
           ibPois := maskSet k.ibPois line p }

/-- IB_LINE_ARRIVAL (R216): the next line in flight arrives. A line whose address fails translation stops the partition, and it
and the lines after it stay not valid. -/
def execIbLineArrival (c : Fin 96) (s : State) : Host.Outcome State Fault Refusal :=
  match (s.core c).ibLoads with
  | [] => .next s
  | l :: r =>
    let s := s.modCore c (fun k => { k with ibLoads := r })
    let drop (s : State) : State := s.modCore c (fun k => { k with ibLoads := k.ibLoads.filter (fun x => x.uid ≠ l.uid) })
    if l.dev then
      match s.translateN (s.core c).part l.addr 1024 false with
      | (s, .ok as) =>
        let d := (s.hostAsk as).devReadL as
        .next (d.1.modCore c (fun k => k.ibPut l.line d.2.1 d.2.2 (true, as.headD 0)))
      | (s, .fail va) => .next ((drop s).xlateFault c va 0 l.opw)
      | (s, .poison off) => .next ((drop s).ptePoison (s.core c).part c l.opw off)
    else .next (s.modCore c (fun k => k.ibPut l.line (k.lmRead l.addr 1024) (k.lmPoison l.addr 1024) (false, l.addr)))

/-! ## User tables (R148, R149, R153) -/

/-- TLOAD (R149): copy an image to the slot's shadow bank. -/
def execTload (i : Issue) (f : Fields) (s : State) : Host.Outcome State Fault Refusal :=
  s.issue 0xCA i f (fun m s =>
    let k := s.core m
    let a := (k.rs f.a).toNat
    let n := f.dst.toNat
    let op := s.opOf m 0xCA
    if a ≥ lmEnd ∨ a + tableBytes > lmEnd then s.layFault m 2 0 op
    else if a % 64 ≠ 0 then s.tblFault m 3 n op
    else
      let r := s.ownRead m a tableBytes
      let t : TLoad :=
        { slot := n, table := { image := leBytes tableBytes r.2.1, poison := r.2.2 }, block := k.blockNo, opw := op }
      r.1.modCore m (fun k => { k with tloads := k.tloads ++ [t] }))

/-- Whether MODE, LO and SCALE of an image are those R149 permits. -/
def Table.ok (t : Table) : Bool :=
  decide (leNat ((t.image.drop 3080).take 4) ≤ 1) && (t.word 3072).isFin && (t.word 3076).isFin && decide ((t.word 3076).val ≠ 0)

/-- TLOAD_COMPLETE (R149): the oldest table load completes at cycle `cy`: its shadow bank awaits the swap, or the load faults. -/
def execTloadComplete (c : Fin 96) (cy : Nat) (s : State) : Host.Outcome State Fault Refusal :=
  match (s.core c).tloads with
  | [] => .next s
  | t :: r =>
    let s := { s with cycle := cy }.modCore c (fun k => { k with tloads := r })
    if !t.table.ok then .next (s.tblFault c 2 t.slot t.opw)
    else
      let u : TSlot :=
        { (s.core c).tslot t.slot with shadow := some t.table, pend := true, doneAt := 1300 * s.frame + cy, block := t.block }
      .next (s.modCore c (fun k => { k with tslots := k.tslots.set (t.slot % 8) u (Nat.mod_lt _ (by decide)) }))

end Sys2Proof.Machine
end

