-- ==== Sys2Proof/Machine/Scalar.lean ====
section
/-!
DEFINITION. The scalar integer and floating-point instructions (spec/10_isa.md, R201, R209, R210).
-/
namespace Sys2Proof.Machine

/-- R201: a NOP changes nothing but issues. -/
def execNop (i : Issue) (f : Fields) (s : State) : Host.Outcome State Fault Refusal := s.issueCore 0 i f id

/-- A Form R integer operation on sources 1 and 2. -/
def State.intR (s : State) (op : Nat) (i : Issue) (f : Fields) (g : Word64 → Word64 → Word64) :
    Host.Outcome State Fault Refusal :=
  s.issueCore op i f (fun k => k.setS f.dst (g (k.rs f.a) (k.rs f.b)))

/-- Its Form I twin, with the sign-extended immediate in place of source 2. -/
def State.intI (s : State) (op : Nat) (i : Issue) (f : Fields) (g : Word64 → Word64 → Word64) :
    Host.Outcome State Fault Refusal :=
  s.issueCore op i f (fun k => k.setS f.dst (g (k.rs f.a) f.imm))

/-- R209: a + b modulo 2^64. -/
def opAdd (a b : Word64) : Word64 := a + b

/-- R209: a − b. -/
def opSub (a b : Word64) : Word64 := a - b

/-- R209: low 64 bits of the product. -/
def opMul (a b : Word64) : Word64 := a * b

/-- R209: high 64 bits of the signed product. -/
def opMulh (a b : Word64) : Word64 := BitVec.ofInt 64 (a.toInt * b.toInt / 2 ^ 64)

/-- R209: high 64 bits of the unsigned product. -/
def opMulhu (a b : Word64) : Word64 := BitVec.ofNat 64 (a.toNat * b.toNat / 2 ^ 64)

/-- R209: signed quotient, 0 for division by zero. -/
def opDiv (a b : Word64) : Word64 := a.sdiv b

/-- R209: unsigned quotient, 0 for division by zero. -/
def opDivu (a b : Word64) : Word64 := a / b

/-- R209: signed remainder with the sign of the dividend; the dividend for division by zero. -/
def opRem (a b : Word64) : Word64 := a.srem b

/-- R209: unsigned remainder; the dividend for division by zero. -/
def opRemu (a b : Word64) : Word64 := a % b

/-- R209: bitwise and. -/
def opAnd (a b : Word64) : Word64 := a &&& b

/-- R209: bitwise or. -/
def opOr (a b : Word64) : Word64 := a ||| b

/-- R209: bitwise exclusive or. -/
def opXor (a b : Word64) : Word64 := a ^^^ b

/-- R209: left shift; 0 from 64 up. -/
def opShl (a b : Word64) : Word64 := if b.toNat ≥ 64 then 0 else a <<< b.toNat

/-- R209: logical right shift; 0 from 64 up. -/
def opShr (a b : Word64) : Word64 := if b.toNat ≥ 64 then 0 else a >>> b.toNat

/-- R209: arithmetic right shift; the sign from 64 up. -/
def opSra (a b : Word64) : Word64 := a.sshiftRight (min b.toNat 63)

/-- R209: signed less-than. -/
def opSlt (a b : Word64) : Word64 := if a.slt b then 1 else 0

/-- R209: unsigned less-than. -/
def opSltu (a b : Word64) : Word64 := if a.ult b then 1 else 0

/-- R209: equality. -/
def opSeq (a b : Word64) : Word64 := if a = b then 1 else 0

/-- R209: signed minimum. -/
def opMin (a b : Word64) : Word64 := if b.slt a then b else a

/-- R209: signed maximum. -/
def opMax (a b : Word64) : Word64 := if a.slt b then b else a

/-- ADD (R209). -/
def execAdd (i : Issue) (f : Fields) (s : State) : Host.Outcome State Fault Refusal := s.intR 0x01 i f opAdd

/-- ADDI (R209). -/
def execAddi (i : Issue) (f : Fields) (s : State) : Host.Outcome State Fault Refusal := s.intI 0x21 i f opAdd

/-- SUB (R209). -/
def execSub (i : Issue) (f : Fields) (s : State) : Host.Outcome State Fault Refusal := s.intR 0x02 i f opSub

/-- SUBI (R209). -/
def execSubi (i : Issue) (f : Fields) (s : State) : Host.Outcome State Fault Refusal := s.intI 0x22 i f opSub

/-- MUL (R209). -/
def execMul (i : Issue) (f : Fields) (s : State) : Host.Outcome State Fault Refusal := s.intR 0x03 i f opMul

/-- MULI (R209). -/
def execMuli (i : Issue) (f : Fields) (s : State) : Host.Outcome State Fault Refusal := s.intI 0x23 i f opMul

/-- MULH (R209). -/
def execMulh (i : Issue) (f : Fields) (s : State) : Host.Outcome State Fault Refusal := s.intR 0x04 i f opMulh

/-- MULHI (R209). -/
def execMulhi (i : Issue) (f : Fields) (s : State) : Host.Outcome State Fault Refusal := s.intI 0x24 i f opMulh

/-- MULHU (R209). -/
def execMulhu (i : Issue) (f : Fields) (s : State) : Host.Outcome State Fault Refusal := s.intR 0x05 i f opMulhu

/-- MULHUI (R209). -/
def execMulhui (i : Issue) (f : Fields) (s : State) : Host.Outcome State Fault Refusal := s.intI 0x25 i f opMulhu

/-- DIV (R209). -/
def execDiv (i : Issue) (f : Fields) (s : State) : Host.Outcome State Fault Refusal := s.intR 0x06 i f opDiv

/-- DIVI (R209). -/
def execDivi (i : Issue) (f : Fields) (s : State) : Host.Outcome State Fault Refusal := s.intI 0x26 i f opDiv

/-- DIVU (R209). -/
def execDivu (i : Issue) (f : Fields) (s : State) : Host.Outcome State Fault Refusal := s.intR 0x07 i f opDivu

/-- DIVUI (R209). -/
def execDivui (i : Issue) (f : Fields) (s : State) : Host.Outcome State Fault Refusal := s.intI 0x27 i f opDivu

/-- REM (R209). -/
def execRem (i : Issue) (f : Fields) (s : State) : Host.Outcome State Fault Refusal := s.intR 0x08 i f opRem

/-- REMI (R209). -/
def execRemi (i : Issue) (f : Fields) (s : State) : Host.Outcome State Fault Refusal := s.intI 0x28 i f opRem

/-- REMU (R209). -/
def execRemu (i : Issue) (f : Fields) (s : State) : Host.Outcome State Fault Refusal := s.intR 0x09 i f opRemu

/-- REMUI (R209). -/
def execRemui (i : Issue) (f : Fields) (s : State) : Host.Outcome State Fault Refusal := s.intI 0x29 i f opRemu

/-- AND (R209). -/
def execAnd (i : Issue) (f : Fields) (s : State) : Host.Outcome State Fault Refusal := s.intR 0x0A i f opAnd

/-- ANDI (R209). -/
def execAndi (i : Issue) (f : Fields) (s : State) : Host.Outcome State Fault Refusal := s.intI 0x2A i f opAnd

/-- OR (R209). -/
def execOr (i : Issue) (f : Fields) (s : State) : Host.Outcome State Fault Refusal := s.intR 0x0B i f opOr

/-- ORI (R209). -/
def execOri (i : Issue) (f : Fields) (s : State) : Host.Outcome State Fault Refusal := s.intI 0x2B i f opOr

/-- XOR (R209). -/
def execXor (i : Issue) (f : Fields) (s : State) : Host.Outcome State Fault Refusal := s.intR 0x0C i f opXor

/-- XORI (R209). -/
def execXori (i : Issue) (f : Fields) (s : State) : Host.Outcome State Fault Refusal := s.intI 0x2C i f opXor

/-- SHL (R209). -/
def execShl (i : Issue) (f : Fields) (s : State) : Host.Outcome State Fault Refusal := s.intR 0x0D i f opShl

/-- SHLI (R209). -/
def execShli (i : Issue) (f : Fields) (s : State) : Host.Outcome State Fault Refusal := s.intI 0x2D i f opShl

/-- SHR (R209). -/
def execShr (i : Issue) (f : Fields) (s : State) : Host.Outcome State Fault Refusal := s.intR 0x0E i f opShr

/-- SHRI (R209). -/
def execShri (i : Issue) (f : Fields) (s : State) : Host.Outcome State Fault Refusal := s.intI 0x2E i f opShr

/-- SRA (R209). -/
def execSra (i : Issue) (f : Fields) (s : State) : Host.Outcome State Fault Refusal := s.intR 0x0F i f opSra

/-- SRAI (R209). -/
def execSrai (i : Issue) (f : Fields) (s : State) : Host.Outcome State Fault Refusal := s.intI 0x2F i f opSra

/-- SLT (R209). -/
def execSlt (i : Issue) (f : Fields) (s : State) : Host.Outcome State Fault Refusal := s.intR 0x10 i f opSlt

/-- SLTI (R209). -/
def execSlti (i : Issue) (f : Fields) (s : State) : Host.Outcome State Fault Refusal := s.intI 0x30 i f opSlt

/-- SLTU (R209). -/
def execSltu (i : Issue) (f : Fields) (s : State) : Host.Outcome State Fault Refusal := s.intR 0x11 i f opSltu

/-- SLTUI (R209). -/
def execSltui (i : Issue) (f : Fields) (s : State) : Host.Outcome State Fault Refusal := s.intI 0x31 i f opSltu

/-- SEQ (R209). -/
def execSeq (i : Issue) (f : Fields) (s : State) : Host.Outcome State Fault Refusal := s.intR 0x12 i f opSeq

/-- SEQI (R209). -/
def execSeqi (i : Issue) (f : Fields) (s : State) : Host.Outcome State Fault Refusal := s.intI 0x32 i f opSeq

/-- MIN (R209). -/
def execMin (i : Issue) (f : Fields) (s : State) : Host.Outcome State Fault Refusal := s.intR 0x13 i f opMin

/-- MINI (R209). -/
def execMini (i : Issue) (f : Fields) (s : State) : Host.Outcome State Fault Refusal := s.intI 0x33 i f opMin

/-- MAX (R209). -/
def execMax (i : Issue) (f : Fields) (s : State) : Host.Outcome State Fault Refusal := s.intR 0x14 i f opMax

/-- MAXI (R209). -/
def execMaxi (i : Issue) (f : Fields) (s : State) : Host.Outcome State Fault Refusal := s.intI 0x34 i f opMax

/-- SEL (R209): source 1 if source 3 is not zero, else source 2. -/
def execSel (i : Issue) (f : Fields) (s : State) : Host.Outcome State Fault Refusal :=
  s.issueCore 0x15 i f (fun k => k.setS f.dst (if k.rs f.c ≠ 0 then k.rs f.a else k.rs f.b))

/-- LI (R209): the sign-extended immediate. -/
def execLi (i : Issue) (f : Fields) (s : State) : Host.Outcome State Fault Refusal :=
  s.issueCore 0x16 i f (fun k => k.setS f.dst f.imm)

/-- LIH (R209): the low word of source 1 under the immediate as high word. -/
def execLih (i : Issue) (f : Fields) (s : State) : Host.Outcome State Fault Refusal :=
  s.issueCore 0x17 i f (fun k => k.setS f.dst ((k.rs f.a &&& 0xFFFFFFFF#64) ||| (f.imm <<< 32)))

/-! ## Floating point (R210) -/

/-- A scalar floating-point operand: FP32 lies in bits [31:0]. -/
def fpOpnd (fm : Ff) (v : Word64) : Fv := fdecode fm (v.toNat % 2 ^ fm.bits)

/-- An operation on two values, its exact result rounded once under RNE. -/
def State.fp2 (s : State) (op : Nat) (i : Issue) (f : Fields) (g : Fv → Fv → Fv) : Host.Outcome State Fault Refusal :=
  let fm := ffOf f.fmt.toNat
  s.issueCore op i f (fun k =>
    k.setS f.dst (BitVec.ofNat 64 (fencode fm (rnd fm (g (fpOpnd fm (k.rs f.a)) (fpOpnd fm (k.rs f.b)))))))

/-- FADD (R210). -/
def execFadd (i : Issue) (f : Fields) (s : State) : Host.Outcome State Fault Refusal := s.fp2 0x18 i f Fv.add

/-- FSUB (R210). -/
def execFsub (i : Issue) (f : Fields) (s : State) : Host.Outcome State Fault Refusal := s.fp2 0x19 i f Fv.sub

/-- FMUL (R210). -/
def execFmul (i : Issue) (f : Fields) (s : State) : Host.Outcome State Fault Refusal := s.fp2 0x1A i f Fv.mul

/-- FFMA (R210): a × b + c rounded once. -/
def execFfma (i : Issue) (f : Fields) (s : State) : Host.Outcome State Fault Refusal :=
  let fm := ffOf f.fmt.toNat
  s.issueCore 0x1B i f (fun k => k.setS f.dst (BitVec.ofNat 64 (fencode fm
    (rnd fm ((fpOpnd fm (k.rs f.a)).fma (fpOpnd fm (k.rs f.b)) (fpOpnd fm (k.rs f.c)))))))

/-- FMIN (R210, R69). -/
def execFmin (i : Issue) (f : Fields) (s : State) : Host.Outcome State Fault Refusal := s.fp2 0x1C i f Fv.min

/-- FMAX (R210, R69). -/
def execFmax (i : Issue) (f : Fields) (s : State) : Host.Outcome State Fault Refusal := s.fp2 0x1D i f Fv.max

/-- FCMP (R210): 1 or 0 for the condition SUB. -/
def execFcmp (i : Issue) (f : Fields) (s : State) : Host.Outcome State Fault Refusal :=
  let fm := ffOf f.fmt.toNat
  s.issueCore 0x1E i f (fun k =>
    k.setS f.dst (if fcond (f.m 3 0) (fpOpnd fm (k.rs f.a)) (fpOpnd fm (k.rs f.b)) then 1 else 0))

/-- The value FCVT converts: codes 0 to 3 floating, 8 INT32 and 9 INT64, which are exact. -/
def fcvtSrc (code : Nat) (v : Word64) : Fv :=
  if code = 8 then ofRat false ((sint 32 v.toNat : Int) : ℚ)
  else if code = 9 then ofRat false ((sint 64 v.toNat : Int) : ℚ)
  else fpOpnd (ffOf code) v

/-- The result of FCVT: INT32 and INT64 saturate and give 0 for NaN; floating destinations follow R63 and R64. -/
def fcvtDst (code rm : Nat) (sat : Bool) (v : Fv) : Word64 :=
  let m : Rm := if rm = 2 then .rtz else .rne
  if code = 8 then BitVec.ofNat 64 (wrap 32 (toIntSat m (-(2 ^ 31)) (2 ^ 31 - 1) v))
  else if code = 9 then BitVec.ofNat 64 (wrap 64 (toIntSat m (-(2 ^ 63)) (2 ^ 63 - 1) v))
  else BitVec.ofNat 64 (convF (ffOf code) m sat v)

/-- FCVT (R210). -/
def execFcvt (i : Issue) (f : Fields) (s : State) : Host.Outcome State Fault Refusal :=
  s.issueCore 0x1F i f (fun k =>
    k.setS f.dst (fcvtDst f.fmt.toNat (f.m 5 4) (f.mb 6) (fcvtSrc (f.m 3 0) (k.rs f.a))))

end Sys2Proof.Machine
end

