-- ==== Sys2Proof/Machine/VecConv.lean ====
section
/-!
DEFINITION. VCVT and PACK24 (spec/06_vector.md, R125, R126; spec/05_sparsity.md, R103 to R105).
-/
namespace Sys2Proof.Machine

/-- The source column that destination column c takes (R125); none where the conversion leaves the element alone. -/
def cvtCol (f : Fields) (c : Nat) : Option Nat :=
  let ns := colsOf (fmtBits (f.m 17 14))
  let nd := colsOf (fmtBits f.fmt.toNat)
  let part := f.m 12 10
  if nd > ns then (if part * ns ≤ c ∧ c < part * ns + ns then some (c - part * ns) else none)
  else if nd < ns then some (part * nd + c)
  else some c

/-- The computed element at destination (r, c): its exact source value and its rounding. -/
def Core.cvtElt (k : Core) (f : Fields) (r c : Nat) : Option (Fv × Rm) :=
  match cvtCol f c with
  | none => none
  | some sc =>
    if k.predOn f r c then
      let s := f.m 17 14
      let raw := elt (fmtBits s) (k.trow f.a.toNat r) sc
      let v := if cvtBsrc f then scaledVal s raw (elt 8 (k.trow f.b.toNat r) (sc / 32)) else srcVal s raw
      let sr := (k.rs f.c).toNat
      let e := sr / 2 ^ 32 + r * colsOf (fmtBits f.fmt.toNat) + c
      some (v, rmOf (f.m 7 6) k.srKey (sr % 2 ^ 32) k.rd.srstep.toNat e)
    else none

/-- The poison contribution of row r (R117). -/
def Core.cvtPoison (k : Core) (f : Fields) (r : Nat) : Bool :=
  k.tpz f.a.toNat r || (cvtBsrc f && k.tpz f.b.toNat r) || k.ppz (f.m 2 0) r

/-- One row of a conversion to an unscaled destination. -/
def Core.cvtRow (k : Core) (f : Fields) (r : Nat) : RowOut :=
  let d := f.fmt.toNat
  let nd := colsOf (fmtBits d)
  let es := (List.range nd).map (fun c => (c, k.cvtElt f r c))
  let outs := es.map (fun x => (x.1, x.2.map (fun p => (convTo d p.2 (f.mb 8) p.1, p.1))))
  { vals := outs.map (fun x => match x.2 with
      | some v => some v.1
      | none => if (cvtCol f x.1).isSome && f.mb 4 then some 0 else none)
    whole := decide (nd ≤ colsOf (fmtBits (f.m 17 14))) && (f.mb 4 || es.all (fun x => x.2.isSome))
    poison := k.cvtPoison f r
    cnt := sumCounts (outs.filterMap (fun x => x.2.map (fun v => if d ≤ 6 then nfCount (fdecode (ffOf d) v.1) [v.2] else (0, 0)))) }

/-- The blocks of row r of a block-scaled destination: block number, scale byte if any element is computed, elements, and the
count of R137. -/
def Core.cvtBlocks (k : Core) (f : Fields) (r : Nat) : List (Nat × Option Nat × List (Option Nat) × (Nat × Nat)) :=
  (List.range (colsOf (fmtBits f.fmt.toNat) / 32)).map (fun b =>
    let es := (List.range 32).map (fun j => k.cvtElt f r (32 * b + j))
    if es.any Option.isSome then
      let q := quantBlock f.fmt.toNat es
      let n := if q.1 = 255 then (es.filter (fun e => match e with | some (v, _) => !v.isNan | none => false)).length else 0
      (b, some q.1, q.2, (n, 0))
    else (b, none, List.replicate 32 none, (0, 0)))

/-- VCVT to a block-scaled destination: elements to dst, scale bytes to dst + 1 (R126). -/
def Core.cvtScaled (k : Core) (f : Fields) : Core :=
  let d := f.fmt.toNat
  let nd := colsOf (fmtBits d)
  let blocks := rows32.map (fun r => (r, k.cvtBlocks f r))
  let row := fun (r : Nat) => (blocks.getD r (0, [])).2
  let k := k.writeTile f.dst.toNat (fmtBits d) (fun r =>
    let es := (row r).flatMap (fun b => b.2.2.1)
    { vals := es.mapIdx (fun c e => match e with
        | some v => some v
        | none => if (cvtCol f c).isSome && f.mb 4 then some 0 else none)
      whole := decide (nd ≤ colsOf (fmtBits (f.m 17 14))) && (f.mb 4 || es.all Option.isSome)
      poison := k.cvtPoison f r
      cnt := sumCounts ((row r).map (fun b => b.2.2.2)) })
  k.writeTile (f.dst.toNat + 1) 8 (fun r =>
    { vals := (List.range 128).map (fun c => match (row r).find? (fun b => b.1 = c) with | some b => b.2.1 | none => none)
      whole := false
      poison := k.cvtPoison f r
      cnt := (0, 0) })

/-- VCVT (R125, R126). -/
def execVcvt (i : Issue) (f : Fields) (s : State) : Host.Outcome State Fault Refusal :=
  s.issueCore 0x78 i f (fun k =>
    if cvtBdst f then k.cvtScaled f else k.writeTile f.dst.toNat (fmtBits f.fmt.toNat) (k.cvtRow f))

/-! ## PACK24 (R103 to R105) -/

/-- The rank of an element of a group: NaN above infinity above finite values by magnitude (R103). -/
def packKey (v : Fv) : Nat × ℚ :=
  match v with
  | .nan => (2, 0)
  | .inf _ => (1, 0)
  | .fin _ q => (0, q)

/-- Whether key x ranks above key y. -/
def keyGt (x y : Nat × ℚ) : Bool := decide (x.1 > y.1) || (x.1 = y.1 && decide (x.2 > y.2))

/-- Pack one group of four elements: the two kept elements, the nibble, the non-zeros dropped. -/
def packGroup (code : Nat) (g : List Nat) : List Nat × Nat × Nat :=
  let vals := g.map (srcVal code)
  let keys := vals.map packKey
  let rank (p : Nat) : Nat := ((List.range 4).filter (fun q =>
    keyGt (keys.getD q (0, 0)) (keys.getD p (0, 0))
      || (keys.getD q (0, 0) = keys.getD p (0, 0) && decide (q < p)))).length
  let kept := (List.range 4).filter (fun p => decide (rank p < 2))
  let nz (p : Nat) : Bool := decide (keys.getD p (0, 0) ≠ (0, 0))
  (kept.map (fun p => if (vals.getD p .nan).isNan then (ffOf code).qnan else g.getD p 0),
    kept.headD 0 + 4 * kept.getLastD 0,
    ((List.range 4).filter (fun p => nz p && !kept.contains p)).length)

/-- The packed groups of row r of source 1. -/
def Core.packRowOf (k : Core) (f : Fields) (r : Nat) : List (List Nat × Nat × Nat) :=
  let w := fmtBits f.fmt.toNat
  (List.range (colsOf w / 4)).map (fun g =>
    packGroup f.fmt.toNat ((List.range 4).map (fun p => elt w (k.trow f.a.toNat r) (4 * g + p))))

/-- PACK24 (R104, R105): values to dst, nibbles to dst + 1, in half HALF of each row. -/
def Core.pack24 (f : Fields) (k : Core) : Core :=
  let w := fmtBits f.fmt.toNat
  let n := colsOf w
  let half := f.m 10 10
  let rows := rows32.map (fun r => (r, k.packRowOf f r))
  let row := fun (r : Nat) => (rows.getD r (0, [])).2
  let dropped := (rows.map (fun x => (x.2.map (fun g => g.2.2)).sum)).sum
  let k1 := k.writeTile f.dst.toNat w (fun r =>
    let es := (row r).flatMap (fun g => g.1)
    { vals := List.replicate (half * (n / 2)) none ++ es.map some
      whole := false, poison := k.tpz f.a.toNat r, cnt := (0, 0) })
  let k2 := k1.writeTile (f.dst.toNat + 1) 8 (fun r =>
    let nib := (row r).map (fun g => g.2.1)
    { vals := List.replicate (half * (n / 8)) none
        ++ (List.range (n / 8)).map (fun b => some (nib.getD (2 * b) 0 + 16 * nib.getD (2 * b + 1) 0))
      whole := false, poison := k.tpz f.a.toNat r, cnt := (0, 0) })
  let k3 := k2.bump (kMAT_SPPRUNE) dropped
  if dropped = 0 then k3 else k3.setFld (kMAT_SPSTAT) 0 0 1

/-- PACK24 (R103 to R105). -/
def execPack24 (i : Issue) (f : Fields) (s : State) : Host.Outcome State Fault Refusal := s.issueCore 0x98 i f (Core.pack24 f)

end Sys2Proof.Machine
end

