-- ==== Sys2Proof/Machine/VecMove.lean ====
section
/-!
DEFINITION. Broadcasts, shifts, rotates, gathers and the move to a scalar register (spec/06_vector.md, R130, R131).
-/
namespace Sys2Proof.Machine

/-- A predicated move within one view: `pick r c` is the source element of (r, c), none for zero bits; `rowsOf r` the source rows
that the contribution of row r takes (R117). -/
def Core.moveTile (f : Fields) (pick : Nat → Nat → Option (Nat × Nat)) (rowsOf : Nat → List Nat) (k : Core) : Core :=
  let w := fmtBits f.fmt.toNat
  k.writeTile f.dst.toNat w (fun r =>
    let on := (List.range (colsOf w)).map (k.predOn f r)
    { vals := on.mapIdx (fun c b =>
        maskElt f b (match pick r c with | some (x, y) => elt w (k.trow f.a.toNat x) y | none => 0))
      whole := f.mb 4 || on.all id
      poison := (rowsOf r).any (k.tpz f.a.toNat)
      cnt := (0, 0) })

/-- VBCAST (R130): element IDX of each row (AXIS 0), or row IDX (AXIS 1). -/
def execVbcast (i : Issue) (f : Fields) (s : State) : Host.Outcome State Fault Refusal :=
  let x := f.m 22 18
  s.issueCore 0x88 i f (Core.moveTile f (fun r c => some (if f.mb 9 then (x, c) else (r, x)))
    (fun r => if f.mb 9 then rows32 else [r]))

/-- VBCASTS (R130): the scalar operand of R120 in every element. -/
def execVbcasts (i : Issue) (f : Fields) (s : State) : Host.Outcome State Fault Refusal :=
  s.issueCore 0x89 i f (fun k =>
    let w := fmtBits f.fmt.toNat
    k.writeTile f.dst.toNat w (fun r => k.ewRow f w r false (fun _ => ((k.rs f.a).toNat % 2 ^ w, (0, 0)))))

/-- The position that moves to position p of an axis of n: towards higher index, or lower with UNS (R130). -/
def shiftSrc (f : Fields) (n p : Nat) (rot : Bool) : Option Nat :=
  let d := f.m 22 18
  if rot then some (if f.mb 29 then (p + d) % n else (p + n - d) % n)
  else if f.mb 29 then (if p + d < n then some (p + d) else none)
  else if d ≤ p then some (p - d) else none

/-- VSHIFT and VROT. -/
def Core.shiftTile (f : Fields) (rot : Bool) (k : Core) : Core :=
  let n := colsOf (fmtBits f.fmt.toNat)
  Core.moveTile f (fun r c =>
    if f.mb 9 then (shiftSrc f 32 r rot).map (fun x => (x, c)) else (shiftSrc f n c rot).map (fun y => (r, y)))
    (fun r => if f.mb 9 then (shiftSrc f 32 r rot).toList else [r]) k

/-- VSHIFT (R130). -/
def execVshift (i : Issue) (f : Fields) (s : State) : Host.Outcome State Fault Refusal :=
  s.issueCore 0x8A i f (Core.shiftTile f false)

/-- VROT (R130). -/
def execVrot (i : Issue) (f : Fields) (s : State) : Host.Outcome State Fault Refusal :=
  s.issueCore 0x8B i f (Core.shiftTile f true)

/-- The source element of (r, c) of a gather (R131); none beyond the axis, or beyond 1,023 in full mode. -/
def Core.gatherSrc (k : Core) (f : Fields) (r c : Nat) : Option (Nat × Nat) :=
  let w := fmtBits f.fmt.toNat
  let x := elt w (k.trow f.b.toNat r) c
  if f.mb 30 then (if x < 1024 then some (x / 32, x % 32) else none)
  else if f.mb 9 then (if x < 32 then some (x, c) else none)
  else if x < colsOf w then some (r, x) else none

/-- VGATHER (R131, R117); indices out of range count in VEC.GOOR. -/
def Core.gather (f : Fields) (k : Core) : Core :=
  let w := fmtBits f.fmt.toNat
  let rows := rows32.map (fun r => (r, (List.range (colsOf w)).map (fun c =>
    if f.mb 30 || k.predOn f r c then some (k.gatherSrc f r c) else none)))
  let row := fun (r : Nat) => (rows.getD r (0, [])).2
  let oor := (rows.map (fun x => (x.2.filter (fun e => e = some none)).length)).sum
  (k.writeTile f.dst.toNat w (fun r =>
    { vals := (row r).map (fun e => match e with
        | some (some (x, y)) => some (elt w (k.trow f.a.toNat x) y)
        | some none => some 0
        | none => maskElt f false 0)
      whole := f.mb 4 || (row r).all Option.isSome
      poison := k.tpz f.b.toNat r ||
        (row r).any (fun e => match e with | some (some (x, _)) => k.tpz f.a.toNat x | _ => false)
      cnt := (0, 0) })).bump (kVEC_GOOR) oor

/-- VGATHER (R131). -/
def execVgather (i : Issue) (f : Fields) (s : State) : Host.Outcome State Fault Refusal := s.issueCore 0x8C i f (Core.gather f)

/-- VMOVS (R131): one element to a scalar register; poison of its row is consumed (R118). -/
def execVmovs (i : Issue) (f : Fields) (s : State) : Host.Outcome State Fault Refusal :=
  s.issue 0x8D i f (fun m s =>
    let r := f.m 22 18
    if (s.core m).tpz f.a.toNat r then s.poisonUse m 8 (s.opOf m 0x8D) 0
    else s.modCore m (fun k =>
      let w := fmtBits f.fmt.toNat
      let v := elt w (k.trow f.a.toNat r) (f.m 17 14 + 16 * f.m 12 10 + 128 * f.m 9 9)
      k.setS f.dst (if fInt.contains f.fmt.toNat && !f.mb 29 then BitVec.ofInt 64 (sint w v) else BitVec.ofNat 64 v)))

end Sys2Proof.Machine
end

