-- ==== Sys2Proof/Machine/VecScan.lean ====
section
/-!
DEFINITION. Scans and the carry store (spec/06_vector.md, R132 to R134).
-/
namespace Sys2Proof.Machine

/-- Element width of a scan: code 0 is FP64, code 1 FP32 or INT32. -/
def scanBits (f : Fields) : Nat := if f.fmt = 0 then 64 else 32

/-- Whether a scan works on INT32. -/
def scanInt (f : Fields) : Bool := f.m 17 14 = 8

/-- The slots a scan names: two for an FP64 scan along a row (R134). -/
def scanSlots (f : Fields) : List Nat :=
  if f.fmt = 0 && !f.mb 9 then [f.m 24 18, f.m 24 18 + 1] else [f.m 24 18]

/-- The step of a scan on encodings (Table 6-5): `op` 0x90 sum, 0x91 maximum, 0x92 affine. -/
def scanStep (op : Nat) (f : Fields) (h x b : Nat) : Nat :=
  let fm := ffOf f.fmt.toNat
  if scanInt f then
    if op = 0x90 then (h + x) % 2 ^ 32 else if sint 32 h < sint 32 x then x else h
  else
    let dh := fdecode fm h
    let dx := fdecode fm x
    fencode fm (rnd fm (if op = 0x90 then dh.add dx else if op = 0x91 then dh.max dx else dx.fma dh (fdecode fm b)))

/-- The initial value without CIN (Table 6-5). -/
def scanInit (op : Nat) (f : Fields) : Nat :=
  let fm := ffOf f.fmt.toNat
  if op = 0x90 then (if scanInt f then 0 else fencode fm (.fin true 0))
  else if op = 0x91 then (if scanInt f then 2 ^ 31 else fencode fm (.inf true))
  else 0

/-- One sequence (R132, R133): elements (x, b, marked) from h; the outputs and the last h. -/
def scanSeq (op : Nat) (f : Fields) (init : Nat) : Nat → List (Nat × Nat × Bool) → List Nat × Nat
  | h, [] => ([], h)
  | h, (x, b, mk) :: r =>
    let h0 := if mk then init else h
    let h1 := scanStep op f h0 x b
    let t := scanSeq op f init h1 r
    ((if f.mb 28 then h0 else h1) :: t.1, t.2)

/-- The element (r, c) of place n of sequence j. -/
def scanPos (f : Fields) (j n : Nat) : Nat × Nat := if f.mb 9 then (n, j) else (j, n)

/-- Number of sequences and their length. -/
def scanShape (f : Fields) : Nat × Nat :=
  let n := colsOf (scanBits f)
  if f.mb 9 then (n, 32) else (32, n)

/-- An element as a scan takes it from a carry slot: any NaN is the default one of its format (R50). -/
def scanCanon (f : Fields) (x : Nat) : Nat :=
  let fm := ffOf f.fmt.toNat
  if !scanInt f && (fdecode fm x).isNan then fencode fm .nan else x

/-- Initial value of sequence j: element j of the slot with CIN (R134). With SEG and a mark it is the initial value of the scan,
whatever CIN holds (R133). -/
def Core.scanStart (k : Core) (op : Nat) (f : Fields) (j : Nat) : Nat :=
  let w := scanBits f
  if f.mb 25 then scanCanon f (elt w (k.slotRow (f.m 24 18 + j / colsOf w)) (j % colsOf w)) else scanInit op f

/-- The poison contribution of destination row r (R117). -/
def Core.scanPz (k : Core) (op : Nat) (f : Fields) (r : Nat) : Bool :=
  let src := fun (x : Nat) => k.tpz f.a.toNat x || (op = 0x92 && k.tpz f.b.toNat x)
  let slot := fun (j : Nat) => f.mb 25 && k.rd.cpois.getLsbD (f.m 24 18 + j / colsOf (scanBits f))
  if f.mb 9 then (List.range (r + 1)).any src || slot 0 else src r || slot r

/-- The counts of R137 of element (r, c) of y: its operands are h before the step that formed it and that step's elements. An
exclusive element that starts a sequence or a segment is formed by no step. -/
def Core.scanCount (k : Core) (op : Nat) (f : Fields) (y : Nat → Nat → Nat) (r c : Nat) : Nat × Nat :=
  let w := scanBits f
  let dec := fun (v : Nat) => fdecode (ffOf f.fmt.toNat) v
  let xs := fun (p : Nat × Nat) => dec (elt w (k.trow f.a.toNat p.1) p.2) ::
    (if op = 0x92 then [dec (elt w (k.trow f.b.toNat p.1) p.2)] else [])
  let mark := f.mb 27 && k.predBit (f.m 2 0) r c
  let p := scanPos f r c
  let prev := scanPos f p.1 (p.2 - 1)
  if p.2 = 0 || mark then
    if f.mb 28 then (0, 0)
    else nfCount (dec (y r c)) (dec (if mark then scanInit op f else k.scanStart op f p.1) :: xs (r, c))
  else nfCount (dec (y r c)) (dec (y prev.1 prev.2) :: xs (if f.mb 28 then prev else (r, c)))

/-- A scan whose slots are valid. -/
def Core.scan (op : Nat) (f : Fields) (k : Core) : Core :=
  let w := scanBits f
  let sh := scanShape f
  let res := (List.range sh.1).map (fun j =>
    scanSeq op f (scanInit op f) (k.scanStart op f j) ((List.range sh.2).map (fun n =>
      let p := scanPos f j n
      (elt w (k.trow f.a.toNat p.1) p.2, elt w (k.trow f.b.toNat p.1) p.2, f.mb 27 && k.predBit (f.m 2 0) p.1 p.2))))
  let y := fun (r c : Nat) => let p := scanPos f r c; ((res.getD p.1 ([], 0)).1).getD p.2 0
  let k1 := k.writeTile f.dst.toNat w (fun r =>
    { vals := (List.range (colsOf w)).map (fun c => some (y r c))
      whole := true
      poison := k.scanPz op f r
      cnt := if scanInt f then (0, 0) else sumCounts ((List.range (colsOf w)).map (k.scanCount op f y r)) })
  let k2 := if f.mb 26 then
      (scanSlots f).foldl (fun (m : Core) sl =>
        let base := (sl - f.m 24 18) * colsOf w
        let z := if f.mb 9 then rows32.any (k.scanPz op f)
          else (List.range (if w = 64 then 16 else 32)).any (fun j => k.scanPz op f (base + j))
        m.setSlot sl (packRow w ((List.range (colsOf w)).map (fun j => (res.getD (base + j) ([], 0)).2))) z) k1
    else k1
  k2.bump (kCNT_SCANT) 1

/-- The first slot of a scan with CIN that is not valid (R134). -/
def Core.badSlot (k : Core) (f : Fields) : Option Nat :=
  if f.mb 25 then (scanSlots f).find? (fun n => !k.rd.cvalid.getLsbD n) else none

/-- VEC.FAULT with its slot, a program fault of the vector engine. -/
def State.vecFault (s : State) (c : Fin 96) (slot op : Nat) : State :=
  let s := s.modCore c (fun k => k.faultReg (kVEC_FAULT) (1 + 16 * slot))
  s.progFault c 3 (kVEC_FAULT) op 0

/-- A scan: CIN on a slot that is not valid is a program fault (R134). -/
def State.scan (s : State) (op : Nat) (i : Issue) (f : Fields) : Host.Outcome State Fault Refusal :=
  s.issue op i f (fun m s =>
    match (s.core m).badSlot f with
    | some n => s.vecFault m n (s.opOf m op)
    | none => s.modCore m (Core.scan op f))

/-- VSCAN (R132). -/
def execVscan (i : Issue) (f : Fields) (s : State) : Host.Outcome State Fault Refusal := s.scan 0x90 i f

/-- VMSCAN (R132). -/
def execVmscan (i : Issue) (f : Fields) (s : State) : Host.Outcome State Fault Refusal := s.scan 0x91 i f

/-- VASCAN (R132). -/
def execVascan (i : Issue) (f : Fields) (s : State) : Host.Outcome State Fault Refusal := s.scan 0x92 i f

/-- VCPUT (R134): row dst of tile a, with its poison bit, to the slot. -/
def execVcput (i : Issue) (f : Fields) (s : State) : Host.Outcome State Fault Refusal :=
  s.issueCore 0x94 i f (fun k => k.setSlot (f.m 24 18) (k.trow f.a.toNat f.dst.toNat) (k.tpz f.a.toNat f.dst.toNat))

/-- VCGET (R134): the slot, with its poison bit, to row src1 of dst. -/
def execVcget (i : Issue) (f : Fields) (s : State) : Host.Outcome State Fault Refusal :=
  s.issueCore 0x95 i f (fun k =>
    k.setRow f.dst.toNat f.a.toNat (k.slotRow (f.m 24 18)) true (k.rd.cpois.getLsbD (f.m 24 18)))

end Sys2Proof.Machine
end

