-- ==== Sys2Proof/Machine/Dispatch.lean ====
section
/-!
DEFINITION. The meaning of every command: one arm per constructor, each one direct call of its definition.
-/
namespace Sys2Proof.Machine

/-- The effect of a command on everything but the queue. -/
def exec (i : Instr) (s : State) : Host.Outcome State Fault Refusal :=
  match i with
  | .nop x f => Sys2Proof.Machine.execNop x f s
  | .add x f => Sys2Proof.Machine.execAdd x f s
  | .sub x f => Sys2Proof.Machine.execSub x f s
  | .mul x f => Sys2Proof.Machine.execMul x f s
  | .mulh x f => Sys2Proof.Machine.execMulh x f s
  | .mulhu x f => Sys2Proof.Machine.execMulhu x f s
  | .div x f => Sys2Proof.Machine.execDiv x f s
  | .divu x f => Sys2Proof.Machine.execDivu x f s
  | .rem x f => Sys2Proof.Machine.execRem x f s
  | .remu x f => Sys2Proof.Machine.execRemu x f s
  | .and x f => Sys2Proof.Machine.execAnd x f s
  | .or x f => Sys2Proof.Machine.execOr x f s
  | .xor x f => Sys2Proof.Machine.execXor x f s
  | .shl x f => Sys2Proof.Machine.execShl x f s
  | .shr x f => Sys2Proof.Machine.execShr x f s
  | .sra x f => Sys2Proof.Machine.execSra x f s
  | .slt x f => Sys2Proof.Machine.execSlt x f s
  | .sltu x f => Sys2Proof.Machine.execSltu x f s
  | .seq x f => Sys2Proof.Machine.execSeq x f s
  | .min x f => Sys2Proof.Machine.execMin x f s
  | .max x f => Sys2Proof.Machine.execMax x f s
  | .addi x f => Sys2Proof.Machine.execAddi x f s
  | .subi x f => Sys2Proof.Machine.execSubi x f s
  | .muli x f => Sys2Proof.Machine.execMuli x f s
  | .mulhi x f => Sys2Proof.Machine.execMulhi x f s
  | .mulhui x f => Sys2Proof.Machine.execMulhui x f s
  | .divi x f => Sys2Proof.Machine.execDivi x f s
  | .divui x f => Sys2Proof.Machine.execDivui x f s
  | .remi x f => Sys2Proof.Machine.execRemi x f s
  | .remui x f => Sys2Proof.Machine.execRemui x f s
  | .andi x f => Sys2Proof.Machine.execAndi x f s
  | .ori x f => Sys2Proof.Machine.execOri x f s
  | .xori x f => Sys2Proof.Machine.execXori x f s
  | .shli x f => Sys2Proof.Machine.execShli x f s
  | .shri x f => Sys2Proof.Machine.execShri x f s
  | .srai x f => Sys2Proof.Machine.execSrai x f s
  | .slti x f => Sys2Proof.Machine.execSlti x f s
  | .sltui x f => Sys2Proof.Machine.execSltui x f s
  | .seqi x f => Sys2Proof.Machine.execSeqi x f s
  | .mini x f => Sys2Proof.Machine.execMini x f s
  | .maxi x f => Sys2Proof.Machine.execMaxi x f s
  | .sel x f => Sys2Proof.Machine.execSel x f s
  | .li x f => Sys2Proof.Machine.execLi x f s
  | .lih x f => Sys2Proof.Machine.execLih x f s
  | .fadd x f => Sys2Proof.Machine.execFadd x f s
  | .fsub x f => Sys2Proof.Machine.execFsub x f s
  | .fmul x f => Sys2Proof.Machine.execFmul x f s
  | .ffma x f => Sys2Proof.Machine.execFfma x f s
  | .fmin x f => Sys2Proof.Machine.execFmin x f s
  | .fmax x f => Sys2Proof.Machine.execFmax x f s
  | .fcmp x f => Sys2Proof.Machine.execFcmp x f s
  | .fcvt x f => Sys2Proof.Machine.execFcvt x f s
  | .scntrd x f => Sys2Proof.Machine.execScntrd x f s
  | .br x f => Sys2Proof.Machine.execBr x f s
  | .jal x f => Sys2Proof.Machine.execJal x f s
  | .jr x f => Sys2Proof.Machine.execJr x f s
  | .frame x f => Sys2Proof.Machine.execFrame x f s
  | .exit x f => Sys2Proof.Machine.execExit x f s
  | .srd x f => Sys2Proof.Machine.execSrd x f s
  | .swr x f => Sys2Proof.Machine.execSwr x f s
  | .illegalEncoding c cy w0 w1 w2 w3 => Sys2Proof.Machine.execIllegalEncoding c cy w0 w1 w2 w3 s
  | .wload x f => Sys2Proof.Machine.execWload x f s
  | .mma x f => Sys2Proof.Machine.execMma x f s
  | .mdrain x f => Sys2Proof.Machine.execMdrain x f s
  | .wloadExecute c a => Sys2Proof.Machine.execWloadExecute c a s
  | .mmaExecute c a => Sys2Proof.Machine.execMmaExecute c a s
  | .mdrainExecute c a ups => Sys2Proof.Machine.execMdrainExecute c a ups s
  | .csumReplay c a fails => Sys2Proof.Machine.execCsumReplay c a fails s
  | .vadd x f => Sys2Proof.Machine.execVadd x f s
  | .vsub x f => Sys2Proof.Machine.execVsub x f s
  | .vmul x f => Sys2Proof.Machine.execVmul x f s
  | .vfma x f => Sys2Proof.Machine.execVfma x f s
  | .vfms x f => Sys2Proof.Machine.execVfms x f s
  | .vmax x f => Sys2Proof.Machine.execVmax x f s
  | .vmin x f => Sys2Proof.Machine.execVmin x f s
  | .vabs x f => Sys2Proof.Machine.execVabs x f s
  | .vneg x f => Sys2Proof.Machine.execVneg x f s
  | .vcpsgn x f => Sys2Proof.Machine.execVcpsgn x f s
  | .vmov x f => Sys2Proof.Machine.execVmov x f s
  | .vcmp x f => Sys2Proof.Machine.execVcmp x f s
  | .vsel x f => Sys2Proof.Machine.execVsel x f s
  | .viadd x f => Sys2Proof.Machine.execViadd x f s
  | .visub x f => Sys2Proof.Machine.execVisub x f s
  | .vimul x f => Sys2Proof.Machine.execVimul x f s
  | .vimax x f => Sys2Proof.Machine.execVimax x f s
  | .vimin x f => Sys2Proof.Machine.execVimin x f s
  | .vand x f => Sys2Proof.Machine.execVand x f s
  | .vor x f => Sys2Proof.Machine.execVor x f s
  | .vxor x f => Sys2Proof.Machine.execVxor x f s
  | .vandn x f => Sys2Proof.Machine.execVandn x f s
  | .vnot x f => Sys2Proof.Machine.execVnot x f s
  | .vshl x f => Sys2Proof.Machine.execVshl x f s
  | .vshr x f => Sys2Proof.Machine.execVshr x f s
  | .vicmp x f => Sys2Proof.Machine.execVicmp x f s
  | .viota x f => Sys2Proof.Machine.execViota x f s
  | .pand x f => Sys2Proof.Machine.execPand x f s
  | .por x f => Sys2Proof.Machine.execPor x f s
  | .pxor x f => Sys2Proof.Machine.execPxor x f s
  | .pandn x f => Sys2Proof.Machine.execPandn x f s
  | .pnot x f => Sys2Proof.Machine.execPnot x f s
  | .pany x f => Sys2Proof.Machine.execPany x f s
  | .pcount x f => Sys2Proof.Machine.execPcount x f s
  | .vcvt x f => Sys2Proof.Machine.execVcvt x f s
  | .vrsum x f => Sys2Proof.Machine.execVrsum x f s
  | .vrssq x f => Sys2Proof.Machine.execVrssq x f s
  | .vrmax x f => Sys2Proof.Machine.execVrmax x f s
  | .vrmin x f => Sys2Proof.Machine.execVrmin x f s
  | .vrargmax x f => Sys2Proof.Machine.execVrargmax x f s
  | .vbcast x f => Sys2Proof.Machine.execVbcast x f s
  | .vbcasts x f => Sys2Proof.Machine.execVbcasts x f s
  | .vshift x f => Sys2Proof.Machine.execVshift x f s
  | .vrot x f => Sys2Proof.Machine.execVrot x f s
  | .vgather x f => Sys2Proof.Machine.execVgather x f s
  | .vmovs x f => Sys2Proof.Machine.execVmovs x f s
  | .vscan x f => Sys2Proof.Machine.execVscan x f s
  | .vmscan x f => Sys2Proof.Machine.execVmscan x f s
  | .vascan x f => Sys2Proof.Machine.execVascan x f s
  | .vcput x f => Sys2Proof.Machine.execVcput x f s
  | .vcget x f => Sys2Proof.Machine.execVcget x f s
  | .pack24 x f => Sys2Proof.Machine.execPack24 x f s
  | .vexp2 x f => Sys2Proof.Machine.execVexp2 x f s
  | .vexp x f => Sys2Proof.Machine.execVexp x f s
  | .vlog2 x f => Sys2Proof.Machine.execVlog2 x f s
  | .vlog x f => Sys2Proof.Machine.execVlog x f s
  | .vrcp x f => Sys2Proof.Machine.execVrcp x f s
  | .vrsqrt x f => Sys2Proof.Machine.execVrsqrt x f s
  | .vsqrt x f => Sys2Proof.Machine.execVsqrt x f s
  | .vsin x f => Sys2Proof.Machine.execVsin x f s
  | .vcos x f => Sys2Proof.Machine.execVcos x f s
  | .vtanh x f => Sys2Proof.Machine.execVtanh x f s
  | .vsig x f => Sys2Proof.Machine.execVsig x f s
  | .verf x f => Sys2Proof.Machine.execVerf x f s
  | .vsoftp x f => Sys2Proof.Machine.execVsoftp x f s
  | .vdiv x f => Sys2Proof.Machine.execVdiv x f s
  | .vtbl x f => Sys2Proof.Machine.execVtbl x f s
  | .vrstat x f => Sys2Proof.Machine.execVrstat x f s
  | .ld x f => Sys2Proof.Machine.execLd x f s
  | .st x f => Sys2Proof.Machine.execSt x f s
  | .ldg x f => Sys2Proof.Machine.execLdg x f s
  | .stg x f => Sys2Proof.Machine.execStg x f s
  | .loadReturn c k => Sys2Proof.Machine.execLoadReturn c k s
  | .ldesc x f => Sys2Proof.Machine.execLdesc x f s
  | .ldescDecide c n => Sys2Proof.Machine.execLdescDecide c n s
  | .lxfer x f => Sys2Proof.Machine.execLxfer x f s
  | .lxferStart c => Sys2Proof.Machine.execLxferStart c s
  | .lxferComplete c k => Sys2Proof.Machine.execLxferComplete c k s
  | .tload x f => Sys2Proof.Machine.execTload x f s
  | .tloadComplete c cy => Sys2Proof.Machine.execTloadComplete c cy s
  | .ibload x f => Sys2Proof.Machine.execIbload x f s
  | .ibLineArrival c => Sys2Proof.Machine.execIbLineArrival c s
  | .fence x f => Sys2Proof.Machine.execFence x f s
  | .signal x f => Sys2Proof.Machine.execSignal x f s
  | .counterIncrement k => Sys2Proof.Machine.execCounterIncrement k s
  | .barrive x f => Sys2Proof.Machine.execBarrive x f s
  | .barrierArrival k => Sys2Proof.Machine.execBarrierArrival k s
  | .scfg x f => Sys2Proof.Machine.execScfg x f s
  | .flgset x f => Sys2Proof.Machine.execFlgset x f s
  | .flagArrival k => Sys2Proof.Machine.execFlagArrival k s
  | .flgclr x f => Sys2Proof.Machine.execFlgclr x f s
  | .flgwait x f => Sys2Proof.Machine.execFlgwait x f s
  | .cwrite x f => Sys2Proof.Machine.execCwrite x f s
  | .cread x f => Sys2Proof.Machine.execCread x f s
  | .csig x f => Sys2Proof.Machine.execCsig x f s
  | .bcmd x f => Sys2Proof.Machine.execBcmd x f s
  | .jobClear n => Sys2Proof.Machine.execJobClear n s
  | .jobSend n => Sys2Proof.Machine.execJobSend n s
  | .jobScalars n => Sys2Proof.Machine.execJobScalars n s
  | .jobOpen n => Sys2Proof.Machine.execJobOpen n s
  | .jobAbort n => Sys2Proof.Machine.execJobAbort n s
  | .blockUpdate n j b => Sys2Proof.Machine.execBlockUpdate n j b s
  | .jobComplete n j => Sys2Proof.Machine.execJobComplete n j s
  | .tick => Sys2Proof.Machine.execTick s
  | .capture => Sys2Proof.Machine.execCapture s
  | .blockOverrun c => Sys2Proof.Machine.execBlockOverrun c s
  | .arrayRemap c => Sys2Proof.Machine.execArrayRemap c s
  | .coreFailed c => Sys2Proof.Machine.execCoreFailed c s
  | .gangMapCommit k => Sys2Proof.Machine.execGangMapCommit k s
  | .partitionChange p => Sys2Proof.Machine.execPartitionChange p s
  | .domainConfigChange p => Sys2Proof.Machine.execDomainConfigChange p s
  | .barrierConfigChange b => Sys2Proof.Machine.execBarrierConfigChange b s
  | .slwinChange k => Sys2Proof.Machine.execSlwinChange k s
  | .waitEvaluation => Sys2Proof.Machine.execWaitEvaluation s
  | .barrierRelease b => Sys2Proof.Machine.execBarrierRelease b s
  | .deadlockDetector => Sys2Proof.Machine.execDeadlockDetector s
  | .deadlock p => Sys2Proof.Machine.execDeadlock p s
  | .governorDecision => Sys2Proof.Machine.execGovernorDecision s
  | .tableSwap => Sys2Proof.Machine.execTableSwap s
  | .watchEvaluation => Sys2Proof.Machine.execWatchEvaluation s
  | .tickMessage txt => Sys2Proof.Machine.execTickMessage txt s
  | .launchSampling => Sys2Proof.Machine.execLaunchSampling s
  | .issueDecision => Sys2Proof.Machine.execIssueDecision s
  | .tickLate p => Sys2Proof.Machine.execTickLate p s
  | .coreIdle c => Sys2Proof.Machine.execCoreIdle c s
  | .linkTick k rx => Sys2Proof.Machine.execLinkTick k rx s
  | .timeLock => Sys2Proof.Machine.execTimeLock s
  | .stepFrame f len => Sys2Proof.Machine.execStepFrame f len s
  | .holdover => Sys2Proof.Machine.execHoldover s
  | .tickRefEdge off => Sys2Proof.Machine.execTickRefEdge off s
  | .refLost => Sys2Proof.Machine.execRefLost s
  | .flitReceive p b bad corr => Sys2Proof.Machine.execFlitReceive p b bad corr s
  | .flitTransmit p t => Sys2Proof.Machine.execFlitTransmit p t s
  | .replayTimeout p => Sys2Proof.Machine.execReplayTimeout p s
  | .retrainLimit p => Sys2Proof.Machine.execRetrainLimit p s
  | .rxIdleTimeout p => Sys2Proof.Machine.execRxIdleTimeout p s
  | .linkLoss p => Sys2Proof.Machine.execLinkLoss p s
  | .creditStuck p => Sys2Proof.Machine.execCreditStuck p s
  | .signalDetect p => Sys2Proof.Machine.execSignalDetect p s
  | .trainTimeout p => Sys2Proof.Machine.execTrainTimeout p s
  | .trainRetry p => Sys2Proof.Machine.execTrainRetry p s
  | .hello p node port => Sys2Proof.Machine.execHello p node port s
  | .ctrlReset k => Sys2Proof.Machine.execCtrlReset k s
  | .transit k => Sys2Proof.Machine.execTransit k s
  | .chWrite k => Sys2Proof.Machine.execChWrite k s
  | .writePerformed k => Sys2Proof.Machine.execWritePerformed k s
  | .writeRefused k => Sys2Proof.Machine.execWriteRefused k s
  | .chRead k => Sys2Proof.Machine.execChRead k s
  | .readData k => Sys2Proof.Machine.execReadData k s
  | .readRefused k => Sys2Proof.Machine.execReadRefused k s
  | .signalIncrement k => Sys2Proof.Machine.execSignalIncrement k s
  | .signalRefused k => Sys2Proof.Machine.execSignalRefused k s
  | .podBarrierArrival k => Sys2Proof.Machine.execPodBarrierArrival k s
  | .podReleaseDecision n => Sys2Proof.Machine.execPodReleaseDecision n s
  | .podBarrierRelease k => Sys2Proof.Machine.execPodBarrierRelease k s
  | .podReleaseApply n => Sys2Proof.Machine.execPodReleaseApply n s
  | .redContrib k => Sys2Proof.Machine.execRedContrib k s
  | .redContribAccepted k => Sys2Proof.Machine.execRedContribAccepted k s
  | .redContribRefused k => Sys2Proof.Machine.execRedContribRefused k s
  | .paramBcast k => Sys2Proof.Machine.execParamBcast k s
  | .domainNotice k => Sys2Proof.Machine.execDomainNotice k s
  | .responseTimeout tag => Sys2Proof.Machine.execResponseTimeout tag s
  | .portEnable r p => Sys2Proof.Machine.execPortEnable r p s
  | .portDisable r p => Sys2Proof.Machine.execPortDisable r p s
  | .retrain r p => Sys2Proof.Machine.execRetrain r p s
  | .nodeid r n => Sys2Proof.Machine.execNodeid r n s
  | .rstsend r n => Sys2Proof.Machine.execRstsend r n s
  | .slotConfig r p x v => Sys2Proof.Machine.execSlotConfig r p x v s
  | .cxlMemRead hpa te hold => Sys2Proof.Machine.execCxlMemRead hpa te hold s
  | .cxlMemWrite hpa bytes poison te hold => Sys2Proof.Machine.execCxlMemWrite hpa bytes poison te hold s
  | .bisnpResponse dpa data => Sys2Proof.Machine.execBisnpResponse dpa data s
  | .hostReadResponse h bytes poison => Sys2Proof.Machine.execHostReadResponse h bytes poison s
  | .configRequest q => Sys2Proof.Machine.execConfigRequest q s
  | .hdmCommit base size skip => Sys2Proof.Machine.execHdmCommit base size skip s
  | .registerWrite r off len v => Sys2Proof.Machine.execRegisterWrite r off len v s
  | .clearingRead r off len => Sys2Proof.Machine.execClearingRead r off len s
  | .latchedRead r off => Sys2Proof.Machine.execLatchedRead r off s
  | .commit r k => Sys2Proof.Machine.execCommit r k s
  | .splitall r k => Sys2Proof.Machine.execSplitall r k s
  | .timeCtrl r v => Sys2Proof.Machine.execTimeCtrl r v s
  | .slwin r k v => Sys2Proof.Machine.execSlwin r k v s
  | .injectArm r n v => Sys2Proof.Machine.execInjectArm r n v s
  | .injarr r v => Sys2Proof.Machine.execInjarr r v s
  | .scntInc r c n v => Sys2Proof.Machine.execScntInc r c n v s
  | .partCfg r p v => Sys2Proof.Machine.execPartCfg r p v s
  | .partReset r p => Sys2Proof.Machine.execPartReset r p s
  | .inval r p => Sys2Proof.Machine.execInval r p s
  | .invalComplete p => Sys2Proof.Machine.execInvalComplete p s
  | .ringEnable r p q n => Sys2Proof.Machine.execRingEnable r p q n s
  | .logen r => Sys2Proof.Machine.execLogen r s
  | .logc r v => Sys2Proof.Machine.execLogc r v s
  | .hdata r => Sys2Proof.Machine.execHdata r s
  | .dbgHaltWrite r m v => Sys2Proof.Machine.execDbgHaltWrite r m v s
  | .sysrst r => Sys2Proof.Machine.execSysrst r s
  | .corerst r => Sys2Proof.Machine.execCorerst r s
  | .psreqS0 r => Sys2Proof.Machine.execPsreqS0 r s
  | .psreqS1 r => Sys2Proof.Machine.execPsreqS1 r s
  | .psreqS2 r => Sys2Proof.Machine.execPsreqS2 r s
  | .psreqS3 r => Sys2Proof.Machine.execPsreqS3 r s
  | .s2EntryComplete => Sys2Proof.Machine.execS2EntryComplete s
  | .s2ExitComplete => Sys2Proof.Machine.execS2ExitComplete s
  | .scrubGo r len => Sys2Proof.Machine.execScrubGo r len s
  | .hbmScrubDone => Sys2Proof.Machine.execHbmScrubDone s
  | .mbSetSus r arg tag => Sys2Proof.Machine.execMbSetSus r arg tag s
  | .mbSetPeak r arg tag => Sys2Proof.Machine.execMbSetPeak r arg tag s
  | .mbSetReserve r arg tag => Sys2Proof.Machine.execMbSetReserve r arg tag s
  | .mbRelease r arg tag => Sys2Proof.Machine.execMbRelease r arg tag s
  | .hogsheadUpdate p vin iin => Sys2Proof.Machine.execHogsheadUpdate p vin iin s
  | .wearCap => Sys2Proof.Machine.execWearCap s
  | .wearWrite => Sys2Proof.Machine.execWearWrite s
  | .thermalSample tj ts v => Sys2Proof.Machine.execThermalSample tj ts v s
  | .psusEffStep => Sys2Proof.Machine.execPsusEffStep s
  | .thermalTrip => Sys2Proof.Machine.execThermalTrip s
  | .vinLow => Sys2Proof.Machine.execVinLow s
  | .overvoltage => Sys2Proof.Machine.execOvervoltage s
  | .overcurrent => Sys2Proof.Machine.execOvercurrent s
  | .powerFailure => Sys2Proof.Machine.execPowerFailure s
  | .softStart => Sys2Proof.Machine.execSoftStart s
  | .bulkCharged => Sys2Proof.Machine.execBulkCharged s
  | .bootRom => Sys2Proof.Machine.execBootRom s
  | .trimLoad crc n => Sys2Proof.Machine.execTrimLoad crc n s
  | .sfwPhase => Sys2Proof.Machine.execSfwPhase s
  | .computeRails => Sys2Proof.Machine.execComputeRails s
  | .hbmTraining => Sys2Proof.Machine.execHbmTraining s
  | .firstTick => Sys2Proof.Machine.execFirstTick s
  | .perstFall => Sys2Proof.Machine.execPerstFall s
  | .hotReset => Sys2Proof.Machine.execHotReset s
  | .watchdog => Sys2Proof.Machine.execWatchdog s
  | .pwrEnRise => Sys2Proof.Machine.execPwrEnRise s
  | .pwrEnFall => Sys2Proof.Machine.execPwrEnFall s
  | .coreResetEntry => Sys2Proof.Machine.execCoreResetEntry s
  | .computeScrubDone => Sys2Proof.Machine.execComputeScrubDone s
  | .coreResetRelease => Sys2Proof.Machine.execCoreResetRelease s
  | .clusterScrubDone p k => Sys2Proof.Machine.execClusterScrubDone p k s
  | .hbmScrubRead n x => Sys2Proof.Machine.execHbmScrubRead n x s
  | .localPatrolScrub c off f => Sys2Proof.Machine.execLocalPatrolScrub c off f s
  | .softPpr n row e => Sys2Proof.Machine.execSoftPpr n row e s
  | .errorRecord k f => Sys2Proof.Machine.execErrorRecord k f s
  | .mctpDelivery ack => Sys2Proof.Machine.execMctpDelivery ack s
  | .mctpRetry ack => Sys2Proof.Machine.execMctpRetry ack s
  | .historyWrite => Sys2Proof.Machine.execHistoryWrite s
  | .certIssue => Sys2Proof.Machine.execCertIssue s
  | .certSigned => Sys2Proof.Machine.execCertSigned s
  | .getCertificate doe => Sys2Proof.Machine.execGetCertificate doe s
  | .spdmChallenge doe nonce => Sys2Proof.Machine.execSpdmChallenge doe nonce s
  | .getMeasurements doe => Sys2Proof.Machine.execGetMeasurements doe s
  | .keyExchange doe exch => Sys2Proof.Machine.execKeyExchange doe exch s
  | .firmwareUpdate u => Sys2Proof.Machine.execFirmwareUpdate u s
  | .activateFirmware x => Sys2Proof.Machine.execActivateFirmware x s
  | .ideKm id stream key => Sys2Proof.Machine.execIdeKm id stream key s
  | .ideFailure stream => Sys2Proof.Machine.execIdeFailure stream s
  | .tspLock p te => Sys2Proof.Machine.execTspLock p te s
  | .tspUnlock p => Sys2Proof.Machine.execTspUnlock p s
  | .entdaa a => Sys2Proof.Machine.execEntdaa a s
  | .setdasa static a => Sys2Proof.Machine.execSetdasa static a s
  | .ifHelp => Sys2Proof.Machine.execIfHelp s
  | .ifVer => Sys2Proof.Machine.execIfVer s
  | .ifLogin => Sys2Proof.Machine.execIfLogin s
  | .ifUnlock sig => Sys2Proof.Machine.execIfUnlock sig s
  | .unlockTimeout => Sys2Proof.Machine.execUnlockTimeout s
  | .lockoutExpiry => Sys2Proof.Machine.execLockoutExpiry s
  | .ifLock => Sys2Proof.Machine.execIfLock s
  | .ifStatus => Sys2Proof.Machine.execIfStatus s
  | .ifLog n => Sys2Proof.Machine.execIfLog n s
  | .ifRd a n => Sys2Proof.Machine.execIfRd a n s
  | .ifRdc a => Sys2Proof.Machine.execIfRdc a s
  | .ifWr a v => Sys2Proof.Machine.execIfWr a v s
  | .ifWrg a v => Sys2Proof.Machine.execIfWrg a v s
  | .ifDump a n => Sys2Proof.Machine.execIfDump a n s
  | .ifHalt c => Sys2Proof.Machine.execIfHalt c s
  | .ifGo c => Sys2Proof.Machine.execIfGo c s
  | .ifStep c n => Sys2Proof.Machine.execIfStep c n s
  | .ifTraceOn c => Sys2Proof.Machine.execIfTraceOn c s
  | .ifTraceOff => Sys2Proof.Machine.execIfTraceOff s
  | .ifTraceShow n => Sys2Proof.Machine.execIfTraceShow n s
  | .ifResetCore => Sys2Proof.Machine.execIfResetCore s
  | .ifResetSys => Sys2Proof.Machine.execIfResetSys s
  | .ifPs t => Sys2Proof.Machine.execIfPs t s
  | .trainConverged p => Sys2Proof.Machine.execTrainConverged p s
  | .alignmentLock p fail polinv rev => Sys2Proof.Machine.execAlignmentLock p fail polinv rev s
  | .cxlLinkTrained w r flit => Sys2Proof.Machine.execCxlLinkTrained w r flit s
  | .cxlLinkDown => Sys2Proof.Machine.execCxlLinkDown s
  | .perstRise => Sys2Proof.Machine.execPerstRise s
  | .hostWriteCompletion c k => Sys2Proof.Machine.execHostWriteCompletion c k s
  | .hostSnoop h => Sys2Proof.Machine.execHostSnoop h s
  | .vinRestored => Sys2Proof.Machine.execVinRestored s
  | .holdUpExpiry => Sys2Proof.Machine.execHoldUpExpiry s
  | .mailboxResult => Sys2Proof.Machine.execMailboxResult s
  | .nvWritePulseEnd => Sys2Proof.Machine.execNvWritePulseEnd s
  | .ifendiRomRecovery => Sys2Proof.Machine.execIfendiRomRecovery s
  | .malformedCommand long => Sys2Proof.Machine.execMalformedCommand long s
  | .getVersion doe => Sys2Proof.Machine.execGetVersion doe s
  | .getCapabilities doe => Sys2Proof.Machine.execGetCapabilities doe s
  | .negotiateAlgorithms doe => Sys2Proof.Machine.execNegotiateAlgorithms doe s
  | .getDigests doe => Sys2Proof.Machine.execGetDigests doe s
  | .spdmFinish doe id mac => Sys2Proof.Machine.execSpdmFinish doe id mac s
  | .endSession doe id => Sys2Proof.Machine.execEndSession doe id s

end Sys2Proof.Machine
end

