-- ==== Sys2Proof/Safety.lean ====
section
/-!
DEFINITION. What counts as a safe run, in the terms that the statements use: the invariant of the state that every command keeps, when
an instruction issues, and what its issue leaves alone.
-/
namespace Sys2Proof.Machine

/-- A byte store is canonical: keys strictly rising, and no zero listed where unlisted bytes read zero. -/
def Store.wf (m : Store) : Bool := mapAscending m.cells && (m.gen != 0 || m.cells.all (fun p => p.2 != 0))

/-- The gang map is legal (R12): every core's leader leads itself and lies in the core's cluster, and no leader is above its members. -/
def State.gangsOk (s : State) : Prop :=
  ∀ c : Fin 96, s.gang[s.gang[c]] = s.gang[c] ∧ (s.gang[c]).val / 12 = c.val / 12 ∧ s.gang[c] ≤ c

/-! ## The issue of an instruction -/

/-- An instruction of opcode `op` issues: its sequencer is in a block and not halted, its buffer line is valid, it is the next of its
bundle, its encoding is legal, and of the bundle next to issue no slot is illegal and none stalls a member of the gang (R28, R44 to
R46, R202 to R205). -/
def State.ready (s : State) (op : Nat) (i : Issue) (f : Fields) : Prop :=
  s.canIssue i = true ∧ (s.core i.core).lineSt = .ready ∧ s.named op i f = true ∧ illegal op f = false
    ∧ ((s.core i.core).view = none → bundleIllegal (s.core i.core).bundleWords = [] ∧ s.bundleStalls i.core = false)

/-- The operand registers as member m's instructions of the present bundle read them (R202): as the bundle found them. -/
def State.operands (s : State) (i : Issue) (m : Fin 96) : Opnd :=
  if (s.core i.core).view.isSome then (s.core m).rd else (s.core m).opnd

/-- Scalar register r among operand registers; S0 reads 0 (R207). -/
def Opnd.scalar (o : Opnd) (r : BitVec 5) : Word64 := if r = 0 then 0 else o.s[r.toNat]'(by have := r.isLt; omega)

/-- Operand registers with scalar register r written; writes to S0 are discarded (R207). -/
def Opnd.withScalar (o : Opnd) (r : BitVec 5) (v : Word64) : Opnd :=
  if r = 0 then o else { o with s := o.s.set r.toNat v (by have := r.isLt; omega) }

/-- What an issue leaves alone outside the gang's cores: every core of another gang, every register but the trace pointer, memory, and
every other part of the state but the cycle, the trace ring and the lines the monitor prints (R421, R424). -/
def State.issueFrame (s t : State) (i : Issue) : Prop :=
  { t with cores := s.cores, cycle := s.cycle, mon := s.mon, regs := s.regs, out := s.out } = s
    ∧ (∀ o, o ≠ rDBG_TRPTR → t.reg o = s.reg o)
    ∧ ∀ c, c ∉ s.members i.core → t.core c = s.core c

/-- A member's core as its bundle opens in cycle `cy`, and as an instruction of the vector slot counts (R139, R202); the leader's bundle has
this instruction behind it. -/
def Core.opening (isOpen lead vec : Bool) (cy : Nat) (k : Core) : Core :=
  let k := if isOpen then k else { k with view := some k.opnd }
  let k := if !isOpen && lead then { k with npc := (k.pc + 1) % 2048, todo := bundleSlots k.bundleWords, bcy := cy } else k
  let k := if lead then { k with todo := k.todo.drop 1 } else k
  if vec then k.bump (kCNT_VISSUE) 1 else k

/-- The core of member m as an instruction of opcode `op` finds it. -/
def State.openedCore (s : State) (op : Nat) (i : Issue) (m : Fin 96) : Core :=
  (s.core m).opening (s.core i.core).view.isSome (decide (m = i.core)) (decide (slotOf op = 2)) i.cy

/-- Two cores that differ in the bundle in progress, the next index and the counters alone. -/
def Core.sameBundle (k k' : Core) : Prop :=
  { k' with view := k.view, pc := k.pc, npc := k.npc, todo := k.todo, bcy := k.bcy, steps := k.steps, fcount := k.fcount,
            lastBc := k.lastBc, blockBundles := k.blockBundles } = k

/-- What the issue of an instruction that writes only operand registers leaves alone in a core: everything but those registers, the bundle
in progress, the index of the next bundle, and the counters. -/
def Core.onlyOpnd (k k' : Core) : Prop := k.sameBundle { k' with opnd := k.opnd }

/-- The bundle stalls: nothing changes but the notes that a stall leaves in the gang's cores for the deadlock detector (R197, R202). -/
def State.onlyStalls (s t : State) (i : Issue) : Prop :=
  { t with cores := s.cores } = s ∧ (∀ c, c ∉ s.members i.core → t.core c = s.core c)
    ∧ ∀ c, { t.core c with stall := (s.core c).stall, guardStall := (s.core c).guardStall } = s.core c

/-- The instruction issues, writes `g` of the operands to the operand registers of each member of the gang, and nothing else. -/
def State.writesOpnd (s : State) (c : Instr) (i : Issue) (g : Opnd → Opnd → Opnd) : Prop :=
  ∃ t, exec c s = .next t ∧ s.issueFrame t i ∧
    ∀ m, m ∈ s.members i.core → (t.core m).opnd = g (s.operands i m) (s.core m).opnd ∧ (s.core m).onlyOpnd (t.core m)

/-- The index from which the sequencer goes on after the present bundle: the leader's, as a control transfer of the bundle left it. -/
def State.nextIndex (t : State) (i : Issue) : Nat := if i.last then (t.core i.core).pc else (t.core i.core).npc

/-- The instruction issues, transfers control to index n, writes `g` of the operands to the operand registers of each member, and nothing
else. -/
def State.transfers (s : State) (c : Instr) (i : Issue) (n : Nat) (g : Opnd → Opnd → Opnd) : Prop :=
  ∃ t, exec c s = .next t ∧ s.issueFrame t i ∧ t.nextIndex i = n ∧
    ∀ m, m ∈ s.members i.core → (t.core m).opnd = g (s.operands i m) (s.core m).opnd ∧ (s.core m).onlyOpnd (t.core m)

/-- The index after the present bundle where it transfers no control: as an earlier slot left it, else the following one. -/
def State.plainNext (s : State) (i : Issue) : Nat :=
  if (s.core i.core).view.isSome then (s.core i.core).npc else ((s.core i.core).pc + 1) % 2048

/-! ## Tiles -/

/-- Element (r, c) of tile n among operand registers, in the view of width w (R113). -/
def Opnd.elem (o : Opnd) (w n r c : Nat) : Nat := elt w (o.tiles.get Config.freeRow (32 * n + r)) c

/-- Core `t` holds what an instruction writes to tile n of core `k`, in the view of width w: `val` gives element (r, col), none where the
element keeps its value; `z` the poison contribution of a row, which replaces the row's poison bit where `whole` says the row is written
whole (R117). -/
def Core.tileTakes (k t : Core) (n w : Nat) (val : Nat → Nat → Option Nat) (z whole : Nat → Bool) : Prop :=
  (∀ r col, r < 32 → col < colsOf w → t.opnd.elem w n r col =
    match val r col with
    | some v => v % 2 ^ w
    | none => k.opnd.elem w n r col)
  ∧ ∀ r, r < 32 → t.opnd.tpois.getLsbD (32 * n + r) = (z r || (!whole r && k.opnd.tpois.getLsbD (32 * n + r)))

/-- The rows of every tile but those of `ns` are what they were. -/
def Core.keepsTiles (k t : Core) (ns : List Nat) : Prop :=
  ∀ key, key / 32 ∉ ns → t.opnd.tiles.get Config.freeRow key = k.opnd.tiles.get Config.freeRow key
    ∧ t.opnd.tpois.getLsbD key = k.opnd.tpois.getLsbD key

/-- Nothing but tiles and what an issue itself moves on has changed. -/
def Core.onlyTiles (k t : Core) : Prop := k.sameBundle { t with opnd := { t.opnd with tiles := k.opnd.tiles, tpois := k.opnd.tpois } }

/-- The instruction issues and writes tile n of each member, as `Core.tileTakes` says of the core it finds. No row of another tile changes,
and nothing else but the counters. -/
def State.writesTile (s : State) (c : Instr) (op : Nat) (i : Issue) (n w : Nat) (val : Core → Nat → Nat → Option Nat)
    (z whole : Core → Nat → Bool) : Prop :=
  ∃ t, exec c s = .next t ∧ s.issueFrame t i ∧ ∀ m, m ∈ s.members i.core →
    (s.core m).tileTakes (t.core m) n w (val (s.openedCore op i m)) (z (s.openedCore op i m)) (whole (s.openedCore op i m))
    ∧ (s.core m).keepsTiles (t.core m) [n] ∧ (s.core m).onlyTiles (t.core m)

/-- The elements of a predicated instruction: computed where the predicate bit is set, zero bits elsewhere under ZM, else unchanged
(R116). -/
def masked (f : Fields) (g : Core → Nat → Nat → Nat) (k : Core) (r c : Nat) : Option Nat :=
  if k.predOn f r c then some (g k r c) else if f.mb 4 then some 0 else none

/-- Whether a predicated instruction writes row r whole in the view of width w. -/
def maskedWhole (f : Fields) (w : Nat) (k : Core) (r : Nat) : Bool := f.mb 4 || (List.range (colsOf w)).all (k.predOn f r)

/-- An element-wise instruction (R116, R117, R120): `g` of the elements of its `n` sources, of which source 2 may be a scalar. -/
def State.mapsTile (s : State) (c : Instr) (op : Nat) (i : Issue) (f : Fields) (w n : Nat) (g : Nat → Nat → Nat → Nat) : Prop :=
  s.writesTile c op i f.dst.toNat w
    (masked f (fun k r c => g (elt w (k.trow f.a.toNat r) c) (k.eltB f w r c) (elt w (k.trow f.c.toNat r) c)))
    (fun k r => k.tpz f.a.toNat r || (decide (2 ≤ n) && k.pzB f r) || (decide (3 ≤ n) && k.tpz f.c.toNat r) || k.ppz (f.m 2 0) r)
    (maskedWhole f w)

/-- Floating-point element-wise instructions of R121: opcode, sources, and the operation, whose exact result is rounded once. -/
def fpTable : List (Nat × (Issue → Fields → Instr) × Nat × (Fv → Fv → Fv → Fv)) :=
  [(0x50, .vadd, 2, fun a b _ => a.add b), (0x51, .vsub, 2, fun a b _ => a.sub b), (0x52, .vmul, 2, fun a b _ => a.mul b),
   (0x53, .vfma, 3, fun a b c => a.fma b c), (0x54, .vfms, 3, fun a b c => a.neg.fma b c), (0x55, .vmax, 2, fun a b _ => a.max b),
   (0x56, .vmin, 2, fun a b _ => a.min b), (0x57, .vabs, 1, fun a _ _ => a.abs), (0x58, .vneg, 1, fun a _ _ => a.neg),
   (0x59, .vcpsgn, 2, fun a b _ => if a.isNan || b.isNan then .nan else if b.sgn then a.abs.neg else a.abs)]

/-- Integer and bitwise instructions of Table 6-4: opcode, sources, and the operation on elements of `w` bits that `int` reads as signed,
or as unsigned with UNS. -/
def intTable : List (Nat × (Issue → Fields → Instr) × Nat × ((Nat → Int) → Nat → Nat → Nat → Nat)) :=
  [(0x60, .viadd, 2, fun _ _ a b => a + b), (0x61, .visub, 2, fun _ w a b => a + 2 ^ w - b), (0x62, .vimul, 2, fun _ _ a b => a * b),
   (0x63, .vimax, 2, fun int _ a b => if int a < int b then b else a), (0x64, .vimin, 2, fun int _ a b => if int b < int a then b else a),
   (0x65, .vand, 2, fun _ _ a b => a &&& b), (0x66, .vor, 2, fun _ _ a b => a ||| b), (0x67, .vxor, 2, fun _ _ a b => a ^^^ b),
   (0x68, .vandn, 2, fun _ w a b => a &&& (2 ^ w - 1 - b)), (0x69, .vnot, 1, fun _ w a _ => 2 ^ w - 1 - a),
   (0x6A, .vshl, 2, fun _ w a b => if w ≤ b then 0 else a * 2 ^ b),
   (0x6B, .vshr, 2, fun int w a b => if w ≤ b then (if int a < 0 then 2 ^ w - 1 else 0) else wrap w (int a / 2 ^ b))]

/-- The published functions of Table 7-1: opcode and function. -/
def fnTable : List (Nat × (Issue → Fields → Instr) × Fn) :=
  [(0xA0, .vexp2, .exp2), (0xA1, .vexp, .exp), (0xA2, .vlog2, .log2), (0xA3, .vlog, .log), (0xA4, .vrcp, .rcp), (0xA5, .vrsqrt, .rsqrt),
   (0xA6, .vsqrt, .sqrt), (0xA7, .vsin, .sin), (0xA8, .vcos, .cos), (0xA9, .vtanh, .tanh), (0xAA, .vsig, .sig), (0xAB, .verf, .erf),
   (0xAC, .vsoftp, .softp)]

/-- Scalar integer instructions of Table 10-5 with a Form I twin at their opcode + 0x20. -/
def scalarTable : List (Nat × (Issue → Fields → Instr) × (Issue → Fields → Instr) × (Word64 → Word64 → Word64)) :=
  [(0x01, .add, .addi, fun a b => a + b), (0x02, .sub, .subi, fun a b => a - b), (0x03, .mul, .muli, fun a b => a * b),
   (0x04, .mulh, .mulhi, fun a b => BitVec.ofInt 64 (a.toInt * b.toInt / 2 ^ 64)),
   (0x05, .mulhu, .mulhui, fun a b => BitVec.ofNat 64 (a.toNat * b.toNat / 2 ^ 64)),
   (0x06, .div, .divi, fun a b => if b = 0 then 0 else BitVec.ofInt 64 (a.toInt.tdiv b.toInt)),
   (0x07, .divu, .divui, fun a b => BitVec.ofNat 64 (a.toNat / b.toNat)),
   (0x08, .rem, .remi, fun a b => if b = 0 then a else BitVec.ofInt 64 (a.toInt.tmod b.toInt)),
   (0x09, .remu, .remui, fun a b => BitVec.ofNat 64 (a.toNat % b.toNat)),
   (0x0A, .and, .andi, fun a b => a &&& b), (0x0B, .or, .ori, fun a b => a ||| b), (0x0C, .xor, .xori, fun a b => a ^^^ b),
   (0x0D, .shl, .shli, fun a b => BitVec.ofNat 64 (if 64 ≤ b.toNat then 0 else a.toNat * 2 ^ b.toNat)),
   (0x0E, .shr, .shri, fun a b => BitVec.ofNat 64 (if 64 ≤ b.toNat then 0 else a.toNat / 2 ^ b.toNat)),
   (0x0F, .sra, .srai, fun a b => BitVec.ofInt 64 (if 64 ≤ b.toNat then (if a.toInt < 0 then -1 else 0) else a.toInt / 2 ^ b.toNat)),
   (0x10, .slt, .slti, fun a b => if a.toInt < b.toInt then 1 else 0), (0x11, .sltu, .sltui, fun a b => if a.toNat < b.toNat then 1 else 0),
   (0x12, .seq, .seqi, fun a b => if a = b then 1 else 0), (0x13, .min, .mini, fun a b => if b.toInt < a.toInt then b else a),
   (0x14, .max, .maxi, fun a b => if a.toInt < b.toInt then b else a)]

/-- Scalar floating-point instructions of two sources of Table 10-6. -/
def scalarFpTable : List (Nat × (Issue → Fields → Instr) × (Fv → Fv → Fv)) :=
  [(0x18, .fadd, Fv.add), (0x19, .fsub, Fv.sub), (0x1A, .fmul, Fv.mul), (0x1C, .fmin, Fv.min), (0x1D, .fmax, Fv.max)]

/-! ## Queued operations -/

/-- What an issue that takes an identifier leaves alone: as `issueFrame`, the next identifier apart. -/
def State.slotFrame (s t : State) (i : Issue) : Prop := s.issueFrame { t with nextId := s.nextId } i

/-- The instruction issues and joins the queue of each array it names with the operands of its issue (R86), and nothing else. -/
def State.queuesM (s : State) (c : Instr) (kd : MKind) (i : Issue) (f : Fields) : Prop :=
  ∃ t, exec c s = .next t ∧ s.slotFrame t i ∧ ∀ m, m ∈ s.members i.core →
    (∃ e : MOp, e.kind = kd ∧ e.f = f ∧ e.v1 = (s.operands i m).scalar f.a ∧ e.v2 = (s.operands i m).scalar f.b
      ∧ e.v3 = (s.operands i m).scalar f.c ∧ e.srstep = (s.operands i m).srstep
      ∧ (kd = .mma → f.mb 20 = true → e.tiles = (s.operands i m).tiles ∧ e.tpois = (s.operands i m).tpois)
      ∧ ∀ a, a < 4 → (t.core m).mqueue a = (s.core m).mqueue a ++ (if a ∈ kd.arrays f then [e] else []))
    ∧ (s.core m).sameBundle { t.core m with mq := (s.core m).mq }

/-- No symbol or line of HBM is in error and the host holds no line, so that a read of memory changes none of it (R230, R303). -/
def State.clean (s : State) : Prop := s.damage = [] ∧ s.memLines = [] ∧ s.hostLines = []

/-- What an ordered operation that no fence holds puts on its way inside the module (Table 9-1). -/
def flightOf (m : Fin 96) : HeldOp → List Flight
  | .signal c n a => if a = 0 then [] else [.inc m.val c n a]
  | .arrive mb n tag => [.arrive m.val mb n tag]
  | .flag c n => [.flag m.val c n]
  | _ => []

/-- Each core of `who` issues an ordered operation: it goes at once where the core has no fence, else it is held behind the newest
(R187). -/
def State.orders (s t : State) (who : List (Fin 96)) (op : Fin 96 → HeldOp) : Prop :=
  t.flights = s.flights ++ who.flatMap (fun m => if (s.core m).fences = [] then flightOf m (op m) else [])
    ∧ ∀ m, m ∈ who → if (s.core m).fences = [] then (t.core m).held = (s.core m).held
        else ∃ id, (t.core m).held = (s.core m).held ++ [⟨id, (s.core m).newFence, op m⟩]

/-- Nothing but core c has changed. -/
def State.onlyCore (s t : State) (c : Fin 96) : Prop := { t with cores := s.cores } = s ∧ ∀ d, d ≠ c → t.core d = s.core d

/-- A byte store that holds `b` from address a upwards and otherwise what it held before. -/
def Store.writes (m m' : Store) (a : Nat) (b : List Byte) : Prop :=
  ∀ x, m'.get x = if a ≤ x ∧ x < a + b.length then b.getD (x - a) 0 else m.get x

/-- The sum of the products of row i and column j at step t of an MMA on array a (R77), A's valid entries being `es`. -/
def Core.mmaSum (k : Core) (m : MOp) (es : List (Nat × Nat)) (a i j t : Nat) : Fv :=
  match k.mmaRec m a t with
  | some w => dotStep (k.mmaA m es false t ((if m.f.mb 10 then 16 * (a / 2) else 0) + i)).1
      (k.bCol a (m.f.m 11 11) (m.f.m 19 12 + t) j w)
  | none => exactSum []

/-- The rows of a drain as its destination takes them: values in the output format, the scale, and the poison of each (R87 to R91). -/
def State.drainRows (s : State) (c : Fin 96) (m : MOp) : List (List Nat × Nat × List Bool) :=
  (List.range (drainN m.f)).map (fun r =>
    (((s.core c).drainOut m r ((s.core c).drainRow m.f s.freeCtr r).1).1, ((s.core c).drainOut m r ((s.core c).drainRow m.f s.freeCtr r).1).2,
      ((s.core c).drainRow m.f s.freeCtr r).2))

/-- The drain m of core c has acted: its entry is free, its run is over, and the banks keep their bits; to tiles and to local memory
the rows are delivered, and SIGEN's counter counts (R87, R92). -/
def State.drained (s t : State) (c : Fin 96) (m : MOp) : Prop :=
  (∀ b, b ∈ MKind.mdrain.arrays m.f → (∀ e, e ∈ (t.core c).mqueue b → e.uid ≠ m.uid)
      ∧ ((t.core c).bank (drainBank m.f b)).run = none)
    ∧ (t.core c).acc = (s.core c).acc ∧ (∀ y, y ∈ (t.core c).replays → y.uid ≠ m.uid)
    ∧ (m.f.m 1 0 = 0 → (t.core c).opnd = ((s.core c).drainTile m.f (s.drainRows c m)).opnd ∧ (t.core c).lm = (s.core c).lm)
    ∧ (m.f.m 1 0 = 1 → (t.core c).lm = ((s.core c).lmWriteZ (drainBytesAt m.f m.v2.toNat (s.drainRows c m))).lm
        ∧ (t.core c).opnd = (s.core c).opnd)
    ∧ (m.f.m 1 0 < 2 → t.hbm = s.hbm ∧ (t.core c).count (m.f.m 17 12) =
        if m.f.mb 11 then min ((s.core c).count (m.f.m 17 12) + 1) (2 ^ 64 - 1) else (s.core c).count (m.f.m 17 12))

/-- The state in which a transfer of core c performs its accesses: its partition is reached in this frame (R197). -/
def State.xferTaken (s : State) (c : Fin 96) : State := s.touch (s.core c).part

/-! ## Messages and commands of the Bushels -/

/-- Message k of the inbox is x, and none received before it goes before it (R190, R272). -/
def State.nextMsg (s : State) (k : Nat) (x : InMsg) : Prop := s.inbox[k]? = some x ∧ ∀ y, y ∈ s.inbox.take k → y.ahead x = false

/-- Message r of this module goes to node r.dst, `base` being the other messages that have arrived: to this module itself, or to the port
of its route when that is UP (R277, R278). -/
def State.sends (s t : State) (base : List InMsg) (r : Msg) : Prop :=
  if r.dst = s.node then t.inbox = base ++ [⟨none, r.vcOf, false, r⟩]
  else t.inbox = base ∧ (s.portUp (s.route r.dst) = true →
    (t.port (s.route r.dst)).outq = (s.port (s.route r.dst)).outq ++ [⟨r.vcOf, 12, r⟩])

/-- A byte store in which each of `keys` holds its byte of `b`, and every other key what it held before. -/
def Store.writesAt (m m' : Store) (keys : List Nat) (b : List Byte) : Prop :=
  (∀ i k, keys[i]? = some k → m'.get k = b.getD i 0) ∧ ∀ x, x ∉ keys → m'.get x = m.get x

/-- The record r is at the front of Bushel n's queue, its fields are those of command `op`, and no core holds a record for n (R245). -/
def State.runs (s : State) (n : Nat) (r : BRec) (q : List BRec) (op : Nat) : Prop :=
  (s.bsh n).queue = r :: q ∧ r.ctrl 7 0 = op ∧ r.badField = false ∧ ∀ c h, h ∈ (s.core c).bq → h.mc ≠ n

/-! ## Registers and resets -/

/-- Requester r's guarded write of v takes effect at a register outside the cores (R393 to R396): it reaches the register, no TSP lock
refuses it, and v changes one of the bits `g` that are written in two parts. -/
def State.accepts (s : State) (r : Fin 10) (o : Nat) (v g : Word32) : Prop :=
  s.reach r o true = true ∧ s.lockRefuses r o = false ∧ (s.reg o ^^^ v) &&& g ≠ 0

/-- Requester r writes the register at base offset o (R358, R393). -/
def State.writable (s : State) (r : Fin 10) (o : Nat) : Prop := s.reach r o true = true ∧ s.lockRefuses r o = false

/-- Of the state nothing but register o and what accounts for the access itself has changed: pending guarded writes, GLB.GSTAT, and the
mark of a host access to a partition (R197, R394, R396). -/
def State.regOnly (s t : State) (o : Nat) : Prop :=
  (∀ o', o' ≠ o → t.reg o' = s.reg o') ∧ { t with regs := s.regs, guards := s.guards, gstat := s.gstat, parts := s.parts } = s
    ∧ ∀ p, { t.part p with busyFrame := (s.part p).busyFrame } = s.part p

/-- The register o takes the bits `g` of v, and nothing else changes. -/
def State.stores (s : State) (c : Instr) (o : Nat) (v g : Word32) : Prop :=
  ∃ t, exec c s = .next t ∧ t.reg o = ((s.reg o &&& ~~~g) ||| (v &&& g)) ∧ s.regOnly t o

/-- The module has restarted (R363, R364, R368): start-up is in phase 1, RST.CAUSE has the bits of `mask` too, compute is off, requests and
messages are gone, and every register that a system reset resets has its reset value. -/
def State.restarted (s t : State) (mask : Nat) : Prop :=
  t.phase = .boot ∧ t.reg (rRST_CAUSE) = (s.reg (rRST_CAUSE) ||| BitVec.ofNat 32 mask) ∧ (∀ c, (t.core c).st = .off) ∧ t.reqs = []
    ∧ t.inbox = [] ∧ t.hdm = [] ∧ ∀ o, keepReg o = false → o ≠ rSEC_STATUS → t.reg o = regReset o

end Sys2Proof.Machine
end

