-- ==== Sys2Proof/Certificates/Slice0/Obligations.lean ====
section
/-!
DEFINITION. The statements for the provers, by chapter of the spec. Each docstring names the rules of spec/ it formalises. A value or a
behaviour that the model chose is named with its log entry.
-/
open Sys2Proof Sys2Proof.Machine

/-! ## The queue of commands -/

/-- A step takes the command at the front of the queue and runs it with the queue's rest. A step on an empty queue idles (the model's
choice, log entry 3). -/
def Obligations.StepRunsFrontCommand : Prop :=
  (∀ (c : Instr) (rest : List Instr) (s : State), step { s with pending := c :: rest } = exec c { s with pending := rest })
  ∧ (∀ s : State, s.pending = [] → step s = .next s)

/-! ## Scalar instructions (spec/10_isa.md) -/

/-- R209: in every member of the gang each scalar integer instruction writes its result, computed from the operands as the bundle found
them, to its destination, and nothing else. Form I takes the sign-extended immediate in place of source 2. -/
def Obligations.ScalarIntegerResult : Prop :=
  (∀ e, e ∈ scalarTable → ∀ (s : State) (i : Issue) (f : Fields),
    (s.ready e.1 i f →
      s.writesOpnd (e.2.1 i f) i (fun o old => old.withScalar f.dst (e.2.2.2 (o.scalar f.a) (o.scalar f.b))))
    ∧ (s.ready (e.1 + 0x20) i f →
      s.writesOpnd (e.2.2.1 i f) i (fun o old => old.withScalar f.dst (e.2.2.2 (o.scalar f.a) (f.mods.signExtend 64)))))
  ∧ ∀ (s : State) (i : Issue) (f : Fields),
    (s.ready 0x15 i f → s.writesOpnd (.sel i f) i (fun o old =>
      old.withScalar f.dst (if o.scalar f.c ≠ 0 then o.scalar f.a else o.scalar f.b)))
    ∧ (s.ready 0x16 i f → s.writesOpnd (.li i f) i (fun _ old => old.withScalar f.dst (f.mods.signExtend 64)))
    ∧ (s.ready 0x17 i f → s.writesOpnd (.lih i f) i (fun o old =>
      old.withScalar f.dst ((o.scalar f.a &&& 0xFFFFFFFF) ||| (f.mods.signExtend 64 <<< 32))))

/-- R210: scalar floating-point results in the format of the instruction, rounded once RNE, FP32 in bits [31:0] with the upper bits
cleared; FCMP writes 1 or 0 for its condition; FCVT converts. -/
def Obligations.ScalarFloatResult : Prop :=
  ∀ (s : State) (i : Issue) (f : Fields),
    (∀ e, e ∈ scalarFpTable → s.ready e.1 i f → s.writesOpnd (e.2.1 i f) i (fun o old =>
      old.withScalar f.dst (BitVec.ofNat 64 (fencode (ffOf f.fmt.toNat) (rnd (ffOf f.fmt.toNat)
        (e.2.2 (fpOpnd (ffOf f.fmt.toNat) (o.scalar f.a)) (fpOpnd (ffOf f.fmt.toNat) (o.scalar f.b))))))))
    ∧ (s.ready 0x1B i f → s.writesOpnd (.ffma i f) i (fun o old =>
      old.withScalar f.dst (BitVec.ofNat 64 (fencode (ffOf f.fmt.toNat) (rnd (ffOf f.fmt.toNat)
        ((fpOpnd (ffOf f.fmt.toNat) (o.scalar f.a)).fma (fpOpnd (ffOf f.fmt.toNat) (o.scalar f.b))
          (fpOpnd (ffOf f.fmt.toNat) (o.scalar f.c))))))))
    ∧ (s.ready 0x1E i f → s.writesOpnd (.fcmp i f) i (fun o old =>
      old.withScalar f.dst (if fcond (f.m 3 0) (fpOpnd (ffOf f.fmt.toNat) (o.scalar f.a)) (fpOpnd (ffOf f.fmt.toNat) (o.scalar f.b))
        then 1 else 0)))
    ∧ (s.ready 0x1F i f → s.writesOpnd (.fcvt i f) i (fun o old =>
      old.withScalar f.dst (fcvtDst f.fmt.toNat (f.m 5 4) (f.mb 6) (fcvtSrc (f.m 3 0) (o.scalar f.a)))))

/-- R211: BR goes to (PC + offset) mod 2,048 when the condition of Table 10-7 holds on the leader's registers; JAL always, and writes PC + 1
in every member; JR goes to the value of source 1, and 2,048 or more is a program fault of cause 2, which the first fault of the sequencer
records; an offset out of range, a condition that the table lacks and a source that the condition does not use are illegal. NOP (R201)
changes nothing but the bundle's place. -/
def Obligations.ControlTransfer : Prop :=
  ∀ (s : State) (i : Issue) (f : Fields),
    (s.ready 0x00 i f → s.transfers (.nop i f) i (s.plainNext i) (fun _ old => old))
    ∧ (∀ a b : Word64, a = (s.operands i i.core).scalar f.a → b = (s.operands i i.core).scalar f.b → s.ready 0x38 i f →
        s.transfers (.br i f) i
          (if f.fmt = 0 ∨ f.fmt = 1 ∧ a = b ∨ f.fmt = 2 ∧ a ≠ b ∨ f.fmt = 3 ∧ a.toInt < b.toInt ∨ f.fmt = 4 ∧ b.toInt ≤ a.toInt
              ∨ f.fmt = 5 ∧ a.toNat < b.toNat ∨ f.fmt = 6 ∧ b.toNat ≤ a.toNat ∨ f.fmt = 7 ∧ a = 0 ∨ f.fmt = 8 ∧ a ≠ 0
            then ((((s.core i.core).pc : Int) + f.mods.toInt) % 2048).toNat else s.plainNext i) (fun _ old => old))
    ∧ (s.ready 0x39 i f → s.transfers (.jal i f) i ((((s.core i.core).pc : Int) + f.mods.toInt) % 2048).toNat
        (fun _ old => old.withScalar f.dst (BitVec.ofNat 64 ((s.core i.core).pc + 1))))
    ∧ (s.ready 0x3A i f →
      (((s.operands i i.core).scalar f.a).toNat < 2048 → s.transfers (.jr i f) i ((s.operands i i.core).scalar f.a).toNat (fun _ old => old))
      ∧ ∀ p, 2048 ≤ ((s.operands i i.core).scalar f.a).toNat → s.partOf i.core = some p → s.isStopped p = false →
        (s.core i.core).reg (kSEQ_FAULT) = 0 → (s.core i.core).faulted = false →
          ∃ t, exec (.jr i f) s = .next t ∧ t.isStopped p = true ∧ (t.core i.core).st = .stopped
          ∧ (t.core i.core).fld (kSEQ_FAULT) 3 0 = 2 ∧ (t.core i.core).opnd = (s.core i.core).opnd)
    ∧ (f.mods.toInt < -2047 ∨ 2047 < f.mods.toInt → illegal 0x38 f = true ∧ illegal 0x39 f = true)
    ∧ (8 < f.fmt.toNat ∨ f.fmt = 0 ∧ f.a ≠ 0 ∨ (f.fmt = 0 ∨ f.fmt = 7 ∨ f.fmt = 8) ∧ f.b ≠ 0 → illegal 0x38 f = true)
    ∧ (f.fmt ≠ 0 ∨ f.a ≠ 0 ∨ f.b ≠ 0 → illegal 0x39 f = true)

/-- R184, R208: SCNTRD reads the counter as captured at the last tick window; SRD reads a special register at its issue cycle; SWR writes
bits [31:0] of source 1 to SRSTEP, and no other operand register. -/
def Obligations.SpecialRegisters : Prop :=
  ∀ (s : State) (i : Issue) (f : Fields),
    (s.ready 0x36 i f → ∃ t, exec (.scntrd i f) s = .next t ∧ s.issueFrame t i ∧ ∀ m, m ∈ s.members i.core →
      (t.core m).opnd = (s.core m).opnd.withScalar f.dst (BitVec.ofNat 64 ((s.core m).reg64 (kSCNT_COUNT (f.m 5 0))))
        ∧ (s.core m).onlyOpnd (t.core m))
    ∧ (s.ready 0x3E i f → ∃ t, exec (.srd i f) s = .next t ∧ s.issueFrame t i ∧ ∀ m, m ∈ s.members i.core →
      (t.core m).opnd = (s.core m).opnd.withScalar f.dst
          (if f.m 7 0 = 0x10 then (s.operands i m).srstep.setWidth 64 else s.spr m (f.m 7 0) i.cy)
        ∧ (s.core m).onlyOpnd (t.core m))
    ∧ (s.ready 0x3F i f → s.writesOpnd (.swr i f) i (fun o old => { old with srstep := (o.scalar f.a).setWidth 32 }))

/-- R213, R214: FRAME ends the frame block of every member with the wait condition of its fields, EXIT without one, and after EXIT the
launch is ending; SEQ.LASTCY takes the issue cycle of the bundle (R37). -/
def Obligations.BlockEnds : Prop :=
  ∀ (s : State) (i : Issue) (f : Fields),
    (s.ready 0x3C i f → ∃ t, exec (.frame i f) s = .next t ∧ s.issueFrame t i ∧ ∀ m, m ∈ s.members i.core →
      (t.core m).active = false ∧ (t.core m).spill = false ∧ (t.core m).exiting = false ∧ (t.core m).opnd = (s.core m).opnd
      ∧ (t.core m).wait = (match f.m 1 0 with
          | 0 => WaitC.none
          | 1 => WaitC.counter (f.m 7 2) ((s.operands i m).scalar f.a)
          | w => WaitC.barrier (w = 3) (f.m 7 2) (f.m 8 8))
      ∧ (t.core m).fld (kSEQ_LASTCY) 11 0 = ((s.core m).blockCycle s.frame i.cy) % 4096
      ∧ (t.core m).lm = (s.core m).lm)
    ∧ (s.ready 0x3D i f → ∃ t, exec (.exit i f) s = .next t ∧ s.issueFrame t i ∧ ∀ m, m ∈ s.members i.core →
      (t.core m).active = false ∧ (t.core m).exiting = true ∧ (t.core m).wait = WaitC.none ∧ (t.core m).opnd = (s.core m).opnd
      ∧ (t.core m).fld (kSEQ_LASTCY) 11 0 = ((s.core m).blockCycle s.frame i.cy) % 4096
      ∧ (t.core m).lm = (s.core m).lm)

/-- R205: a bundle next to issue with an illegal word in any slot issues nothing. Where SEQ.FAULT holds no cause yet, it takes cause 1, the
first illegal slot and the bundle's index, and SEQ.FWORD the word; ERRSUM.PROG is set and a record written. The words are those of the
buffer. -/
def Obligations.IllegalEncodingStops : Prop :=
  ∀ (s : State) (c : Fin 96) (cy : Nat) (w0 w1 w2 w3 : Word64) (n : Nat) (w : Word64) (p : Nat),
    s.canIssue ⟨c, cy, true⟩ = true → (s.core c).view = none → (s.core c).lineSt = .ready →
    (s.core c).bundleWords = [w0, w1, w2, w3] → (bundleIllegal [w0, w1, w2, w3]).head? = some (n, w) →
    (s.core c).reg (kSEQ_FAULT) = 0 → (s.core c).faulted = false → (s.core c).pc < 2048 →
    s.partOf c = some p → s.isStopped p = false →
    ∃ t, exec (.illegalEncoding c cy w0 w1 w2 w3) s = .next t ∧ (t.core c).st = .stopped
      ∧ (t.core c).fld (kSEQ_FAULT) 3 0 = 1 ∧ (t.core c).fld (kSEQ_FAULT) 5 4 = n ∧ (t.core c).fld (kSEQ_FAULT) 26 16 = (s.core c).pc
      ∧ (t.core c).reg64 (kSEQ_FWORD) = w.toNat ∧ (t.core c).fld (kUCB_core_ERRSUM) 6 6 = 1
      ∧ t.isStopped p = true ∧ (t.core c).opnd = (s.core c).opnd
      ∧ t.errPend.length = s.errPend.length + 1 ∧ t.hbm = s.hbm

/-! ## The vector engine (spec/06_vector.md, spec/07_functions.md) -/

/-- R116, R117, R121: floating-point element-wise instructions, each result rounded once in the instruction's format, and VMOV. -/
def Obligations.VectorFloatResult : Prop :=
  ∀ (s : State) (i : Issue) (f : Fields),
    (∀ e, e ∈ fpTable → s.ready e.1 i f → s.mapsTile (e.2.1 i f) e.1 i f (ffOf f.fmt.toNat).bits e.2.2.1 (fun a b c =>
      fencode (ffOf f.fmt.toNat) (rnd (ffOf f.fmt.toNat) (e.2.2.2 (fdecode (ffOf f.fmt.toNat) a) (fdecode (ffOf f.fmt.toNat) b)
        (fdecode (ffOf f.fmt.toNat) c)))))
    ∧ (s.ready 0x5A i f → s.mapsTile (.vmov i f) 0x5A i f (fmtBits f.fmt.toNat) 1 (fun a _ _ => a))

/-- R123: integer and bitwise element-wise instructions modulo 2^n, shifts of n or more giving 0 or all sign bits (R70), and VIOTA. -/
def Obligations.VectorIntegerResult : Prop :=
  ∀ (s : State) (i : Issue) (f : Fields),
    (∀ e, e ∈ intTable → s.ready e.1 i f → s.mapsTile (e.2.1 i f) e.1 i f (fmtBits f.fmt.toNat) e.2.2.1 (fun a b _ =>
      e.2.2.2 (fun v => if f.mb 29 then (v : Int) else sint (fmtBits f.fmt.toNat) v) (fmtBits f.fmt.toNat) a b))
    ∧ (s.ready 0x6D i f → s.writesTile (.viota i f) 0x6D i f.dst.toNat (fmtBits f.fmt.toNat)
        (fun k r c => some ((k.rs f.a).toNat + r * colsOf (fmtBits f.fmt.toNat) + c)) (fun _ _ => false) (fun _ _ => true))

/-- R122, R123: VCMP and VICMP write the bit of each computed element, bits outside the view are cleared, and no tile changes. -/
def Obligations.CompareWritesPredicate : Prop :=
  ∀ (s : State) (i : Issue) (f : Fields) (c : Instr) (op w : Nat) (test : Nat → Nat → Bool),
    ((c = .vcmp i f ∧ op = 0x5B ∧ w = (ffOf f.fmt.toNat).bits ∧ test = fun a b =>
        fcond (f.m 17 14) (fdecode (ffOf f.fmt.toNat) a) (fdecode (ffOf f.fmt.toNat) b))
      ∨ (c = .vicmp i f ∧ op = 0x6C ∧ w = fmtBits f.fmt.toNat ∧ test = fun a b => icond (f.m 17 14) (intOf f w a) (intOf f w b))) →
    s.ready op i f → ∃ t, exec c s = .next t ∧ s.issueFrame t i ∧ ∀ m, m ∈ s.members i.core →
      (∀ r col, r < 32 → col < 128 → ((t.core m).opnd.preds.get Config.freePred (32 * f.dst.toNat + r)).getLsbD col =
        (decide (col < colsOf w) &&
          if (s.openedCore op i m).predOn f r col then
            test (elt w ((s.openedCore op i m).trow f.a.toNat r) col) ((s.openedCore op i m).eltB f w r col)
          else !f.mb 4 && ((s.core m).opnd.preds.get Config.freePred (32 * f.dst.toNat + r)).getLsbD col))
      ∧ (t.core m).opnd.tiles = (s.core m).opnd.tiles ∧ (t.core m).opnd.s = (s.core m).opnd.s

/-- R124: PAND, POR, PXOR, PANDN and PNOT combine all 4,096 bits, unpredicated, and a destination row takes the poison of its source rows;
PANY writes whether any bit of the view is set and PCOUNT how many, in every member; of a poisoned row both consume the poison (R118): the
partition of the member that reads it stops, and that member writes no register. -/
def Obligations.PredicateOperations : Prop :=
  (∀ (s : State) (i : Issue) (f : Fields) (e : Nat × (Issue → Fields → Instr) × Bool × (BitVec 128 → BitVec 128 → BitVec 128)),
    e ∈ ([(0x70, .pand, true, fun a b => a &&& b), (0x71, .por, true, fun a b => a ||| b), (0x72, .pxor, true, fun a b => a ^^^ b),
      (0x73, .pandn, true, fun a b => a &&& ~~~b), (0x74, .pnot, false, fun a _ => ~~~a)] :
        List (Nat × (Issue → Fields → Instr) × Bool × (BitVec 128 → BitVec 128 → BitVec 128))) →
    s.ready e.1 i f → ∃ t, exec (e.2.1 i f) s = .next t ∧ s.issueFrame t i ∧ ∀ m, m ∈ s.members i.core →
      (∀ r, r < 32 → (t.core m).opnd.preds.get Config.freePred (32 * f.dst.toNat + r) =
          e.2.2.2 ((s.openedCore e.1 i m).prow f.a.toNat r) ((s.openedCore e.1 i m).prow f.b.toNat r)
        ∧ (t.core m).opnd.ppois.getLsbD (32 * f.dst.toNat + r) =
          ((s.openedCore e.1 i m).ppz f.a.toNat r || (e.2.2.1 && (s.openedCore e.1 i m).ppz f.b.toNat r)))
      ∧ (t.core m).opnd.tiles = (s.core m).opnd.tiles ∧ (t.core m).opnd.s = (s.core m).opnd.s)
  ∧ (∀ (s : State) (i : Issue) (f : Fields),
    (s.ready 0x75 i f → (∀ m, m ∈ s.members i.core → ∀ r, r < 32 → (s.openedCore 0x75 i m).ppz f.a.toNat r = false) →
      ∃ t, exec (.pany i f) s = .next t ∧ s.issueFrame t i ∧ ∀ m, m ∈ s.members i.core →
        (t.core m).opnd = (s.core m).opnd.withScalar f.dst (if (List.range 32).any (fun r =>
            (List.range (min 128 (colsOf (fmtBits f.fmt.toNat)))).any (fun c =>
              ((s.openedCore 0x75 i m).prow f.a.toNat r).getLsbD c)) then 1 else 0)
          ∧ (s.core m).onlyOpnd (t.core m))
    ∧ (s.ready 0x76 i f → (∀ m, m ∈ s.members i.core → ∀ r, r < 32 → (s.openedCore 0x76 i m).ppz f.a.toNat r = false) →
      ∃ t, exec (.pcount i f) s = .next t ∧ s.issueFrame t i ∧ ∀ m, m ∈ s.members i.core →
        (t.core m).opnd = (s.core m).opnd.withScalar f.dst (BitVec.ofNat 64 ((List.range 32).flatMap (fun r =>
            (List.range (min 128 (colsOf (fmtBits f.fmt.toNat)))).filter (fun c =>
              ((s.openedCore 0x76 i m).prow f.a.toNat r).getLsbD c))).length)
          ∧ (s.core m).onlyOpnd (t.core m)))
  ∧ (∀ (s : State) (i : Issue) (f : Fields) (m : Fin 96) (p : Nat) (c : Instr) (op r : Nat), s.ready op i f → m ∈ s.members i.core →
    s.partOf m = some p → s.isStopped p = false → r < 32 → (c = .pany i f ∧ op = 0x75 ∨ c = .pcount i f ∧ op = 0x76) →
    (s.openedCore op i m).ppz f.a.toNat r = true →
    ∃ t, exec c s = .next t ∧ t.isStopped p = true ∧ (t.core m).opnd = (s.core m).opnd
      ∧ (s.partOf i.core = some p → (t.core i.core).st = .stopped))

/-- R118, R131: VMOVS moves an element to a scalar register of every member where no row it reads is poisoned, extended to 64 bits by its
format code. R118: where a member reads a poisoned row its partition stops, and that member writes no register. -/
def Obligations.MovesToScalar : Prop :=
  (∀ (s : State) (i : Issue) (f : Fields),
    s.ready 0x8D i f → (∀ m, m ∈ s.members i.core → (s.openedCore 0x8D i m).tpz f.a.toNat (f.m 22 18) = false) →
      ∃ t, exec (.vmovs i f) s = .next t ∧ s.issueFrame t i ∧ ∀ m, m ∈ s.members i.core →
        (t.core m).opnd = (s.core m).opnd.withScalar f.dst
          (if f.fmt.toNat ∈ [0, 1, 3, 7] ∧ f.mb 29 = false then
            BitVec.ofInt 64 (sint (fmtBits f.fmt.toNat) ((s.operands i m).elem (fmtBits f.fmt.toNat) f.a.toNat (f.m 22 18)
              (f.m 17 14 + 16 * f.m 12 10 + 128 * f.m 9 9)))
          else BitVec.ofNat 64 ((s.operands i m).elem (fmtBits f.fmt.toNat) f.a.toNat (f.m 22 18)
              (f.m 17 14 + 16 * f.m 12 10 + 128 * f.m 9 9)))
          ∧ (s.core m).onlyOpnd (t.core m))
  ∧ (∀ (s : State) (i : Issue) (f : Fields) (m : Fin 96) (p : Nat), s.ready 0x8D i f → m ∈ s.members i.core → s.partOf m = some p →
    s.isStopped p = false → (s.openedCore 0x8D i m).tpz f.a.toNat (f.m 22 18) = true →
    ∃ t, exec (.vmovs i f) s = .next t ∧ t.isStopped p = true ∧ (t.core m).opnd = (s.core m).opnd
      ∧ (s.partOf i.core = some p → (t.core i.core).st = .stopped))

/-- R117, R120, R122, R130, R131: moves within the tiles. -/
def Obligations.VectorMoves : Prop :=
  ∀ (s : State) (i : Issue) (f : Fields),
    (s.ready 0x5C i f → s.writesTile (.vsel i f) 0x5C i f.dst.toNat (fmtBits f.fmt.toNat)
      (fun k r c => some (elt (fmtBits f.fmt.toNat) (k.trow (if k.predOn f r c then f.a.toNat else f.b.toNat) r) c))
      (fun k r => k.tpz f.a.toNat r || k.tpz f.b.toNat r || k.ppz (f.m 2 0) r) (fun _ _ => true))
    ∧ (s.ready 0x88 i f → s.writesTile (.vbcast i f) 0x88 i f.dst.toNat (fmtBits f.fmt.toNat)
      (masked f (fun k r c => elt (fmtBits f.fmt.toNat) (k.trow f.a.toNat (if f.mb 9 then f.m 22 18 else r))
        (if f.mb 9 then c else f.m 22 18)))
      (fun k r => if f.mb 9 then rows32.any (k.tpz f.a.toNat) else k.tpz f.a.toNat r) (maskedWhole f (fmtBits f.fmt.toNat)))
    ∧ (s.ready 0x89 i f → s.writesTile (.vbcasts i f) 0x89 i f.dst.toNat (fmtBits f.fmt.toNat)
      (masked f (fun k _ _ => (k.rs f.a).toNat)) (fun k r => k.ppz (f.m 2 0) r) (maskedWhole f (fmtBits f.fmt.toNat)))
    ∧ (s.ready 0x8A i f → s.writesTile (.vshift i f) 0x8A i f.dst.toNat (fmtBits f.fmt.toNat)
      (masked f (fun k r c => match (if f.mb 9 then shiftSrc f 32 r false else shiftSrc f (colsOf (fmtBits f.fmt.toNat)) c false) with
        | some x => elt (fmtBits f.fmt.toNat) (k.trow f.a.toNat (if f.mb 9 then x else r)) (if f.mb 9 then c else x)
        | none => 0))
      (fun k r => if f.mb 9 then (shiftSrc f 32 r false).toList.any (k.tpz f.a.toNat) else k.tpz f.a.toNat r)
      (maskedWhole f (fmtBits f.fmt.toNat)))
    ∧ (s.ready 0x8B i f → s.writesTile (.vrot i f) 0x8B i f.dst.toNat (fmtBits f.fmt.toNat)
      (masked f (fun k r c => match (if f.mb 9 then shiftSrc f 32 r true else shiftSrc f (colsOf (fmtBits f.fmt.toNat)) c true) with
        | some x => elt (fmtBits f.fmt.toNat) (k.trow f.a.toNat (if f.mb 9 then x else r)) (if f.mb 9 then c else x)
        | none => 0))
      (fun k r => if f.mb 9 then (shiftSrc f 32 r true).toList.any (k.tpz f.a.toNat) else k.tpz f.a.toNat r)
      (maskedWhole f (fmtBits f.fmt.toNat)))
    ∧ (s.ready 0x8C i f → s.writesTile (.vgather i f) 0x8C i f.dst.toNat (fmtBits f.fmt.toNat)
      (fun k r c => if f.mb 30 || k.predOn f r c then
          (match k.gatherSrc f r c with | some (x, y) => some (elt (fmtBits f.fmt.toNat) (k.trow f.a.toNat x) y) | none => some 0)
        else if f.mb 4 then some 0 else none)
      (fun k r => k.tpz f.b.toNat r || (List.range (colsOf (fmtBits f.fmt.toNat))).any (fun c =>
        (f.mb 30 || k.predOn f r c) && (match k.gatherSrc f r c with | some (x, _) => k.tpz f.a.toNat x | none => false)))
      (fun k r => f.mb 4 || (List.range (colsOf (fmtBits f.fmt.toNat))).all (fun c => f.mb 30 || k.predOn f r c)))

/-- R140, R145, R150: the published functions, VDIV and, with an active table, VTBL. -/
def Obligations.FunctionResult : Prop :=
  ∀ (s : State) (i : Issue) (f : Fields),
    (∀ e, e ∈ fnTable → s.ready e.1 i f → s.mapsTile (e.2.1 i f) e.1 i f (ffOf f.fmt.toNat).bits 1 (fun a _ _ =>
      fencode (ffOf f.fmt.toNat) (fnEval e.2.2 (ffOf f.fmt.toNat) (fdecode (ffOf f.fmt.toNat) a))))
    ∧ (s.ready 0xAD i f → s.writesTile (.vdiv i f) 0xAD i f.dst.toNat (ffOf f.fmt.toNat).bits
      (masked f (fun k r c => fencode (ffOf f.fmt.toNat) (divEval (ffOf f.fmt.toNat)
        (fdecode (ffOf f.fmt.toNat) (elt (ffOf f.fmt.toNat).bits (k.trow f.a.toNat r) c))
        (fdecode (ffOf f.fmt.toNat) (elt (ffOf f.fmt.toNat).bits (k.trow f.b.toNat r) c)))))
      (fun k r => k.tpz f.a.toNat r || k.tpz f.b.toNat r || k.ppz (f.m 2 0) r) (maskedWhole f (ffOf f.fmt.toNat).bits))
    ∧ (s.ready 0xAE i f → ∀ tab : Fin 96 → Table,
      (∀ m, m ∈ s.members i.core → ((s.core m).tslot f.b.toNat).active = some (tab m)) →
      ∃ t, exec (.vtbl i f) s = .next t ∧ s.issueFrame t i ∧ ∀ m, m ∈ s.members i.core → ∀ r col, r < 32 →
        col < colsOf (ffOf f.fmt.toNat).bits → (s.openedCore 0xAE i m).predOn f r col = true →
        (t.core m).opnd.elem (ffOf f.fmt.toNat).bits f.dst.toNat r col = fencode (ffOf f.fmt.toNat)
          ((tab m).lookup (ffOf f.fmt.toNat) (fdecode (ffOf f.fmt.toNat)
            (elt (ffOf f.fmt.toNat).bits ((s.openedCore 0xAE i m).trow f.a.toNat r) col))) % 2 ^ (ffOf f.fmt.toNat).bits)

/-- R103 to R105, R125 to R129, R154, R155: VCVT converts each computed element in its column's place, to a block-scaled destination block
by block with the scale bytes in dst + 1; VRSUM, VRSSQ, VRMAX, VRMIN and VRARGMAX fold the rows of a tile (AXIS 0) into a column, or its
columns into rows; PACK24 keeps two of each four elements, their places in dst + 1, and counts the non-zeros dropped in MAT.SPSTAT; VRSTAT
writes the four statistics of each row from column IDX on. -/
def Obligations.VectorTileEffects : Prop :=
  ∀ (s : State) (i : Issue) (f : Fields),
    (s.ready 0x78 i f → cvtBdst f = false → s.writesTile (.vcvt i f) 0x78 i f.dst.toNat (fmtBits f.fmt.toNat)
      (fun k r c => match k.cvtElt f r c with
        | some x => some (convTo f.fmt.toNat x.2 (f.mb 8) x.1)
        | none => if (cvtCol f c).isSome && f.mb 4 then some 0 else none)
      (fun k r => k.tpz f.a.toNat r || (cvtBsrc f && k.tpz f.b.toNat r) || k.ppz (f.m 2 0) r)
      (fun k r => decide (colsOf (fmtBits f.fmt.toNat) ≤ colsOf (fmtBits (f.m 17 14)))
        && (f.mb 4 || (List.range (colsOf (fmtBits f.fmt.toNat))).all (fun c => (k.cvtElt f r c).isSome))))
    ∧ (s.ready 0x78 i f → cvtBdst f = true → ∃ t, exec (.vcvt i f) s = .next t ∧ s.issueFrame t i ∧ ∀ m, m ∈ s.members i.core →
      ∀ k blk, k = s.openedCore 0x78 i m →
      (blk = fun r b => (List.range 32).map (fun j => k.cvtElt f r (32 * b + j))) →
      (s.core m).tileTakes (t.core m) f.dst.toNat (fmtBits f.fmt.toNat)
        (fun r c => match (quantBlock f.fmt.toNat (blk r (c / 32))).2.getD (c % 32) none with
          | some v => some v
          | none => if (cvtCol f c).isSome && f.mb 4 then some 0 else none)
        (fun r => k.tpz f.a.toNat r || (cvtBsrc f && k.tpz f.b.toNat r) || k.ppz (f.m 2 0) r)
        (fun r => decide (colsOf (fmtBits f.fmt.toNat) ≤ colsOf (fmtBits (f.m 17 14)))
          && (f.mb 4 || (List.range (colsOf (fmtBits f.fmt.toNat))).all (fun c => (k.cvtElt f r c).isSome)))
      ∧ (s.core m).tileTakes (t.core m) (f.dst.toNat + 1) 8
        (fun r b => if b < colsOf (fmtBits f.fmt.toNat) / 32 ∧ (blk r b).any Option.isSome = true then
            some (quantBlock f.fmt.toNat (blk r b)).1 else none)
        (fun r => k.tpz f.a.toNat r || (cvtBsrc f && k.tpz f.b.toNat r) || k.ppz (f.m 2 0) r) (fun _ => false)
      ∧ (s.core m).keepsTiles (t.core m) [f.dst.toNat, f.dst.toNat + 1] ∧ (s.core m).onlyTiles (t.core m))
    ∧ (∀ e, e ∈ ([(0x80, .vrsum, fun a xs => redBits a (foldSum a false xs)), (0x81, .vrssq, fun a xs => redBits a (foldSum a true xs)),
        (0x82, .vrmax, fun a xs => redBits a (foldExt a true xs)), (0x83, .vrmin, fun a xs => redBits a (foldExt a false xs)),
        (0x84, .vrargmax, fun _ xs => foldArg xs)] : List (Nat × (Issue → Fields → Instr) × (AccF → List (Option RElt) → Nat))) →
      s.ready e.1 i f → ∀ nc dc : Nat, nc = colsOf (fmtBits f.fmt.toNat) → dc = colsOf (redAcc f).bits →
      s.writesTile (e.2.1 i f) e.1 i f.dst.toNat (redAcc f).bits
        (fun k r c => if f.mb 9 then
            (if f.m 22 18 ≤ r ∧ (r - f.m 22 18) * dc + c < nc then
              some (e.2.2 (redAcc f) (rows32.map (fun r' => k.redElt f r' ((r - f.m 22 18) * dc + c)))) else none)
          else if c = f.m 22 18 then some (e.2.2 (redAcc f) ((List.range nc).map (k.redElt f r))) else none)
        (fun k r => if f.mb 9 then
            decide (f.m 22 18 ≤ r ∧ (r - f.m 22 18) * dc < nc)
              && rows32.any (fun r' => k.tpz f.a.toNat r' || (redScaled f && k.tpz f.b.toNat r'))
          else k.tpz f.a.toNat r || (redScaled f && k.tpz f.b.toNat r))
        (fun _ r => f.mb 9 && decide (f.m 22 18 ≤ r ∧ (r - f.m 22 18) * dc + dc ≤ nc)))
    ∧ (s.ready 0x98 i f → ∃ t, exec (.pack24 i f) s = .next t ∧ s.issueFrame t i ∧ ∀ m, m ∈ s.members i.core →
      ∀ w n h grp, w = fmtBits f.fmt.toNat → n = colsOf w → h = f.m 10 10 →
      (grp = fun r g => packGroup f.fmt.toNat ((List.range 4).map (fun p =>
        elt w ((s.openedCore 0x98 i m).trow f.a.toNat r) (4 * g + p)))) →
      (s.core m).tileTakes (t.core m) f.dst.toNat w
        (fun r c => if h * (n / 2) ≤ c ∧ c < h * (n / 2) + n / 2 then
            some ((grp r ((c - h * (n / 2)) / 2)).1.getD ((c - h * (n / 2)) % 2) 0) else none)
        ((s.openedCore 0x98 i m).tpz f.a.toNat) (fun _ => false)
      ∧ (s.core m).tileTakes (t.core m) (f.dst.toNat + 1) 8
        (fun r b => if h * (n / 8) ≤ b ∧ b < h * (n / 8) + n / 8 then
            some ((grp r (2 * (b - h * (n / 8)))).2.1 + 16 * (grp r (2 * (b - h * (n / 8)) + 1)).2.1) else none)
        ((s.openedCore 0x98 i m).tpz f.a.toNat) (fun _ => false)
      ∧ (s.core m).keepsTiles (t.core m) [f.dst.toNat, f.dst.toNat + 1]
      ∧ (s.core m).onlyTiles { t.core m with cregs := (s.core m).cregs }
      ∧ (∀ r g, r < 32 → g < n / 4 → (grp r g).2.2 ≠ 0 → (t.core m).fld (kMAT_SPSTAT) 0 0 = 1)
      ∧ ((∀ r g, r < 32 → g < n / 4 → (grp r g).2.2 = 0) → (t.core m).cregs = (s.core m).cregs)
      ∧ ∀ o, o ≠ kMAT_SPSTAT → (t.core m).reg o = (s.core m).reg o)
    ∧ (s.ready 0xAF i f → s.writesTile (.vrstat i f) 0xAF i f.dst.toNat 32
      (fun k r c => if f.m 22 18 ≤ c then
          ((rowStat (f.m 17 14 = 1) ((List.range (colsOf (ffOf f.fmt.toNat).bits)).map (fun c' =>
            if k.predOn f r c' then some (fdecode (ffOf f.fmt.toNat) (elt (ffOf f.fmt.toNat).bits (k.trow f.a.toNat r) c')) else none))).1[
              c - f.m 22 18]?).map (fencode .fp32)
        else none)
      (fun k r => k.tpz f.a.toNat r || k.ppz (f.m 2 0) r) (fun _ _ => false))

/-- R132 to R134: VSCAN, VMSCAN and VASCAN form h of each sequence step by step from the initial value, the carry slot's under CIN, a mark
starting again; an element is h before its step under EXCL, else after; COUT puts the last h of each sequence in the slot. CIN on a slot
that is not valid is a program fault of the vector engine, cause 1. VCPUT puts a row, with its poison, into a slot, VCGET a slot into a
row. -/
def Obligations.ScansAndCarryStore : Prop :=
  ∀ (s : State) (i : Issue) (f : Fields),
    (∀ e, e ∈ ([(0x90, .vscan), (0x91, .vmscan), (0x92, .vascan)] : List (Nat × (Issue → Fields → Instr))) → s.ready e.1 i f →
      ((∀ m, m ∈ s.members i.core → f.mb 25 = true → ∀ n, n ∈ scanSlots f → (s.operands i m).cvalid.getLsbD n = true) →
        ∃ t, exec (e.2 i f) s = .next t ∧ s.issueFrame t i ∧ ∀ m, m ∈ s.members i.core →
          ∀ k mark, k = s.openedCore e.1 i m → (mark = fun (p : Nat × Nat) => f.mb 27 && k.predBit (f.m 2 0) p.1 p.2) →
          (∃ h : Nat → Nat → Nat,
            (∀ j, j < (scanShape f).1 → h j 0 = k.scanStart e.1 f j ∧ ∀ n, n < (scanShape f).2 →
              h j (n + 1) = scanStep e.1 f (if mark (scanPos f j n) then scanInit e.1 f else h j n)
                (elt (scanBits f) (k.trow f.a.toNat (scanPos f j n).1) (scanPos f j n).2)
                (elt (scanBits f) (k.trow f.b.toNat (scanPos f j n).1) (scanPos f j n).2))
            ∧ (s.core m).tileTakes (t.core m) f.dst.toNat (scanBits f)
              (fun r c => some (if f.mb 28 then
                  (if mark (r, c) then scanInit e.1 f else h (scanPos f r c).1 (scanPos f r c).2)
                else h (scanPos f r c).1 ((scanPos f r c).2 + 1)))
              (k.scanPz e.1 f) (fun _ => true)
            ∧ (f.mb 26 = true → ∀ x j, x ∈ scanSlots f → j < colsOf (scanBits f) →
              (x - f.m 24 18) * colsOf (scanBits f) + j < (scanShape f).1 →
              (t.core m).opnd.cvalid.getLsbD x = true
              ∧ elt (scanBits f) ((t.core m).opnd.carry.get Config.freeRow x) j =
                h ((x - f.m 24 18) * colsOf (scanBits f) + j) (scanShape f).2 % 2 ^ scanBits f))
          ∧ (∀ x, (f.mb 26 = false ∨ x ∉ scanSlots f) →
            (t.core m).opnd.carry.get Config.freeRow x = (s.core m).opnd.carry.get Config.freeRow x
            ∧ (t.core m).opnd.cvalid.getLsbD x = (s.core m).opnd.cvalid.getLsbD x
            ∧ (t.core m).opnd.cpois.getLsbD x = (s.core m).opnd.cpois.getLsbD x)
          ∧ (s.core m).keepsTiles (t.core m) [f.dst.toNat]
          ∧ (s.core m).onlyTiles { t.core m with opnd := { (t.core m).opnd with
              carry := (s.core m).opnd.carry, cvalid := (s.core m).opnd.cvalid, cpois := (s.core m).opnd.cpois } })
      ∧ ∀ m p n, m ∈ s.members i.core → f.mb 25 = true → n ∈ scanSlots f → (s.operands i m).cvalid.getLsbD n = false →
        s.partOf m = some p → s.isStopped p = false → (s.core m).st = .running → (s.core m).reg (kVEC_FAULT) = 0 →
        ∃ t, exec (e.2 i f) s = .next t ∧ t.isStopped p = true ∧ (t.core m).fld (kVEC_FAULT) 3 0 = 1
          ∧ (t.core m).opnd = (s.core m).opnd)
    ∧ (s.ready 0x94 i f → s.writesOpnd (.vcput i f) i (fun o old =>
        { old with carry := old.carry.put (f.m 24 18) (o.tiles.get Config.freeRow (32 * f.a.toNat + f.dst.toNat)),
                   cvalid := maskSet old.cvalid (f.m 24 18) true,
                   cpois := maskSet old.cpois (f.m 24 18) (o.tpois.getLsbD (32 * f.a.toNat + f.dst.toNat)) }))
    ∧ (s.ready 0x95 i f → ∃ t, exec (.vcget i f) s = .next t ∧ s.issueFrame t i ∧ ∀ m, m ∈ s.members i.core →
      (∀ key, (t.core m).opnd.tiles.get Config.freeRow key =
          (if key = 32 * f.dst.toNat + f.a.toNat then (s.operands i m).carry.get Config.freeRow (f.m 24 18)
          else (s.core m).opnd.tiles.get Config.freeRow key)
        ∧ (key < 1024 → (t.core m).opnd.tpois.getLsbD key =
          (if key = 32 * f.dst.toNat + f.a.toNat then (s.operands i m).cpois.getLsbD (f.m 24 18)
          else (s.core m).opnd.tpois.getLsbD key)))
      ∧ (s.core m).onlyTiles (t.core m))

/-! ## The matrix arrays (spec/04_matrix.md, spec/05_sparsity.md) -/

/-- R86: an M-slot instruction that issues with its operands in local memory is queued on its arrays. -/
def Obligations.MatrixQueues : Prop :=
  ∀ (s : State) (i : Issue) (f : Fields),
    (s.ready 0x40 i f → (∀ m, m ∈ s.members i.core → (s.openedCore 0x40 i m).wloadOut f = false) → s.queuesM (.wload i f) .wload i f)
    ∧ (s.ready 0x41 i f → (∀ m, m ∈ s.members i.core → (s.openedCore 0x41 i m).mmaOut f = false) → s.queuesM (.mma i f) .mma i f)
    ∧ (s.ready 0x42 i f → (∀ m, m ∈ s.members i.core →
        (f.m 1 0 = 1 → ((s.operands i m).scalar f.b).toNat < lmEnd ∧ drainEnd f ((s.operands i m).scalar f.b).toNat ≤ lmEnd)
        ∧ (f.m 1 0 = 2 → badBushelAddr ((s.operands i m).scalar f.b) = false)) →
      s.queuesM (.mdrain i f) .mdrain i f)

/-- R81, R99, R101, R106, R107, R111: the WLOAD at the head of the queue of array a leaves it, and each step it loads is recorded and has its
values, its metadata and its scales in the half, a plain panel's from where R80 and R99 lay them; nothing else changes. R161: where a
gathered record leaves local memory the steps before it are loaded and the partition stops with LAY.FAULT cause 2. R92: a run that locks
the half stops it with MAT.FAULT cause 1, and nothing is loaded. -/
def Obligations.WloadExecutes : Prop :=
  ∀ (s : State) (c : Fin 96) (a : Fin 4) (m : MOp), (s.core c).mhead a.val .wload = some m → illegal 0x40 m.f = false →
    (∀ (l : Panel × Bool) (h : Nat), (∀ b, b ∈ MKind.wload.arrays m.f → (s.core c).halfLocked b (m.f.m 11 11) = false) →
      l = (if m.f.mb 9 then (s.core c).gatherPanel m else ((s.core c).panel m, false)) → h = m.f.m 11 11 →
      ∃ t, exec (.wloadExecute c a) s = .next t
        ∧ (∀ b, b ∈ MKind.wload.arrays m.f → (∀ e, e ∈ (t.core c).mqueue b → e.uid ≠ m.uid) ∧ ∀ j x, l.1.steps[j]? = some x →
          mapFind (t.core c).wsteps (stepKey b h (m.f.m 19 12 + j)) = some
            { fmt := m.f.fmt.toNat, scaled := wScaled m.f, s24 := m.f.mb 25, poison := x.poison, empty := l.1.empty,
              aud := l.1.aud.map (·.1) }
          ∧ (t.core c).wbuf.getN (65536 * b + 32768 * h + stepBytes m.f.fmt.toNat * (m.f.m 19 12 + j)) x.vals.length = x.vals
          ∧ (m.f.mb 25 = true → (t.core c).wmeta.getN
              (8192 * b + 4096 * h + 16 * colMeta m.f.fmt.toNat * (m.f.m 19 12 + j)) x.nib.length = x.nib)
          ∧ (wScaled m.f = true → (t.core c).wscale.getN
              (4096 * b + 2048 * h + 16 * stepNb m.f.fmt.toNat (m.f.mb 25) * (m.f.m 19 12 + j)) x.scl.length = x.scl)
          ∧ (m.f.mb 9 = false → x.vals = (s.core c).lmRead (m.v1.toNat + stepBytes m.f.fmt.toNat * j) (stepBytes m.f.fmt.toNat)))
        ∧ (m.f.mb 9 = false → l.1.steps.length = mSteps m.f)
        ∧ (l.2 = false → s.onlyCore t c
          ∧ { t.core c with mq := (s.core c).mq, wbuf := (s.core c).wbuf, wscale := (s.core c).wscale, wmeta := (s.core c).wmeta,
                            wsteps := (s.core c).wsteps, waud := (s.core c).waud, fcount := (s.core c).fcount } = s.core c)
        ∧ (l.2 = true → ∀ p, s.partOf c = some p → s.isStopped p = false → (s.core c).st = .running → (s.core c).reg (kLAY_FAULT) = 0 →
          t.isStopped p = true ∧ (t.core c).st = .stopped ∧ (t.core c).fld (kLAY_FAULT) 3 0 = 2))
    ∧ (∀ b p, b ∈ MKind.wload.arrays m.f → (s.core c).halfLocked b (m.f.m 11 11) = true → s.partOf c = some p → s.isStopped p = false →
      (s.core c).st = .running → (s.core c).reg (kMAT_FAULT) = 0 →
      ∃ t, exec (.wloadExecute c a) s = .next t ∧ t.isStopped p = true ∧ (t.core c).st = .stopped
        ∧ (t.core c).fld (kMAT_FAULT) 3 0 = 1 ∧ (t.core c).wbuf = (s.core c).wbuf ∧ (t.core c).wsteps = (s.core c).wsteps
        ∧ (t.core c).wscale = (s.core c).wscale ∧ (t.core c).wmeta = (s.core c).wmeta)

/-- R77, R82, R83, R100, R109: the MMA at the head of the queue of array a gives its banks the accumulation format, and in each bank whose
content has the same layout each element becomes the rounded running sum of the steps' sums, from +0 under ZERO. Where the two banks of
an FP64 element lie is the model's choice (log entry 9). R161: where the list or a value of a sparse-sparse MMA lies outside local memory
the steps before it accumulate and the partition stops with LAY.FAULT cause 2. R83, R92: an MMA that its array cannot run stops the
partition with the cause of MAT.FAULT, and accumulates nothing. -/
def Obligations.MmaExecutes : Prop :=
  (∀ (s : State) (c : Fin 96) (a : Fin 4) (m : MOp) (l : List Nat × Bool) (es : List (Nat × Nat)) (stop : Option Nat) (n : Nat),
    (s.core c).mhead a.val .mma = some m → (∀ b, b ∈ MKind.mma.arrays m.f → (s.core c).mmaCause m b = none) →
    l = (if m.f.mb 27 then (s.core c).idxList (lmEnd / 4 + 1) m.v2.toNat else ([], true)) →
    es = (activeList (mSteps m.f * stepK m.f.fmt.toNat true) l.1).1 → stop = (if m.f.mb 27 then m.sparseStop l.2 es else none) →
    n = stop.getD (mSteps m.f) →
    ∃ t, exec (.mmaExecute c a) s = .next t
      ∧ (∀ b, b ∈ MKind.mma.arrays m.f → (∀ e, e ∈ (t.core c).mqueue b → e.uid ≠ m.uid)
        ∧ (n ≠ 0 → ((t.core c).bank (bankOf (m.f.mb 10) m.f.dst.toNat b)).fmt = some (accFmt m.f)
          ∧ ((m.f.fmt = 0 → m.f.dst.toNat % 2 = 0) → (∀ b', b' ∈ MKind.mma.arrays m.f → (s.core c).mmaMixed m b' = false) →
            ∀ i j, i < 16 → j < 16 →
              ((t.core c).accElts (accFmt m.f) (bankOf (m.f.mb 10) m.f.dst.toNat b) i)[j]? =
                some (accSteps (accFmt m.f) (m.f.mb 8) (((s.core c).accElts (accFmt m.f) (bankOf (m.f.mb 10) m.f.dst.toNat b) i).getD j 0)
                  ((List.range n).map ((s.core c).mmaSum m es b i j))
                  % 2 ^ (if accFmt m.f = .fp64 then 64 else 32)))))
      ∧ (stop = none → s.onlyCore { t with freeCtr := s.freeCtr } c
        ∧ { t.core c with mq := (s.core c).mq, acc := (s.core c).acc, banks := (s.core c).banks, fcount := (s.core c).fcount } = s.core c)
      ∧ (∀ x p, stop = some x → s.partOf c = some p → s.isStopped p = false → (s.core c).st = .running →
        (s.core c).reg (kLAY_FAULT) = 0 → t.isStopped p = true ∧ (t.core c).st = .stopped ∧ (t.core c).fld (kLAY_FAULT) 3 0 = 2))
  ∧ (∀ (s : State) (c : Fin 96) (a : Fin 4) (m : MOp) (x b p : Nat), (s.core c).mhead a.val .mma = some m →
    (MKind.mma.arrays m.f).findSome? (fun b => ((s.core c).mmaCause m b).map (fun x => (x, b))) = some (x, b) →
    s.partOf c = some p → s.isStopped p = false → (s.core c).st = .running → (s.core c).reg (kMAT_FAULT) = 0 →
    ∃ t, exec (.mmaExecute c a) s = .next t ∧ t.isStopped p = true ∧ (t.core c).st = .stopped
      ∧ (t.core c).reg (kMAT_FAULT) = BitVec.ofNat 32 (x + 16 * b) ∧ (t.core c).acc = (s.core c).acc
      ∧ (t.core c).banks = (s.core c).banks ∧ (t.core c).lm = (s.core c).lm ∧ t.hbm = s.hbm)

/-- R87 to R94: a drain at the head of the queue of array a that no fence and no earlier drain to its Bushel block holds, whose output its
banks' formats permit and whose checks find no mismatch, delivers its rows and ends its run; with mismatches it awaits its replay; an
output that the format of a bank does not permit stops the partition with MAT.FAULT cause 7, and nothing is delivered. R94, R347: a
replayed run that passes is committed, and an injected mismatch always passes; otherwise nothing is written and the partition stops. -/
def Obligations.DrainsAndReplays : Prop :=
  (∀ (s : State) (c : Fin 96) (a : Fin 4) (ups : List Upset) (m : MOp), (s.core c).mhead a.val .mdrain = some m →
    (m.f.m 1 0 ≠ 0 → (s.core c).heldBy m.fid = false) → (∀ r, r ∈ (s.core c).replays → r.uid ≠ m.uid) →
    (s.core c).bushelWaits m = false →
    ((∀ b bf, b ∈ MKind.mdrain.arrays m.f → ((s.core c).bank (drainBank m.f b)).fmt = some bf → drainOk bf m.f = true) →
      ((s.csumFirst c m ups).2 = [] → (s.core c).held = [] → ∃ t, exec (.mdrainExecute c a ups) s = .next t ∧ s.drained t c m)
      ∧ ((s.csumFirst c m ups).2 ≠ [] → ∃ t, exec (.mdrainExecute c a ups) s = .next t
        ∧ (t.core c).replays = (s.core c).replays ++ [⟨m.uid, (s.csumFirst c m ups).2⟩]
        ∧ (t.core c).acc = (s.core c).acc ∧ (t.core c).mq = (s.core c).mq ∧ (t.core c).lm = (s.core c).lm
        ∧ (t.core c).opnd = (s.core c).opnd ∧ t.hbm = s.hbm ∧ ∀ d, d ≠ c → t.core d = s.core d))
    ∧ (∀ b bf p, b ∈ MKind.mdrain.arrays m.f → ((s.core c).bank (drainBank m.f b)).fmt = some bf → drainOk bf m.f = false →
      s.partOf c = some p → s.isStopped p = false → (s.core c).st = .running → (s.core c).reg (kMAT_FAULT) = 0 → (s.core c).held = [] →
      ∃ t, exec (.mdrainExecute c a ups) s = .next t ∧ t.isStopped p = true ∧ (t.core c).st = .stopped
        ∧ (t.core c).fld (kMAT_FAULT) 3 0 = 7 ∧ (t.core c).acc = (s.core c).acc ∧ (t.core c).lm = (s.core c).lm
        ∧ (t.core c).opnd = (s.core c).opnd ∧ t.hbm = s.hbm))
  ∧ (∀ (s : State) (c : Fin 96) (a : Fin 4) (fails : List Upset) (m : MOp) (r : Replay), (s.core c).mhead a.val .mdrain = some m →
    (s.core c).replays.find? (fun r => r.uid = m.uid) = some r → (s.core c).held = [] →
    ((∀ b u, b ∈ MKind.mdrain.arrays m.f → u ∈ fails → u.array.val = b → ∃ x, x ∈ r.ms ∧ x.array = b ∧ x.inj = true) →
      ∃ t, exec (.csumReplay c a fails) s = .next t ∧ s.drained t c m)
    ∧ (∀ p b u, b ∈ MKind.mdrain.arrays m.f → u ∈ fails → u.array.val = b → (∀ x, x ∈ r.ms → x.array = b → x.inj = false) →
      s.partOf c = some p → s.isStopped p = false → (s.core c).st = .running →
      ∃ t, exec (.csumReplay c a fails) s = .next t ∧ t.isStopped p = true ∧ (t.core c).st = .stopped
        ∧ (t.core c).acc = (s.core c).acc ∧ (t.core c).lm = (s.core c).lm ∧ (t.core c).opnd = (s.core c).opnd ∧ t.hbm = s.hbm))

/-! ## Local memory, loads and stores (spec/10_isa.md, spec/08_layout.md) -/

/-- R161: WLOAD, MMA, LD, ST, TLOAD and LDESC on a core that is its own gang, with an operand outside local memory, stop the partition
with LAY.FAULT cause 2 and change neither operand registers nor memory. -/
def Obligations.OutsideLocalMemoryStops : Prop :=
  ∀ (s : State) (i : Issue) (f : Fields) (p : Nat) (c : Instr) (op : Nat),
    ((c = .wload i f ∧ op = 0x40 ∧ (s.openedCore 0x40 i i.core).wloadOut f = true)
      ∨ (c = .mma i f ∧ op = 0x41 ∧ (s.openedCore 0x41 i i.core).mmaOut f = true)
      ∨ (c = .ld i f ∧ op = 0xC0 ∧ (s.openedCore 0xC0 i i.core).accAddr f % accWidth f = 0
          ∧ lmEnd < (s.openedCore 0xC0 i i.core).accAddr f + accWidth f)
      ∨ (c = .st i f ∧ op = 0xC1 ∧ (s.openedCore 0xC1 i i.core).accAddr f % accWidth f = 0
          ∧ lmEnd < (s.openedCore 0xC1 i i.core).accAddr f + accWidth f)
      ∨ (c = .tload i f ∧ op = 0xCA ∧ lmEnd < ((s.operands i i.core).scalar f.a).toNat + tableBytes)
      ∨ (c = .ldesc i f ∧ op = 0xC8 ∧ ((s.operands i i.core).scalar f.a).toNat % 64 = 0
          ∧ lmEnd < ((s.operands i i.core).scalar f.a).toNat + 128)) →
    s.ready op i f → s.members i.core = [i.core] → s.partOf i.core = some p → s.isStopped p = false →
    (s.core i.core).reg (kLAY_FAULT) = 0 →
    ∃ t, exec c s = .next t ∧ t.isStopped p = true ∧ (t.core i.core).st = .stopped ∧ (t.core i.core).fld (kLAY_FAULT) 3 0 = 2
      ∧ (t.core i.core).opnd = (s.core i.core).opnd ∧ (t.core i.core).lm = (s.core i.core).lm ∧ t.hbm = s.hbm

/-- R187, R215: an aligned LD or LDG queues a load, whose data from own local memory or HBM is that of its issue; an aligned ST or STG
writes its bytes at its address and no other, or is held behind the newest fence. -/
def Obligations.LoadsAndStores : Prop :=
  ∀ (s : State) (i : Issue) (f : Fields),
    (s.ready 0xC0 i f →
      (∀ m, m ∈ s.members i.core → (s.openedCore 0xC0 i m).accAddr f % accWidth f = 0
        ∧ (s.openedCore 0xC0 i m).accAddr f + accWidth f ≤ lmEnd) →
      ∃ t, exec (.ld i f) s = .next t ∧ s.slotFrame { t with freeCtr := s.freeCtr } i ∧ ∀ m, m ∈ s.members i.core →
        (∃ l v z, (t.core m).loads = (s.core m).loads ++ [l] ∧ l.dst = f.dst ∧ l.width = accWidth f ∧ l.uns = f.mb 24
          ∧ l.src = .value v z ∧ ((∀ x, x ∈ (s.core m).xfers → x.running = false) →
            v = leNat ((s.core m).lmRead ((s.openedCore 0xC0 i m).accAddr f) (accWidth f))
              ∧ z = (s.core m).lmPoison ((s.openedCore 0xC0 i m).accAddr f) (accWidth f)))
        ∧ (s.core m).sameBundle { t.core m with loads := (s.core m).loads })
    ∧ (s.ready 0xC1 i f →
      (∀ m, m ∈ s.members i.core → (s.openedCore 0xC1 i m).accAddr f % accWidth f = 0
        ∧ (s.openedCore 0xC1 i m).accAddr f + accWidth f ≤ lmEnd) →
      ∃ t, exec (.st i f) s = .next t ∧ s.slotFrame t i ∧ ∀ m, m ∈ s.members i.core →
        (if (s.core m).fences = [] then (t.core m).held = (s.core m).held ∧ (s.core m).lm.writes (t.core m).lm
            ((s.openedCore 0xC1 i m).accAddr f) (leBytes (accWidth f) ((s.operands i m).scalar f.b).toNat)
          else (t.core m).lm = (s.core m).lm ∧ ∃ id, (t.core m).held = (s.core m).held ++ [⟨id, (s.core m).newFence,
            .store false ((s.openedCore 0xC1 i m).accAddr f) (accWidth f) ((s.operands i m).scalar f.b).toNat⟩])
        ∧ (s.core m).sameBundle { t.core m with lm := (s.core m).lm, lmPois := (s.core m).lmPois, held := (s.core m).held })
    ∧ (∀ as : Fin 96 → List Nat, s.ready 0xC2 i f → s.clean →
      (∀ m, m ∈ s.members i.core → (s.openedCore 0xC2 i m).accAddr f % accWidth f = 0
        ∧ (s.translateN (s.core m).part ((s.openedCore 0xC2 i m).accAddr f) (accWidth f) false).2 = .ok (as m)) →
      ∃ t, exec (.ldg i f) s = .next t ∧ t.hbm = s.hbm ∧ (∀ d, d ∉ s.members i.core → t.core d = s.core d)
        ∧ ∀ m, m ∈ s.members i.core →
          (∃ l, (t.core m).loads = (s.core m).loads ++ [l] ∧ l.dst = f.dst ∧ l.width = accWidth f ∧ l.uns = f.mb 24
            ∧ (match s.locate ((as m).headD 0) with
              | .host _ => l.src = .device ((as m).headD 0)
              | .hbm _ => l.src = .value (leNat (s.devRead ((as m).headD 0) (accWidth f)).2.1) (s.devRead ((as m).headD 0) (accWidth f)).2.2
              | _ => ∃ v z, l.src = .value v z))
          ∧ (s.core m).sameBundle { t.core m with loads := (s.core m).loads })
    ∧ (∀ (as : List Nat) (key : Nat), s.ready 0xC3 i f → s.clean → s.members i.core = [i.core] → (s.core i.core).fences = [] →
      (s.openedCore 0xC3 i i.core).accAddr f % accWidth f = 0 →
      (s.translateN (s.core i.core).part ((s.openedCore 0xC3 i i.core).accAddr f) (accWidth f) true).2 = .ok as →
      (∀ j, j < accWidth f → s.locate (as.headD 0 + j) = .hbm (key + j)) →
      ∃ t, exec (.stg i f) s = .next t ∧ s.hbm.writes t.hbm key (leBytes (accWidth f) ((s.operands i i.core).scalar f.b).toNat)
        ∧ (∀ d, d ≠ i.core → t.core d = s.core d) ∧ (s.core i.core).sameBundle (t.core i.core))
    ∧ (∀ as : Fin 96 → List Nat, s.ready 0xC3 i f → s.clean →
      (∀ m, m ∈ s.members i.core → (s.core m).fences ≠ [] ∧ (s.openedCore 0xC3 i m).accAddr f % accWidth f = 0
        ∧ (s.translateN (s.core m).part ((s.openedCore 0xC3 i m).accAddr f) (accWidth f) true).2 = .ok (as m)) →
      ∃ t, exec (.stg i f) s = .next t ∧ s.slotFrame t i ∧ ∀ m, m ∈ s.members i.core →
        (∃ id, (t.core m).held = (s.core m).held ++ [⟨id, (s.core m).newFence,
          .store true ((as m).headD 0) (accWidth f) ((s.operands i m).scalar f.b).toNat⟩])
        ∧ (s.core m).sameBundle { t.core m with held := (s.core m).held })

/-- R215: a load that returns unpoisoned data writes its register with the data extended to 64 bits; S0 takes nothing. Poison stops the
partition and writes no register (R238). -/
def Obligations.LoadReturns : Prop :=
  ∀ (s : State) (c : Fin 96) (k : Nat) (l : Load) (v : Nat), (s.core c).loads[k]? = some l →
    ((l.src = .value v false ∨ ∃ a h, l.src = .device a ∧ (∀ j, j < l.width → s.locate (a + j) = .host (h + j)
        ∧ mapGet false s.hostPois (h + j) = false) ∧ v = leNat ((List.range l.width).map (fun j => s.hostIn.get (h + j)))) →
      ∃ t, exec (.loadReturn c k) s = .next t ∧ t.core c = { s.core c with
          loads := (s.core c).loads.eraseIdx k
          opnd := (s.core c).opnd.withScalar l.dst (if l.uns then BitVec.ofNat 64 v else BitVec.ofInt 64 (sint (8 * l.width) v)) }
        ∧ (∀ d, d ≠ c → t.core d = s.core d) ∧ t.hbm = s.hbm ∧ t.regs = s.regs)
    ∧ (∀ p, l.src = .value v true → s.partOf c = some p → s.isStopped p = false → (s.core c).st = .running →
      ∃ t, exec (.loadReturn c k) s = .next t ∧ t.isStopped p = true ∧ (t.core c).st = .stopped
        ∧ (t.core c).opnd = (s.core c).opnd ∧ (t.core c).lm = (s.core c).lm ∧ t.hbm = s.hbm)

/-! ## The layout engine, user tables and the instruction buffer (spec/08_layout.md, spec/07_functions.md) -/

/-- R166, R174, R175: LDESC puts the image at its operand into the slot, whose validation then makes it VALID or INVALID; LXFER queues a
copy of a valid slot with its shifted bases. R174: a descriptor whose first faulty field is its dimension count, or a count of 0 in use,
is INVALID with reason 1. -/
def Obligations.LayoutDescriptors : Prop :=
  ((∀ (s : State) (i : Issue) (f : Fields),
    (s.ready 0xC8 i f →
      (∀ m, m ∈ s.members i.core → ((s.operands i m).scalar f.a).toNat % 64 = 0 ∧ ((s.operands i m).scalar f.a).toNat + 128 ≤ lmEnd
        ∧ (s.core m).lmPoison ((s.operands i m).scalar f.a).toNat 128 = false) →
      ∃ t, exec (.ldesc i f) s = .next t ∧ s.issueFrame t i ∧ ∀ m, m ∈ s.members i.core →
        (t.core m).dslots = ((s.core m).setDslot f.dst.toNat (.deciding ((s.core m).lmRead ((s.operands i m).scalar f.a).toNat 128))).dslots
        ∧ (s.core m).sameBundle { t.core m with dslots := (s.core m).dslots })
    ∧ (∀ img : Fin 96 → List Byte, s.ready 0xC9 i f →
      (∀ m, m ∈ s.members i.core → (s.core m).dslot f.dst.toNat = .valid (img m)
        ∧ (s.operands i m).scalar f.a = 0 ∧ (s.operands i m).scalar f.b = 0) →
      ∃ t, exec (.lxfer i f) s = .next t ∧ s.slotFrame { t with parts := s.parts } i ∧ ∀ m, m ∈ s.members i.core →
        (∃ x, (t.core m).xfers = (s.core m).xfers ++ [x] ∧ x.image = img m ∧ x.sbase = ((parseDesc (img m)).sbase : Int)
          ∧ x.dbase = ((parseDesc (img m)).dbase : Int) ∧ x.running = false ∧ x.sigen = f.mb 0 ∧ x.scnt = f.m 6 1 ∧ x.slot = f.dst.toNat)
        ∧ (s.core m).sameBundle { t.core m with xfers := (s.core m).xfers })
    ∧ (∀ (img : List Byte) (d : Desc) (b : Int × Int), s.ready 0xC9 i f → s.clean → s.members i.core = [i.core] →
      (s.core i.core).dslot f.dst.toNat = .valid img → d = parseDesc img →
      b = ((d.sbase : Int) + ((s.operands i i.core).scalar f.a).toInt, (d.dbase : Int) + ((s.operands i i.core).scalar f.b).toInt) →
      s.reg64 (rPART_ALLOCBASE (s.core i.core).part) + 4096 ≤ hbmEnd →
      (s.sideChk (s.core i.core).part d.sspace d.salloc (d.srcExt b.1) false 5).2 = .ok →
      (s.sideChk (s.core i.core).part d.dspace d.dalloc (d.dstExt b.2) true 6).2 = .ok →
      ∃ t, exec (.lxfer i f) s = .next t ∧ t.hbm = s.hbm
        ∧ (∃ x, (t.core i.core).xfers = (s.core i.core).xfers ++ [x] ∧ x.image = img ∧ x.sbase = b.1 ∧ x.dbase = b.2)
        ∧ (s.core i.core).sameBundle { t.core i.core with xfers := (s.core i.core).xfers }))
  ∧ ∀ (s u : State) (c : Fin 96) (n : Fin 16) (img : List Byte) (r o : Nat), (s.core c).dslot n.val = .deciding img →
      s.validate (s.core c).part (parseDesc img) = (u, some r, o) →
      ∃ t, exec (.ldescDecide c n) s = .next t
        ∧ (t.core c).dslot n.val = (if r = 0 then .valid img else .invalid r) ∧ (t.core c).opnd = (s.core c).opnd
        ∧ ∀ n' : Fin 16, n' ≠ n → (t.core c).dslot n'.val = (s.core c).dslot n'.val)
  ∧ (∀ (s : State) (c : Fin 96) (n : Fin 16) (img : List Byte), (s.core c).dslot n.val = .deciding img →
    ((parseDesc img).ndim = 0 ∨ 5 < (parseDesc img).ndim ∨ ∃ k, k < (parseDesc img).ndim ∧ (parseDesc img).n.getD k 0 = 0) →
    ∃ t, exec (.ldescDecide c n) s = .next t ∧ s.onlyCore t c
      ∧ t.core c = { s.core c with dslots := (s.core c).dslots.set n.val (.invalid 1) n.isLt })

/-- R168 to R177: the next queued transfer starts where fewer than four run; a running one performs its accesses as it ends, leaves the
queue, and counts at SIGEN's counter. R304: one that writes host memory runs on until the host acknowledges, and ends then. R168, R177: a
transfer of one contiguous dimension of bytes within local memory copies them, and no other byte changes. R176: a translation failure ends
it, and the partition stops with LAY.FAULT cause 3. -/
def Obligations.LayoutTransfers : Prop :=
  ((∀ (s : State) (c : Fin 96) (x : Xfer), (s.core c).xfers.find? (fun x => !x.running) = some x →
    ((s.core c).xfers.filter (·.running)).length < 4 → (s.core c).heldBy x.fid = false →
    ∃ t, exec (.lxferStart c) s = .next t ∧ s.onlyCore t c ∧ { t.core c with xfers := (s.core c).xfers } = s.core c
      ∧ (t.core c).xfers.map (·.uid) = (s.core c).xfers.map (·.uid) ∧ { x with running := true } ∈ (t.core c).xfers
      ∧ ((t.core c).xfers.filter (·.running)).length = ((s.core c).xfers.filter (·.running)).length + 1)
  ∧ (∀ (s u : State) (c : Fin 96) (k : Nat) (x : Xfer) (e : Option XStop), ((s.core c).xfers.filter (·.running))[k]? = some x →
    x.sent = false → (s.core c).st = .running → (s.core c).held = [] → (s.xferTaken c).xferRun c x none = (u, e) →
    ∃ t, exec (.lxferComplete c k) s = .next t ∧ (t.core c).lm = (u.core c).lm ∧ (t.core c).opnd = (u.core c).opnd ∧ t.hbm = u.hbm
      ∧ (e = none → (s.xferTaken c).hostWrites c x = false →
        (t.core c).xfers = (u.core c).xfers.filter (fun y => y.uid ≠ x.uid)
        ∧ (t.core c).count x.scnt = if x.sigen then min ((s.core c).count x.scnt + 1) (2 ^ 64 - 1) else (s.core c).count x.scnt)
      ∧ (e = none → (s.xferTaken c).hostWrites c x = true →
        (t.core c).outw = (u.core c).outw ++ [(x.uid, .host)] ∧ ∀ y, y ∈ (t.core c).xfers → y.uid = x.uid → y.sent = true)
      ∧ (∀ va p, e = some (.xlate va) → s.partOf c = some p → s.isStopped p = false → (s.core c).reg (kLAY_FAULT) = 0 →
        t.isStopped p = true ∧ (t.core c).fld (kLAY_FAULT) 3 0 = 3))
  ∧ (∀ (s : State) (c : Fin 96) (k id : Nat) (x : Xfer), (((s.core c).outw.filter (fun w => w.2 = .host)).map (·.1))[k]? = some id →
    (s.core c).xfers.find? (fun x => x.uid = id) = some x → (s.core c).held = [] → (s.core c).st = .running →
    ∃ t, exec (.hostWriteCompletion c k) s = .next t ∧ s.onlyCore t c
      ∧ (t.core c).xfers = (s.core c).xfers.filter (fun y => y.uid ≠ id)
      ∧ (t.core c).count x.scnt = if x.sigen then min ((s.core c).count x.scnt + 1) (2 ^ 64 - 1) else (s.core c).count x.scnt))
  ∧ (∀ (s : State) (c : Fin 96) (k : Nat) (x : Xfer) (d : Desc) (sb db : Nat), ((s.core c).xfers.filter (·.running))[k]? = some x →
    x.sent = false → x.since = [] → (s.core c).st = .running → (s.core c).held = [] → d = parseDesc x.image → d.ndim = 1 →
    d.sspace = 1 → d.dspace = 1 → d.sfmt = 7 → d.dfmt = 7 → d.lmode = 0 → d.ss 0 = 1 → d.ds 0 = 1 → d.plo.getD 0 0 = 0 →
    d.phi.getD 0 0 = 0 → x.sbase = (sb : Int) → x.dbase = (db : Int) →
    ∃ t, exec (.lxferComplete c k) s = .next t ∧ t.hbm = s.hbm ∧ (t.core c).opnd = (s.core c).opnd
      ∧ (s.core c).lm.writes (t.core c).lm db ((s.core c).lmRead sb (d.ext 0)))

/-- R46, R148, R149, R216: TLOAD takes its image, which then becomes the shadow bank that awaits its swap; IBLOAD invalidates the lines it
names and each becomes valid as it arrives, unless a later load of it is under way. R151: at cycle 1,285 a shadow bank complete by cycle
1,279 whose block has issued its FRAME becomes active, and every other slot stays as it is. -/
def Obligations.TablesAndBuffer : Prop :=
  ((∀ (s : State) (i : Issue) (f : Fields),
    (s.ready 0xCA i f →
      (∀ m, m ∈ s.members i.core → ((s.operands i m).scalar f.a).toNat % 64 = 0
        ∧ ((s.operands i m).scalar f.a).toNat + tableBytes ≤ lmEnd) →
      ∃ t, exec (.tload i f) s = .next t ∧ s.issueFrame { t with freeCtr := s.freeCtr } i ∧ ∀ m, m ∈ s.members i.core →
        (∃ e, (t.core m).tloads = (s.core m).tloads ++ [e] ∧ e.slot = f.dst.toNat ∧ e.block = (s.core m).blockNo
          ∧ ((∀ x, x ∈ (s.core m).xfers → x.running = false) →
            e.table.image = (s.core m).lmRead ((s.operands i m).scalar f.a).toNat tableBytes
            ∧ e.table.poison = (s.core m).lmPoison ((s.operands i m).scalar f.a).toNat tableBytes))
        ∧ (s.core m).sameBundle { t.core m with tloads := (s.core m).tloads })
    ∧ (s.ready 0xCB i f → ((s.operands i i.core).scalar f.a).toNat % 64 = 0 →
      (f.mb 12 = false → ((s.operands i i.core).scalar f.a).toNat + 1024 * (f.m 11 6 + 1) ≤ lmEnd) →
      ∃ t, exec (.ibload i f) s = .next t ∧ s.slotFrame t i
        ∧ (∀ j, j ≤ f.m 11 6 → (t.core i.core).ibValid.getLsbD ((f.m 5 0 + j) % 64) = false
          ∧ ∃ l, l ∈ (t.core i.core).ibLoads ∧ l.line = (f.m 5 0 + j) % 64 ∧ l.dev = f.mb 12
            ∧ l.addr = ((s.operands i i.core).scalar f.a).toNat + 1024 * j)
        ∧ (s.core i.core).sameBundle { t.core i.core with ibValid := (s.core i.core).ibValid, ibLoads := (s.core i.core).ibLoads }
        ∧ ∀ m, m ∈ s.members i.core → m ≠ i.core → (s.core m).sameBundle (t.core m)))
  ∧ (∀ (s : State) (c : Fin 96) (cy : Nat) (e : TLoad) (r : List TLoad), (s.core c).tloads = e :: r → e.table.ok = true →
    ∃ t, exec (.tloadComplete c cy) s = .next t ∧ s.onlyCore { t with cycle := s.cycle } c
      ∧ ((t.core c).tslot e.slot).shadow = some e.table ∧ ((t.core c).tslot e.slot).pend = true
      ∧ ((t.core c).tslot e.slot).active = ((s.core c).tslot e.slot).active
      ∧ { t.core c with tloads := e :: r, tslots := (s.core c).tslots } = s.core c)
  ∧ (∀ (s : State) (c : Fin 96) (l : IbLoad) (r : List IbLoad) (b : List Byte), (s.core c).ibLoads = l :: r → l.line < 64 →
    (l.dev = false ∧ b = (s.core c).lmRead l.addr 1024
      ∨ l.dev = true ∧ s.clean ∧ ∃ as, (s.translateN (s.core c).part l.addr 1024 false).2 = .ok as
          ∧ (∀ a, a ∈ as → (s.hbmKeyOf a).isSome = true) ∧ b = (s.devReadL as).2.1) →
    ∃ t, exec (.ibLineArrival c) s = .next t ∧ (s.core c).ib.writes (t.core c).ib (1024 * l.line) b
      ∧ (t.core c).ibLoads = r ∧ (t.core c).ibValid.getLsbD l.line = !(r.any (fun x => x.line = l.line))
      ∧ { t.core c with ib := (s.core c).ib, ibValid := (s.core c).ibValid, ibPois := (s.core c).ibPois, ibSrc := (s.core c).ibSrc,
                        ibLoads := l :: r } = s.core c
      ∧ t.hbm = s.hbm ∧ ∀ d, d ≠ c → t.core d = s.core d))
  ∧ (∀ s : State, ∃ t, exec .tableSwap s = .next t ∧ { t with cores := s.cores, cycle := s.cycle } = s ∧ ∀ c (n : Fin 8),
    (t.core c).tslots[n] =
      (if (s.core c).tslots[n].pend = true ∧ (s.core c).tslots[n].doneAt ≤ 1300 * s.frame + 1279
          ∧ (s.core c).tslots[n].block ≤ (s.core c).framedNo then
        { (s.core c).tslots[n] with
          active := (s.core c).tslots[n].shadow, shadow := (s.core c).tslots[n].active, pend := false,
          gen := min ((s.core c).tslots[n].gen + 1) 65535 }
      else (s.core c).tslots[n])
    ∧ { t.core c with tslots := (s.core c).tslots } = s.core c)

/-! ## Synchronisation (spec/09_sync.md) -/

/-- R182, R183, R185, R187: FENCE holds what follows while writes are outstanding at its scope; SIGNAL sends its amount to its target, and
under GUARD counts it at the own counter too; SCFG writes the counter's configuration; an increment that arrives adds to its counter,
which saturates. R195: FLGSET sends a flag to its target, which its arrival sets; FLGCLR clears an own flag; FLGWAIT issues once its
flag is set, and under AUTOCLR clears it. -/
def Obligations.CountersAndFlags : Prop :=
  ((∀ (s : State) (i : Issue) (f : Fields),
    (s.ready 0xD0 i f → ∃ t, exec (.fence i f) s = .next t ∧ s.slotFrame t i ∧ ∀ m, m ∈ s.members i.core →
      (if (s.core m).outIds (f.m 1 0) = [] then (t.core m).fences = (s.core m).fences
        else ∃ id, (t.core m).fences = (s.core m).fences ++ [⟨id, f.m 1 0, (s.core m).outIds (f.m 1 0)⟩])
      ∧ (s.core m).sameBundle { t.core m with fences := (s.core m).fences })
    ∧ (∀ tgt : Fin 96 → Fin 96, s.ready 0xD1 i f →
      (∀ m, m ∈ s.members i.core → (f.mb 7 = true → (s.core m).fld (kSCNT_CFG (f.m 13 8)) 15 0 ≠ 0)
        ∧ s.target m (f.mb 6) ((s.operands i m).scalar f.a).toNat = some (tgt m)) →
      ∃ t, exec (.signal i f) s = .next t ∧ s.slotFrame { t with flights := s.flights } i
        ∧ s.orders t (s.members i.core) (fun m => .signal (tgt m).val (f.m 5 0) ((s.openedCore 0xD1 i m).amountOf f.b))
        ∧ ∀ m, m ∈ s.members i.core → (t.core m).guardStall = none
          ∧ (s.core m).sameBundle { t.core m with guardStall := (s.core m).guardStall, held := (s.core m).held,
                                                  scnt := (s.core m).scnt, cregs := (s.core m).cregs }
          ∧ (f.mb 7 = false → (t.core m).scnt = (s.core m).scnt ∧ (t.core m).cregs = (s.core m).cregs)
          ∧ (f.mb 7 = true → (t.core m).count (f.m 13 8) =
            min ((s.core m).count (f.m 13 8) + (s.openedCore 0xD1 i m).amountOf f.b) (2 ^ 64 - 1)))
    ∧ (s.ready 0xD3 i f → ∃ t, exec (.scfg i f) s = .next t ∧ s.issueFrame t i ∧ ∀ m, m ∈ s.members i.core →
      (t.core m).reg (kSCNT_CFG (f.m 5 0)) = ((s.operands i m).scalar f.a).setWidth 32 &&& 0x3FFFFF
      ∧ (∀ o, o ≠ kSCNT_CFG (f.m 5 0) → (t.core m).reg o = (s.core m).reg o)
      ∧ (s.core m).sameBundle { t.core m with cregs := (s.core m).cregs }))
  ∧ ∀ (s : State) (k src c n amount : Nat), s.flights[k]? = some (.inc src c n amount) →
    ∃ t, exec (.counterIncrement k) s = .next t ∧ t.flights = s.flights.eraseIdx k
      ∧ s.onlyCore { t with flights := s.flights } (coreOf c)
      ∧ (t.core (coreOf c)).count n = min ((s.core (coreOf c)).count n + amount) (2 ^ 64 - 1)
      ∧ (∀ n', n' ≠ n → (t.core (coreOf c)).count n' = (s.core (coreOf c)).count n')
      ∧ { t.core (coreOf c) with scnt := (s.core (coreOf c)).scnt, cregs := (s.core (coreOf c)).cregs } = s.core (coreOf c))
  ∧ ((∀ (s : State) (i : Issue) (f : Fields),
    (∀ tgt : Fin 96 → Fin 96, s.ready 0xD4 i f →
      (∀ m, m ∈ s.members i.core → s.target m (f.mb 4) ((s.operands i m).scalar f.a).toNat = some (tgt m)) →
      ∃ t, exec (.flgset i f) s = .next t ∧ s.slotFrame { t with flights := s.flights } i
        ∧ s.orders t (s.members i.core) (fun m => .flag (tgt m).val (f.m 3 0))
        ∧ ∀ m, m ∈ s.members i.core → (s.core m).sameBundle { t.core m with held := (s.core m).held })
    ∧ (s.ready 0xD5 i f → ∃ t, exec (.flgclr i f) s = .next t ∧ s.issueFrame t i ∧ ∀ m, m ∈ s.members i.core →
      (∀ b, (t.core m).flags.getLsbD b = (decide (b ≠ f.m 3 0) && (s.core m).flags.getLsbD b))
      ∧ (s.core m).sameBundle { t.core m with flags := (s.core m).flags })
    ∧ (s.ready 0xD6 i f → ∃ t, exec (.flgwait i f) s = .next t ∧ s.issueFrame t i ∧ ∀ m, m ∈ s.members i.core →
        (∀ b, (t.core m).flags.getLsbD b = (!(f.mb 4 && decide (b = f.m 3 0)) && (s.core m).flags.getLsbD b))
        ∧ (s.core m).sameBundle { t.core m with flags := (s.core m).flags })
    ∧ (∀ m, s.canIssue i = true → (s.core i.core).lineSt = .ready → s.named 0xD6 i f = true → illegal 0xD6 f = false →
      (s.core i.core).view = none → bundleIllegal (s.core i.core).bundleWords = [] → m ∈ s.members i.core →
      (s.core m).flags.getLsbD (f.m 3 0) = false → exec (.flgwait i f) s = .next s))
  ∧ ∀ (s : State) (k src c n : Nat), s.flights[k]? = some (.flag src c n) → n < 16 →
    ∃ t, exec (.flagArrival k) s = .next t ∧ t.flights = s.flights.eraseIdx k
      ∧ s.onlyCore { t with flights := s.flights } (coreOf c)
      ∧ (∀ b, (t.core (coreOf c)).flags.getLsbD b = (decide (b = n) || (s.core (coreOf c)).flags.getLsbD b))
      ∧ { t.core (coreOf c) with flags := (s.core (coreOf c)).flags } = s.core (coreOf c))

/-- R191, R192: BARRIVE sends the leader's arrival with the round it enters and counts it outstanding; a third outstanding entry stalls the
bundle, and the gang waits at the barrier (R197). An arrival for the round in progress, or the next, counts at its barrier. -/
def Obligations.BarrierEntry : Prop :=
  (∀ (s : State) (i : Issue) (f : Fields),
    (s.ready 0xD2 i f → ∃ t, exec (.barrive i f) s = .next t ∧ s.slotFrame { t with flights := s.flights } i
        ∧ s.orders t [i.core] (fun m => .arrive (f.mb 6) (f.m 5 0)
          (mapGet 0 (s.core m).bseen (barKey (f.mb 6) (f.m 5 0)) + (s.core m).bo (f.mb 6) (f.m 5 0)))
        ∧ (t.core i.core).bo (f.mb 6) (f.m 5 0) = (s.core i.core).bo (f.mb 6) (f.m 5 0) + 1
        ∧ (s.core i.core).sameBundle
          { t.core i.core with held := (s.core i.core).held, bout := (s.core i.core).bout, stall := (s.core i.core).stall })
    ∧ (s.canIssue i = true → (s.core i.core).lineSt = .ready → s.named 0xD2 i f = true → illegal 0xD2 f = false →
      (s.core i.core).view = none → bundleIllegal (s.core i.core).bundleWords = [] → 2 ≤ (s.core i.core).bo (f.mb 6) (f.m 5 0) →
      ∃ t, exec (.barrive i f) s = .next t ∧ s.onlyStalls t i ∧ (t.core i.core).stall = .barrier (f.mb 6) (f.m 5 0) 0))
  ∧ ∀ (s : State) (k c n tag : Nat) (mb : Bool), s.flights[k]? = some (.arrive c mb n tag) →
    bitsOf 15 15 (s.barNow (barOf c mb n)).toNat = 1 → s.partOf (coreOf c) = some (bitsOf 10 8 (s.barNow (barOf c mb n)).toNat) →
    ∀ hi lo, (tag = mapGet 0 s.rounds (barOf c mb n) ∧ hi = 6 ∧ lo = 0 ∨ tag = mapGet 0 s.rounds (barOf c mb n) + 1 ∧ hi = 14 ∧ lo = 8) →
    s.fld (barStatReg (barOf c mb n)) hi lo < bitsOf 6 0 (s.barNow (barOf c mb n)).toNat →
    ∃ t, exec (.barrierArrival k) s = .next t ∧ t.flights = s.flights.eraseIdx k
      ∧ t.fld (barStatReg (barOf c mb n)) hi lo = s.fld (barStatReg (barOf c mb n)) hi lo + 1
      ∧ (∀ o, o ≠ barStatReg (barOf c mb n) → t.reg o = s.reg o) ∧ { t with regs := s.regs, flights := s.flights } = s

/-! ## Remote operations and the Bushel queue (spec/10_isa.md) -/

/-- R220, R221, R274: CWRITE and CREAD within their checks send one request for each four blocks and await the responses; CSIG sends one
increment; BCMD hands its record to the Bushel, or keeps it where the Bushel's queue is full. -/
def Obligations.RemoteOperations : Prop :=
  ∀ (s : State) (i : Issue) (f : Fields),
    (∀ (c : Instr) (op : Nat) (kd : ReqKind),
      (c = .cwrite i f ∧ op = 0xE0 ∧ kd = .write ∨ c = .cread i f ∧ op = 0xE1 ∧ kd = .read) → s.ready op i f →
      (∀ m, m ∈ s.members i.core → (s.core m).fences = []
        ∧ s.chainReach (s.core m).part (((s.operands i m).scalar f.c).toNat % 4096) = true
        ∧ ((s.operands i m).scalar f.b).toNat + 64 * (f.m 15 0 + 1) ≤ lmEnd
        ∧ ((s.operands i m).scalar f.a).toNat % 64 = 0 ∧ ((s.operands i m).scalar f.b).toNat % 64 = 0) →
      ∃ t l, exec c s = .next t ∧ t.reqs = s.reqs ++ l ∧ t.hbm = s.hbm ∧ (∀ d, d ∉ s.members i.core → t.core d = s.core d)
        ∧ ∀ m, m ∈ s.members i.core →
          (l.filter (fun r => r.agent = m.val)).map (fun r => (r.kind, r.loc, r.len, r.node)) =
            (List.range ((f.m 15 0 + 4) / 4)).map (fun j => (kd, ((s.operands i m).scalar f.b).toNat + 256 * j,
              64 * min 4 (f.m 15 0 + 1 - 4 * j), ((s.operands i m).scalar f.c).toNat % 4096))
          ∧ (∃ o, (t.core m).chq = (s.core m).chq ++ [o] ∧ o.sigen = f.mb 16 ∧ o.scnt = f.m 22 17 ∧ o.left = (f.m 15 0 + 4) / 4)
          ∧ (s.core m).sameBundle { t.core m with chq := (s.core m).chq, outw := (s.core m).outw })
    ∧ (∀ node amount : Nat, s.ready 0xE2 i f → s.members i.core = [i.core] → (s.core i.core).fences = [] →
      node = ((s.operands i i.core).scalar f.a).toNat % 4096 → s.chainReach (s.core i.core).part node = true →
      amount = (if f.b = 0 then 1 else ((s.operands i i.core).scalar f.b).toNat % 2 ^ 32) →
      ∃ t msg, exec (.csig i f) s = .next t ∧ msg.typ = 3 ∧ msg.sub = 0 ∧ msg.dst = node ∧ msg.w3 = amount
        ∧ msg.w4 = ((s.operands i i.core).scalar f.c).toNat % 128 + 256 * f.m 5 0
        ∧ (if node = s.node then t.inbox = s.inbox ++ [⟨none, msg.vcOf, false, msg⟩]
          else (t.port (s.route node)).outq = (s.port (s.route node)).outq ++ [⟨msg.vcOf, 12, msg⟩])
        ∧ (s.core i.core).sameBundle (t.core i.core) ∧ (∀ d, d ≠ i.core → t.core d = s.core d) ∧ t.hbm = s.hbm)
    ∧ (s.ready 0xE8 i f → f.m 3 0 < 12 →
      (∀ m, m ∈ s.members i.core → ((s.operands i m).scalar f.a).toNat % 64 = 0 ∧ ((s.operands i m).scalar f.a).toNat + 64 ≤ lmEnd
        ∧ (s.core m).lmPoison ((s.operands i m).scalar f.a).toNat 64 = false) →
      (((s.bsh (f.m 3 0)).queue.length + (s.members i.core).length ≤ 32 → (∀ m h, m ∈ s.members i.core → h ∈ (s.core m).bq →
          h.mc ≠ f.m 3 0) →
        ∃ t, exec (.bcmd i f) s = .next t ∧ (t.bsh (f.m 3 0)).queue = (s.bsh (f.m 3 0)).queue ++
            (s.members i.core).map (fun m =>
              (⟨m.val, (s.core m).part, (s.core m).lmRead ((s.operands i m).scalar f.a).toNat 64⟩ : BRec))
          ∧ (∀ n, n ≠ f.m 3 0 → t.bsh n = s.bsh n) ∧ s.issueFrame { t with bushels := s.bushels } i
          ∧ ∀ m, m ∈ s.members i.core → (s.core m).sameBundle (t.core m))
      ∧ (32 ≤ (s.bsh (f.m 3 0)).queue.length →
        ∃ t, exec (.bcmd i f) s = .next t ∧ s.slotFrame t i ∧ ∀ m, m ∈ s.members i.core →
          (∃ h, (t.core m).bq = (s.core m).bq ++ [h] ∧ h.mc = f.m 3 0
            ∧ h.bytes = (s.core m).lmRead ((s.operands i m).scalar f.a).toNat 64)
          ∧ (s.core m).sameBundle { t.core m with bq := (s.core m).bq })))

/-! ## Frames and the tick window (spec/02_time_base.md, spec/01_architecture.md) -/

/-- R26, R27, R37, R41: the tick begins the next frame, or the master's at the end of a step frame, and starts the block of each gang that
was told to start; a work frame counts except at a launch's first; a hold-rest frame's decision is settled and BEHIND is 0. That each tick
moves the safety die's clock on by 1 µs is the model's choice (log entry 4). -/
def Obligations.TickStartsFrame : Prop :=
  ∀ s : State,
    (s.phase ≠ .run → exec .tick s = .next s)
    ∧ (s.phase = .run → ∃ t, exec .tick s = .next t ∧ t.cycle = 0 ∧ t.step = none ∧ t.clock = s.clock + 1
      ∧ t.frame = (match s.step with | some (f, _) => f | none => s.frame + 1) % 2 ^ 64
      ∧ (∀ p, p < 8 → (t.part p).restNow = (s.part p).restNext)
      ∧ (s.coreRst ≠ some .stopping → (∀ p, p < 8 → (s.part p).rst ≠ some .stopping) →
        (∀ c, (t.core c).catchUp = none ∧ (t.core c).behind = if (s.core c).catchUp = none then (s.core c).behind else 0)
        ∧ ∀ c m, s.gang[c] = c → (s.core c).st = .running → (s.core c).start = true → m ∈ s.members c →
          (t.core m).active = true ∧ (t.core m).spill = false ∧ (t.core m).start = false ∧ (t.core m).wait = .none
          ∧ (t.core m).blockFrame = BitVec.ofNat 64 t.frame
          ∧ (t.core m).wframe = (if (s.core m).first then (s.core m).wframe else (s.core m).wframe + 1)))

/-- R29, R31, R32, R34: the capture takes every counter into SCNT.COUNT. Every block that still issues slips: SEQ.SLIPS of each member counts
it; in a soft domain it goes on and raises hold, in a hard domain the partition stops. In a step frame the window is the frame's last 20
cycles (R41). R33: a slipped block of an earlier frame that still issues at cycle 1,279 stops the partition with SEQ.FAULT cause 4. -/
def Obligations.CaptureAndSlips : Prop :=
  (∀ s : State, s.phase = .run → s.power.stopAll = false → ∃ t, exec .capture s = .next t
    ∧ t.cycle = (match s.step with | some (_, len) => 1280 + len - 1300 | none => 1280)
    ∧ (∀ c, (t.core c).fcount = [] ∧ (mapAscending (s.core c).scnt = true →
        ∀ n, n < 64 → (t.core c).reg64 (kSCNT_COUNT n) = (s.core c).count n))
    ∧ ∀ c p, s.gang[c] = c → (s.core c).active = true → (s.core c).spill = false → (s.core c).st = .running →
      s.partOf c = some p → s.halted p = false → s.isStopped p = false →
      (∀ m, m ∈ s.members c → s.partOf m = some p ∧ (∀ q, q < 8 → s.inPart q m = true → q = p)
        ∧ (∀ e, e ∈ (s.core m).fcount → e.1 ≠ kSEQ_SLIPS) ∧ ∀ e, e ∈ (s.core m).scnt → e.1 < 64) →
      (∀ m, m ∈ s.members c → (t.core m).fld (kSEQ_SLIPS) 11 0 = min ((s.core m).fld (kSEQ_SLIPS) 11 0 + 1) 4095)
      ∧ if (s.part p).domNow.getLsbD 16 then t.isStopped p = true
        else (t.part p).reqHold = true ∧ ∀ m, m ∈ s.members c → (t.core m).spill = true ∧ (t.core m).hold = true)
  ∧ (∀ (s : State) (c : Fin 96) (p : Nat), s.gang[c] = c → (s.core c).active = true → (s.core c).spill = true → (s.core c).st = .running →
    (s.core c).blockFrame.toNat < s.frame → s.partOf c = some p → s.halted p = false → s.isStopped p = false →
    (s.core c).reg (kSEQ_FAULT) = 0 → (s.core c).faulted = false →
    ∃ t, exec (.blockOverrun c) s = .next t ∧ t.isStopped p = true ∧ (t.core c).st = .stopped
      ∧ (t.core c).fld (kSEQ_FAULT) 3 0 = 4 ∧ (t.core c).opnd = (s.core c).opnd ∧ t.hbm = s.hbm)

/-- R13, R23, R25: at a tick window the spare takes the place of an array that awaits retirement; a core marked failed becomes
unavailable and leaves its gang, whose other members it led lead themselves (the model's choice, log entry 71); a staged gang map that
meets the conditions becomes active, and one that does not is rejected. R14: each of these waits for what the window has due before it. -/
def Obligations.UnitsAndGangs : Prop :=
  (∀ (s : State) (c : Fin 96) (ph fr : Nat), (s.core c).st = .idle → (s.core c).retire = some (ph, fr) → ph < 5 →
    ∃ t, exec (.arrayRemap c) s = .next t ∧ (t.core c).retire = none
      ∧ (∀ a, a < 4 → (t.core c).physOf a =
          if (s.core c).physOf a = ph then (s.core c).fld (kUCB_core_ARRMAP) 18 16 else (s.core c).physOf a)
      ∧ (t.core c).fld (kUCB_core_ARRMAP) 18 16 = 7 ∧ (t.core c).fld (kUCB_core_ARRMAP) (20 + ph) (20 + ph) = 1
      ∧ (t.core c).fld (kUCB_arr_ERRSUM ph) 8 8 = 1
      ∧ t.fld (rAVSUM) 6 0 = (s.fld (rAVSUM) 6 0 + (if (s.core c).fld (kUCB_core_ARRMAP) 18 16 = ph then 0 else 1)) % 128
      ∧ t.errPend.length = s.errPend.length + 1 ∧ t.gang = s.gang ∧ ∀ d, d ≠ c → t.core d = s.core d)
  ∧ (∀ (s : State) (c : Fin 96), (s.core c).st = .idle → (s.core c).failPend = true → (∀ d, d ∈ s.winDue → 100 ≤ d) →
    ∃ t, exec (.coreFailed c) s = .next t ∧ (t.core c).st = .failed ∧ t.bit (rAVAIL (c.val / 32)) (c.val % 32) = false
      ∧ t.bit (rAVSUM) 16 = true ∧ t.fld (rAVSUM) 14 8 = (s.fld (rAVSUM) 14 8 + 1) % 128
      ∧ (∀ d : Fin 96, t.gang[d] = if d = c ∨ s.gang[d] = c then d else s.gang[d])
      ∧ t.errPend.length = s.errPend.length + 1 ∧ ∀ d, d ≠ c → t.core d = s.core d)
  ∧ ∀ (s : State) (k : Fin 8) (split : Bool), mapFind s.gangPend k.val = some split → (∀ d, d ∈ s.winDue → 200 ≤ d) →
    ∃ t, exec (.gangMapCommit k) s = .next t ∧ mapFind t.gangPend k.val = none ∧ t.bit (rUCB_cl_GANGSTAT k.val) 24 = false
      ∧ t.bit (rUCB_cl_GANGSTAT k.val) 25 = !(s.mapOk k.val split) ∧ t.cores = s.cores
      ∧ ∀ c : Fin 96, t.gang[c] = if s.mapOk k.val split = true ∧ c.val / 12 = k.val
          then coreOf (12 * k.val + s.stagedLeader k.val split (c.val % 12)) else s.gang[c]

/-- R191, R228, R306 and TIME.DOM: at a tick window a staged partition becomes active, or is rejected where it would take another's cluster,
a core that runs, or a cluster that awaits its scrub; domain, barrier and window settings take effect under their conditions. -/
def Obligations.ConfigurationChanges : Prop :=
  (∀ (s : State) (p : Fin 8) (new : Nat), s.bit (rPART_STATUS p.val) 8 = true → new = cfgClusters (s.reg (rPART_CFG p.val)) →
    (∀ d, d ∈ s.winDue → 300 ≤ d) →
    ((∀ q, q < 8 → q ≠ p.val → s.clusters q &&& new = 0) →
      (∀ k j, k < 8 → j < 12 → (s.clusters p.val).testBit k ≠ new.testBit k → (s.core (coreOf (12 * k + j))).st.movable = true) →
      (∀ q k, q < 8 → k ∈ (s.part q).scrubCl → k < 8 → new.testBit k = true → (s.clusters p.val).testBit k = true) →
      ∃ t, exec (.partitionChange p) s = .next t ∧ t.clusters p.val = new ∧ (t.part p.val).cfgNow = s.reg (rPART_CFG p.val)
        ∧ t.bit (rPART_STATUS p.val) 8 = false ∧ (∀ q, q < 8 → q ≠ p.val → t.clusters q = s.clusters q)
        ∧ (∀ c, (s.clusters p.val).testBit (c.val / 12) = new.testBit (c.val / 12) → t.core c = s.core c)
        ∧ ∀ c, (s.clusters p.val).testBit (c.val / 12) = true → new.testBit (c.val / 12) = false → (s.core c).st = .idle →
          (t.core c).st = .inReset)
    ∧ ((∃ q, q < 8 ∧ q ≠ p.val ∧ s.clusters q &&& new ≠ 0)
        ∨ (∃ k j, k < 8 ∧ j < 12 ∧ (s.clusters p.val).testBit k ≠ new.testBit k ∧ (s.core (coreOf (12 * k + j))).st.movable = false)
        ∨ (∃ q k, q < 8 ∧ k ∈ (s.part q).scrubCl ∧ new.testBit k = true ∧ (s.clusters p.val).testBit k = false) →
      ∃ t, exec (.partitionChange p) s = .next t
        ∧ t.bit (rPART_STATUS p.val) 9 = true ∧ t.clusters p.val = s.clusters p.val ∧ t.cores = s.cores))
  ∧ (∀ (s : State) (p : Fin 8), s.allIdle p.val = true →
    ∃ t, exec (.domainConfigChange p) s = .next t ∧ (t.part p.val).domNow = s.reg (rTIME_DOM p.val) ∧ t.regs = s.regs ∧ t.cores = s.cores)
  ∧ (∀ (s : State) (b : Fin 192), s.barPend.contains b.val = true →
    (∀ c p, (p = bitsOf 10 8 (s.barNow b.val).toNat ∨ p = bitsOf 10 8 (s.reg (barCfgReg b.val)).toNat) → s.inPart p c = true →
      (s.core c).st ≠ .running ∧ (s.core c).st ≠ .waiting) →
    ∃ t, exec (.barrierConfigChange b) s = .next t ∧ t.barNow b.val = s.reg (barCfgReg b.val) ∧ t.reg (barStatReg b.val) = 0
      ∧ mapGet 0 t.rounds b.val = 0 ∧ t.barPend = s.barPend.erase b.val)
  ∧ ∀ (s : State) (k : Fin 16), ∃ t, exec (.slwinChange k) s = .next t ∧ mapGet 0 t.slwinNow k.val = s.reg (rGLB_SLWIN k.val)
      ∧ { t with cycle := s.cycle, slwinNow := s.slwinNow } = s

/-- R29, R184, R193: a wait of a block that has ended holds when it holds for every member; a complete round is released once: the
lookahead becomes the next round's count and each participant's outstanding count falls by 1; the cores of the barrier's partition and
die have seen the round. -/
def Obligations.WaitsAndReleases : Prop :=
  (∀ s : State, ∃ t, exec .waitEvaluation s = .next t
    ∧ (∀ c m, c ∈ s.between → m ∈ s.members c → (t.core m).waitFailed = !((s.members c).all s.waitHolds)
        ∧ { t.core m with waitFailed := (s.core m).waitFailed } = s.core m)
    ∧ (∀ m, (∀ c, c ∈ s.between → m ∉ s.members c) → t.core m = s.core m) ∧ { t with cores := s.cores, cycle := s.cycle } = s)
  ∧ ∀ (s : State) (b : Fin 192), s.roundDone b.val = true → (s.barNow b.val).getLsbD 16 = false →
    ∃ t, exec (.barrierRelease b) s = .next t ∧ mapGet 0 t.rounds b.val = mapGet 0 s.rounds b.val + 1
      ∧ t.fld (barStatReg b.val) 6 0 = s.fld (barStatReg b.val) 14 8 ∧ t.fld (barStatReg b.val) 14 8 = 0
      ∧ t.fld (barStatReg b.val) 31 16 = (s.fld (barStatReg b.val) 31 16 + 1) % 65536
      ∧ (∀ c, c ∈ s.participants b.val → (t.core c).bo (decide (128 ≤ b.val)) (b.val % 64) =
          (s.core c).bo (decide (128 ≤ b.val)) (b.val % 64) - 1)
      ∧ (∀ c, c ∉ s.participants b.val → (t.core c).bo (decide (128 ≤ b.val)) (b.val % 64) = (s.core c).bo (decide (128 ≤ b.val)) (b.val % 64))
      ∧ (∀ c, mapGet 0 (t.core c).bseen (barKey (decide (128 ≤ b.val)) (b.val % 64)) =
          if s.inPart (bitsOf 10 8 (s.barNow b.val).toNat) c = true ∧ (128 ≤ b.val ∨ c.val / 48 = b.val / 64)
            then mapGet 0 s.rounds b.val + 1 else mapGet 0 (s.core c).bseen (barKey (decide (128 ≤ b.val)) (b.val % 64)))
      ∧ (∀ c, { t.core c with bout := (s.core c).bout, bseen := (s.core c).bseen } = s.core c)
      ∧ ∀ o, o ≠ barStatReg b.val → t.reg o = s.reg o

/-- R197, R198: the quiet count of each partition with a launched program counts the frames in which every core waits and nothing reaches
the partition; at its window the partition freezes, with a record of its own. -/
def Obligations.DeadlockDetection : Prop :=
  (∀ s : State, ∃ t, exec .deadlockDetector s = .next t ∧ t.cores = s.cores ∧ t.regs = s.regs ∧ ∀ p, p < 8 →
    (t.part p).busyFrame = false ∧ (t.part p).quiet =
      if s.quietFrame p = true ∧ (s.coresOf p).any (fun c => (s.core c).launch.isSome) = true then (s.part p).quiet + 1 else 0)
  ∧ ∀ (s : State) (p : Fin 8), s.fld (rPART_DLWIN p.val) 15 0 ≤ (s.part p.val).quiet → s.isStopped p.val = false →
    ∃ t, exec (.deadlock p) s = .next t ∧ t.errPend.length = s.errPend.length + 1
      ∧ (∀ c, s.inPart p.val c = true → (s.core c).st.inService = true → (t.core c).st = .frozen ∧ (t.core c).opnd = (s.core c).opnd)
      ∧ (∀ c, s.inPart p.val c = false → (t.core c).st = (s.core c).st) ∧ t.hbm = s.hbm

/-- R37, R38, R152, R214, R423: at cycle 1,296 a gang is told to start where its block has ended, its wait holds and no table it loads is
due, unless the frame rests; a start withheld for a table counts in TBL.DEFERS; a hold-rest frame is to make good a frame missed, BEHIND
counting those up to it until its tick. A missing notice forces a rest frame, and a gang whose last operation is complete after EXIT
becomes idle, with which a launch of which no core runs on is complete (R315). R35, R290, R423: at cycle 1,288 each partition's requests of
the window become a rest frame after its lag, with hold where a block slipped or a core is halted. -/
def Obligations.IssueDecisions : Prop :=
  ((∀ s : State, ∃ t, exec .issueDecision s = .next t ∧ t.regs = s.regs
    ∧ (∀ p, p < 8 → (t.part p).restNext = (s.part p).rest (s.frame + 1))
    ∧ ∀ c p m, p < 8 → s.gang[c] = c → s.inPart p c = true → (∀ q, q < 8 → s.inPart q c = true → q = p) →
      (s.core c).st = .running → (s.core c).launch.isSome = true → m ∈ s.members c →
      (t.core m).start = (!(s.core c).active && !(s.core c).late && !(s.core c).waitFailed && !(s.core c).exiting
        && decide ((s.core c).steps ≠ some 0) && !((s.members c).any (fun m => (s.core m).deferred))
        && (!((s.part p).rest (s.frame + 1)) || ((s.part p).holdRest (s.frame + 1)
          && decide (0 < ((s.core c).countMissed (s.frame + 1) (s.part p).lag).behind))))
      ∧ ((s.part p).holdRest (s.frame + 1) = true → (t.core m).catchUp = some (t.core m).start
        ∧ (t.core m).behind = ((s.core m).countMissed (s.frame + 1) (s.part p).lag).behind)
      ∧ ((s.part p).holdRest (s.frame + 1) = false → (t.core m).catchUp = none ∧ (t.core m).behind = (s.core m).behind)
      ∧ (t.core m).reg (kTBL_DEFERS) = (if (s.core m).deferred = true ∧ (s.core m).exiting = false then
          BitVec.ofNat 32 (min (((s.core m).reg (kTBL_DEFERS)).toNat + 1) 0xFFFFFFFF) else (s.core m).reg (kTBL_DEFERS)))
  ∧ (∀ (s : State) (p : Fin 8) (f : Nat), f = s.frame + 1 - (s.part p.val).lag + (s.part p.val).lag →
    (s.part p.val).domNow.getLsbD 17 = true → (s.part p.val).lag ≤ s.frame + 1 →
    ((s.part p.val).notices.filter (fun n => n.1 = s.frame + 1 - (s.part p.val).lag)).length < s.fld (rCHC_DOMCFG p.val) 20 8 - 1 →
    (s.part p.val).forced.contains f = false →
    ∃ t, exec (.tickLate p) s = .next t ∧ (t.part p.val).forced = (s.part p.val).forced ++ [f] ∧ (t.part p.val).reqHold = true
      ∧ t.bit (rTIME_STATUS) 4 = true ∧ t.errPend.length = s.errPend.length + 1 ∧ t.cores = s.cores)
  ∧ ∀ (s : State) (c : Fin 96), (s.core c).exiting = true → (s.core c).st = .running → s.gang[c] = c →
    (∀ m, m ∈ s.members c → s.inFlight m = false) →
    ∃ t, exec (.coreIdle c) s = .next t ∧ { t with cores := s.cores, parts := s.parts } = s ∧ (∀ d, d ∉ s.members c → t.core d = s.core d)
      ∧ (∀ m, m ∈ s.members c → t.core m = { s.core m with st := .idle, exiting := false, launch := none, view := none })
      ∧ ∀ p l, s.partOf c = some p → l ∈ (s.part p).launches → l.doneAt = none →
        (∀ n, n ∈ l.cores → (t.core (coreOf n)).st = .idle ∨ (t.core (coreOf n)).st = .failed) →
        { l with doneAt := some s.frame } ∈ (t.part p).launches)
  ∧ (∀ (s : State) (txt : List Nat), ∃ t, exec (.tickMessage txt) s = .next t
    ∧ t.cycle = (match s.step with | some (_, len) => 1288 + len - 1300 | none => 1288) ∧ t.cores = s.cores ∧ ∀ p, p < 8 →
    (t.part p).reqRest = false ∧ (t.part p).reqHold = false ∧ (t.part p).restReq = (s.part p).restReq ++
      (if (s.part p).reqRest || (s.part p).reqHold || s.halted p then
        [(s.frame + (s.part p).lag, (s.part p).reqHold || s.halted p)] else []))

/-! ## Work submission and the loss watch (spec/14_host.md, spec/19_watch.md) -/

/-- R312 to R315: at cycle 1,290, a descriptor of an enabled ring whose target is idle is launched: the cores it names run from its entry
with its contract registers, work frame and cleared counters, and the ring counts it taken. `w` is the state at that cycle of the window,
after all that the window has due before it (R14). -/
def Obligations.LaunchStarts : Prop :=
  ∀ (s w : State) (p r a a' : Nat) (b d : List Byte), w = { s with cycle := s.winCy 1290 } → s.winDue = [] → p < 8 → r < 4 →
    s.samples p = true → (∀ q, q < 8 → q ≠ p → s.samples q = false) →
    (s.part p).launches = [] → (s.part p).reports = [] → s.isStopped p = false → s.bit (rPART_WCTRL p) 0 = false →
    s.bit (rPART_RCFG p r) 31 = true → (∀ r', r' < 4 → r' ≠ r → s.bit (rPART_RCFG p r') 31 = false) →
    w.cpRead p (s.reg64 (rPART_PADDR p r)) 8 = (w, .ok b false a) →
    leNat b = (s.ring p r).t + 1 → leNat b - (s.ring p r).d ≤ 2 ^ s.fld (rPART_RCFG p r) 3 0 →
    w.cpRead p (s.reg64 (rPART_RBASE p r) + 256 * ((s.ring p r).t % 2 ^ s.fld (rPART_RCFG p r) 3 0)) 256 = (w, .ok d false a') →
    s.refusedDesc p d = false → (∀ c, c ∈ s.targets (imgF d 0 4) → (s.core c).st = .idle) →
    ∃ t, exec .launchSampling s = .next t ∧ (t.ring p r).t = (s.ring p r).t + 1
      ∧ (∃ l, (t.part p).launches = [l] ∧ l.addr = a' ∧ l.ring = r ∧ l.cores = (s.targets (imgF d 0 4)).map Fin.val)
      ∧ (∀ c, c ∉ s.targets (imgF d 0 4) → t.core c = s.core c)
      ∧ ∀ c, c ∈ s.targets (imgF d 0 4) → (t.core c).st = .running ∧ (t.core c).pc = bitsOf 17 7 (imgF d 4 4)
        ∧ (t.core c).active = false ∧ (t.core c).first = true ∧ (t.core c).lm = (s.core c).lm
        ∧ (t.core c).wframe = BitVec.ofNat 64 (imgF d 0x18 8)
        ∧ (∀ n, n < 64 → (t.core c).count n = if (imgF d 0x10 8).testBit n = true then 0 else (s.core c).count n)
        ∧ (∀ j : BitVec 5, (t.core c).opnd.scalar j =
          if j = 0 ∨ 15 < j.toNat then 0 else BitVec.ofNat 64 (imgF d (0x20 + 8 * (j.toNat - 1)) 8))

/-- R380, R381: the first sample of a partition's loss watch becomes its mean with variance 0; a record read with poison is noted, a step
already seen is ignored, and one that goes back is noted. -/
def Obligations.LossWatch : Prop :=
  ∀ (s : State) (p : Nat) (b : List Byte) (z : Bool), p < 8 → (s.part p).wread = some (.got b z) →
    ∃ t, exec .watchEvaluation s = .next t ∧ (t.part p).wread = none
      ∧ (z = true → t.bit (rPART_WSTAT p) 3 = true ∧ t.reg (rPART_WCOUNT p) = s.reg (rPART_WCOUNT p))
      ∧ (z = false → imgF b 0 8 = s.reg64 (rPART_WLAST p) → t.reg (rPART_WMEAN p) = s.reg (rPART_WMEAN p)
          ∧ t.reg (rPART_WCOUNT p) = s.reg (rPART_WCOUNT p))
      ∧ (z = false → imgF b 0 8 < s.reg64 (rPART_WLAST p) → t.bit (rPART_WSTAT p) 2 = true)
      ∧ (z = false → s.reg64 (rPART_WLAST p) < imgF b 0 8 → s.reg (rPART_WCOUNT p) = 0 → (fdecode .fp32 (imgF b 8 4)).isFin = true →
        t.reg64 (rPART_WLAST p) = imgF b 0 8 ∧ t.reg (rPART_WMEAN p) = BitVec.ofNat 32 (imgF b 8 4) ∧ t.reg (rPART_WVAR p) = 0
          ∧ t.reg (rPART_WCOUNT p) = 1)

/-! ## The Bushels (spec/12_bushel.md) -/

/-- R246, R250: CLEAR writes +0 to its blocks; SCALARS loads a slot; OPEN opens a loaded slot whose extents lie in place; ABORT frees a
slot; SEND asks acceptance of one contribution for each block. -/
def Obligations.BushelCommands : Prop :=
  ∀ (s : State) (n : Fin 12) (r : BRec) (q : List BRec),
    (s.runs n.val r q 1 → s.hostLines = [] → s.inRegion r.part n.val (r.fld 8 8) (128 * r.fld 4 4) = true → r.fld 4 4 ≠ 0 →
      ∃ t, exec (.jobClear n) s = .next t ∧ (t.bsh n.val).queue = q
        ∧ s.hbm.writes t.hbm (hbmKey (n.val, r.fld 8 8)) (List.replicate (128 * r.fld 4 4) 0)
        ∧ (t.core (coreOf r.core)).count (r.ctrl 25 20) = (if r.ctrl 19 19 = 1 then
            min ((s.core (coreOf r.core)).count (r.ctrl 25 20) + 1) (2 ^ 64 - 1) else (s.core (coreOf r.core)).count (r.ctrl 25 20)))
    ∧ (s.runs n.val r q 2 → s.clean → s.inRegion r.part n.val (r.fld 8 8) (128 * r.fld 4 4) = true → r.fld 4 4 ≠ 0 →
      s.chainReach r.part (bitsOf 11 0 (r.fld 0x14 4)) = true →
      ∃ t l, exec (.jobSend n) s = .next t ∧ (t.bsh n.val).queue = q ∧ t.reqs = s.reqs ++ l ∧ l.length = r.fld 4 4
        ∧ (∀ x, x ∈ l → x.kind = .contrib ∧ x.agent = 96 + n.val ∧ x.node = bitsOf 11 0 (r.fld 0x14 4))
        ∧ (∃ o, (t.bsh n.val).sends = (s.bsh n.val).sends ++ [o] ∧ o.core = r.core ∧ o.left = r.fld 4 4)
        ∧ (r.fld 4 4 = 1 → ∃ m, m.typ = 5 ∧ m.sub = 0 ∧ m.dst = bitsOf 11 0 (r.fld 0x14 4)
          ∧ m.data = (bshKeys n.val (r.fld 8 8) 128).map s.hbm.get ∧ s.sends t s.inbox m)
        ∧ (r.ctrl 26 26 = 0 → t.hbm = s.hbm))
    ∧ (s.runs n.val r q 3 → (s.job n.val (r.ctrl 11 8)).st ≠ .opened → (s.job n.val (r.ctrl 11 8)).st ≠ .updating →
      ∃ t, exec (.jobScalars n) s = .next t ∧ (t.bsh n.val).queue = q ∧ { t with bushels := s.bushels } = s
        ∧ t.job n.val (r.ctrl 11 8) = { s.job n.val (r.ctrl 11 8) with
            st := .loaded, part := r.part, scalars := (List.range 14).map (fun i => r.fld (4 + 4 * i) 4) })
    ∧ (s.runs n.val r q 5 → (s.job n.val (r.ctrl 11 8)).st ≠ .free → (s.job n.val (r.ctrl 11 8)).part = r.part →
      ∃ t, exec (.jobAbort n) s = .next t ∧ (t.bsh n.val).queue = q ∧ { t with bushels := s.bushels } = s
        ∧ t.job n.val (r.ctrl 11 8) = Job.zero)
    ∧ (∀ (x : Job) (v : Nat) (pages : List (Nat × Nat)), s.runs n.val r q 4 → s.clean →
      x = r.job (s.job n.val (r.ctrl 11 8)) (s.reg64 (rPART_SRKEY r.part)) → (s.job n.val (r.ctrl 11 8)).st = .loaded →
      x.lcore < 96 → s.inPart r.part (coreOf x.lcore) = true →
      (s.openPages r.part [] ((pagesOf x.pbase (x.wlen * x.nb) ++ pagesOf x.sbase x.slen).map (fun v => (v, true))
          ++ (pagesOf x.cbase 64).map (fun v => (v, false)))).2 = (.ok v, pages) →
      s.onStack n.val { x with pages := pages } x.pbase (x.wlen * x.nb) = true →
      s.onStack n.val { x with pages := pages } x.sbase x.slen = true → s.inRegion r.part n.val x.abase (128 * x.nb) = true → x.nb ≠ 0 →
      (x.rule = 2 → x.rows * x.cols = 32 * x.nb ∧ x.cols % 32 = 0) →
      ∃ t, exec (.jobOpen n) s = .next t ∧ (t.bsh n.val).queue = q ∧ t.job n.val (r.ctrl 11 8) = { x with pages := pages }
        ∧ x.st = .opened ∧ x.blocks = [] ∧ t.hbm = s.hbm ∧ t.cores = s.cores)

/-- R253, R258: the update of a complete block is counted once and marks it updated; with every block updated the completion record is
written, then the counter LSCNT of LCORE counts, and the slot is DONE. R257: a parameter block of a served domain is written under the
partition's rights, and its tracker counts it; the last block of a set ends its tracking and counts it done. -/
def Obligations.BushelJobs : Prop :=
  (∀ (s : State) (n : Fin 12) (j : Fin 16) (b : Nat) (x : Job), x = s.job n.val j.val →
    (b < x.nb → x.complete b = true → (x.block b).updated = false → (x.st = .updating ∨ x.st = .opened ∧ x.rule ≠ 2) →
      ∃ t, exec (.blockUpdate n j b) s = .next t ∧ ((t.job n.val j.val).block b).updated = true
        ∧ (t.job n.val j.val).nupd = x.nupd + 1 ∧ (t.job n.val j.val).st = x.st
        ∧ (∀ b', b' ≠ b → (t.job n.val j.val).block b' = x.block b')
        ∧ t.reg64 (rBSH_UPDATES n.val) = min (s.reg64 (rBSH_UPDATES n.val) + 1) (2 ^ 64 - 1))
    ∧ (∀ key, x.st = .updating → x.nupd = x.nb → s.hostLines = [] →
      (∀ i, i < 64 → s.locate (x.phys (x.cbase + i)) = .hbm (key + i)) →
      ∃ t, exec (.jobComplete n j) s = .next t ∧ t.job n.val j.val = { x with st := .done }
        ∧ s.hbm.writes t.hbm key (x.recordBytes n.val j.val s.frame)
        ∧ (t.core (coreOf x.lcore)).count x.lscnt = min ((s.core (coreOf x.lcore)).count x.lscnt + 1) (2 ^ 64 - 1)
        ∧ ∀ c, c ≠ coreOf x.lcore → t.core c = s.core c))
  ∧ (∀ (s : State) (k q : Nat) (x : InMsg) (as keys : List Nat) (e : RxSet), s.nextMsg k x → x.transit = false → x.msg.typ = 6 →
    x.msg.sub = 0 → s.server x.msg.dom = some q → s.clean →
    (s.translateN q (x.msg.f4 24 8 + x.msg.f4 16 4 * x.msg.data.length) x.msg.data.length true).2 = .ok as →
    as.map s.locate = keys.map Loc.hbm → keys.Nodup → x.msg.f3 12 9 < 12 →
    (s.bsh (x.msg.f3 12 9)).sets.find? (fun y => y.key = (x.msg.src, x.msg.f3 3 0, x.msg.f3 7 4)) = some e →
    ∃ t, exec (.paramBcast k) s = .next t ∧ t.inbox = s.inbox.eraseIdx k ∧ s.hbm.writesAt t.hbm keys x.msg.data
      ∧ (e.count + 1 ≠ x.msg.f4 20 4 → ∃ y, y ∈ (t.bsh (x.msg.f3 12 9)).sets ∧ y.key = e.key ∧ y.count = e.count + 1)
      ∧ (e.count + 1 = x.msg.f4 20 4 → (∀ y, y ∈ (t.bsh (x.msg.f3 12 9)).sets → y.key ≠ (x.msg.src, x.msg.f3 3 0, x.msg.f3 7 4))
        ∧ t.reg (rBSH_RXDONE (x.msg.f3 12 9)) = BitVec.ofNat 32 (min ((s.reg (rBSH_RXDONE (x.msg.f3 12 9))).toNat + 1) 0xFFFFFFFF)))

/-! ## Messages of the Chain (spec/13_chain.md) -/

/-- R251, R252, R281: WRITE, READ, SIGNAL and RED_CONTRIB of a domain that a partition serves are performed under its translation and
answered. R278, R279: a message for another node leaves by its route, on the channel it came on, with its TTL less 1, or is discarded where
that was its last hop. -/
def Obligations.RequestsServed : Prop :=
  (∀ (s : State) (k q : Nat) (x : InMsg), s.nextMsg k x → x.transit = false → s.server x.msg.dom = some q →
    (∀ as keys : List Nat, x.msg.typ = 1 → x.msg.sub = 0 → s.clean →
      (s.translateN q (x.msg.f4 16 8) x.msg.data.length true).2 = .ok as → as.map s.locate = keys.map Loc.hbm → keys.Nodup →
      ∃ t r, exec (.chWrite k) s = .next t ∧ s.hbm.writesAt t.hbm keys x.msg.data ∧ t.cores = s.cores
        ∧ r.typ = 1 ∧ r.sub = 1 ∧ r.dst = x.msg.src ∧ r.tag = x.msg.tag ∧ r.agent = x.msg.agent ∧ s.sends t (s.inbox.eraseIdx k) r)
    ∧ (∀ as keys : List Nat, x.msg.typ = 2 → x.msg.sub = 0 → s.clean →
      (s.translateN q (x.msg.f4 16 8) (16 * x.msg.f3 4 0) false).2 = .ok as → as.map s.locate = keys.map Loc.hbm →
      ∃ t r, exec (.chRead k) s = .next t ∧ t.hbm = s.hbm ∧ t.cores = s.cores ∧ r.typ = 2 ∧ r.sub = 1 ∧ r.dst = x.msg.src
        ∧ r.tag = x.msg.tag ∧ r.data = keys.map s.hbm.get ∧ s.sends t (s.inbox.eraseIdx k) r)
    ∧ (∀ c : Fin 96, x.msg.typ = 3 → x.msg.sub = 0 → bitsOf 6 0 x.msg.w4 = c.val → s.inPart q c = true →
      ∃ t, exec (.signalIncrement k) s = .next t ∧ t.inbox = s.inbox.eraseIdx k ∧ (∀ d, d ≠ c → t.core d = s.core d)
        ∧ (t.core c).count (bitsOf 13 8 x.msg.w4) = min ((s.core c).count (bitsOf 13 8 x.msg.w4) + x.msg.w3) (2 ^ 64 - 1)
        ∧ t.hbm = s.hbm)
    ∧ (∀ n j b rank, x.msg.typ = 5 → x.msg.sub = 0 → n = x.msg.f3 3 0 → j = x.msg.f3 7 4 → b = x.msg.f4 16 4 → rank = x.msg.f3 19 8 →
      n < 12 → (s.job n j).st = .opened → (s.job n j).part = q → (s.job n j).takes b rank = true →
      ∃ t r, exec (.redContrib k) s = .next t ∧ rank ∈ ((t.job n j).block b).got ∧ t.cores = s.cores
        ∧ (rank = ((s.job n j).block b).e → ((s.job n j).block b).relaxed = false →
          ((s.job n j).block b).e < ((t.job n j).block b).e ∧ ((s.job n j).block b).added < ((t.job n j).block b).added)
        ∧ r.typ = 5 ∧ r.sub = 1 ∧ r.dst = x.msg.src ∧ r.tag = x.msg.tag ∧ s.sends t (s.inbox.eraseIdx k) r))
  ∧ (∀ (s : State) (k : Nat) (x : InMsg), s.nextMsg k x → x.transit = true →
    (x.msg.ttl ≤ 1 → ∃ t, exec (.transit k) s = .next t ∧ t.ports = s.ports ∧ t.inbox = s.inbox.eraseIdx k
      ∧ t.reg (rCHC_TDROP) = BitVec.ofNat 32 (min ((s.reg (rCHC_TDROP)).toNat + 1) 0xFFFFFFFF))
    ∧ (1 < x.msg.ttl → x.msg.mcast = false → s.portUp (s.route x.msg.dst) = true →
      ∃ t, exec (.transit k) s = .next t ∧ t.inbox = s.inbox.eraseIdx k ∧ t.cores = s.cores ∧ t.hbm = s.hbm
        ∧ (∀ p, p ≠ s.route x.msg.dst → t.port p = s.port p)
        ∧ (t.port (s.route x.msg.dst)).outq = (s.port (s.route x.msg.dst)).outq
          ++ [⟨x.vc, x.port.getD 12, { x.msg with ttl := x.msg.ttl - 1 }⟩])
    ∧ (1 < x.msg.ttl → x.msg.mcast = true → ∃ t, exec (.transit k) s = .next t ∧ t.inbox = s.inbox.eraseIdx k
      ∧ ∀ p, p < 12 → (t.port p).outq = (s.port p).outq ++
          (if (s.reg (rCHC_MCGRP (x.msg.dst % 256))).getLsbD p = true ∧ x.port ≠ some p ∧ s.portUp p = true then
            [⟨x.vc, x.port.getD 12, { x.msg with ttl := x.msg.ttl - 1 }⟩] else [])))

/-- R250, R274: an answer to a request ends the wait of its operation: read data is written at its local address, and with the last
request SIGEN's counter counts; an accepted contribution counts at its SEND, and a refused one stops nothing. -/
def Obligations.RequestsAnswered : Prop :=
  ∀ (s : State) (k : Nat) (x : InMsg) (c : Fin 96) (r : ChReq) (o : ChainOp), s.nextMsg k x → x.transit = false → r.agent = c.val →
    (s.core c).chq.find? (fun y => y.uid = r.uid) = some o → (s.core c).held = [] →
    (∀ (i : Instr) (kd : ReqKind),
      (i = .writePerformed k ∧ kd = .write ∧ x.msg.typ = 1 ∧ x.msg.sub = 1 ∨ i = .readData k ∧ kd = .read ∧ x.msg.typ = 2 ∧ x.msg.sub = 1
        ∨ i = .redContribAccepted k ∧ kd = .contrib ∧ x.msg.typ = 5 ∧ x.msg.sub = 1) →
      s.reqOf x.msg kd = some r →
      ∃ t, exec i s = .next t ∧ t.reqs = s.reqs.filter (· ≠ r) ∧ t.inbox = s.inbox.eraseIdx k ∧ t.hbm = s.hbm
        ∧ (∀ d, d ≠ c → t.core d = s.core d)
        ∧ (kd = .read → (s.core c).lm.writes (t.core c).lm r.loc (x.msg.data.take r.len))
        ∧ (kd ≠ .read → (t.core c).lm = (s.core c).lm)
        ∧ (o.left ≤ 1 → (t.core c).chq = (s.core c).chq.filter (fun y => y.uid ≠ r.uid)
          ∧ (t.core c).count o.scnt = if o.sigen then min ((s.core c).count o.scnt + 1) (2 ^ 64 - 1) else (s.core c).count o.scnt)
        ∧ (1 < o.left → (t.core c).chq = (s.core c).chq.map (fun y => if y.uid = r.uid then { o with left := o.left - 1 } else y)
          ∧ (t.core c).scnt = (s.core c).scnt))
    ∧ (x.msg.typ = 5 → x.msg.sub = 2 → s.reqOf x.msg .contrib = some r →
      ∃ t, exec (.redContribRefused k) s = .next t ∧ t.reqs = s.reqs.filter (· ≠ r)
        ∧ { t with reqs := s.reqs, inbox := s.inbox } = s)

/-- R183, R280, R282, R283: a refused WRITE, READ or SIGNAL of a core, or a request of it without an answer in time, stops its partition
with CHC.PFAULT's cause; a request of a Bushel that times out is counted and recorded. Which counter a refused SIGNAL names in
SCNT.FAULT is free. -/
def Obligations.RequestsFailed : Prop :=
  ∀ (s : State) (c : Fin 96) (p : Nat), s.partOf c = some p → s.isStopped p = false → (s.core c).st = .running →
    s.reg (rCHC_PFAULT p) = 0 →
    (∀ (i : Instr) (k cause node : Nat),
      ((∃ x r, s.nextMsg k x ∧ x.transit = false ∧ r.agent = c.val ∧ cause = 4 ∧ node = r.node
          ∧ (i = .writeRefused k ∧ x.msg.typ = 1 ∧ x.msg.sub = 2 ∧ s.reqOf x.msg .write = some r
            ∨ i = .readRefused k ∧ x.msg.typ = 2 ∧ x.msg.sub = 2 ∧ s.reqOf x.msg .read = some r))
        ∨ (∃ x, s.nextMsg k x ∧ x.transit = false ∧ i = .signalRefused k ∧ x.msg.typ = 3 ∧ x.msg.sub = 2 ∧ x.msg.agent = c.val
          ∧ cause = 4 ∧ node = x.msg.src)
        ∨ (∃ r, i = .responseTimeout k ∧ s.reqs.find? (fun r => r.tag = k && decide (s.frame ≥ r.frame + s.fld (rCHC_RTIMEOUT) 15 0)) = some r
          ∧ r.agent = c.val ∧ cause = 5 ∧ node = r.node)) →
      ∃ t, exec i s = .next t ∧ t.isStopped p = true ∧ (t.core c).st = .stopped ∧ t.fld (rCHC_PFAULT p) 3 0 = cause
        ∧ t.fld (rCHC_PFAULT p) 10 4 = c.val ∧ t.fld (rCHC_PFAULT p) 23 12 = node % 4096)
    ∧ ∀ (k : Nat) (r : ChReq), s.reqs.find? (fun r => r.tag = k && decide (s.frame ≥ r.frame + s.fld (rCHC_RTIMEOUT) 15 0)) = some r →
      96 ≤ r.agent → ∃ t, exec (.responseTimeout k) s = .next t ∧ t.reqs = s.reqs.filter (· ≠ r)
        ∧ t.reg (rCHC_TIMEOUT) = BitVec.ofNat 32 (min ((s.reg (rCHC_TIMEOUT)).toNat + 1) 0xFFFFFFFF)
        ∧ t.errPend.length = s.errPend.length + 1 ∧ t.cores = s.cores

/-! ## Ports of the Chain -/

/-- R264: training of a port: detection, convergence, alignment and the exchange of HELLO bring it UP; a timeout, an alignment failure or
a lost signal or the module's own identifier puts it in FAULT with its cause, from which it comes back DOWN. R265, R268, R269, R271, R272, R293:
retraining keeps the link layer's state; a lost link discards what it holds and its sequence numbers restart; a replay timeout sends
everything unacknowledged again; a channel long without credit is reported. -/
def Obligations.PortTraining : Prop :=
  (∀ (s : State) (p : Fin 12),
    (s.bit (rCH_CTRL p.val) 0 = true → s.portSt p.val = 0 → s.fld (rRST_STATUS) 5 4 < 2 → ∃ t, exec (.signalDetect p) s = .next t
      ∧ t.portSt p.val = 1 ∧ t.ports = s.ports ∧ ∀ o, o ≠ rCH_STATUS p.val → t.reg o = s.reg o)
    ∧ (s.portSt p.val = 1 → ∃ t, exec (.trainConverged p) s = .next t ∧ t.portSt p.val = 2 ∧ t.ports = s.ports
      ∧ ∀ o, o ≠ rCH_STATUS p.val → t.reg o = s.reg o)
    ∧ (s.portSt p.val = 1 → ∃ t, exec (.trainTimeout p) s = .next t ∧ t.portSt p.val = 4 ∧ t.fld (rCH_TRAIN p.val) 3 0 = 4)
    ∧ (s.portSt p.val = 4 → ∃ t, exec (.trainRetry p) s = .next t ∧ t.portSt p.val = 0 ∧ t.ports = s.ports
      ∧ ∀ o, o ≠ rCH_STATUS p.val → t.reg o = s.reg o)
    ∧ (∀ polinv rev, s.portSt p.val = 2 → ∃ t, exec (.alignmentLock p none polinv rev) s = .next t ∧ t.portSt p.val = 2
      ∧ t.fld (rCH_STATUS p.val) 15 8 = polinv.toNat ∧ t.bit (rCH_STATUS p.val) 3 = rev ∧ (t.port p.val).hello = true
      ∧ t.out = s.out ++ [.hello p.val s.node])
    ∧ (∀ fl polinv rev, s.portSt p.val = 2 → ∃ t, exec (.alignmentLock p (some fl) polinv rev) s = .next t ∧ t.portSt p.val = 4
      ∧ t.fld (rCH_TRAIN p.val) 3 0 = (match fl with | .signal => 1 | .laneOrder => 2 | .skew => 3 | .lock => 5))
    ∧ (∀ polinv rev, s.portSt p.val = 1 → ∃ t, exec (.alignmentLock p (some .signal) polinv rev) s = .next t ∧ t.portSt p.val = 4
      ∧ t.fld (rCH_TRAIN p.val) 3 0 = 1)
    ∧ (∀ node port, s.portSt p.val = 2 → (s.port p.val).hello = true →
      (node.toNat ≠ s.node → ∃ t, exec (.hello p node port) s = .next t ∧ t.portSt p.val = 3 ∧ t.fld (rCH_PEER p.val) 11 0 = node.toNat
        ∧ t.fld (rCH_PEER p.val) 15 12 = port.toNat ∧ t.fld (rCH_PEER p.val) 16 16 = 1 ∧ (t.port p.val).next = 0
        ∧ (t.port p.val).replay = (s.port p.val).replay)
      ∧ (node.toNat = s.node → ∃ t, exec (.hello p node port) s = .next t ∧ t.portSt p.val = 4 ∧ t.fld (rCH_TRAIN p.val) 3 0 = 6)))
  ∧ (∀ (s : State) (p : Fin 12),
    (∀ i, (i = .retrainLimit p ∧ 16 ≤ (s.port p.val).replays ∨ i = .rxIdleTimeout p) → s.portUp p.val = true →
      ∃ t, exec i s = .next t ∧ t.portSt p.val = 1 ∧ (t.port p.val).replay = (s.port p.val).replay
        ∧ (t.port p.val).seqTx = (s.port p.val).seqTx ∧ (t.port p.val).seqRx = (s.port p.val).seqRx
        ∧ (t.port p.val).leftUp = true ∧ t.errPend.length = s.errPend.length + 1
        ∧ t.reg (rCH_RETRAINS p.val) = BitVec.ofNat 32 (min ((s.reg (rCH_RETRAINS p.val)).toNat + 1) 0xFFFFFFFF))
    ∧ ((s.port p.val).leftUp = true → s.portUp p.val = false → ∃ t, exec (.linkLoss p) s = .next t ∧ t.portSt p.val = 0
      ∧ (t.port p.val).replay = [] ∧ (t.port p.val).outq = [] ∧ (t.port p.val).seqTx = 0 ∧ (t.port p.val).seqRx = 0
      ∧ t.reg (rCH_DROP p.val) = BitVec.ofNat 32 (min ((s.reg (rCH_DROP p.val)).toNat + (s.port p.val).messages) 0xFFFFFFFF)
      ∧ t.errPend.length = s.errPend.length + 1 ∧ t.histGet (hkLosses p.val) = s.histGet (hkLosses p.val) + 1)
    ∧ (∃ t, exec (.replayTimeout p) s = .next t ∧ t.ports = s.ports.set p.val { s.ports[p] with next := 0 } p.isLt
      ∧ { t with ports := s.ports } = s)
    ∧ ((∃ v : Fin 4, (s.port p.val).starve[v] = 1000) → ∃ t, exec (.creditStuck p) s = .next t
      ∧ t.bit (rCH_STATUS p.val) 4 = true ∧ t.portSt p.val = s.portSt p.val ∧ t.errPend.length = s.errPend.length + 1
      ∧ ∀ v : Fin 4, (t.port p.val).starve[v] = if (s.port p.val).starve[v] = 1000 then 1001 else (s.port p.val).starve[v]))

/-- R267, R269, R270, R275, R285: a flit that fails its check, or comes out of sequence, is answered with NAK and takes no place in the
sequence; a good one in sequence is accepted; what FEC corrected, and what it could not, is counted by lane; a tick flit gives its message
where that is a link tick of one unit, else it is malformed. A port sends what is to be replayed, else a new flit of the first channel
with something eligible, else an idle one. -/
def Obligations.FlitsInAndOut : Prop :=
  ∀ (s : State) (p : Fin 12), s.portUp p.val = true →
    (∀ (b : List Byte) (bad : BitVec 8) (corr : List (Nat × Nat)), b.length = 256 →
      (∃ t, exec (.flitReceive p b bad corr) s = .next t ∧ ∀ l, l < 8 →
        t.reg64 (rCH_FECCORR p.val l) = min (s.reg64 (rCH_FECCORR p.val l) + (corr.getD l (0, 0)).1) (2 ^ 64 - 1)
        ∧ (t.reg (rCH_FECUNC p.val l)).toNat = min ((s.reg (rCH_FECUNC p.val l)).toNat + (corr.getD l (0, 0)).2) 0xFFFFFFFF)
      ∧ ((bad ≠ 0 ∨ (crc32 (b.take 252)).toNat ≠ leNat (b.drop 252)) → ∃ t, exec (.flitReceive p b bad corr) s = .next t
        ∧ (t.port p.val).seqRx = (s.port p.val).seqRx ∧ (t.port p.val).rx = (s.port p.val).rx ∧ t.inbox = s.inbox
        ∧ ((s.port p.val).naked = false → (t.port p.val).nak = true)
        ∧ t.reg (rCH_CRCERR p.val) = BitVec.ofNat 32 (min ((s.reg (rCH_CRCERR p.val)).toNat + 1) 0xFFFFFFFF))
      ∧ (bad = 0 → (crc32 (b.take 252)).toNat = leNat (b.drop 252) → bitsOf 29 28 (leNat (b.take 8)) = 0 →
        (bitsOf 11 0 (leNat (b.take 8)) = (s.port p.val).seqRx → ∃ t, exec (.flitReceive p b bad corr) s = .next t
          ∧ (t.port p.val).seqRx = ((s.port p.val).seqRx + 1) % 4096 ∧ (t.port p.val).got = true ∧ (t.port p.val).naked = false
          ∧ t.reg64 (rCH_RXFLITS p.val) = min (s.reg64 (rCH_RXFLITS p.val) + 1) (2 ^ 64 - 1))
        ∧ (bitsOf 11 0 (leNat (b.take 8)) ≠ (s.port p.val).seqRx → ∃ t, exec (.flitReceive p b bad corr) s = .next t
          ∧ (t.port p.val).seqRx = (s.port p.val).seqRx ∧ (t.port p.val).rx = (s.port p.val).rx ∧ t.inbox = s.inbox
          ∧ ((s.port p.val).naked = false → (t.port p.val).nak = true)))
      ∧ (bad = 0 → (crc32 (b.take 252)).toNat = leNat (b.drop 252) → bitsOf 29 28 (leNat (b.take 8)) = 2 →
        ∃ t, exec (.flitReceive p b bad corr) s = .next t ∧ (t.port p.val).seqRx = (s.port p.val).seqRx
          ∧ if leNat ((b.drop 8).take 1) % 64 = 7 ∧ leNat ((b.drop 15).take 1) % 32 = 1 then
              t.inbox = s.inbox ++ [⟨some p.val, 4, false, parseMsg ((b.drop 8).take 240)⟩]
            else t.inbox = s.inbox ∧ t.reg (rCHC_PROTO) = BitVec.ofNat 32 (min ((s.reg (rCHC_PROTO)).toNat + 1) 0xFFFFFFFF)))
    ∧ ∀ (n : Nat) (e : Word32), e = (if s.slotOffered (n / 48) then mapGet 0 (s.port p.val).slots (n / 48) else 0) →
      (∀ f, (s.port p.val).replay[(s.port p.val).next]? = some f → ∃ t b, exec (.flitTransmit p n) s = .next t
        ∧ t.out = s.out ++ [.flit p.val b] ∧ leNat (b.take 8) % 4096 = f.seq % 4096
        ∧ (t.port p.val).replay = (s.port p.val).replay ∧ (t.port p.val).next = (s.port p.val).next + 1
        ∧ t.reg64 (rCH_TXFLITS p.val) = min (s.reg64 (rCH_TXFLITS p.val) + 1) (2 ^ 64 - 1))
      ∧ ((s.port p.val).replay[(s.port p.val).next]? = none → ∃ t b, exec (.flitTransmit p n) s = .next t
        ∧ t.out = s.out ++ [.flit p.val b]
        ∧ (∀ v, (s.port p.val).replay.length < 1600 → [0, 1, 3, 2].find? (fun v => (s.port p.val).eligible v e) = some v →
          (t.port p.val).seqTx = ((s.port p.val).seqTx + 1) % 4096
            ∧ ∃ f, (t.port p.val).replay = (s.port p.val).replay ++ [f] ∧ f.seq = (s.port p.val).seqTx ∧ f.vc = v)
        ∧ ((1600 ≤ (s.port p.val).replay.length ∨ ∀ v, v ∈ [0, 1, 3, 2] → (s.port p.val).eligible v e = false) →
          (t.port p.val).seqTx = (s.port p.val).seqTx ∧ (t.port p.val).replay = (s.port p.val).replay
            ∧ (t.port p.val).outq = (s.port p.val).outq))

/-! ## Pod time (spec/02_time_base.md, spec/09_sync.md) -/

/-- R40 to R43, R289: a link tick measures delay and offset from its echo; a slave locks after 256 good frames, and the edges of TICK_REF are
counted as its link ticks are (the model's choice, log entry 72); a step frame has the length of its command and the number that follows
the upstream module's last link tick (log entry 88), where no core runs (log entry 73) and stepping is allowed, else the module stays
unlocked and writes a record; without its port or its reference a module goes into holdover. The steering's law is free. -/
def Obligations.PodTime : Prop :=
  ∀ s : State,
    (∀ (k p : Nat) (rx : Int) (x : InMsg), s.inbox[k]? = some x → x.port = some p → p < 12 → x.msg.isLinkTick = true →
      ∃ t, exec (.linkTick k rx) s = .next t ∧ t.inbox = s.inbox.eraseIdx k ∧ (t.port p).hops = x.msg.f3 4 0
        ∧ (t.port p).tickIn.getLast? = some (x.msg.f4 16 8, rx, x.msg.f4 24 4) ∧ t.cores = s.cores
        ∧ ∀ a b c d e, (s.port p).tickTx.find? (fun e => e.1 % 2 ^ 32 = leNat (x.msg.data.take 4)) = some (a, b) →
          (s.port p).tickIn.find? (fun e => e.1 % 2 ^ 32 = leNat (x.msg.data.take 4)) = some (c, d, e) →
          (t.port p).samples = ((s.port p).samples ++ [exchange (leNat ((x.msg.data.drop 4).take 4)) b d e]).drop
              ((s.port p).samples.length - 255)
            ∧ t.fld (rCH_DELAY p) 23 0 = (meanInt ((t.port p).samples.map Prod.fst) % 2 ^ 24).toNat)
    ∧ ((s.fld (rTIME_CTRL) 1 0 = 2 ∨ s.fld (rTIME_CTRL) 1 0 = 3) → 256 ≤ s.lockRun → ∃ t, exec .timeLock s = .next t
      ∧ t.bit (rTIME_STATUS) 0 = true ∧ t.bit (rTIME_STATUS) 1 = false ∧ t.cores = s.cores)
    ∧ (∀ f len g rx txt, s.fld (rTIME_CTRL) 1 0 = 2 → s.phase = .run → 650 ≤ len → len ≤ 1950 →
      (s.port (s.fld (rTIME_CTRL) 7 4)).tickIn.getLast? = some (g, rx, txt) → f = g + 1 ∨ f = g + 2 →
      (s.bit (rTIME_CTRL) 8 = true → (∀ c, (s.core c).st = .idle ∨ (s.core c).st = .failed ∨ (s.core c).st = .off) →
        ∃ t, exec (.stepFrame f len) s = .next t ∧ t.step = some (f, len) ∧ t.bit (rTIME_STATUS) 3 = true ∧ t.cores = s.cores)
      ∧ (s.bit (rTIME_CTRL) 8 = false ∨ (∃ c, (s.core c).st = .running) →
        ∃ t, exec (.stepFrame f len) s = .next t ∧ t.step = s.step ∧ t.bit (rTIME_STATUS) 0 = false ∧ t.reg (rTIME_HOPS) = 31
          ∧ t.errPend.length = s.errPend.length + 1 ∧ t.cores = s.cores))
    ∧ (s.fld (rTIME_CTRL) 1 0 = 2 → s.portUp (s.fld (rTIME_CTRL) 7 4) = false → ∃ t, exec .holdover s = .next t
      ∧ t.bit (rTIME_STATUS) 1 = true ∧ t.bit (rTIME_STATUS) 0 = false ∧ t.reg (rTIME_HOPS) = 31 ∧ t.lockRun = 0)
    ∧ (∀ off : Int, s.fld (rTIME_CTRL) 1 0 = 3 → ∃ t, exec (.tickRefEdge off) s = .next t
      ∧ (5000 < off.natAbs → t.lockRun = 0) ∧ (off.natAbs ≤ 5000 → s.frame = s.lockFrame + 1 → t.lockRun = s.lockRun + 1)
      ∧ (off.natAbs ≤ 5000 → s.frame = s.lockFrame → s.lockRun ≠ 0 → t.lockRun = s.lockRun)
      ∧ (off.natAbs ≤ 5000 → s.frame ≠ s.lockFrame → s.frame ≠ s.lockFrame + 1 → t.lockRun = 1) ∧ ∀ o, o ≠ rTIME_TRIM → t.reg o = s.reg o)
    ∧ (s.fld (rTIME_CTRL) 1 0 = 3 → ∃ t, exec .refLost s = .next t ∧ t.bit (rTIME_STATUS) 2 = true ∧ t.bit (rTIME_STATUS) 1 = true
      ∧ t.lockRun = 0)

/-- R38, R194, R290, R291: a member's notice asks for its rest frame; at the home arrivals count for the round or the next, a full round is
released for its frame to the domain's members, and in that frame the round is released. -/
def Obligations.PodBarriers : Prop :=
  ∀ s : State,
    (∀ (k q : Nat) (x : InMsg), s.nextMsg k x → x.transit = false → x.msg.typ = 7 → x.msg.sub = 1 →
      (List.range 8).find? (fun q => (s.part q).domNow.getLsbD 17 && s.domId q = x.msg.dom) = some q → x.msg.src ≠ s.node →
      1 < s.fld (rCHC_DOMCFG q) 20 8 →
      (s.part q).notices.contains (x.msg.f4 16 8, x.msg.src) = false →
      ∃ t, exec (.domainNotice k) s = .next t ∧ t.inbox = s.inbox.eraseIdx k ∧ (x.msg.f4 16 8, x.msg.src) ∈ (t.part q).notices
        ∧ (t.part q).restReq = (s.part q).restReq ++ (if x.msg.f3 1 0 = 0 then [] else
            [(x.msg.f4 16 8 + (s.part q).lag, decide (x.msg.f3 1 1 = 1))]) ∧ t.cores = s.cores ∧ t.regs = s.regs)
    ∧ (∀ (k n : Nat) (x : InMsg), s.nextMsg k x → x.transit = false → x.msg.typ = 4 → n = x.msg.f3 5 0 → s.isPod n = true →
      s.domId (s.barPart n) = x.msg.dom →
      (x.msg.sub = 0 → s.fld (rGLB_BARPOD n) 11 0 = s.node → x.msg.f3 31 16 = mapGet 0 s.rounds (128 + n) % 65536 →
        ∃ t, exec (.podBarrierArrival k) s = .next t ∧ t.inbox = s.inbox.eraseIdx k
          ∧ t.fld (rGLB_BARPCUR n) 12 0 = (s.fld (rGLB_BARPCUR n) 12 0 + 1) % 2 ^ 13
          ∧ t.fld (rGLB_BARPCUR n) 28 16 = s.fld (rGLB_BARPCUR n) 28 16)
      ∧ (x.msg.sub = 1 → (∀ e, e ∈ s.podRel → e.1 = n → e.2.2 ≠ x.msg.f3 31 16) → s.frame < x.msg.f4 16 8 →
        ∃ t, exec (.podBarrierRelease k) s = .next t ∧ t.inbox = s.inbox.eraseIdx k
          ∧ t.podRel = s.podRel ++ [(n, x.msg.f4 16 8, x.msg.f3 31 16)] ∧ t.regs = s.regs))
    ∧ (∀ n : Fin 64, s.isPod n.val = true → s.fld (rGLB_BARPOD n.val) 11 0 = s.node → s.fld (rGLB_BARPOD n.val) 28 16 ≠ 0 →
      s.fld (rGLB_BARPOD n.val) 28 16 ≤ s.fld (rGLB_BARPCUR n.val) 12 0 →
      (∀ e, e ∈ s.podRel → e.1 = n.val → e.2.2 ≠ mapGet 0 s.rounds (128 + n.val) % 65536) →
      ∃ t, exec (.podReleaseDecision n) s = .next t ∧ t.podRel = s.podRel ++
        [(n.val, s.frame + s.fld (rGLB_BARPOD n.val) 15 12, mapGet 0 s.rounds (128 + n.val) % 65536)] ∧ t.cores = s.cores)
    ∧ (∀ (n : Fin 64) (e : Nat × Nat × Nat), e ∈ s.podRel → e.1 = n.val → e.2.2 = mapGet 0 s.rounds (128 + n.val) % 65536 →
      e.2.1 ≤ s.frame → ∃ t, exec (.podReleaseApply n) s = .next t
        ∧ mapGet 0 t.rounds (128 + n.val) = mapGet 0 s.rounds (128 + n.val) + 1
        ∧ t.fld (barStatReg (128 + n.val)) 6 0 = s.fld (barStatReg (128 + n.val)) 14 8
        ∧ t.podRel.length + 1 = s.podRel.length)

/-! ## Registers (spec/20_registers.md) -/

/-- R386 to R389, R391, R183, R284, R309, R311, R339: writes that are narrow or unaligned only set SIZEERR; the loss watch's threshold as
an RW register with its aliases; clearing and latched reads; and the registers whose write has a row of its own. HDATA's word is free (log
entry 35). -/
def Obligations.RegisterAccesses : Prop :=
  ∀ (s : State) (r : Fin 10),
    (∀ off len v, s.online r = true → (aligned off len = false ∨ len < 4) → ∃ t, exec (.registerWrite r off len v) s = .next t
      ∧ (mapGet 0 t.gstat r.val).getLsbD 1 = true ∧ { t with gstat := s.gstat } = s)
    ∧ (∀ (p : Fin 8) (v : Word32) (w : Nat) (f : Word32 → Word32), s.writable r (rPART_WTHR p.val) →
      ((w = 0 ∧ f = fun _ => v) ∨ (w = 2 ∧ f = fun x => x ||| v) ∨ (w = 4 ∧ f = fun x => x &&& ~~~v) ∨ (w = 6 ∧ f = fun x => x ^^^ v)) →
      ∃ t, exec (.registerWrite r (rPART_WTHR p.val + 0x2000 * w) 4 v.toNat) s = .next t
        ∧ t.reg (rPART_WTHR p.val) = f (s.reg (rPART_WTHR p.val)) ∧ s.regOnly t (rPART_WTHR p.val))
    ∧ (∀ (p : Fin 8), s.reach r (rPART_WSTAT p.val) false = true →
      (∃ t, exec (.clearingRead r (rPART_WSTAT p.val) 4) s = .next t ∧ t.out = s.out ++ [.value (s.reg (rPART_WSTAT p.val)).toNat]
        ∧ t.reg (rPART_WSTAT p.val) = (s.reg (rPART_WSTAT p.val) &&& ~~~0x1F) ∧ ∀ o, o ≠ rPART_WSTAT p.val → t.reg o = s.reg o)
      ∧ ∃ t, exec (.clearingRead r (rPART_WSTAT p.val + 0x4000) 4) s = .next t ∧ t.regs = s.regs
        ∧ t.out = s.out ++ [.value (s.reg (rPART_WSTAT p.val)).toNat])
    ∧ (∀ off len, aligned off len = false → ∃ t, exec (.clearingRead r off len) s = .next t ∧ { t with out := s.out } = s
      ∧ t.out = s.out ++ [.value 0])
    ∧ (s.reach r (rTIME_FRAME) false = true → ∃ t, exec (.latchedRead r (rTIME_FRAME)) s = .next t
      ∧ t.out = s.out ++ [.value (s.reg (rTIME_FRAME)).toNat] ∧ t.regs = s.regs
      ∧ ∀ u : State, u.shadows = t.shadows → u.reach r (rTIME_FRAME_HI) false = true →
        (u.readReg r (rTIME_FRAME_HI) 4).2 = (s.reg (rTIME_FRAME_HI)).toNat)
    ∧ (s.reach r (rERR_HDATA) false = true → ∃ t v, exec (.hdata r) s = .next t ∧ t.out = s.out ++ [.value v]
      ∧ t.fld (rERR_HIDX) 15 0 = (s.fld (rERR_HIDX) 15 0 + 1) % 65536 ∧ ∀ o, o ≠ rERR_HIDX → t.reg o = s.reg o)
    ∧ (∀ (c : Fin 96) (n : Fin 64) (v : Word32), s.writable r (0x10000000 + 0x100000 * c.val + kSCNT_INC n.val) →
      s.fld (rRST_STATUS) 5 4 ≠ 2 → ∃ t, exec (.scntInc r c n v) s = .next t ∧ t.regs = s.regs ∧ (∀ d, d ≠ c → t.core d = s.core d)
        ∧ (t.core c).count n.val = min ((s.core c).count n.val + v.toNat) (2 ^ 64 - 1)
        ∧ { t.core c with scnt := (s.core c).scnt, cregs := (s.core c).cregs } = s.core c)
    ∧ (s.writable r (rERR_CTRL) → s.bit (rERR_CTRL) 0 = false → 4 ≤ s.fld (rERR_CTRL) 12 8 → s.fld (rERR_CTRL) 12 8 ≤ 16 →
      ∃ t, exec (.logen r) s = .next t ∧ t.bit (rERR_CTRL) 0 = true ∧ t.reg (rERR_LOGP) = 0 ∧ t.reg (rERR_LOGC) = 0
        ∧ t.fld (rERR_CTRL) 12 8 = s.fld (rERR_CTRL) 12 8)
    ∧ (∀ v, s.writable r (rERR_LOGC) → s.stores (.logc r v) (rERR_LOGC) v 0xFFFFFFFF)
    ∧ (∀ (p : Fin 12) (i : Fin 16) (v : Word32), s.writable r (rCHC_SLOT p.val i.val) → bitsOf 18 16 v.toNat ≤ 4 →
      bitsOf 23 20 v.toNat < 2 ^ bitsOf 18 16 v.toNat → s.stores (.slotConfig r p i v) (rCHC_SLOT p.val i.val) v 0xF7FFF1)
    ∧ (∀ p : Fin 8, (s.writable r (rPART_CTRL p.val) → ∃ t, exec (.inval r p) s = .next t ∧ t.bit (rPART_STATUS p.val) 13 = true
        ∧ s.regOnly t (rPART_STATUS p.val))
      ∧ ∃ t, exec (.invalComplete p) s = .next t ∧ t.bit (rPART_STATUS p.val) 13 = false ∧ s.regOnly t (rPART_STATUS p.val))
    ∧ ∀ (p : Fin 8) (q : Fin 4) (n : Fin 16) (as : List Nat), s.writable r (rPART_RCFG p.val q.val) → 1 ≤ n.val → n.val ≤ 12 →
      s.bit (rPART_RCFG p.val q.val) 31 = false → s.clean → (s.translateN p.val (s.reg64 (rPART_DADDR p.val q.val)) 8 false).2 = .ok as →
      (∀ a, a ∈ as → (s.hbmKeyOf a).isSome = true) → (s.devReadL as).2.2 = false →
      ∃ t, exec (.ringEnable r p q n) s = .next t ∧ t.bit (rPART_RCFG p.val q.val) 31 = true ∧ t.fld (rPART_RCFG p.val q.val) 3 0 = n.val
        ∧ t.ring p.val q.val = ⟨leNat (s.devReadL as).2.1, leNat (s.devReadL as).2.1, []⟩ ∧ t.hbm = s.hbm ∧ t.cores = s.cores

/-- R394, R395 and the registers' own rules (R13, R40, R228, R240, R264, R265, R277, R294, R306, R329, R347, R361, R423): a guarded write
that takes effect stores its value, or does what its register says. -/
def Obligations.GuardedWrites : Prop :=
  ∀ (s : State) (r : Fin 10),
    (∀ p : Fin 12, (s.accepts r (rCH_CTRL p.val) 1 3 → s.bit (rCH_CTRL p.val) 0 = false →
        s.stores (.portEnable r p) (rCH_CTRL p.val) 1 3)
      ∧ (s.accepts r (rCH_CTRL p.val) 0 3 → s.bit (rCH_CTRL p.val) 0 = true → ∃ t, exec (.portDisable r p) s = .next t
        ∧ t.bit (rCH_CTRL p.val) 0 = false ∧ t.portSt p.val = 0 ∧ (s.portSt p.val ≠ 0 → (t.port p.val).replay = []
          ∧ (t.port p.val).outq = [] ∧ (t.port p.val).seqTx = 0 ∧ (t.port p.val).seqRx = 0) ∧ t.cores = s.cores)
      ∧ (s.writable r (rCH_CTRL p.val) → s.bit (rCH_CTRL p.val) 1 = false → s.bit (rCH_CTRL p.val) 0 = true →
        s.portUp p.val = true → ∃ t, exec (.retrain r p) s = .next t ∧ t.portSt p.val = 1 ∧ t.reg (rCH_CTRL p.val) = s.reg (rCH_CTRL p.val)
          ∧ (t.port p.val).replay = (s.port p.val).replay ∧ (t.port p.val).seqTx = (s.port p.val).seqTx ∧ t.cores = s.cores))
    ∧ (∀ n : BitVec 12, s.accepts r (rCHC_NODEID) (n.setWidth 32) 0xFFF →
      ((∀ p, p < 12 → s.portSt p = 0) → s.stores (.nodeid r n) (rCHC_NODEID) (n.setWidth 32) 0xFFF)
      ∧ ((∃ p, p < 12 ∧ s.portSt p ≠ 0) → ∃ t, exec (.nodeid r n) s = .next t ∧ t.bit (rCHC_STATUS) 0 = true ∧ s.regOnly t (rCHC_STATUS)))
    ∧ (∀ n : BitVec 12, s.accepts r (rCHC_RSTSEND) (setBits 31 31 1 (n.setWidth 32)) 0x80000FFF → ∃ t, exec (.rstsend r n) s = .next t
      ∧ t.bit (rCHC_RSTSEND) 31 = false ∧ t.fld (rCHC_RSTSEND) 11 0 = n.toNat ∧ s.sends t s.inbox (ctrlReset s.node n.toNat))
    ∧ (∀ (k : Fin 8) (c : Instr) (v : Word32) (split : Bool),
      (c = .commit r k ∧ v = 1 ∧ split = false ∨ c = .splitall r k ∧ v = 3 ∧ split = true) → s.accepts r (rUCB_cl_GANGCTL k.val) v 3 →
      ∃ t, exec c s = .next t ∧ mapFind t.gangPend k.val = some split ∧ t.bit (rUCB_cl_GANGSTAT k.val) 24 = true ∧ t.gang = s.gang
        ∧ t.cores = s.cores ∧ ∀ o, o ≠ rUCB_cl_GANGSTAT k.val → t.reg o = s.reg o)
    ∧ (∀ v : Word32, s.accepts r (rTIME_CTRL) v 0x1F3 →
      (bitsOf 1 0 v.toNat = 2 ∧ 11 < bitsOf 7 4 v.toNat → ∃ t, exec (.timeCtrl r v) s = .next t ∧ t.bit (rTIME_STATUS) 5 = true
        ∧ s.regOnly t (rTIME_STATUS))
      ∧ (bitsOf 1 0 v.toNat ≠ 2 ∨ bitsOf 7 4 v.toNat ≤ 11 → ∃ t, exec (.timeCtrl r v) s = .next t
        ∧ t.reg (rTIME_CTRL) = ((s.reg (rTIME_CTRL) &&& ~~~0x1F3) ||| (v &&& 0x1F3)) ∧ t.cores = s.cores
        ∧ (bitsOf 1 0 v.toNat ≠ s.fld (rTIME_CTRL) 1 0 → t.lockRun = 0 ∧ t.bit (rTIME_STATUS) 0 = decide (bitsOf 1 0 v.toNat % 2 = 1)
          ∧ t.reg (rTIME_HOPS) = if bitsOf 1 0 v.toNat % 2 = 1 then 0 else 31)))
    ∧ (∀ (k : Fin 16) (v : Word32) (bad : Prop), s.accepts r (rGLB_SLWIN k.val) v 0x80007F7F →
      bad = (96 < bitsOf 6 0 v.toNat + bitsOf 14 8 v.toNat ∨ (bitsOf 14 8 v.toNat = 0 ∧ v.getLsbD 31 = true)
        ∨ ∃ j, j < 16 ∧ j ≠ k.val ∧ s.bit (rGLB_SLWIN j) 31 = true ∧ v.getLsbD 31 = true
          ∧ s.fld (rGLB_SLWIN j) 6 0 < bitsOf 6 0 v.toNat + bitsOf 14 8 v.toNat
          ∧ bitsOf 6 0 v.toNat < s.fld (rGLB_SLWIN j) 6 0 + s.fld (rGLB_SLWIN j) 14 8) →
      (¬bad → s.stores (.slwin r k v) (rGLB_SLWIN k.val) v 0x80007F7F)
      ∧ (bad → ∃ t, exec (.slwin r k v) s = .next t ∧ t.reg (rGLB_SLWIN k.val) = setBits 16 16 1 (s.reg (rGLB_SLWIN k.val))
        ∧ s.regOnly t (rGLB_SLWIN k.val)))
    ∧ (∀ (n : Fin 12) (v : Word32), s.accepts r (rMC_INJCTL n.val) v 0x80007FFF → bitsOf 7 2 v.toNat ≤ 35 → bitsOf 13 8 v.toNat ≤ 35 →
      (bitsOf 1 0 v.toNat = 2 → bitsOf 7 2 v.toNat ≠ bitsOf 13 8 v.toNat) → s.stores (.injectArm r n v) (rMC_INJCTL n.val) v 0x80007FFF)
    ∧ (∀ v : Word32, s.accepts r (rERR_INJARR) v 0x800003FF → bitsOf 6 0 v.toNat < 96 → bitsOf 9 7 v.toNat ≤ 4 →
      (s.core (coreOf (bitsOf 6 0 v.toNat))).logicalOf (bitsOf 9 7 v.toNat) ≠ 0xFF → s.stores (.injarr r v) (rERR_INJARR) v 0x800003FF)
    ∧ (∀ (p : Fin 8) (v : Word32), s.accepts r (rPART_CFG p.val) v 0x7FFF → ∃ t, exec (.partCfg r p v) s = .next t
      ∧ t.reg (rPART_CFG p.val) = ((s.reg (rPART_CFG p.val) &&& ~~~0x7FFF) ||| (v &&& 0x7FFF)) ∧ t.bit (rPART_STATUS p.val) 8 = true
      ∧ t.clusters p.val = s.clusters p.val ∧ t.cores = s.cores)
    ∧ (∀ (m : Fin 3) (v : Word32), s.accepts r (rDBG_HALT m.val) v 0xFFFFFFFF → ∃ t, exec (.dbgHaltWrite r m v) s = .next t ∧ t.gang = s.gang
      ∧ (∀ i k, i < 32 → (s.reg (rDBG_HALT m.val)).getLsbD i = false → v.getLsbD i = true → k ∈ s.members (coreOf (32 * m.val + i)) →
        t.haltBit k = true ∧ (t.core k).steps = some 0)
      ∧ (∀ k i, i < 32 → (s.reg (rDBG_HALT m.val)).getLsbD i = true → v.getLsbD i = false → k ∈ s.members (coreOf (32 * m.val + i)) →
        (∀ j, j < 32 → coreOf (32 * m.val + j) ∈ s.members k → ¬((s.reg (rDBG_HALT m.val)).getLsbD j = false ∧ v.getLsbD j = true)) →
        t.haltBit k = false ∧ t.core k = s.core k)
      ∧ ∀ k, (∀ j, j < 32 → coreOf (32 * m.val + j) ∈ s.members k → (s.reg (rDBG_HALT m.val)).getLsbD j = v.getLsbD j) →
        t.haltBit k = s.haltBit k ∧ t.core k = s.core k)
    ∧ (∀ len, s.accepts r (rSEC_SCRUBCTL) (BitVec.ofNat 32 (len + 2 ^ 31)) 0x800FFFFF → 0 < len → len < 2 ^ 20 →
      s.bit (rSEC_SCRUBSTAT) 0 = false → s.reg64 (rSEC_SCRUBBASE) + len * 2 ^ 21 ≤ hbmEnd → ∃ t, exec (.scrubGo r len) s = .next t
        ∧ t.scrub = some (s.reg64 (rSEC_SCRUBBASE), len * 2 ^ 21) ∧ t.bit (rSEC_SCRUBSTAT) 0 = true ∧ t.hbm = s.hbm ∧ t.cores = s.cores)
    ∧ ∀ (c : Option (Fin 10) → Nat → Nat → Instr) (cmd arg tag : Nat),
      (c = .mbSetSus ∧ cmd = 1 ∨ c = .mbSetPeak ∧ cmd = 2 ∨ c = .mbSetReserve ∧ cmd = 3 ∨ c = .mbRelease ∧ cmd = 4) →
      (s.writable r (rPWR_MBARG) → s.accepts r (rPWR_MBCMD) (BitVec.ofNat 32 (cmd + 2 ^ 16 * (tag % 256))) 0xFF000F →
        (s.bit (rPWR_MBSTAT) 0 = false → ∃ t, exec (c (some r) arg tag) s = .next t ∧ t.bit (rPWR_MBSTAT) 0 = true
          ∧ t.power = { s.power with requests := s.power.requests ++ [(false, cmd, arg % 2 ^ 32, tag % 256)] } ∧ t.cores = s.cores)
        ∧ (s.bit (rPWR_MBSTAT) 0 = true → ∃ t, exec (c (some r) arg tag) s = .next t ∧ t.fld (rPWR_MBSTAT) 7 4 = 3
          ∧ t.fld (rPWR_MBSTAT) 15 8 = tag % 256 ∧ t.power = s.power ∧ t.cores = s.cores))
      ∧ (s.phase.alive = true → s.phase ≠ .recovery → ∃ t, exec (c none arg tag) s = .next t ∧ t.bit (rPWR_MBSTAT) 0 = true
        ∧ t.power = { s.power with requests := s.power.requests ++ [(true, cmd, arg, tag)] } ∧ t.cores = s.cores)

/-! ## Resets, power states and start-up (spec/18_reset.md) -/

/-- R307, R364 to R366, R375, R407: the sources of a reset and the requests of a power state; after a power failure no power state is entered
and no delayed reset is performed. -/
def Obligations.ResetsAndPowerStates : Prop :=
  ∀ s : State,
    (∀ r : Fin 10,
      (s.accepts r (rRST_CTRL) 1 3 → s.power.failed = false →
        (s.nvPulse = false → ∃ t, exec (.sysrst r) s = .next t ∧ s.restarted t 0x20)
        ∧ (s.nvPulse = true → ∃ t, exec (.sysrst r) s = .next t ∧ t.rstDelayed = some (s.rstDelayed.getD 0 ||| 0x20)
          ∧ t.phase = s.phase ∧ t.cores = s.cores ∧ t.regs = s.regs))
      ∧ (s.accepts r (rRST_CTRL) 2 3 → ∃ t, exec (.corerst r) s = .next t ∧ t.reg (rRST_CAUSE) = (s.reg (rRST_CAUSE) ||| 0x40)
        ∧ (s.phase = .run → t.coreRst = some .asked) ∧ t.cores = s.cores ∧ ∀ o, o ≠ rRST_CAUSE → t.reg o = s.reg o)
      ∧ (∀ p : Fin 8, s.accepts r (rPART_CTRL p.val) 1 1 → ∃ t, exec (.partReset r p) s = .next t
        ∧ t.reg (rRST_CAUSE) = (s.reg (rRST_CAUSE) ||| BitVec.ofNat 32 (2 ^ 7 + 2 ^ (16 + p.val)))
        ∧ (s.phase = .run → s.coreRst = none → (t.part p.val).rst = some .asked) ∧ t.cores = s.cores
        ∧ ∀ o, o ≠ rRST_CAUSE → t.reg o = s.reg o)
      ∧ (s.accepts r (rRST_PSREQ) 0x80000000 0x80000003 → s.power.failed = false →
        (s.phase = .run → s.fld (rRST_STATUS) 5 4 = 1 ∨ s.fld (rRST_STATUS) 5 4 = 2 →
          ∃ t, exec (.psreqS0 r) s = .next t ∧ t.psPend = some 0 ∧ t.cores = s.cores)
        ∧ (s.phase = .s3 → s.pwrEn = true → ∃ t, exec (.psreqS0 r) s = .next t ∧ t.phase = .boot))
      ∧ (s.accepts r (rRST_PSREQ) 0x80000001 0x80000003 → s.power.failed = false → s.phase = .run → s.fld (rRST_STATUS) 5 4 = 0 →
        ∃ t, exec (.psreqS1 r) s = .next t ∧ t.cores = s.cores
          ∧ if (∀ c, (s.core c).st.movable = true) then t.psPend = some 1 else t.psPend = s.psPend ∧ t.bit (rRST_STATUS) 8 = true)
      ∧ (s.accepts r (rRST_PSREQ) 0x80000002 0x80000003 → s.power.failed = false → s.phase = .run → s.fld (rRST_STATUS) 5 4 ≤ 1 →
        ∃ t, exec (.psreqS2 r) s = .next t ∧ t.cores = s.cores
          ∧ ((∀ c, (s.core c).st.movable = true) → (∀ p, p < 8 → s.bushelPending p = false) → s.reqs = [] → t.psPend = some 2)
          ∧ (((∃ c, (s.core c).st.movable = false) ∨ (∃ p, p < 8 ∧ s.bushelPending p = true) ∨ s.reqs ≠ []) →
            t.psPend = s.psPend ∧ t.bit (rRST_STATUS) 8 = true))
      ∧ (s.accepts r (rRST_PSREQ) 0x80000003 0x80000003 → s.power.failed = true → ∃ t, exec (.psreqS3 r) s = .next t
        ∧ t.bit (rRST_STATUS) 8 = true ∧ t.phase = s.phase ∧ t.power = s.power ∧ t.cores = s.cores)
      ∧ (s.accepts r (rRST_PSREQ) 0x80000003 0x80000003 → s.power.failed = false → s.phase = .run → s.fld (rRST_STATUS) 5 4 ≤ 1 →
        (∀ c, (s.core c).st.movable = true) → ∃ t, exec (.psreqS3 r) s = .next t ∧ t.phase = .s3 ∧ t.fld (rRST_STATUS) 5 4 = 3
          ∧ t.fld (rRST_STATUS) 7 6 = s.fld (rRST_STATUS) 5 4 ∧ ∀ c, (t.core c).st = .off ∨ (t.core c).st = .failed))
    ∧ (∀ c mask, (c = .hotReset ∧ mask = 0x4 ∧ s.fld (rCXL_LINK) 3 0 ≠ 0 ∨ c = .perstFall ∧ mask = 0x2 ∨ c = .watchdog ∧ mask = 0x8) →
      s.phase.alive = true → s.power.failed = false → s.nvPulse = false →
      ∃ t, exec c s = .next t ∧ s.restarted t mask ∧ (c = .perstFall → t.perst = false))
    ∧ (∃ t, exec .perstRise s = .next t ∧ t = { s with perst := true })
    ∧ (∀ (k : Nat) (x : InMsg), s.nextMsg k x → x.transit = false → x.msg.typ = 8 → x.msg.sub = 0 → x.msg.f3 7 0 = 2 →
      (s.bit (rCHC_RSTSRC) 31 = true → s.fld (rCHC_RSTSRC) 11 0 = x.msg.src → ∃ t, exec (.ctrlReset k) s = .next t
        ∧ t.inbox = s.inbox.eraseIdx k ∧ t.reg (rRST_CAUSE) = (s.reg (rRST_CAUSE) ||| 0x100)
        ∧ (s.phase = .run → t.coreRst = some .asked) ∧ t.cores = s.cores)
      ∧ ((s.bit (rCHC_RSTSRC) 31 = false ∨ s.fld (rCHC_RSTSRC) 11 0 ≠ x.msg.src) → ∃ t, exec (.ctrlReset k) s = .next t
        ∧ t.inbox = s.inbox.eraseIdx k ∧ t.reg (rRST_CAUSE) = s.reg (rRST_CAUSE) ∧ t.coreRst = s.coreRst
        ∧ t.reg (rCHC_PROTO) = BitVec.ofNat 32 (min ((s.reg (rCHC_PROTO)).toNat + 1) 0xFFFFFFFF)))
    ∧ (s.nvPulse = true →
      (s.rstDelayed = none → exec .nvWritePulseEnd s = .next { s with nvPulse := false })
      ∧ ∀ m, s.rstDelayed = some m →
        (s.power.failed = true → exec .nvWritePulseEnd s = .next { s with nvPulse := false, rstDelayed := none })
        ∧ (s.power.failed = false → ∃ t, exec .nvWritePulseEnd s = .next t ∧ t.bit (rRST_STATUS) 3 = true ∧ t.nvPulse = false
        ∧ t.rstDelayed = none ∧ s.restarted { t with regs := mapErase t.regs (rRST_STATUS) } m))
    ∧ (∃ t, exec .pwrEnRise s = .next t ∧ t.pwrEn = true
      ∧ t.phase = (if s.phase = .s3 ∧ s.power.failed = false then .boot else s.phase) ∧ t.regs = s.regs
      ∧ t.cores = s.cores)
    ∧ (s.phase = .run → exec .pwrEnFall s = .next { s with pwrEn := false, power := { s.power with stopAll := true } })
    ∧ (s.phase = .memory ∨ s.phase = .start → s.power.failed = false → ∃ t, exec .pwrEnFall s = .next t ∧ t.phase = .s3 ∧ t.pwrEn = false
      ∧ t.fld (rRST_STATUS) 5 4 = 3)
    ∧ (s.psPend = some 2 → s.fld (rRST_STATUS) 5 4 < 2 → s.power.failed = false → ∃ t, exec .s2EntryComplete s = .next t ∧ t.fld (rRST_STATUS) 5 4 = 2
      ∧ t.fld (rRST_STATUS) 7 6 = s.fld (rRST_STATUS) 5 4 ∧ t.psPend = none ∧ (∀ p, p < 12 → t.portSt p = 0)
      ∧ (∀ n, n < 12 → t.bit (rMC_STATUS n) 1 = true) ∧ t.hbm = s.hbm
      ∧ ∀ c, (t.core c).st = if (s.core c).st = .failed then .failed else .off)
    ∧ (s.psPend = some 0 → s.fld (rRST_STATUS) 5 4 = 2 → s.power.failed = false → ∃ t, exec .s2ExitComplete s = .next t
      ∧ t.fld (rRST_STATUS) 5 4 = 0 ∧ t.fld (rRST_STATUS) 7 6 = 2 ∧ t.psPend = none ∧ (∀ n, n < 12 → t.bit (rMC_STATUS n) 1 = false)
      ∧ t.hbm = s.hbm ∧ (s.coreRst ≠ none → t.coreRst = some .held)
      ∧ (s.coreRst = none → s.fatal = false → ∀ c, (s.core c).st = .off → (s.core c).failPend = false →
        (∀ p, p < 8 → (s.part p).scrubCl.contains (c.val / 12) = false) → (t.core c).st = .idle ∧ (t.core c).lm = Store.zero))

/-- R306, R316, R360, R367: a core-level reset stops its partitions and ends their launches, waits for the scrub of its compute, and then
leaves its cores idle; a cluster that leaves a partition is scrubbed before another takes it. -/
def Obligations.CoreResets : Prop :=
  ∀ s : State,
    (∀ who : Nat → Bool, (s.coreRst = some .asked ∧ who = (fun _ => true)
        ∨ s.coreRst ≠ some .asked ∧ who = (fun p => decide ((s.part p).rst = some .asked)) ∧ ∃ p, p < 8 ∧ who p = true) →
      (∀ p q, p < 8 → q < 8 → p ≠ q → s.clusters p &&& s.clusters q = 0) →
      ∃ t, exec .coreResetEntry s = .next t
        ∧ t.cycle = (match s.step with | some (_, len) => 1280 + len - 1300 | none => 1280) ∧ t.bit (rSEC_STATUS) 6 = true
        ∧ (s.coreRst = some .asked → t.coreRst = some .stopping ∧ ∀ p, p < 8 → (t.part p).rst = none)
        ∧ ∀ p, p < 8 →
          (who p = true → (t.part p).launches = [] ∧ (t.part p).reports.length = (s.part p).reports.length + (s.part p).launches.length
            ∧ (s.coreRst ≠ some .asked → (t.part p).rst = some .stopping)
            ∧ (s.isStopped p = false → ∀ c, s.inPart p c = true → (s.core c).st.inService = true → (t.core c).st = .stopped))
          ∧ (who p = false → ∀ c, s.inPart p c = true → t.core c = s.core c))
    ∧ (s.coreRst = some .held → s.bit (rRST_STATUS) 2 = false → s.fld (rRST_STATUS) 5 4 < 2 →
      ∃ t, exec .computeScrubDone s = .next t ∧ t.coreRst = some .scrubbed
      ∧ t.regs = s.regs ∧ t.hbm = s.hbm ∧ ∀ c, (s.core c).st ≠ .failed → (t.core c).st = .inReset ∧ (t.core c).lm = Store.zero
        ∧ (t.core c).opnd = Opnd.zero ∧ (t.core c).wbuf = Store.zero ∧ (t.core c).acc = Rows.zero 512)
    ∧ (∀ p, p < 8 → s.coreRst = none → (s.part p).rst = some .held → ∃ t, exec .computeScrubDone s = .next t
      ∧ (t.part p).rst = some .scrubbed ∧ (∀ c, s.inPart p c = true → (s.core c).st ≠ .failed → (t.core c).lm = Store.zero
        ∧ (t.core c).opnd = Opnd.zero)
      ∧ ∀ c, (∀ q, q < 8 → s.inPart q c = true → (s.part q).rst ≠ some .held) → t.core c = s.core c)
    ∧ (s.coreRst = some .scrubbed → s.bit (rRST_STATUS) 2 = false → s.fatal = false → ∃ t, exec .coreResetRelease s = .next t
      ∧ t.coreRst = none ∧ t.cycle = (match s.step with | some (_, len) => 1281 + len - 1300 | none => 1281)
      ∧ ((∀ p, p < 8 → (s.part p).rst = none) → t.bit (rSEC_STATUS) 6 = false)
      ∧ ∀ c, (s.core c).st = .inReset → (s.core c).failPend = false →
        (∀ p, p < 8 → (s.part p).scrubCl.contains (c.val / 12) = false) → (t.core c).st = .idle ∧ (t.core c).lm = (s.core c).lm)
    ∧ ∀ p k : Fin 8, (s.part p.val).scrubCl.contains k.val = true → ∃ t, exec (.clusterScrubDone p k) s = .next t
      ∧ (t.part p.val).scrubCl = (s.part p.val).scrubCl.filter (· ≠ k.val)
      ∧ (∀ c, c.val / 12 ≠ k.val → t.core c = s.core c)
      ∧ (s.coreRst = none → s.fatal = false → (∀ q, q < 8 → q ≠ p.val → (s.part q).scrubCl.contains k.val = false) →
        ∀ c : Fin 96, c.val / 12 = k.val → (s.core c).st ≠ .failed → (s.core c).failPend = false →
          (t.core c).st = .idle ∧ (t.core c).lm = Store.zero ∧ (t.core c).opnd = Opnd.zero)

/-- R348 to R351, R368 to R373, R404: start-up runs phase by phase: power-on, the boot ROM and its choice of slot, the trims, the compute
firmware, the rails, HBM, and the first tick. -/
def Obligations.StartUp : Prop :=
  ∀ s : State,
    (s.phase = .off → exec .softStart s = .next { s with phase := .charging })
    ∧ (s.phase = .charging → ∃ t, exec .bulkCharged s = .next t ∧ t.phase = .boot ∧ (∀ o, t.reg o = regReset o)
      ∧ (∀ c, (t.core c).st = .off) ∧ ∀ v : NvCopy, v = (if (s.nv[0]).good then s.nv[0] else s.nv[1]) → t.evlog = v.evlog
        ∧ ∀ n, n < 12 → t.histGet (hkSoft n) = 0 ∧ t.histGet (hkHard n) = mapGet 0 v.hist (hkHard n) + mapGet 0 v.hist (hkSoft n))
    ∧ (s.phase = .boot → ∀ pref ok other, pref = ((s.sec.options[0]).get.getD 0).toNat % 2 → ok = s.sec.imageOk (s.sec.slot pref).sfw 1 →
      other = s.sec.imageOk (s.sec.slot (1 - pref)).sfw 1 → ∃ t, exec .bootRom s = .next t ∧
        if ok = true ∧ s.bit (rSEC_STATUS) 3 = false then t.phase = .trims ∧ t.sec.running = some (s.sec.slot pref)
          ∧ t.fld (rSEC_STATUS) 2 2 = pref ∧ t.bit (rSEC_STATUS) 3 = false
        else if other = true then t.phase = .trims ∧ t.sec.running = some (s.sec.slot (1 - pref)) ∧ t.bit (rSEC_STATUS) 3 = true
        else t.phase = .recovery ∧ t.regs = s.regs)
    ∧ (∀ n : BitVec 8, s.phase = .trims →
      (badOption s.sec.options = none → ∃ t, exec (.trimLoad none n) s = .next t ∧ t.phase = .sfw ∧ t.bit (rTRIM_STATUS) 0 = true
        ∧ t.fld (rTRIM_STATUS) 15 8 = n.toNat ∧ t.fld (rTRIM_FAILS) 1 0 = 0
        ∧ ∀ (i : Fin 16) (v : Word32), (s.sec.options[i]).get = some v → t.reg (rTRIM_OPT i.val) = v ∧ t.sec.options[i] = OptWord.both v)
      ∧ (∀ b : Fin 256, badOption s.sec.options = none →
        (2 ≤ s.fld (rTRIM_FAILS) 1 0 → ∃ t, exec (.trimLoad (some b) n) s = .next t ∧ t.phase = .sfw
          ∧ t.bit (rTRIM_STATUS) 1 = true ∧ t.bit (rSEC_STATUS) 4 = true ∧ t.fld (rTRIM_STATUS) 23 16 = b.val)
        ∧ (s.fld (rTRIM_FAILS) 1 0 < 2 → s.nvPulse = false → s.power.failed = false → ∃ t, exec (.trimLoad (some b) n) s = .next t
          ∧ t.phase = .boot ∧ t.fld (rTRIM_FAILS) 1 0 = s.fld (rTRIM_FAILS) 1 0 + 1 ∧ t.bit (rRST_CAUSE) 9 = true)))
    ∧ (∀ r : FwSlot, s.phase = .sfw → s.sec.running = some r →
      (s.sec.imageOk r.cpfw 2 = true → ∃ t, exec .sfwPhase s = .next t
        ∧ t.phase = (if s.bit (rTRIM_STATUS) 1 then .safe else .rails) ∧ t.sec.cdi0 = [])
      ∧ (s.sec.imageOk r.cpfw 2 = false → ∃ t, exec .sfwPhase s = .next t ∧ t.sec.running = none
        ∧ t.phase = (if s.bit (rSEC_STATUS) 3 then .recovery else .boot) ∧ t.bit (rSEC_STATUS) 3 = true))
    ∧ (s.phase = .rails → s.pwrEn = true →
      exec .computeRails s = .next { s with phase := .memory, out := s.out ++ [.pin "PG" true] })
    ∧ (s.phase = .memory → ∃ t, exec .hbmTraining s = .next t ∧ t.phase = .start ∧ t.hbm = Store.zero ∧ t.hbmPois = [] ∧ t.damage = []
      ∧ (∀ n, n < 12 → t.bit (rMC_STATUS n) 0 = true) ∧ ∀ c, t.core c = { s.core c with lm := Store.zero, lmPois := [] })
    ∧ (∀ r : FwSlot, s.phase = .start → s.sec.running = some r → ∃ t, exec .firstTick s = .next t ∧ t.phase = .run ∧ t.frame = 0
      ∧ t.cycle = 0 ∧ t.sec.otp = max s.sec.otp (min (imgSvn r.sfw) (imgSvn r.cpfw))
      ∧ ∀ c, (t.core c).st = if (s.core c).st = .off ∧ s.fatal = false then .idle else (s.core c).st)

/-! ## Power and heat (spec/15_power.md) -/

/-- R318, R320, R321, R326, R329: the Hogshead takes each frame's balance; the governor asks for rest while credit, peak or a lowered limit calls
for it, and accepted changes take effect at its decision; the mailbox answers by Table 15-4. -/
def Obligations.PowerGovernor : Prop :=
  ∀ s : State,
    (∀ p vin iin len : Nat, s.phase = .run → len = (match s.step with | some (_, l) => l | none => 1300) →
      ∃ t, exec (.hogsheadUpdate p vin iin) s = .next t ∧ t.cores = s.cores
        ∧ t.power.hog = min hogCap (s.power.hog + (1000 * (s.fld (rPWR_LIMITS) 15 0 : Int) - p) * len)
        ∧ t.power.wear = s.power.wear + (if 2400000 < p then 1 else 0) ∧ t.power.hist = (p :: s.power.hist).take 64
        ∧ t.fld (rPWR_POWER) 15 0 = p / 1000 % 65536 ∧ t.fld (rPWR_INPUT) 15 0 = vin % 65536 ∧ t.fld (rPWR_INPUT) 31 16 = iin % 65536
        ∧ t.bit (rPWR_STATUS) 0 = decide ((s.fld (rPWR_HOG) 31 16 : Int) * hogMJ ≤ t.power.hog))
    ∧ (s.phase = .run → s.power.accepted = [] → ∀ rest : Bool, (rest = true ↔
        s.power.hog < (s.fld (rPWR_HOG) 31 16 : Int) * hogMJ ∨ 64 * s.peakEff.1 < s.power.hist.sum
          ∨ (s.fld (rPWR_EFF) 15 0 < s.fld (rPWR_LIMITS) 15 0 ∧ 64000 * s.fld (rPWR_EFF) 15 0 < s.power.hist.sum)) →
      ∃ t, exec .governorDecision s = .next t ∧ t.cycle = (match s.step with | some (_, len) => 1284 + len - 1300 | none => 1284)
        ∧ t.cores = s.cores ∧ t.bit (rPWR_STATUS) 1 = rest
        ∧ t.reg64 (rPWR_RESTREQ) = (if rest then min (s.reg64 (rPWR_RESTREQ) + 1) (2 ^ 64 - 1) else s.reg64 (rPWR_RESTREQ))
        ∧ ∀ p, p < 8 → (t.part p).reqRest = ((rest && (s.part p).cfgNow.getLsbD 8) || (s.part p).reqRest))
    ∧ (∀ cmd w, s.phase = .run → s.power.accepted = [(cmd, w)] → w < 65536 → ∃ t, exec .governorDecision s = .next t ∧ t.power.accepted = []
      ∧ t.power.hog = s.power.hog ∧ (cmd = 1 → t.fld (rPWR_LIMITS) 15 0 = w) ∧ (cmd = 2 → t.fld (rPWR_LIMITS) 31 16 = w)
      ∧ (cmd = 3 → t.fld (rPWR_HOG) 31 16 = w))
    ∧ (∀ (pldm : Bool) (cmd arg tag res : Nat) (rest : List (Bool × Nat × Nat × Nat)), s.power.requests = (pldm, cmd, arg, tag) :: rest →
      s.power.accepted = [] → 1 ≤ cmd → cmd ≤ 4 →
      ((cmd = 1 → (res = 0 ↔ 600 ≤ arg ∧ arg ≤ s.fld (rPWR_LIMITS) 31 16) ∧ (res = 0 ∨ res = 2))
        ∧ (cmd = 2 → (res = 0 ↔ s.fld (rPWR_LIMITS) 15 0 ≤ arg ∧ arg ≤ 2800) ∧ (res = 0 ∨ res = 2))
        ∧ (cmd = 3 → (res = 0 ↔ 10 ≤ arg ∧ arg ≤ 1000) ∧ (res = 0 ∨ res = 2))
        ∧ (cmd = 4 → arg = 0 ∧ (res = 0 ↔ s.bit (rPWR_STATUS) 3 = true
            ∧ (s.fld (rPWR_TEMP) 11 0 ≤ 680 ∨ 2048 ≤ s.fld (rPWR_TEMP) 11 0)) ∧ (res = 0 ∨ res = 4))) →
      ∃ t, exec .mailboxResult s = .next t ∧ t.power.requests = rest ∧ t.bit (rPWR_MBSTAT) 0 = decide (rest ≠ [])
        ∧ t.power.accepted = (if res = 0 ∧ cmd ≠ 4 then [(cmd, arg)] else []) ∧ t.cores = s.cores
        ∧ t.power.release = (decide (res = 0 ∧ cmd = 4) || s.power.release)
        ∧ (pldm = false → t.fld (rPWR_MBSTAT) 7 4 = res ∧ t.fld (rPWR_MBSTAT) 15 8 = tag % 256)
        ∧ (pldm = true → t.out = s.out ++ [.pldm "PWR" (res + 2 ^ 8 * tag)]))
    ∧ (7200000000000 ≤ s.power.wear → s.phase.alive = true →
      (s.rstDelayed = none → ∃ t, exec .wearCap s = .next t ∧ t.bit (rPWR_STATUS) 4 = true ∧ t.power = { s.power with capNv := true }
        ∧ t.fld (rPWR_EFF) 31 16 ≤ 2400 ∧ t.cores = s.cores)
      ∧ (s.rstDelayed ≠ none → exec .wearCap s = .next s))
    ∧ (s.phase.alive = true → s.nvPulse = false → exec .wearWrite s = .next
      { s with nvPulse := true, power := { s.power with wearNv := s.power.wear } })

/-- R323, R324, R327, R328: the frame's samples set HOT, PSUS_eff follows it, a trip stops compute until it is released, and the input's
excursions and failures. -/
def Obligations.HeatAndInput : Prop :=
  ∀ s : State,
    (∀ (tj : Vector Int 8) (ts : Vector Int 12) (v : Vector Nat 2) (hot : Bool), s.phase = .run →
      (hot = true ↔ (∃ i : Fin 8, 736 ≤ tj[i]) ∨ ∃ i : Fin 12, 760 ≤ ts[i]) →
      ∃ t, exec (.thermalSample tj ts v) s = .next t ∧ t.cores = s.cores ∧ t.dieVolt = v ∧ t.bit (rPWR_STATUS) 2 = hot
        ∧ (∀ n : Fin 12, t.bit (rMC_STATUS n.val) 3 = decide (680 < ts[n]))
        ∧ t.power.hotFr = s.power.hotFr + (if hot then 1 else 0)
        ∧ t.reg (rPWR_THROTFR) = (if hot then BitVec.ofNat 32 (min ((s.reg (rPWR_THROTFR)).toNat + 1) 0xFFFFFFFF)
            else s.reg (rPWR_THROTFR))
        ∧ ((∃ i : Fin 8, 840 ≤ tj[i]) → t.power.hot105 = s.power.hot105 + 1) ∧ ((∀ i : Fin 8, tj[i] < 840) → t.power.hot105 = 0)
        ∧ t.errPend.length = s.errPend.length + (if hot = true ∧ s.power.hotNow ≠ some true then 1 else 0))
    ∧ (1000 ≤ s.power.hotFr → ∃ t, exec .psusEffStep s = .next t ∧ t.fld (rPWR_EFF) 15 0 = max 600 (s.fld (rPWR_EFF) 15 0 - 50)
      ∧ t.power = { s.power with hotFr := s.power.hotFr - 1000 } ∧ t.fld (rPWR_LIMITS) 15 0 = s.fld (rPWR_LIMITS) 15 0)
    ∧ (s.power.hotFr < 1000 → 1000 ≤ s.power.coolFr → ∃ t, exec .psusEffStep s = .next t
      ∧ t.fld (rPWR_EFF) 15 0 = min (s.fld (rPWR_LIMITS) 15 0) (s.fld (rPWR_EFF) 15 0 + 50)
      ∧ t.power = { s.power with coolFr := s.power.coolFr - 1000 })
    ∧ (2 ≤ s.power.hot105 → s.bit (rPWR_STATUS) 3 = false → s.phase = .run → s.power.failed = false →
      (∀ p q, p < 8 → q < 8 → p ≠ q → s.clusters p &&& s.clusters q = 0) → ∃ t, exec .thermalTrip s = .next t
        ∧ t.bit (rPWR_STATUS) 3 = true ∧ t.bit (rRST_STATUS) 2 = true ∧ t.coreRst = some .stopping
        ∧ t.reg (rRST_CAUSE) = (s.reg (rRST_CAUSE) ||| 0x10) ∧ t.errPend.length = s.errPend.length + 1
        ∧ ∀ p, p < 8 → (t.part p).launches = [] ∧ (t.part p).rst = none ∧ (s.isStopped p = false → ∀ c, s.inPart p c = true →
          (s.core c).st.inService = true → (t.core c).st = .stopped))
    ∧ (s.phase.alive = true → s.power.failed = false →
      (s.power.excursion = false → ∃ t, exec .vinLow s = .next t ∧ t.bit (rPWR_STATUS) 5 = true ∧ t.power.excursion = true
        ∧ t.errPend.length = s.errPend.length + 1 ∧ t.cores = s.cores)
      ∧ (∃ t, exec .vinRestored s = .next t ∧ t.bit (rPWR_STATUS) 5 = false ∧ t.power = { s.power with excursion := false }
        ∧ t.cores = s.cores ∧ t.errPend = s.errPend)
      ∧ ∀ c, c = .powerFailure ∨ c = .overvoltage ∨ c = .overcurrent → ∃ t, exec c s = .next t ∧ t.power.failed = true
        ∧ t.power.stopAll = true ∧ t.power.wearNv = s.power.wear ∧ t.nv = Vector.replicate 2 ⟨t.hist, t.evlog, true⟩ ∧ t.phase = s.phase)
    ∧ (∀ c, c = .powerFailure ∨ c = .overvoltage ∨ c = .overcurrent → s.phase = .charging → exec c s = .next { s with phase := .off })
    ∧ (s.power.failed = true → ∃ t, exec .holdUpExpiry s = .next t ∧ t.phase = .off ∧ (∀ o, t.reg o = regReset o)
      ∧ (∀ v : NvCopy, v = (if (s.nv[0]).good then s.nv[0] else s.nv[1]) → t.hist = v.hist ∧ t.evlog = v.evlog) ∧ ∀ c, (t.core c).st = .off)

/-! ## The CXL link (spec/14_host.md) -/

/-- R243, R295, R296, R298 to R304, R357, R358: training of the link, configuration and BAR0, the decoders, reads and writes of HBM through
CXL.mem, private regions, and the host's answers and completions; what goes through CXL.mem and CXL.cache goes while its IDE stream has not
failed. -/
def Obligations.HostAccess : Prop :=
  ∀ s : State,
    (∀ (w : Fin 4) (r : Fin 6) (flit : Bool), s.phase.powered = true → s.perst = true → ∃ t, exec (.cxlLinkTrained w r flit) s = .next t
      ∧ t.fld (rCXL_LINK) 3 0 = 2 ^ w.val ∧ t.fld (rCXL_LINK) 7 4 = r.val + 1 ∧ t.bit (rCXL_LINK) 8 = flit
      ∧ t.bit (rCXL_LINK) 9 = (flit && decide (4 ≤ r.val)) ∧ t.bit (rCXL_LINK) 10 = (flit && decide (4 ≤ r.val))
      ∧ { t with regs := s.regs } = s)
    ∧ (∃ t, exec .cxlLinkDown s = .next t ∧ t.reg (rCXL_LINK) = 0 ∧ (∀ o, o ≠ rCXL_LINK → t.reg o = s.reg o) ∧ t.bar0 = 0 ∧ t.msix = []
      ∧ t.msixPend = [] ∧ { t with regs := s.regs, bar0 := s.bar0, msix := s.msix, msixPend := s.msixPend } = s)
    ∧ (s.linkUp = true →
      (s.phase ≠ .run → ∀ q, exec (.configRequest q) s = .next { s with out := s.out ++ [.cfgRetry] })
      ∧ (s.phase = .run →
        (∀ f off v, s.vfs < f.val → exec (.configRequest (.read f off)) s = .next { s with out := s.out ++ [.unsupported] }
          ∧ exec (.configRequest (.write f off v)) s = .next { s with out := s.out ++ [.unsupported] })
        ∧ (∀ v : Word32, ∃ t, exec (.configRequest (.write 0 0x10 v)) s = .next t ∧ t.out = s.out ++ [.hostDone]
          ∧ t.bar0 % 2 ^ 32 = v.toNat / 2 ^ 26 * 2 ^ 26 ∧ t.bar0 / 2 ^ 32 = s.bar0 / 2 ^ 32 ∧ { t with bar0 := s.bar0, out := s.out } = s)
        ∧ (∀ x v, (x = .msix ∧ v = [("Vectors", 64), ("Table BAR0 offset", 0xF00000), ("PBA BAR0 offset", 0xF80000)]
            ∨ x = .dvsecDevice ∧ v = [("Cache_Capable", 1), ("Mem_Capable", 1), ("HDM_Count", 2)]
            ∨ x = .dvsecLocator ∧ v = [("Component registers BAR0 offset", 0x301000)]) →
          exec (.configRequest (.cap 0 x)) s = .next { s with out := s.out ++ [.cfgItems v] })
        ∧ (∀ n, ∃ b, exec (.configRequest (.cdat n)) s = .next { s with out := s.out ++ [.cdat b] })
        ∧ (∀ (f : Fin 9) (r : Fin 10) (o : BitVec 26) (a len v : Nat), r.val = f.val → f.val ≤ s.vfs →
          (o.toNat < 0x500000 ∧ a = o.toNat
            ∨ (∃ k x, k < 8 ∧ x < 0x10000 ∧ o.toNat = 0x500000 + 0x10000 * k + x ∧ a = 0x8000000 + 0x100000 * k + x)
            ∨ (∃ k x, k < 2 ∧ x < 0x10000 ∧ o.toNat = 0x580000 + 0x10000 * k + x ∧ a = 0xE000000 + 0x100000 * k + x)
            ∨ ∃ c x, c < 96 ∧ x < 0x80000 ∧ o.toNat = 0x1000000 + 0x80000 * c + x ∧ a = 0x10000000 + 0x100000 * c + x) →
          exec (.configRequest (.barRead f o len)) s = exec (.clearingRead r a len) s
          ∧ ∃ t, exec (.registerWrite r a len v) s = .next t
            ∧ exec (.configRequest (.barWrite f o len v)) s = .next { t with out := t.out ++ [.hostDone] })
        ∧ (∃ t, exec (.configRequest (.read 0 0)) s = .next t ∧ t.out = s.out ++ [.cfgData 0x96401F6A])
        ∧ (∀ n : Fin 9, ∃ t, exec (.configRequest (.vfs n)) s = .next t ∧ t.vfs = n.val ∧ t.out = s.out ++ [.hostDone]
          ∧ ∀ f, n.val < f → f < 9 → mapGet 0 t.gstat f = 0 ∧ ∀ e, e ∈ t.guards → e.1 % 16 ≠ f)
        ∧ ∀ f : Fin 9, f ≠ 0 → f.val ≤ s.vfs → ∃ t, exec (.configRequest (.flr f)) s = .next t ∧ t.out = s.out ++ [.hostDone]
          ∧ mapGet 0 t.gstat f.val = 0 ∧ (∀ e, e ∈ t.guards → e.1 % 16 ≠ f.val) ∧ t.vfs = s.vfs))
    ∧ (∀ base size skip : BitVec 36, s.linkUp = true → s.phase = .run → s.bit (rCXL_LINK) 10 = true →
      (∀ n, n < 8 → s.bit (rSEC_PSTATE n) 1 = false) →
      (s.hdm = [] → size ≠ 0 → (skip.toNat + size.toNat) * 2 ^ 28 ≤ dpaEnd →
        exec (.hdmCommit base size skip) s = .next { s with hdm := [⟨base.toNat * 2 ^ 28, size.toNat * 2 ^ 28, skip.toNat * 2 ^ 28⟩] })
      ∧ (s.hdm.length = 2 ∨ size = 0 → exec (.hdmCommit base size skip) s = .next s))
    ∧ (∀ (hpa : Nat) (te : Option (Fin 8)) (hold : Bool), s.linkUp = true → s.bit (rCXL_LINK) 10 = true → s.phase = .run →
      s.sec.ideDown.contains 4 = false → ∀ ctx, ctx = (if (mapFind s.sec.ideKeys 4).isSome then te else none) →
      (s.dpaOf (hpa / 64 * 64) = none → exec (.cxlMemRead hpa te hold) s = .next { s with out := s.out ++ [.unsupported] })
      ∧ ∀ dpa k, s.dpaOf (hpa / 64 * 64) = some dpa →
        (s.teRefuses dpa ctx = true → ∃ t, exec (.cxlMemRead hpa te hold) s = .next t ∧ t.hbm = s.hbm
          ∧ t.out = s.out ++ [.hostData (List.replicate 64 0) false]
          ∧ t.reg (rSEC_TEREF) = BitVec.ofNat 32 (min ((s.reg (rSEC_TEREF)).toNat + 1) 0xFFFFFFFF))
        ∧ (s.teRefuses dpa ctx = false → s.fld (rRST_STATUS) 5 4 ≠ 2 → dpa < hbmEnd → k = hbmKey (s.place dpa) →
          s.inPriv (s.place dpa) = false → s.damage = [] → s.memLines = [] →
          (∀ i, i < 64 → mapGet false s.hbmPois ((k + i) / 32) = false) → (hold = true → s.hostLines.length < 2 ^ 22) →
          (∃ t, exec (.cxlMemRead hpa te hold) s = .next t ∧ t.out = s.out ++ [.hostData (s.hbm.getN k 64) false] ∧ t.hbm = s.hbm
            ∧ (hold = false → t.hostLines = s.hostLines.filter (· ≠ k / 64))
            ∧ (hold = true → k / 64 ∈ t.hostLines))
          ∧ ∀ bytes : Vector (Option Byte) 64, ∃ t, exec (.cxlMemWrite hpa bytes false te hold) s = .next t
            ∧ t.out = s.out ++ [.hostDone]
            ∧ (∀ i : Fin 64, t.hbm.get (k + i.val) = (bytes[i]).getD (s.hbm.get (k + i.val)))
            ∧ (∀ a, a < k ∨ k + 64 ≤ a → t.hbm.get a = s.hbm.get a) ∧ t.cores = s.cores)
        ∧ (s.teRefuses dpa ctx = false → s.fld (rRST_STATUS) 5 4 ≠ 2 → dpa < hbmEnd → s.inPriv (s.place dpa) = true →
          (hold = true → s.hostLines.length < 2 ^ 22) →
          (∃ t, exec (.cxlMemRead hpa te hold) s = .next t ∧ t.out = s.out ++ [.hostData (List.replicate 64 0) false] ∧ t.hbm = s.hbm)
          ∧ ∀ bytes : Vector (Option Byte) 64, ∃ t, exec (.cxlMemWrite hpa bytes false te hold) s = .next t
            ∧ t.out = s.out ++ [.hostDone] ∧ t.hbm = s.hbm ∧ t.cores = s.cores))
    ∧ (s.sec.ideDown.contains 4 = true → ∀ hpa bytes p te hold, exec (.cxlMemRead hpa te hold) s = .next s
      ∧ exec (.cxlMemWrite hpa bytes p te hold) s = .next s)
    ∧ (∀ dpa (data : Option (Vector Byte 64)), dpa < hbmEnd → s.hostLines.contains (hbmKey (s.place dpa) / 64) = true →
      ∃ t, exec (.bisnpResponse dpa data) s = .next t ∧ mapFind t.snoopIn (hbmKey (s.place dpa) / 64) = some (data.map (·.toList))
        ∧ { t with snoopIn := s.snoopIn } = s)
    ∧ (∀ h (b : List Byte) (z : Bool), s.bit (rCXL_LINK) 9 = true → s.sec.ideDown.contains 4 = false →
      h + b.length ≤ 2 ^ 45 → ∃ t, exec (.hostReadResponse h b z) s = .next t
      ∧ (∀ i, i < b.length → t.hostIn.get (h + i) = b.getD i 0 ∧ mapGet false t.hostPois (h + i) = z)
      ∧ (∀ a, a < h ∨ h + b.length ≤ a → t.hostIn.get a = s.hostIn.get a) ∧ t.cores = s.cores ∧ t.hbm = s.hbm)
    ∧ (∀ (c : Fin 96) (k id : Nat), (((s.core c).outw.filter (fun w => w.2 = .host)).map (·.1))[k]? = some id → (s.core c).held = [] →
      ∃ t, exec (.hostWriteCompletion c k) s = .next t ∧ (t.core c).outw = (s.core c).outw.filter (fun w => !(w.1 = id && w.2 = .host))
        ∧ (∀ d, d ≠ c → t.core d = s.core d) ∧ t.hbm = s.hbm)
    ∧ ∀ h, s.bit (rCXL_LINK) 9 = true → exec (.hostSnoop h) s = .next { s with out := s.out ++ [.snoopMiss h] }

/-! ## Faults, records and the care of memory (spec/16_faults.md, spec/11_hbm.md, spec/08_layout.md) -/

/-- R163, R231, R233, R333, R334, R337, R338, R340, R342, R361: a record's arrival, a FATAL fault, the scrubs of memory, row repair, and the
paths on which records leave. -/
def Obligations.FaultRecords : Prop :=
  ∀ s : State, s.phase.alive = true →
    (∀ k i q r, s.errPend[k]? = some q → s.errPend[i]? = some r → r.frame = q.frame → r.cycle = q.cycle →
      (∀ j x, s.errPend[j]? = some x → x.frame = q.frame → x.cycle = q.cycle → r.rank ≤ x.rank ∧ (j < i → r.rank < x.rank)) →
      1 ≤ r.cls → r.cls ≤ 16 → s.bit (rERR_CTRL) 0 = false → s.errq.length < 32 →
      ∃ t, exec (.errorRecord k none) s = .next t ∧ t.errPend = s.errPend.eraseIdx i
        ∧ (t.reg (rERR_SEQ)).toNat = (s.histGet hkSeq + 1) % 2 ^ 32 ∧ t.histGet hkSeq = (s.histGet hkSeq + 1) % 2 ^ 32
        ∧ t.reg (rERR_CLASS (r.cls - 1)) = BitVec.ofNat 32 (min ((s.reg (rERR_CLASS (r.cls - 1))).toNat + 1) 0xFFFFFFFF)
        ∧ leNat ((t.lastRec.drop 4).take 4) = (s.histGet hkSeq + 1) % 2 ^ 32
        ∧ t.errq.length = s.errq.length + (if s.bit (rERR_CTRL) 1 then 1 else 0) ∧ t.hbm = s.hbm)
    ∧ (∀ (k : Nat) (p : Fin 8), s.errPend.length < k → (∀ p q, p < 8 → q < 8 → p ≠ q → s.clusters p &&& s.clusters q = 0) →
      ∃ t, exec (.errorRecord k (some (.commandProc p false))) s = .next t ∧ t.fatal = true ∧ t.bit (rERR_STATUS) 3 = true
        ∧ t.errPend.length = s.errPend.length + 1 ∧ ∀ q, q < 8 → s.isStopped q = false → ∀ c, s.inPart q c = true →
          (s.core c).st.inService = true → (t.core c).st = .stopped)
    ∧ (∀ (c : Fin 96) (off : BitVec 24), s.hbmUp = true → off.toNat < lmEnd → (s.core c).st ≠ .failed →
      exec (.localPatrolScrub c off .clean) s = .next s
      ∧ (∀ b, ∃ t, exec (.localPatrolScrub c off (.corrected b)) s = .next t ∧ (t.core c).lm = (s.core c).lm
        ∧ (t.core c).lmPois = (s.core c).lmPois ∧ t.errPend.length = s.errPend.length + 1 ∧ (∀ d, d ≠ c → t.core d = s.core d)
        ∧ (t.core c).reg (kLAY_CE) = (s.core c).reg (kLAY_CE)
        ∧ mapGet 0 (t.core c).fcount (kLAY_CE) = mapGet 0 (s.core c).fcount (kLAY_CE) + 1)
      ∧ ∃ t, exec (.localPatrolScrub c off .uncorrectable) s = .next t ∧ (t.core c).lm = (s.core c).lm
        ∧ mapGet false (t.core c).lmPois (off.toNat / 32) = true ∧ t.errPend.length = s.errPend.length + 1
        ∧ (∀ d, d ≠ c → t.core d = s.core d)
        ∧ (t.core c).reg (kLAY_UE) = (s.core c).reg (kLAY_UE)
        ∧ mapGet 0 (t.core c).fcount (kLAY_UE) = mapGet 0 (s.core c).fcount (kLAY_UE) + 1)
    ∧ (∀ (n : Fin 12) (pos : Nat), s.hbmUp = true → s.bit (rMC_SCRUBCTL n.val) 31 = true → s.damage = [] → s.memLines = [] →
      pos = s.reg64 (rMC_SCRUBPOS n.val) → mapGet false s.hbmPois ((2 ^ 37 * n.val + pos) / 32) = false →
      ∃ t, exec (.hbmScrubRead n none) s = .next t ∧ t.hbm = s.hbm ∧ t.hbmPois = s.hbmPois ∧ t.cores = s.cores
        ∧ t.reg64 (rMC_SCRUBPOS n.val) = (if 96 * 2 ^ 30 ≤ pos + 32 then 0 else pos + 32)
        ∧ t.bit (rMC_STATUS n.val) 2 = decide (pos + 32 < 96 * 2 ^ 30)
        ∧ (96 * 2 ^ 30 ≤ pos + 32 → t.reg (rMC_SCRUBPASS n.val) =
          BitVec.ofNat 32 (min ((s.reg (rMC_SCRUBPASS n.val)).toNat + 1) 0xFFFFFFFF)))
    ∧ (∀ (n : Fin 12) (row : List (BitVec 37)) (ks : List Nat), s.hbmUp = true →
      ks = row.map (fun o => (2 ^ 37 * n.val + o.toNat) / 32) →
      (((∃ e, e ∈ s.memErrs ∧ e.key ∈ ks ∧ e.sym = none)
          ∨ (s.lineFaults = [] ∧ ∃ x y z : MemErr, (∀ e, e ∈ [x, y, z] → e ∈ s.memErrs ∧ e.key ∈ ks ∧ e.sym ≠ none)
            ∧ x.time < y.time ∧ y.time < z.time ∧ z.time ≤ x.time + dayUs)) →
        (s.damage = [] → s.memLines = [] → ∃ t, exec (.softPpr n row .repaired) s = .next t ∧ t.hbm = s.hbm
          ∧ t.fld (rMC_PPR n.val) 7 0 = min 255 (s.fld (rMC_PPR n.val) 7 0 + 1)
          ∧ t.histGet (hkSoft n.val) = s.histGet (hkSoft n.val) + 1 ∧ t.errPend.length = s.errPend.length + 1
          ∧ ∀ e, e ∈ t.memErrs ↔ e ∈ s.memErrs ∧ e.key ∉ ks)
        ∧ ∃ t, exec (.softPpr n row .exhausted) s = .next t ∧ t.hbm = s.hbm ∧ t.bit (rMC_STATUS n.val) 5 = true
          ∧ t.bit (rMC_PPR n.val) 16 = true ∧ t.errPend.length = s.errPend.length + 1)
      ∧ (∀ l, 16 ≤ ks.length → ks.Nodup → (∀ k, k ∈ ks → pcKey k = pcKey (ks.headD 0)) →
        s.lineFaults.contains (36 * pcKey (ks.headD 0) + l.val) = false →
        (∃ z, z ∈ s.memErrs ∧ ∀ k, k ∈ ks → ∃ e, e ∈ s.memErrs ∧ e.key = k ∧ e.sym = some l.val ∧ e.time ≤ z.time
          ∧ z.time ≤ e.time + dayUs) →
        ∃ t, exec (.softPpr n row (.lineFault l)) s = .next t ∧ t.hbm = s.hbm ∧ t.bit (rMC_STATUS n.val) 4 = true
          ∧ t.histGet (hkLine n.val) = s.histGet (hkLine n.val) + 1 ∧ t.errPend.length = s.errPend.length + 1
          ∧ 36 * pcKey (ks.headD 0) + l.val ∈ t.lineFaults)
      ∧ ((∀ e, e ∈ s.memErrs → e.key ∉ ks) → ∀ x, exec (.softPpr n row x) s = .next s))
    ∧ (∀ (q : QRec) (r : List QRec) (ack : Bool), s.errq = q :: r →
      (∀ c, (c = .mctpDelivery ack ∧ q.attempts = 0 ∨ c = .mctpRetry ack ∧ 0 < q.attempts ∧ q.attempts < 3) → exec c s = .next
        { s with out := s.out ++ [.mctp 0xF0 q.bytes], errq := if ack then r else { q with attempts := q.attempts + 1 } :: r })
      ∧ (3 ≤ q.attempts → ∃ t, exec (.mctpRetry ack) s = .next t ∧ t.errq = r ∧ t.out = s.out
        ∧ t.reg (rERR_MCTPLOST) = BitVec.ofNat 32 (min ((s.reg (rERR_MCTPLOST)).toNat + 1) 0xFFFFFFFF)))
    ∧ (s.nvPulse = false → exec .historyWrite s = .next { s with nv := Vector.replicate 2 ⟨s.hist, s.evlog, true⟩, nvPulse := true })
    ∧ ∀ b l, s.scrub = some (b, l) → s.scrubW = [] → s.hbmUp = true → s.hbm.gen = 0 → ∃ t, exec .hbmScrubDone s = .next t
      ∧ t.scrub = none ∧ t.bit (rSEC_SCRUBSTAT) 0 = false ∧ t.bit (rSEC_SCRUBSTAT) 1 = true ∧ t.cores = s.cores
      ∧ ∀ key a, a = s.unplace (key / 2 ^ 37) (key % 2 ^ 37) →
        (b ≤ a → a < b + l → t.hbm.get key = 0) ∧ (¬(b ≤ a ∧ a < b + l) → t.hbm.get key = s.hbm.get key)

/-! ## Security (spec/17_security.md) -/

/-- R348, R350, R353, R355 to R358, R360, R409: certificates and the requests of SPDM, firmware and keys, IDE, the locking of partitions, and
the address on I3C. -/
def Obligations.SecurityRequests : Prop :=
  ∀ s : State,
    (s.phase = .run ∨ s.phase = .safe → s.sec.signing = none → s.sec.issued ≠ s.attested → ∃ t c, exec .certIssue s = .next t ∧ t.sec.signing = some c
      ∧ c.signed = false ∧ t.sec.issued = s.attested ∧ t.reg (rSEC_CERTGEN) = s.reg (rSEC_CERTGEN) + 1 ∧ t.sec.cert = s.sec.cert
      ∧ t.cores = s.cores)
    ∧ (∀ c, s.sec.signing = some c → s.sec.waiting = [] → exec .certSigned s = .next { s with sec := { s.sec with
        cert := some { c with signed := true }, signing := none, activating := false, noCert := false } })
    ∧ (∀ doe : Bool, s.phase.alive = true → (doe = true → s.linkUp = true) → s.phase ≠ .recovery → s.sec.activating = false →
      s.sec.noCert = false →
      (∀ c n b, (c = .getVersion doe ∧ n = "VERSION" ∧ b = [0x12, 0x13]
          ∨ c = .getCapabilities doe ∧ n = "CAPABILITIES CERT CHAL KEY_EX MAC ENCRYPT" ∧ b = [14]
          ∨ c = .negotiateAlgorithms doe ∧ n = "ALGORITHMS ECDSA-P384 SHA-384 secp384r1 AES-256-GCM" ∧ b = []
          ∨ c = .getMeasurements doe ∧ n = "ERROR UnsupportedRequest" ∧ b = []
          ∨ s.sec.signing = none ∧ c = .getCertificate doe ∧ n = "CERTIFICATE" ∧ b = s.chain
          ∨ s.sec.signing = none ∧ c = .getDigests doe ∧ n = "DIGESTS" ∧ b = Config.sha384 s.chain
          ∨ ∃ nonce, s.sec.signing = none ∧ c = .spdmChallenge doe nonce ∧ n = "CHALLENGE_AUTH" ∧ b = Config.sha384 s.chain ++
            Config.ecdsaSign s.sec.aliasEc (Config.sha384 s.chain ++ nonce)) →
        exec c s = .next { s with out := s.out ++ [.spdm doe n b] })
      ∧ (∀ c n b, s.sec.signing.isSome = true → (c = .getCertificate doe ∧ n = 0 ∧ b = [] ∨ c = .spdmChallenge doe b ∧ n = 1
          ∨ c = .getDigests doe ∧ n = 2 ∧ b = [] ∨ c = .keyExchange doe b ∧ n = 3) →
        exec c s = .next { s with sec := { s.sec with waiting := s.sec.waiting ++ [(doe, n, b)] } })
      ∧ (∀ exch, s.sec.signing = none → s.sec.sessions.length < 4 → ∃ t x, exec (.keyExchange doe exch) s = .next t
        ∧ t.sec.sessions = s.sec.sessions ++ [x] ∧ x.finished = false ∧ x.id < 4 ∧ (∀ y, y ∈ s.sec.sessions → y.id ≠ x.id)
        ∧ t.regs = s.regs)
      ∧ (∀ id x, s.sec.sessions.find? (fun t => t.id = id && !t.finished) = some x →
        (∃ t, exec (.spdmFinish doe id true) s = .next t ∧ t.out = s.out ++ [.spdm doe "FINISH_RSP" []]
          ∧ t.sec.sessions = s.sec.sessions.map (fun y => if y.id = id then { y with finished := true } else y))
        ∧ ∃ t, exec (.spdmFinish doe id false) s = .next t ∧ ∀ y, y ∈ t.sec.sessions ↔ y ∈ s.sec.sessions ∧ y.id ≠ id)
      ∧ ∀ id, s.sec.sessions.any (fun t => t.id = id && t.finished) = true → ∃ t, exec (.endSession doe id) s = .next t
        ∧ t.out = s.out ++ [.spdm doe "END_SESSION_ACK" []] ∧ ∀ y, y ∈ t.sec.sessions ↔ y ∈ s.sec.sessions ∧ y.id ≠ id)
    ∧ (s.phase.alive = true → s.power.failed = false → s.nvPulse = false →
      (∀ k : Fin 4, ∃ t, exec (.firmwareUpdate (.revoke k)) s = .next t ∧ t.nvPulse = true ∧ t.cores = s.cores ∧ t.regs = s.regs
        ∧ ∀ j, t.sec.revoked.getLsbD j = (decide (j = k.val) || s.sec.revoked.getLsbD j))
      ∧ (∀ (i : Fin 16) (v : Word32), ∃ t, exec (.firmwareUpdate (.option i v)) s = .next t ∧ t.nvPulse = true ∧ t.regs = s.regs
        ∧ t.sec.options[i] = ⟨some v, some v⟩ ∧ ∀ j : Fin 16, j ≠ i → t.sec.options[j] = s.sec.options[j])
      ∧ (∀ (i : Fin 2) (cp : Bool) (b : List Byte),
        (s.sec.imageOk b (if cp then 2 else 1) = true → ∃ t, exec (.firmwareUpdate (.image i cp b)) s = .next t ∧ t.nvPulse = true
          ∧ (if cp then (t.sec.slots[i]).cpfw = b ∧ (t.sec.slots[i]).sfw = (s.sec.slots[i]).sfw
            else (t.sec.slots[i]).sfw = b ∧ (t.sec.slots[i]).cpfw = (s.sec.slots[i]).cpfw)
          ∧ ∀ j : Fin 2, j ≠ i → t.sec.slots[j] = s.sec.slots[j])
        ∧ (s.sec.imageOk b (if cp then 2 else 1) = false → exec (.firmwareUpdate (.image i cp b)) s = .next
          { s with out := s.out ++ [.pldm "VerifyFailed" i.val] }))
      ∧ ∀ i : Fin 2, s.rstDelayed = none → s.sec.imageOk (s.sec.slots[i]).sfw 1 = true → s.sec.imageOk (s.sec.slots[i]).cpfw 2 = true →
        ∃ t, exec (.activateFirmware i) s = .next t ∧ s.restarted t 0x20 ∧ t.sec.activating = true
          ∧ ((t.sec.options[0]).get.getD 0).toNat % 2 = i.val)
    ∧ (∀ (id : Nat) (stream : Fin 5) (key : List Byte), s.phase.alive = true →
      s.sec.sessions.any (fun t => t.id = id && t.finished) = true → ∃ t, exec (.ideKm id stream key) s = .next t
        ∧ mapFind t.sec.ideKeys stream.val = some key ∧ t.sec.ideDown.contains stream.val = false
          ∧ t.bit (rCXL_LINK) 11 = s.linkUp ∧ t.cores = s.cores)
    ∧ (∀ stream : Fin 5, (mapFind s.sec.ideKeys stream.val).isSome = true → ∃ t, exec (.ideFailure stream) s = .next t
      ∧ mapFind t.sec.ideKeys stream.val = none ∧ t.sec.ideDown.contains stream.val = true
        ∧ t.bit (rCXL_LINK) 11 = false ∧ t.errPend.length = s.errPend.length + 1)
    ∧ (∀ (p : Fin 8) (te : List (BitVec 23 × BitVec 16)), s.phase = .run → s.bit (rSEC_PSTATE p.val) 1 = false → te.length ≤ 4 →
      ∃ t, exec (.tspLock p te) s = .next t ∧ t.bit (rSEC_PSTATE p.val) 0 = true ∧ t.bit (rSEC_PSTATE p.val) 1 = true
        ∧ t.bit (rSEC_PSTATE p.val) 2 = s.bit (rSEC_PSTATE p.val) 2 ∧ t.cores = s.cores ∧ ∀ r, r < 4 →
          t.reg64 (rSEC_TE p.val r) = (te.getD r (0, 0)).1.toNat * 2 ^ 25 + 2 ^ 48 * (te.getD r (0, 0)).2.toNat)
    ∧ (∀ p : Fin 8, s.phase = .run → s.bit (rSEC_PSTATE p.val) 1 = true → ∃ t, exec (.tspUnlock p) s = .next t
      ∧ t.reg (rSEC_PSTATE p.val) = 0 ∧ (∀ r, r < 4 → t.reg64 (rSEC_TE p.val r) = 0)
      ∧ (∀ c, s.inPart p.val c = false → t.core c = s.core c)
      ∧ (∀ c, s.inPart p.val c = true → (t.core c).lm = Store.zero ∧ (t.core c).lmPois = [] ∧ (t.core c).wbuf = Store.zero
        ∧ (t.core c).opnd = { Opnd.zero with s := (s.core c).opnd.s, srstep := (s.core c).opnd.srstep })
      ∧ (s.hbm.gen = 0 → ∀ key r, r < 4 → s.reg64 (rSEC_TE p.val r) % 2 ^ 48 ≤ s.unplace (key / 2 ^ 37) (key % 2 ^ 37) →
        s.unplace (key / 2 ^ 37) (key % 2 ^ 37) < s.reg64 (rSEC_TE p.val r) % 2 ^ 48 + s.reg64 (rSEC_TE p.val r) / 2 ^ 48 * 2 ^ 25 →
        t.hbm.get key = 0))
    ∧ (∀ a : BitVec 7, s.phase.alive = true → s.i3cAddr = none → exec (.entdaa a) s = .next { s with i3cAddr := some a.toNat }
      ∧ ∀ st : BitVec 7, st.toNat = 0x30 + Config.modId.toNat → exec (.setdasa st a) s = .next { s with i3cAddr := some a.toNat })

/-! ## The Ifendi monitor (spec/22_ifendi.md) -/

/-- R417 to R424: what the monitor's commands answer and do at their level. The text of a reply is the model's where the spec names what it
holds alone (log entry 48). -/
def Obligations.MonitorCommands : Prop :=
  ∀ s : State, s.phase.alive = true →
    (s.phase = .recovery → exec .ifendiRomRecovery s = .next { s with out := s.out ++ [.line "IFENDI ROM RECOVERY"] })
    ∧ (s.mon.challenge ≠ none → ∃ t, exec .unlockTimeout s = .next t ∧ t.mon.challenge = none ∧ t.level = 0)
    ∧ (∃ t, exec .lockoutExpiry s = .next t ∧ t.bit (rDBG_STATUS) 2 = false ∧ t.level = s.level)
    ∧ (∀ c : Instr, (c = .ifHelp ∨ c = .ifStatus ∨ c = .ifTraceOff ∨ c = .ifResetSys) →
      (s.phase = .boot ∨ s.phase = .trims ∨ s.phase = .sfw) → exec c s = .next { s with out := s.out ++ [.line "E 20 busy"] })
    ∧ (s.phase ≠ .recovery → s.phase ≠ .boot → s.phase ≠ .trims → s.phase ≠ .sfw →
      (∀ c lvl, (c = .ifStatus ∧ lvl = 1 ∨ (∃ n, c = .ifLog n ∧ lvl = 1) ∨ (∃ a n, c = .ifRd a n ∧ lvl = 1)
          ∨ (∃ a, c = .ifRdc a ∧ lvl = 2)
          ∨ (∃ a v, c = .ifWr a v ∧ lvl = 2) ∨ (∃ a v, c = .ifWrg a v ∧ lvl = 2) ∨ (∃ a n, c = .ifDump a n ∧ lvl = 2)
          ∨ (∃ k, c = .ifHalt k ∧ lvl = 2) ∨ (∃ k, c = .ifGo k ∧ lvl = 2) ∨ (∃ k n, c = .ifStep k n ∧ lvl = 2)
          ∨ (∃ k, c = .ifTraceOn k ∧ lvl = 2) ∨ c = .ifTraceOff ∧ lvl = 2 ∨ (∃ n, c = .ifTraceShow n ∧ lvl = 2)
          ∨ c = .ifResetCore ∧ lvl = 2 ∨ c = .ifResetSys ∧ lvl = 2 ∨ ∃ x, c = .ifPs x ∧ lvl = 2) → s.level < lvl →
        exec c s = .next { s with out := s.out ++ [.line "E 10 level"] })
      ∧ (∀ long, exec (.malformedCommand long) s = .next { s with out := s.out ++ [.line (if long then "E 01 line" else "E 02 syntax")] })
      ∧ (∀ c : Instr, (c = .ifHelp ∨ c = .ifVer ∨ (1 ≤ s.level ∧ (c = .ifStatus ∨ ∃ n, c = .ifLog n))
          ∨ (2 ≤ s.level ∧ ∃ n, c = .ifTraceShow n)) →
        ∃ l : List String, exec c s = .next { s with out := s.out ++ l.map .line })
      ∧ (∃ t, exec .ifLogin s = .next t ∧ t.level = max 1 s.level ∧ t.out.length = s.out.length + 1)
      ∧ (∃ t, exec .ifLock s = .next t ∧ t.level = 0 ∧ t.mon.challenge = none ∧ t.reg (rSEC_STATUS) = s.reg (rSEC_STATUS))
      ∧ (∀ sig, s.bit (rDBG_STATUS) 2 = true → exec (.ifUnlock sig) s = .next { s with out := s.out ++ [.line "E 31 refused"] })
      ∧ (s.bit (rDBG_STATUS) 2 = false → ∃ t, exec (.ifUnlock none) s = .next t ∧ t.mon.challenge.isSome = true
        ∧ t.out.length = s.out.length + 1 ∧ t.level = s.level)
      ∧ (∀ x ch, s.bit (rDBG_STATUS) 2 = false → x.length = 96 → s.mon.challenge = some ch →
        (Config.ecdsaVerify s.operatorKey (Config.sha384 (ch ++ Config.deviceSerial)) x = true → ∃ t, exec (.ifUnlock (some x)) s = .next t
          ∧ t.level = 2 ∧ t.bit (rSEC_STATUS) 5 = true ∧ t.mon.challenge = none)
        ∧ (Config.ecdsaVerify s.operatorKey (Config.sha384 (ch ++ Config.deviceSerial)) x = false → ∃ t,
          exec (.ifUnlock (some x)) s = .next t ∧ t.level = 0 ∧ t.mon.challenge = none
          ∧ (t.bit (rDBG_STATUS) 2 = true ↔ 4 ≤ (s.mon.fails.filter (fun f => decide (s.optime ≤ f + 600))).length)))
      ∧ (∀ p : Fin 8, 1 ≤ s.level → ∃ t, exec (.ifRd (0xF00000000000 + rPART_WTHR p.val) 1) s = .next t ∧ t.regs = s.regs
        ∧ t.out = s.out ++ [.line (hexText (0xF00000000000 + rPART_WTHR p.val) 12 ++ ": " ++ hexText (s.reg (rPART_WTHR p.val)).toNat 8)])
      ∧ (2 ≤ s.level →
        (∀ p : Fin 8, (∃ t, exec (.ifRdc (0xF00000000000 + rPART_WSTAT p.val)) s = .next t
            ∧ t.reg (rPART_WSTAT p.val) = (s.reg (rPART_WSTAT p.val) &&& ~~~0x1F)
            ∧ t.out = s.out ++ [.line (hexText (0xF00000000000 + rPART_WSTAT p.val) 12 ++ ": "
              ++ hexText (s.reg (rPART_WSTAT p.val)).toNat 8)])
          ∧ (∀ v, s.lockRefuses 9 (rPART_WTHR p.val) = false → ∃ t, exec (.ifWr (0xF00000000000 + rPART_WTHR p.val) v) s = .next t
            ∧ t.reg (rPART_WTHR p.val) = v ∧ t.out = s.out ++ [.line "ok"] ∧ ∀ o, o ≠ rPART_WTHR p.val → t.reg o = s.reg o)
          ∧ ∀ v, s.accepts 9 (rPART_CFG p.val) v 0x7FFF → mapFind s.guards (guardKey 9 (rPART_CFG p.val)) = none →
            ∃ t, exec (.ifWrg (0xF00000000000 + rPART_CFG p.val) v) s = .next t ∧ t.out = s.out ++ [.line "ok"]
              ∧ t.reg (rPART_CFG p.val) = ((s.reg (rPART_CFG p.val) &&& ~~~0x7FFF) ||| (v &&& 0x7FFF))
              ∧ t.bit (rPART_STATUS p.val) 8 = true)
        ∧ (∀ a v, a % 4 ≠ 0 → exec (.ifWr a v) s = .next { s with out := s.out ++ [.line "E 11 range"] })
        ∧ (∀ a n, 0 < n → n ≤ 4096 → a % 32 = 0 → a + n ≤ hbmEnd → s.clean → (∀ p, p < 8 → s.bit (rSEC_PSTATE p) 0 = false) →
          ∃ t, ∃ l : List String, exec (.ifDump a n) s = .next t ∧ t.hbm = s.hbm ∧ t.cores = s.cores ∧ l.length = (n + 15) / 16
            ∧ t.out = s.out ++ l.map .line)
        ∧ (∀ c : Fin 96, (∃ t, exec (.ifHalt c) s = .next t ∧ (∀ m, m ∈ s.members c → t.haltBit m = true ∧ (t.core m).steps = some 0)
            ∧ ∀ m, m ∉ s.members c → t.core m = s.core m ∧ t.haltBit m = s.haltBit m)
          ∧ (∃ t, exec (.ifGo c) s = .next t ∧ t.cores = s.cores ∧ (∀ m, m ∈ s.members c → t.haltBit m = false)
            ∧ ∀ m, m ∉ s.members c → t.haltBit m = s.haltBit m)
          ∧ (∀ n, 1 ≤ n → n ≤ 256 → s.haltBit c = true → ∃ t, exec (.ifStep c n) s = .next t
            ∧ (∀ m, m ∈ s.members c → (t.core m).steps = some n) ∧ ∀ m, m ∉ s.members c → t.core m = s.core m)
          ∧ ∃ t, exec (.ifTraceOn c) s = .next t ∧ t.fld (rDBG_STATUS) 10 4 = c.val ∧ t.bit (rDBG_STATUS) 3 = true ∧ t.cores = s.cores
            ∧ (s.fld (rDBG_STATUS) 10 4 ≠ c.val → t.mon.trace = [] ∧ t.reg (rDBG_TRPTR) = 0)
            ∧ (s.fld (rDBG_STATUS) 10 4 = c.val → t.mon.trace = s.mon.trace ∧ t.reg (rDBG_TRPTR) = s.reg (rDBG_TRPTR)))
        ∧ (∃ t, exec .ifTraceOff s = .next t ∧ t.bit (rDBG_STATUS) 3 = false ∧ t.mon = s.mon ∧ t.cores = s.cores)
        ∧ (s.accepts 9 (rRST_CTRL) 2 3 → ∃ t, exec .ifResetCore s = .next t ∧ t.reg (rRST_CAUSE) = (s.reg (rRST_CAUSE) ||| 0x40)
          ∧ (s.phase = .run → t.coreRst = some .asked) ∧ t.out = s.out ++ [.line "ok"])
        ∧ (s.accepts 9 (rRST_CTRL) 1 3 → s.power.failed = false → s.nvPulse = false → ∃ t, exec .ifResetSys s = .next t
          ∧ s.restarted t 0x20)
        ∧ (s.accepts 9 (rRST_PSREQ) 0x80000001 0x80000003 → s.power.failed = false → s.phase = .run → s.fld (rRST_STATUS) 5 4 = 0 →
          (∀ c, (s.core c).st.movable = true) → ∃ t, exec (.ifPs 1) s = .next t ∧ t.psPend = some 1 ∧ t.out = s.out ++ [.line "ok"])))

/-! ## Invariants of the whole module -/

/-- R12: whatever the command, a legal gang map stays legal: each gang's leader leads itself, lies in the gang's cluster, and has its lowest
index. -/
def Obligations.GangsStayLegal : Prop := ∀ s t : State, s.gangsOk → step s = .next t → t.gangsOk

/-- R12, R20: after reset every core is its own gang, and the gang map is legal; and no command waits (the model's choice, log entry 1). -/
def Obligations.ResetGangs : Prop := State.reset.gangsOk ∧ (∀ c, State.reset.members c = [c]) ∧ State.reset.pending = []
end

