-- ==== Sys2Proof/Laws/State.lean ====
section
/-!
SUPPORT. One lemma for each field of the state and each elementary update of it, so that no later proof unfolds a record update.
-/
namespace Sys2Proof.Machine

@[simp] theorem State.setCore_pending (s : State) (c : Fin 96) (k : Core) : (s.setCore c k).pending = s.pending := rfl
@[simp] theorem State.setCore_cycle (s : State) (c : Fin 96) (k : Core) : (s.setCore c k).cycle = s.cycle := rfl
@[simp] theorem State.setCore_regs (s : State) (c : Fin 96) (k : Core) : (s.setCore c k).regs = s.regs := rfl
@[simp] theorem State.setCore_shadows (s : State) (c : Fin 96) (k : Core) : (s.setCore c k).shadows = s.shadows := rfl
@[simp] theorem State.setCore_guards (s : State) (c : Fin 96) (k : Core) : (s.setCore c k).guards = s.guards := rfl
@[simp] theorem State.setCore_gstat (s : State) (c : Fin 96) (k : Core) : (s.setCore c k).gstat = s.gstat := rfl
@[simp] theorem State.setCore_gang (s : State) (c : Fin 96) (k : Core) : (s.setCore c k).gang = s.gang := rfl
@[simp] theorem State.setCore_parts (s : State) (c : Fin 96) (k : Core) : (s.setCore c k).parts = s.parts := rfl
@[simp] theorem State.setCore_slwinNow (s : State) (c : Fin 96) (k : Core) : (s.setCore c k).slwinNow = s.slwinNow := rfl
@[simp] theorem State.setCore_dieTemp (s : State) (c : Fin 96) (k : Core) : (s.setCore c k).dieTemp = s.dieTemp := rfl
@[simp] theorem State.setCore_dieVolt (s : State) (c : Fin 96) (k : Core) : (s.setCore c k).dieVolt = s.dieVolt := rfl
@[simp] theorem State.setCore_hbm (s : State) (c : Fin 96) (k : Core) : (s.setCore c k).hbm = s.hbm := rfl
@[simp] theorem State.setCore_hbmPois (s : State) (c : Fin 96) (k : Core) : (s.setCore c k).hbmPois = s.hbmPois := rfl
@[simp] theorem State.setCore_hbmInj (s : State) (c : Fin 96) (k : Core) : (s.setCore c k).hbmInj = s.hbmInj := rfl
@[simp] theorem State.setCore_damage (s : State) (c : Fin 96) (k : Core) : (s.setCore c k).damage = s.damage := rfl
@[simp] theorem State.setCore_memLines (s : State) (c : Fin 96) (k : Core) : (s.setCore c k).memLines = s.memLines := rfl
@[simp] theorem State.setCore_lineFaults (s : State) (c : Fin 96) (k : Core) : (s.setCore c k).lineFaults = s.lineFaults := rfl
@[simp] theorem State.setCore_memErrs (s : State) (c : Fin 96) (k : Core) : (s.setCore c k).memErrs = s.memErrs := rfl
@[simp] theorem State.setCore_injPois (s : State) (c : Fin 96) (k : Core) : (s.setCore c k).injPois = s.injPois := rfl
@[simp] theorem State.setCore_hostIn (s : State) (c : Fin 96) (k : Core) : (s.setCore c k).hostIn = s.hostIn := rfl
@[simp] theorem State.setCore_hostPois (s : State) (c : Fin 96) (k : Core) : (s.setCore c k).hostPois = s.hostPois := rfl
@[simp] theorem State.setCore_flights (s : State) (c : Fin 96) (k : Core) : (s.setCore c k).flights = s.flights := rfl
@[simp] theorem State.setCore_rounds (s : State) (c : Fin 96) (k : Core) : (s.setCore c k).rounds = s.rounds := rfl
@[simp] theorem State.setCore_barCfg (s : State) (c : Fin 96) (k : Core) : (s.setCore c k).barCfg = s.barCfg := rfl
@[simp] theorem State.setCore_barPend (s : State) (c : Fin 96) (k : Core) : (s.setCore c k).barPend = s.barPend := rfl
@[simp] theorem State.setCore_barCap (s : State) (c : Fin 96) (k : Core) : (s.setCore c k).barCap = s.barCap := rfl
@[simp] theorem State.setCore_gangPend (s : State) (c : Fin 96) (k : Core) : (s.setCore c k).gangPend = s.gangPend := rfl
@[simp] theorem State.setCore_winDue (s : State) (c : Fin 96) (k : Core) : (s.setCore c k).winDue = s.winDue := rfl
@[simp] theorem State.setCore_coreRst (s : State) (c : Fin 96) (k : Core) : (s.setCore c k).coreRst = s.coreRst := rfl
@[simp] theorem State.setCore_fatal (s : State) (c : Fin 96) (k : Core) : (s.setCore c k).fatal = s.fatal := rfl
@[simp] theorem State.setCore_lockRun (s : State) (c : Fin 96) (k : Core) : (s.setCore c k).lockRun = s.lockRun := rfl
@[simp] theorem State.setCore_lockFrame (s : State) (c : Fin 96) (k : Core) : (s.setCore c k).lockFrame = s.lockFrame := rfl
@[simp] theorem State.setCore_lockLost (s : State) (c : Fin 96) (k : Core) : (s.setCore c k).lockLost = s.lockLost := rfl
@[simp] theorem State.setCore_step (s : State) (c : Fin 96) (k : Core) : (s.setCore c k).step = s.step := rfl
@[simp] theorem State.setCore_ports (s : State) (c : Fin 96) (k : Core) : (s.setCore c k).ports = s.ports := rfl
@[simp] theorem State.setCore_inbox (s : State) (c : Fin 96) (k : Core) : (s.setCore c k).inbox = s.inbox := rfl
@[simp] theorem State.setCore_reqs (s : State) (c : Fin 96) (k : Core) : (s.setCore c k).reqs = s.reqs := rfl
@[simp] theorem State.setCore_nextTag (s : State) (c : Fin 96) (k : Core) : (s.setCore c k).nextTag = s.nextTag := rfl
@[simp] theorem State.setCore_bushels (s : State) (c : Fin 96) (k : Core) : (s.setCore c k).bushels = s.bushels := rfl
@[simp] theorem State.setCore_errPend (s : State) (c : Fin 96) (k : Core) : (s.setCore c k).errPend = s.errPend := rfl
@[simp] theorem State.setCore_hist (s : State) (c : Fin 96) (k : Core) : (s.setCore c k).hist = s.hist := rfl
@[simp] theorem State.setCore_evlog (s : State) (c : Fin 96) (k : Core) : (s.setCore c k).evlog = s.evlog := rfl
@[simp] theorem State.setCore_nv (s : State) (c : Fin 96) (k : Core) : (s.setCore c k).nv = s.nv := rfl
@[simp] theorem State.setCore_podRel (s : State) (c : Fin 96) (k : Core) : (s.setCore c k).podRel = s.podRel := rfl
@[simp] theorem State.setCore_podSent (s : State) (c : Fin 96) (k : Core) : (s.setCore c k).podSent = s.podSent := rfl
@[simp] theorem State.setCore_errq (s : State) (c : Fin 96) (k : Core) : (s.setCore c k).errq = s.errq := rfl
@[simp] theorem State.setCore_firstRec (s : State) (c : Fin 96) (k : Core) : (s.setCore c k).firstRec = s.firstRec := rfl
@[simp] theorem State.setCore_lastRec (s : State) (c : Fin 96) (k : Core) : (s.setCore c k).lastRec = s.lastRec := rfl
@[simp] theorem State.setCore_logMsi (s : State) (c : Fin 96) (k : Core) : (s.setCore c k).logMsi = s.logMsi := rfl
@[simp] theorem State.setCore_phase (s : State) (c : Fin 96) (k : Core) : (s.setCore c k).phase = s.phase := rfl
@[simp] theorem State.setCore_pwrEn (s : State) (c : Fin 96) (k : Core) : (s.setCore c k).pwrEn = s.pwrEn := rfl
@[simp] theorem State.setCore_perst (s : State) (c : Fin 96) (k : Core) : (s.setCore c k).perst = s.perst := rfl
@[simp] theorem State.setCore_nvPulse (s : State) (c : Fin 96) (k : Core) : (s.setCore c k).nvPulse = s.nvPulse := rfl
@[simp] theorem State.setCore_rstDelayed (s : State) (c : Fin 96) (k : Core) : (s.setCore c k).rstDelayed = s.rstDelayed := rfl
@[simp] theorem State.setCore_psPend (s : State) (c : Fin 96) (k : Core) : (s.setCore c k).psPend = s.psPend := rfl
@[simp] theorem State.setCore_scrub (s : State) (c : Fin 96) (k : Core) : (s.setCore c k).scrub = s.scrub := rfl
@[simp] theorem State.setCore_scrubW (s : State) (c : Fin 96) (k : Core) : (s.setCore c k).scrubW = s.scrubW := rfl
@[simp] theorem State.setCore_power (s : State) (c : Fin 96) (k : Core) : (s.setCore c k).power = s.power := rfl
@[simp] theorem State.setCore_sec (s : State) (c : Fin 96) (k : Core) : (s.setCore c k).sec = s.sec := rfl
@[simp] theorem State.setCore_mon (s : State) (c : Fin 96) (k : Core) : (s.setCore c k).mon = s.mon := rfl
@[simp] theorem State.setCore_clock (s : State) (c : Fin 96) (k : Core) : (s.setCore c k).clock = s.clock := rfl
@[simp] theorem State.setCore_hostLines (s : State) (c : Fin 96) (k : Core) : (s.setCore c k).hostLines = s.hostLines := rfl
@[simp] theorem State.setCore_snoopIn (s : State) (c : Fin 96) (k : Core) : (s.setCore c k).snoopIn = s.snoopIn := rfl
@[simp] theorem State.setCore_hdm (s : State) (c : Fin 96) (k : Core) : (s.setCore c k).hdm = s.hdm := rfl
@[simp] theorem State.setCore_vfs (s : State) (c : Fin 96) (k : Core) : (s.setCore c k).vfs = s.vfs := rfl
@[simp] theorem State.setCore_bar0 (s : State) (c : Fin 96) (k : Core) : (s.setCore c k).bar0 = s.bar0 := rfl
@[simp] theorem State.setCore_msix (s : State) (c : Fin 96) (k : Core) : (s.setCore c k).msix = s.msix := rfl
@[simp] theorem State.setCore_msixPend (s : State) (c : Fin 96) (k : Core) : (s.setCore c k).msixPend = s.msixPend := rfl
@[simp] theorem State.setCore_i3cAddr (s : State) (c : Fin 96) (k : Core) : (s.setCore c k).i3cAddr = s.i3cAddr := rfl
@[simp] theorem State.setCore_out (s : State) (c : Fin 96) (k : Core) : (s.setCore c k).out = s.out := rfl
@[simp] theorem State.setCore_freeCtr (s : State) (c : Fin 96) (k : Core) : (s.setCore c k).freeCtr = s.freeCtr := rfl
@[simp] theorem State.setCore_nextId (s : State) (c : Fin 96) (k : Core) : (s.setCore c k).nextId = s.nextId := rfl

@[simp] theorem State.modCore_pending (s : State) (c : Fin 96) (g : Core → Core) : (s.modCore c g).pending = s.pending := rfl
@[simp] theorem State.modCore_cycle (s : State) (c : Fin 96) (g : Core → Core) : (s.modCore c g).cycle = s.cycle := rfl
@[simp] theorem State.modCore_regs (s : State) (c : Fin 96) (g : Core → Core) : (s.modCore c g).regs = s.regs := rfl
@[simp] theorem State.modCore_shadows (s : State) (c : Fin 96) (g : Core → Core) : (s.modCore c g).shadows = s.shadows := rfl
@[simp] theorem State.modCore_guards (s : State) (c : Fin 96) (g : Core → Core) : (s.modCore c g).guards = s.guards := rfl
@[simp] theorem State.modCore_gstat (s : State) (c : Fin 96) (g : Core → Core) : (s.modCore c g).gstat = s.gstat := rfl
@[simp] theorem State.modCore_gang (s : State) (c : Fin 96) (g : Core → Core) : (s.modCore c g).gang = s.gang := rfl
@[simp] theorem State.modCore_parts (s : State) (c : Fin 96) (g : Core → Core) : (s.modCore c g).parts = s.parts := rfl
@[simp] theorem State.modCore_slwinNow (s : State) (c : Fin 96) (g : Core → Core) : (s.modCore c g).slwinNow = s.slwinNow := rfl
@[simp] theorem State.modCore_dieTemp (s : State) (c : Fin 96) (g : Core → Core) : (s.modCore c g).dieTemp = s.dieTemp := rfl
@[simp] theorem State.modCore_dieVolt (s : State) (c : Fin 96) (g : Core → Core) : (s.modCore c g).dieVolt = s.dieVolt := rfl
@[simp] theorem State.modCore_hbm (s : State) (c : Fin 96) (g : Core → Core) : (s.modCore c g).hbm = s.hbm := rfl
@[simp] theorem State.modCore_hbmPois (s : State) (c : Fin 96) (g : Core → Core) : (s.modCore c g).hbmPois = s.hbmPois := rfl
@[simp] theorem State.modCore_hbmInj (s : State) (c : Fin 96) (g : Core → Core) : (s.modCore c g).hbmInj = s.hbmInj := rfl
@[simp] theorem State.modCore_damage (s : State) (c : Fin 96) (g : Core → Core) : (s.modCore c g).damage = s.damage := rfl
@[simp] theorem State.modCore_memLines (s : State) (c : Fin 96) (g : Core → Core) : (s.modCore c g).memLines = s.memLines := rfl
@[simp] theorem State.modCore_lineFaults (s : State) (c : Fin 96) (g : Core → Core) : (s.modCore c g).lineFaults = s.lineFaults := rfl
@[simp] theorem State.modCore_memErrs (s : State) (c : Fin 96) (g : Core → Core) : (s.modCore c g).memErrs = s.memErrs := rfl
@[simp] theorem State.modCore_injPois (s : State) (c : Fin 96) (g : Core → Core) : (s.modCore c g).injPois = s.injPois := rfl
@[simp] theorem State.modCore_hostIn (s : State) (c : Fin 96) (g : Core → Core) : (s.modCore c g).hostIn = s.hostIn := rfl
@[simp] theorem State.modCore_hostPois (s : State) (c : Fin 96) (g : Core → Core) : (s.modCore c g).hostPois = s.hostPois := rfl
@[simp] theorem State.modCore_flights (s : State) (c : Fin 96) (g : Core → Core) : (s.modCore c g).flights = s.flights := rfl
@[simp] theorem State.modCore_rounds (s : State) (c : Fin 96) (g : Core → Core) : (s.modCore c g).rounds = s.rounds := rfl
@[simp] theorem State.modCore_barCfg (s : State) (c : Fin 96) (g : Core → Core) : (s.modCore c g).barCfg = s.barCfg := rfl
@[simp] theorem State.modCore_barPend (s : State) (c : Fin 96) (g : Core → Core) : (s.modCore c g).barPend = s.barPend := rfl
@[simp] theorem State.modCore_barCap (s : State) (c : Fin 96) (g : Core → Core) : (s.modCore c g).barCap = s.barCap := rfl
@[simp] theorem State.modCore_gangPend (s : State) (c : Fin 96) (g : Core → Core) : (s.modCore c g).gangPend = s.gangPend := rfl
@[simp] theorem State.modCore_winDue (s : State) (c : Fin 96) (g : Core → Core) : (s.modCore c g).winDue = s.winDue := rfl
@[simp] theorem State.modCore_coreRst (s : State) (c : Fin 96) (g : Core → Core) : (s.modCore c g).coreRst = s.coreRst := rfl
@[simp] theorem State.modCore_fatal (s : State) (c : Fin 96) (g : Core → Core) : (s.modCore c g).fatal = s.fatal := rfl
@[simp] theorem State.modCore_lockRun (s : State) (c : Fin 96) (g : Core → Core) : (s.modCore c g).lockRun = s.lockRun := rfl
@[simp] theorem State.modCore_lockFrame (s : State) (c : Fin 96) (g : Core → Core) : (s.modCore c g).lockFrame = s.lockFrame := rfl
@[simp] theorem State.modCore_lockLost (s : State) (c : Fin 96) (g : Core → Core) : (s.modCore c g).lockLost = s.lockLost := rfl
@[simp] theorem State.modCore_step (s : State) (c : Fin 96) (g : Core → Core) : (s.modCore c g).step = s.step := rfl
@[simp] theorem State.modCore_ports (s : State) (c : Fin 96) (g : Core → Core) : (s.modCore c g).ports = s.ports := rfl
@[simp] theorem State.modCore_inbox (s : State) (c : Fin 96) (g : Core → Core) : (s.modCore c g).inbox = s.inbox := rfl
@[simp] theorem State.modCore_reqs (s : State) (c : Fin 96) (g : Core → Core) : (s.modCore c g).reqs = s.reqs := rfl
@[simp] theorem State.modCore_nextTag (s : State) (c : Fin 96) (g : Core → Core) : (s.modCore c g).nextTag = s.nextTag := rfl
@[simp] theorem State.modCore_bushels (s : State) (c : Fin 96) (g : Core → Core) : (s.modCore c g).bushels = s.bushels := rfl
@[simp] theorem State.modCore_errPend (s : State) (c : Fin 96) (g : Core → Core) : (s.modCore c g).errPend = s.errPend := rfl
@[simp] theorem State.modCore_hist (s : State) (c : Fin 96) (g : Core → Core) : (s.modCore c g).hist = s.hist := rfl
@[simp] theorem State.modCore_evlog (s : State) (c : Fin 96) (g : Core → Core) : (s.modCore c g).evlog = s.evlog := rfl
@[simp] theorem State.modCore_nv (s : State) (c : Fin 96) (g : Core → Core) : (s.modCore c g).nv = s.nv := rfl
@[simp] theorem State.modCore_podRel (s : State) (c : Fin 96) (g : Core → Core) : (s.modCore c g).podRel = s.podRel := rfl
@[simp] theorem State.modCore_podSent (s : State) (c : Fin 96) (g : Core → Core) : (s.modCore c g).podSent = s.podSent := rfl
@[simp] theorem State.modCore_errq (s : State) (c : Fin 96) (g : Core → Core) : (s.modCore c g).errq = s.errq := rfl
@[simp] theorem State.modCore_firstRec (s : State) (c : Fin 96) (g : Core → Core) : (s.modCore c g).firstRec = s.firstRec := rfl
@[simp] theorem State.modCore_lastRec (s : State) (c : Fin 96) (g : Core → Core) : (s.modCore c g).lastRec = s.lastRec := rfl
@[simp] theorem State.modCore_logMsi (s : State) (c : Fin 96) (g : Core → Core) : (s.modCore c g).logMsi = s.logMsi := rfl
@[simp] theorem State.modCore_phase (s : State) (c : Fin 96) (g : Core → Core) : (s.modCore c g).phase = s.phase := rfl
@[simp] theorem State.modCore_pwrEn (s : State) (c : Fin 96) (g : Core → Core) : (s.modCore c g).pwrEn = s.pwrEn := rfl
@[simp] theorem State.modCore_perst (s : State) (c : Fin 96) (g : Core → Core) : (s.modCore c g).perst = s.perst := rfl
@[simp] theorem State.modCore_nvPulse (s : State) (c : Fin 96) (g : Core → Core) : (s.modCore c g).nvPulse = s.nvPulse := rfl
@[simp] theorem State.modCore_rstDelayed (s : State) (c : Fin 96) (g : Core → Core) : (s.modCore c g).rstDelayed = s.rstDelayed := rfl
@[simp] theorem State.modCore_psPend (s : State) (c : Fin 96) (g : Core → Core) : (s.modCore c g).psPend = s.psPend := rfl
@[simp] theorem State.modCore_scrub (s : State) (c : Fin 96) (g : Core → Core) : (s.modCore c g).scrub = s.scrub := rfl
@[simp] theorem State.modCore_scrubW (s : State) (c : Fin 96) (g : Core → Core) : (s.modCore c g).scrubW = s.scrubW := rfl
@[simp] theorem State.modCore_power (s : State) (c : Fin 96) (g : Core → Core) : (s.modCore c g).power = s.power := rfl
@[simp] theorem State.modCore_sec (s : State) (c : Fin 96) (g : Core → Core) : (s.modCore c g).sec = s.sec := rfl
@[simp] theorem State.modCore_mon (s : State) (c : Fin 96) (g : Core → Core) : (s.modCore c g).mon = s.mon := rfl
@[simp] theorem State.modCore_clock (s : State) (c : Fin 96) (g : Core → Core) : (s.modCore c g).clock = s.clock := rfl
@[simp] theorem State.modCore_hostLines (s : State) (c : Fin 96) (g : Core → Core) : (s.modCore c g).hostLines = s.hostLines := rfl
@[simp] theorem State.modCore_snoopIn (s : State) (c : Fin 96) (g : Core → Core) : (s.modCore c g).snoopIn = s.snoopIn := rfl
@[simp] theorem State.modCore_hdm (s : State) (c : Fin 96) (g : Core → Core) : (s.modCore c g).hdm = s.hdm := rfl
@[simp] theorem State.modCore_vfs (s : State) (c : Fin 96) (g : Core → Core) : (s.modCore c g).vfs = s.vfs := rfl
@[simp] theorem State.modCore_bar0 (s : State) (c : Fin 96) (g : Core → Core) : (s.modCore c g).bar0 = s.bar0 := rfl
@[simp] theorem State.modCore_msix (s : State) (c : Fin 96) (g : Core → Core) : (s.modCore c g).msix = s.msix := rfl
@[simp] theorem State.modCore_msixPend (s : State) (c : Fin 96) (g : Core → Core) : (s.modCore c g).msixPend = s.msixPend := rfl
@[simp] theorem State.modCore_i3cAddr (s : State) (c : Fin 96) (g : Core → Core) : (s.modCore c g).i3cAddr = s.i3cAddr := rfl
@[simp] theorem State.modCore_out (s : State) (c : Fin 96) (g : Core → Core) : (s.modCore c g).out = s.out := rfl
@[simp] theorem State.modCore_freeCtr (s : State) (c : Fin 96) (g : Core → Core) : (s.modCore c g).freeCtr = s.freeCtr := rfl
@[simp] theorem State.modCore_nextId (s : State) (c : Fin 96) (g : Core → Core) : (s.modCore c g).nextId = s.nextId := rfl

@[simp] theorem State.setReg_pending (s : State) (o : Nat) (v : Word32) : (s.setReg o v).pending = s.pending := rfl
@[simp] theorem State.setReg_cycle (s : State) (o : Nat) (v : Word32) : (s.setReg o v).cycle = s.cycle := rfl
@[simp] theorem State.setReg_shadows (s : State) (o : Nat) (v : Word32) : (s.setReg o v).shadows = s.shadows := rfl
@[simp] theorem State.setReg_guards (s : State) (o : Nat) (v : Word32) : (s.setReg o v).guards = s.guards := rfl
@[simp] theorem State.setReg_gstat (s : State) (o : Nat) (v : Word32) : (s.setReg o v).gstat = s.gstat := rfl
@[simp] theorem State.setReg_cores (s : State) (o : Nat) (v : Word32) : (s.setReg o v).cores = s.cores := rfl
@[simp] theorem State.setReg_gang (s : State) (o : Nat) (v : Word32) : (s.setReg o v).gang = s.gang := rfl
@[simp] theorem State.setReg_parts (s : State) (o : Nat) (v : Word32) : (s.setReg o v).parts = s.parts := rfl
@[simp] theorem State.setReg_slwinNow (s : State) (o : Nat) (v : Word32) : (s.setReg o v).slwinNow = s.slwinNow := rfl
@[simp] theorem State.setReg_dieTemp (s : State) (o : Nat) (v : Word32) : (s.setReg o v).dieTemp = s.dieTemp := rfl
@[simp] theorem State.setReg_dieVolt (s : State) (o : Nat) (v : Word32) : (s.setReg o v).dieVolt = s.dieVolt := rfl
@[simp] theorem State.setReg_hbm (s : State) (o : Nat) (v : Word32) : (s.setReg o v).hbm = s.hbm := rfl
@[simp] theorem State.setReg_hbmPois (s : State) (o : Nat) (v : Word32) : (s.setReg o v).hbmPois = s.hbmPois := rfl
@[simp] theorem State.setReg_hbmInj (s : State) (o : Nat) (v : Word32) : (s.setReg o v).hbmInj = s.hbmInj := rfl
@[simp] theorem State.setReg_damage (s : State) (o : Nat) (v : Word32) : (s.setReg o v).damage = s.damage := rfl
@[simp] theorem State.setReg_memLines (s : State) (o : Nat) (v : Word32) : (s.setReg o v).memLines = s.memLines := rfl
@[simp] theorem State.setReg_lineFaults (s : State) (o : Nat) (v : Word32) : (s.setReg o v).lineFaults = s.lineFaults := rfl
@[simp] theorem State.setReg_memErrs (s : State) (o : Nat) (v : Word32) : (s.setReg o v).memErrs = s.memErrs := rfl
@[simp] theorem State.setReg_injPois (s : State) (o : Nat) (v : Word32) : (s.setReg o v).injPois = s.injPois := rfl
@[simp] theorem State.setReg_hostIn (s : State) (o : Nat) (v : Word32) : (s.setReg o v).hostIn = s.hostIn := rfl
@[simp] theorem State.setReg_hostPois (s : State) (o : Nat) (v : Word32) : (s.setReg o v).hostPois = s.hostPois := rfl
@[simp] theorem State.setReg_flights (s : State) (o : Nat) (v : Word32) : (s.setReg o v).flights = s.flights := rfl
@[simp] theorem State.setReg_rounds (s : State) (o : Nat) (v : Word32) : (s.setReg o v).rounds = s.rounds := rfl
@[simp] theorem State.setReg_barCfg (s : State) (o : Nat) (v : Word32) : (s.setReg o v).barCfg = s.barCfg := rfl
@[simp] theorem State.setReg_barPend (s : State) (o : Nat) (v : Word32) : (s.setReg o v).barPend = s.barPend := rfl
@[simp] theorem State.setReg_barCap (s : State) (o : Nat) (v : Word32) : (s.setReg o v).barCap = s.barCap := rfl
@[simp] theorem State.setReg_gangPend (s : State) (o : Nat) (v : Word32) : (s.setReg o v).gangPend = s.gangPend := rfl
@[simp] theorem State.setReg_winDue (s : State) (o : Nat) (v : Word32) : (s.setReg o v).winDue = s.winDue := rfl
@[simp] theorem State.setReg_coreRst (s : State) (o : Nat) (v : Word32) : (s.setReg o v).coreRst = s.coreRst := rfl
@[simp] theorem State.setReg_fatal (s : State) (o : Nat) (v : Word32) : (s.setReg o v).fatal = s.fatal := rfl
@[simp] theorem State.setReg_lockRun (s : State) (o : Nat) (v : Word32) : (s.setReg o v).lockRun = s.lockRun := rfl
@[simp] theorem State.setReg_lockFrame (s : State) (o : Nat) (v : Word32) : (s.setReg o v).lockFrame = s.lockFrame := rfl
@[simp] theorem State.setReg_lockLost (s : State) (o : Nat) (v : Word32) : (s.setReg o v).lockLost = s.lockLost := rfl
@[simp] theorem State.setReg_step (s : State) (o : Nat) (v : Word32) : (s.setReg o v).step = s.step := rfl
@[simp] theorem State.setReg_ports (s : State) (o : Nat) (v : Word32) : (s.setReg o v).ports = s.ports := rfl
@[simp] theorem State.setReg_inbox (s : State) (o : Nat) (v : Word32) : (s.setReg o v).inbox = s.inbox := rfl
@[simp] theorem State.setReg_reqs (s : State) (o : Nat) (v : Word32) : (s.setReg o v).reqs = s.reqs := rfl
@[simp] theorem State.setReg_nextTag (s : State) (o : Nat) (v : Word32) : (s.setReg o v).nextTag = s.nextTag := rfl
@[simp] theorem State.setReg_bushels (s : State) (o : Nat) (v : Word32) : (s.setReg o v).bushels = s.bushels := rfl
@[simp] theorem State.setReg_errPend (s : State) (o : Nat) (v : Word32) : (s.setReg o v).errPend = s.errPend := rfl
@[simp] theorem State.setReg_hist (s : State) (o : Nat) (v : Word32) : (s.setReg o v).hist = s.hist := rfl
@[simp] theorem State.setReg_evlog (s : State) (o : Nat) (v : Word32) : (s.setReg o v).evlog = s.evlog := rfl
@[simp] theorem State.setReg_nv (s : State) (o : Nat) (v : Word32) : (s.setReg o v).nv = s.nv := rfl
@[simp] theorem State.setReg_podRel (s : State) (o : Nat) (v : Word32) : (s.setReg o v).podRel = s.podRel := rfl
@[simp] theorem State.setReg_podSent (s : State) (o : Nat) (v : Word32) : (s.setReg o v).podSent = s.podSent := rfl
@[simp] theorem State.setReg_errq (s : State) (o : Nat) (v : Word32) : (s.setReg o v).errq = s.errq := rfl
@[simp] theorem State.setReg_firstRec (s : State) (o : Nat) (v : Word32) : (s.setReg o v).firstRec = s.firstRec := rfl
@[simp] theorem State.setReg_lastRec (s : State) (o : Nat) (v : Word32) : (s.setReg o v).lastRec = s.lastRec := rfl
@[simp] theorem State.setReg_logMsi (s : State) (o : Nat) (v : Word32) : (s.setReg o v).logMsi = s.logMsi := rfl
@[simp] theorem State.setReg_phase (s : State) (o : Nat) (v : Word32) : (s.setReg o v).phase = s.phase := rfl
@[simp] theorem State.setReg_pwrEn (s : State) (o : Nat) (v : Word32) : (s.setReg o v).pwrEn = s.pwrEn := rfl
@[simp] theorem State.setReg_perst (s : State) (o : Nat) (v : Word32) : (s.setReg o v).perst = s.perst := rfl
@[simp] theorem State.setReg_nvPulse (s : State) (o : Nat) (v : Word32) : (s.setReg o v).nvPulse = s.nvPulse := rfl
@[simp] theorem State.setReg_rstDelayed (s : State) (o : Nat) (v : Word32) : (s.setReg o v).rstDelayed = s.rstDelayed := rfl
@[simp] theorem State.setReg_psPend (s : State) (o : Nat) (v : Word32) : (s.setReg o v).psPend = s.psPend := rfl
@[simp] theorem State.setReg_scrub (s : State) (o : Nat) (v : Word32) : (s.setReg o v).scrub = s.scrub := rfl
@[simp] theorem State.setReg_scrubW (s : State) (o : Nat) (v : Word32) : (s.setReg o v).scrubW = s.scrubW := rfl
@[simp] theorem State.setReg_power (s : State) (o : Nat) (v : Word32) : (s.setReg o v).power = s.power := rfl
@[simp] theorem State.setReg_sec (s : State) (o : Nat) (v : Word32) : (s.setReg o v).sec = s.sec := rfl
@[simp] theorem State.setReg_mon (s : State) (o : Nat) (v : Word32) : (s.setReg o v).mon = s.mon := rfl
@[simp] theorem State.setReg_clock (s : State) (o : Nat) (v : Word32) : (s.setReg o v).clock = s.clock := rfl
@[simp] theorem State.setReg_hostLines (s : State) (o : Nat) (v : Word32) : (s.setReg o v).hostLines = s.hostLines := rfl
@[simp] theorem State.setReg_snoopIn (s : State) (o : Nat) (v : Word32) : (s.setReg o v).snoopIn = s.snoopIn := rfl
@[simp] theorem State.setReg_hdm (s : State) (o : Nat) (v : Word32) : (s.setReg o v).hdm = s.hdm := rfl
@[simp] theorem State.setReg_vfs (s : State) (o : Nat) (v : Word32) : (s.setReg o v).vfs = s.vfs := rfl
@[simp] theorem State.setReg_bar0 (s : State) (o : Nat) (v : Word32) : (s.setReg o v).bar0 = s.bar0 := rfl
@[simp] theorem State.setReg_msix (s : State) (o : Nat) (v : Word32) : (s.setReg o v).msix = s.msix := rfl
@[simp] theorem State.setReg_msixPend (s : State) (o : Nat) (v : Word32) : (s.setReg o v).msixPend = s.msixPend := rfl
@[simp] theorem State.setReg_i3cAddr (s : State) (o : Nat) (v : Word32) : (s.setReg o v).i3cAddr = s.i3cAddr := rfl
@[simp] theorem State.setReg_out (s : State) (o : Nat) (v : Word32) : (s.setReg o v).out = s.out := rfl
@[simp] theorem State.setReg_freeCtr (s : State) (o : Nat) (v : Word32) : (s.setReg o v).freeCtr = s.freeCtr := rfl
@[simp] theorem State.setReg_nextId (s : State) (o : Nat) (v : Word32) : (s.setReg o v).nextId = s.nextId := rfl

@[simp] theorem State.setFld_pending (s : State) (o h l v : Nat) : (s.setFld o h l v).pending = s.pending := rfl
@[simp] theorem State.setFld_cycle (s : State) (o h l v : Nat) : (s.setFld o h l v).cycle = s.cycle := rfl
@[simp] theorem State.setFld_shadows (s : State) (o h l v : Nat) : (s.setFld o h l v).shadows = s.shadows := rfl
@[simp] theorem State.setFld_guards (s : State) (o h l v : Nat) : (s.setFld o h l v).guards = s.guards := rfl
@[simp] theorem State.setFld_gstat (s : State) (o h l v : Nat) : (s.setFld o h l v).gstat = s.gstat := rfl
@[simp] theorem State.setFld_cores (s : State) (o h l v : Nat) : (s.setFld o h l v).cores = s.cores := rfl
@[simp] theorem State.setFld_gang (s : State) (o h l v : Nat) : (s.setFld o h l v).gang = s.gang := rfl
@[simp] theorem State.setFld_parts (s : State) (o h l v : Nat) : (s.setFld o h l v).parts = s.parts := rfl
@[simp] theorem State.setFld_slwinNow (s : State) (o h l v : Nat) : (s.setFld o h l v).slwinNow = s.slwinNow := rfl
@[simp] theorem State.setFld_dieTemp (s : State) (o h l v : Nat) : (s.setFld o h l v).dieTemp = s.dieTemp := rfl
@[simp] theorem State.setFld_dieVolt (s : State) (o h l v : Nat) : (s.setFld o h l v).dieVolt = s.dieVolt := rfl
@[simp] theorem State.setFld_hbm (s : State) (o h l v : Nat) : (s.setFld o h l v).hbm = s.hbm := rfl
@[simp] theorem State.setFld_hbmPois (s : State) (o h l v : Nat) : (s.setFld o h l v).hbmPois = s.hbmPois := rfl
@[simp] theorem State.setFld_hbmInj (s : State) (o h l v : Nat) : (s.setFld o h l v).hbmInj = s.hbmInj := rfl
@[simp] theorem State.setFld_damage (s : State) (o h l v : Nat) : (s.setFld o h l v).damage = s.damage := rfl
@[simp] theorem State.setFld_memLines (s : State) (o h l v : Nat) : (s.setFld o h l v).memLines = s.memLines := rfl
@[simp] theorem State.setFld_lineFaults (s : State) (o h l v : Nat) : (s.setFld o h l v).lineFaults = s.lineFaults := rfl
@[simp] theorem State.setFld_memErrs (s : State) (o h l v : Nat) : (s.setFld o h l v).memErrs = s.memErrs := rfl
@[simp] theorem State.setFld_injPois (s : State) (o h l v : Nat) : (s.setFld o h l v).injPois = s.injPois := rfl
@[simp] theorem State.setFld_hostIn (s : State) (o h l v : Nat) : (s.setFld o h l v).hostIn = s.hostIn := rfl
@[simp] theorem State.setFld_hostPois (s : State) (o h l v : Nat) : (s.setFld o h l v).hostPois = s.hostPois := rfl
@[simp] theorem State.setFld_flights (s : State) (o h l v : Nat) : (s.setFld o h l v).flights = s.flights := rfl
@[simp] theorem State.setFld_rounds (s : State) (o h l v : Nat) : (s.setFld o h l v).rounds = s.rounds := rfl
@[simp] theorem State.setFld_barCfg (s : State) (o h l v : Nat) : (s.setFld o h l v).barCfg = s.barCfg := rfl
@[simp] theorem State.setFld_barPend (s : State) (o h l v : Nat) : (s.setFld o h l v).barPend = s.barPend := rfl
@[simp] theorem State.setFld_barCap (s : State) (o h l v : Nat) : (s.setFld o h l v).barCap = s.barCap := rfl
@[simp] theorem State.setFld_gangPend (s : State) (o h l v : Nat) : (s.setFld o h l v).gangPend = s.gangPend := rfl
@[simp] theorem State.setFld_winDue (s : State) (o h l v : Nat) : (s.setFld o h l v).winDue = s.winDue := rfl
@[simp] theorem State.setFld_coreRst (s : State) (o h l v : Nat) : (s.setFld o h l v).coreRst = s.coreRst := rfl
@[simp] theorem State.setFld_fatal (s : State) (o h l v : Nat) : (s.setFld o h l v).fatal = s.fatal := rfl
@[simp] theorem State.setFld_lockRun (s : State) (o h l v : Nat) : (s.setFld o h l v).lockRun = s.lockRun := rfl
@[simp] theorem State.setFld_lockFrame (s : State) (o h l v : Nat) : (s.setFld o h l v).lockFrame = s.lockFrame := rfl
@[simp] theorem State.setFld_lockLost (s : State) (o h l v : Nat) : (s.setFld o h l v).lockLost = s.lockLost := rfl
@[simp] theorem State.setFld_step (s : State) (o h l v : Nat) : (s.setFld o h l v).step = s.step := rfl
@[simp] theorem State.setFld_ports (s : State) (o h l v : Nat) : (s.setFld o h l v).ports = s.ports := rfl
@[simp] theorem State.setFld_inbox (s : State) (o h l v : Nat) : (s.setFld o h l v).inbox = s.inbox := rfl
@[simp] theorem State.setFld_reqs (s : State) (o h l v : Nat) : (s.setFld o h l v).reqs = s.reqs := rfl
@[simp] theorem State.setFld_nextTag (s : State) (o h l v : Nat) : (s.setFld o h l v).nextTag = s.nextTag := rfl
@[simp] theorem State.setFld_bushels (s : State) (o h l v : Nat) : (s.setFld o h l v).bushels = s.bushels := rfl
@[simp] theorem State.setFld_errPend (s : State) (o h l v : Nat) : (s.setFld o h l v).errPend = s.errPend := rfl
@[simp] theorem State.setFld_hist (s : State) (o h l v : Nat) : (s.setFld o h l v).hist = s.hist := rfl
@[simp] theorem State.setFld_evlog (s : State) (o h l v : Nat) : (s.setFld o h l v).evlog = s.evlog := rfl
@[simp] theorem State.setFld_nv (s : State) (o h l v : Nat) : (s.setFld o h l v).nv = s.nv := rfl
@[simp] theorem State.setFld_podRel (s : State) (o h l v : Nat) : (s.setFld o h l v).podRel = s.podRel := rfl
@[simp] theorem State.setFld_podSent (s : State) (o h l v : Nat) : (s.setFld o h l v).podSent = s.podSent := rfl
@[simp] theorem State.setFld_errq (s : State) (o h l v : Nat) : (s.setFld o h l v).errq = s.errq := rfl
@[simp] theorem State.setFld_firstRec (s : State) (o h l v : Nat) : (s.setFld o h l v).firstRec = s.firstRec := rfl
@[simp] theorem State.setFld_lastRec (s : State) (o h l v : Nat) : (s.setFld o h l v).lastRec = s.lastRec := rfl
@[simp] theorem State.setFld_logMsi (s : State) (o h l v : Nat) : (s.setFld o h l v).logMsi = s.logMsi := rfl
@[simp] theorem State.setFld_phase (s : State) (o h l v : Nat) : (s.setFld o h l v).phase = s.phase := rfl
@[simp] theorem State.setFld_pwrEn (s : State) (o h l v : Nat) : (s.setFld o h l v).pwrEn = s.pwrEn := rfl
@[simp] theorem State.setFld_perst (s : State) (o h l v : Nat) : (s.setFld o h l v).perst = s.perst := rfl
@[simp] theorem State.setFld_nvPulse (s : State) (o h l v : Nat) : (s.setFld o h l v).nvPulse = s.nvPulse := rfl
@[simp] theorem State.setFld_rstDelayed (s : State) (o h l v : Nat) : (s.setFld o h l v).rstDelayed = s.rstDelayed := rfl
@[simp] theorem State.setFld_psPend (s : State) (o h l v : Nat) : (s.setFld o h l v).psPend = s.psPend := rfl
@[simp] theorem State.setFld_scrub (s : State) (o h l v : Nat) : (s.setFld o h l v).scrub = s.scrub := rfl
@[simp] theorem State.setFld_scrubW (s : State) (o h l v : Nat) : (s.setFld o h l v).scrubW = s.scrubW := rfl
@[simp] theorem State.setFld_power (s : State) (o h l v : Nat) : (s.setFld o h l v).power = s.power := rfl
@[simp] theorem State.setFld_sec (s : State) (o h l v : Nat) : (s.setFld o h l v).sec = s.sec := rfl
@[simp] theorem State.setFld_mon (s : State) (o h l v : Nat) : (s.setFld o h l v).mon = s.mon := rfl
@[simp] theorem State.setFld_clock (s : State) (o h l v : Nat) : (s.setFld o h l v).clock = s.clock := rfl
@[simp] theorem State.setFld_hostLines (s : State) (o h l v : Nat) : (s.setFld o h l v).hostLines = s.hostLines := rfl
@[simp] theorem State.setFld_snoopIn (s : State) (o h l v : Nat) : (s.setFld o h l v).snoopIn = s.snoopIn := rfl
@[simp] theorem State.setFld_hdm (s : State) (o h l v : Nat) : (s.setFld o h l v).hdm = s.hdm := rfl
@[simp] theorem State.setFld_vfs (s : State) (o h l v : Nat) : (s.setFld o h l v).vfs = s.vfs := rfl
@[simp] theorem State.setFld_bar0 (s : State) (o h l v : Nat) : (s.setFld o h l v).bar0 = s.bar0 := rfl
@[simp] theorem State.setFld_msix (s : State) (o h l v : Nat) : (s.setFld o h l v).msix = s.msix := rfl
@[simp] theorem State.setFld_msixPend (s : State) (o h l v : Nat) : (s.setFld o h l v).msixPend = s.msixPend := rfl
@[simp] theorem State.setFld_i3cAddr (s : State) (o h l v : Nat) : (s.setFld o h l v).i3cAddr = s.i3cAddr := rfl
@[simp] theorem State.setFld_out (s : State) (o h l v : Nat) : (s.setFld o h l v).out = s.out := rfl
@[simp] theorem State.setFld_freeCtr (s : State) (o h l v : Nat) : (s.setFld o h l v).freeCtr = s.freeCtr := rfl
@[simp] theorem State.setFld_nextId (s : State) (o h l v : Nat) : (s.setFld o h l v).nextId = s.nextId := rfl

@[simp] theorem State.setBit_pending (s : State) (o b : Nat) (v : Bool) : (s.setBit o b v).pending = s.pending := rfl
@[simp] theorem State.setBit_cycle (s : State) (o b : Nat) (v : Bool) : (s.setBit o b v).cycle = s.cycle := rfl
@[simp] theorem State.setBit_shadows (s : State) (o b : Nat) (v : Bool) : (s.setBit o b v).shadows = s.shadows := rfl
@[simp] theorem State.setBit_guards (s : State) (o b : Nat) (v : Bool) : (s.setBit o b v).guards = s.guards := rfl
@[simp] theorem State.setBit_gstat (s : State) (o b : Nat) (v : Bool) : (s.setBit o b v).gstat = s.gstat := rfl
@[simp] theorem State.setBit_cores (s : State) (o b : Nat) (v : Bool) : (s.setBit o b v).cores = s.cores := rfl
@[simp] theorem State.setBit_gang (s : State) (o b : Nat) (v : Bool) : (s.setBit o b v).gang = s.gang := rfl
@[simp] theorem State.setBit_parts (s : State) (o b : Nat) (v : Bool) : (s.setBit o b v).parts = s.parts := rfl
@[simp] theorem State.setBit_slwinNow (s : State) (o b : Nat) (v : Bool) : (s.setBit o b v).slwinNow = s.slwinNow := rfl
@[simp] theorem State.setBit_dieTemp (s : State) (o b : Nat) (v : Bool) : (s.setBit o b v).dieTemp = s.dieTemp := rfl
@[simp] theorem State.setBit_dieVolt (s : State) (o b : Nat) (v : Bool) : (s.setBit o b v).dieVolt = s.dieVolt := rfl
@[simp] theorem State.setBit_hbm (s : State) (o b : Nat) (v : Bool) : (s.setBit o b v).hbm = s.hbm := rfl
@[simp] theorem State.setBit_hbmPois (s : State) (o b : Nat) (v : Bool) : (s.setBit o b v).hbmPois = s.hbmPois := rfl
@[simp] theorem State.setBit_hbmInj (s : State) (o b : Nat) (v : Bool) : (s.setBit o b v).hbmInj = s.hbmInj := rfl
@[simp] theorem State.setBit_damage (s : State) (o b : Nat) (v : Bool) : (s.setBit o b v).damage = s.damage := rfl
@[simp] theorem State.setBit_memLines (s : State) (o b : Nat) (v : Bool) : (s.setBit o b v).memLines = s.memLines := rfl
@[simp] theorem State.setBit_lineFaults (s : State) (o b : Nat) (v : Bool) : (s.setBit o b v).lineFaults = s.lineFaults := rfl
@[simp] theorem State.setBit_memErrs (s : State) (o b : Nat) (v : Bool) : (s.setBit o b v).memErrs = s.memErrs := rfl
@[simp] theorem State.setBit_injPois (s : State) (o b : Nat) (v : Bool) : (s.setBit o b v).injPois = s.injPois := rfl
@[simp] theorem State.setBit_hostIn (s : State) (o b : Nat) (v : Bool) : (s.setBit o b v).hostIn = s.hostIn := rfl
@[simp] theorem State.setBit_hostPois (s : State) (o b : Nat) (v : Bool) : (s.setBit o b v).hostPois = s.hostPois := rfl
@[simp] theorem State.setBit_flights (s : State) (o b : Nat) (v : Bool) : (s.setBit o b v).flights = s.flights := rfl
@[simp] theorem State.setBit_rounds (s : State) (o b : Nat) (v : Bool) : (s.setBit o b v).rounds = s.rounds := rfl
@[simp] theorem State.setBit_barCfg (s : State) (o b : Nat) (v : Bool) : (s.setBit o b v).barCfg = s.barCfg := rfl
@[simp] theorem State.setBit_barPend (s : State) (o b : Nat) (v : Bool) : (s.setBit o b v).barPend = s.barPend := rfl
@[simp] theorem State.setBit_barCap (s : State) (o b : Nat) (v : Bool) : (s.setBit o b v).barCap = s.barCap := rfl
@[simp] theorem State.setBit_gangPend (s : State) (o b : Nat) (v : Bool) : (s.setBit o b v).gangPend = s.gangPend := rfl
@[simp] theorem State.setBit_winDue (s : State) (o b : Nat) (v : Bool) : (s.setBit o b v).winDue = s.winDue := rfl
@[simp] theorem State.setBit_coreRst (s : State) (o b : Nat) (v : Bool) : (s.setBit o b v).coreRst = s.coreRst := rfl
@[simp] theorem State.setBit_fatal (s : State) (o b : Nat) (v : Bool) : (s.setBit o b v).fatal = s.fatal := rfl
@[simp] theorem State.setBit_lockRun (s : State) (o b : Nat) (v : Bool) : (s.setBit o b v).lockRun = s.lockRun := rfl
@[simp] theorem State.setBit_lockFrame (s : State) (o b : Nat) (v : Bool) : (s.setBit o b v).lockFrame = s.lockFrame := rfl
@[simp] theorem State.setBit_lockLost (s : State) (o b : Nat) (v : Bool) : (s.setBit o b v).lockLost = s.lockLost := rfl
@[simp] theorem State.setBit_step (s : State) (o b : Nat) (v : Bool) : (s.setBit o b v).step = s.step := rfl
@[simp] theorem State.setBit_ports (s : State) (o b : Nat) (v : Bool) : (s.setBit o b v).ports = s.ports := rfl
@[simp] theorem State.setBit_inbox (s : State) (o b : Nat) (v : Bool) : (s.setBit o b v).inbox = s.inbox := rfl
@[simp] theorem State.setBit_reqs (s : State) (o b : Nat) (v : Bool) : (s.setBit o b v).reqs = s.reqs := rfl
@[simp] theorem State.setBit_nextTag (s : State) (o b : Nat) (v : Bool) : (s.setBit o b v).nextTag = s.nextTag := rfl
@[simp] theorem State.setBit_bushels (s : State) (o b : Nat) (v : Bool) : (s.setBit o b v).bushels = s.bushels := rfl
@[simp] theorem State.setBit_errPend (s : State) (o b : Nat) (v : Bool) : (s.setBit o b v).errPend = s.errPend := rfl
@[simp] theorem State.setBit_hist (s : State) (o b : Nat) (v : Bool) : (s.setBit o b v).hist = s.hist := rfl
@[simp] theorem State.setBit_evlog (s : State) (o b : Nat) (v : Bool) : (s.setBit o b v).evlog = s.evlog := rfl
@[simp] theorem State.setBit_nv (s : State) (o b : Nat) (v : Bool) : (s.setBit o b v).nv = s.nv := rfl
@[simp] theorem State.setBit_podRel (s : State) (o b : Nat) (v : Bool) : (s.setBit o b v).podRel = s.podRel := rfl
@[simp] theorem State.setBit_podSent (s : State) (o b : Nat) (v : Bool) : (s.setBit o b v).podSent = s.podSent := rfl
@[simp] theorem State.setBit_errq (s : State) (o b : Nat) (v : Bool) : (s.setBit o b v).errq = s.errq := rfl
@[simp] theorem State.setBit_firstRec (s : State) (o b : Nat) (v : Bool) : (s.setBit o b v).firstRec = s.firstRec := rfl
@[simp] theorem State.setBit_lastRec (s : State) (o b : Nat) (v : Bool) : (s.setBit o b v).lastRec = s.lastRec := rfl
@[simp] theorem State.setBit_logMsi (s : State) (o b : Nat) (v : Bool) : (s.setBit o b v).logMsi = s.logMsi := rfl
@[simp] theorem State.setBit_phase (s : State) (o b : Nat) (v : Bool) : (s.setBit o b v).phase = s.phase := rfl
@[simp] theorem State.setBit_pwrEn (s : State) (o b : Nat) (v : Bool) : (s.setBit o b v).pwrEn = s.pwrEn := rfl
@[simp] theorem State.setBit_perst (s : State) (o b : Nat) (v : Bool) : (s.setBit o b v).perst = s.perst := rfl
@[simp] theorem State.setBit_nvPulse (s : State) (o b : Nat) (v : Bool) : (s.setBit o b v).nvPulse = s.nvPulse := rfl
@[simp] theorem State.setBit_rstDelayed (s : State) (o b : Nat) (v : Bool) : (s.setBit o b v).rstDelayed = s.rstDelayed := rfl
@[simp] theorem State.setBit_psPend (s : State) (o b : Nat) (v : Bool) : (s.setBit o b v).psPend = s.psPend := rfl
@[simp] theorem State.setBit_scrub (s : State) (o b : Nat) (v : Bool) : (s.setBit o b v).scrub = s.scrub := rfl
@[simp] theorem State.setBit_scrubW (s : State) (o b : Nat) (v : Bool) : (s.setBit o b v).scrubW = s.scrubW := rfl
@[simp] theorem State.setBit_power (s : State) (o b : Nat) (v : Bool) : (s.setBit o b v).power = s.power := rfl
@[simp] theorem State.setBit_sec (s : State) (o b : Nat) (v : Bool) : (s.setBit o b v).sec = s.sec := rfl
@[simp] theorem State.setBit_mon (s : State) (o b : Nat) (v : Bool) : (s.setBit o b v).mon = s.mon := rfl
@[simp] theorem State.setBit_clock (s : State) (o b : Nat) (v : Bool) : (s.setBit o b v).clock = s.clock := rfl
@[simp] theorem State.setBit_hostLines (s : State) (o b : Nat) (v : Bool) : (s.setBit o b v).hostLines = s.hostLines := rfl
@[simp] theorem State.setBit_snoopIn (s : State) (o b : Nat) (v : Bool) : (s.setBit o b v).snoopIn = s.snoopIn := rfl
@[simp] theorem State.setBit_hdm (s : State) (o b : Nat) (v : Bool) : (s.setBit o b v).hdm = s.hdm := rfl
@[simp] theorem State.setBit_vfs (s : State) (o b : Nat) (v : Bool) : (s.setBit o b v).vfs = s.vfs := rfl
@[simp] theorem State.setBit_bar0 (s : State) (o b : Nat) (v : Bool) : (s.setBit o b v).bar0 = s.bar0 := rfl
@[simp] theorem State.setBit_msix (s : State) (o b : Nat) (v : Bool) : (s.setBit o b v).msix = s.msix := rfl
@[simp] theorem State.setBit_msixPend (s : State) (o b : Nat) (v : Bool) : (s.setBit o b v).msixPend = s.msixPend := rfl
@[simp] theorem State.setBit_i3cAddr (s : State) (o b : Nat) (v : Bool) : (s.setBit o b v).i3cAddr = s.i3cAddr := rfl
@[simp] theorem State.setBit_out (s : State) (o b : Nat) (v : Bool) : (s.setBit o b v).out = s.out := rfl
@[simp] theorem State.setBit_freeCtr (s : State) (o b : Nat) (v : Bool) : (s.setBit o b v).freeCtr = s.freeCtr := rfl
@[simp] theorem State.setBit_nextId (s : State) (o b : Nat) (v : Bool) : (s.setBit o b v).nextId = s.nextId := rfl

@[simp] theorem State.setReg64_pending (s : State) (o v : Nat) : (s.setReg64 o v).pending = s.pending := rfl
@[simp] theorem State.setReg64_cycle (s : State) (o v : Nat) : (s.setReg64 o v).cycle = s.cycle := rfl
@[simp] theorem State.setReg64_shadows (s : State) (o v : Nat) : (s.setReg64 o v).shadows = s.shadows := rfl
@[simp] theorem State.setReg64_guards (s : State) (o v : Nat) : (s.setReg64 o v).guards = s.guards := rfl
@[simp] theorem State.setReg64_gstat (s : State) (o v : Nat) : (s.setReg64 o v).gstat = s.gstat := rfl
@[simp] theorem State.setReg64_cores (s : State) (o v : Nat) : (s.setReg64 o v).cores = s.cores := rfl
@[simp] theorem State.setReg64_gang (s : State) (o v : Nat) : (s.setReg64 o v).gang = s.gang := rfl
@[simp] theorem State.setReg64_parts (s : State) (o v : Nat) : (s.setReg64 o v).parts = s.parts := rfl
@[simp] theorem State.setReg64_slwinNow (s : State) (o v : Nat) : (s.setReg64 o v).slwinNow = s.slwinNow := rfl
@[simp] theorem State.setReg64_dieTemp (s : State) (o v : Nat) : (s.setReg64 o v).dieTemp = s.dieTemp := rfl
@[simp] theorem State.setReg64_dieVolt (s : State) (o v : Nat) : (s.setReg64 o v).dieVolt = s.dieVolt := rfl
@[simp] theorem State.setReg64_hbm (s : State) (o v : Nat) : (s.setReg64 o v).hbm = s.hbm := rfl
@[simp] theorem State.setReg64_hbmPois (s : State) (o v : Nat) : (s.setReg64 o v).hbmPois = s.hbmPois := rfl
@[simp] theorem State.setReg64_hbmInj (s : State) (o v : Nat) : (s.setReg64 o v).hbmInj = s.hbmInj := rfl
@[simp] theorem State.setReg64_damage (s : State) (o v : Nat) : (s.setReg64 o v).damage = s.damage := rfl
@[simp] theorem State.setReg64_memLines (s : State) (o v : Nat) : (s.setReg64 o v).memLines = s.memLines := rfl
@[simp] theorem State.setReg64_lineFaults (s : State) (o v : Nat) : (s.setReg64 o v).lineFaults = s.lineFaults := rfl
@[simp] theorem State.setReg64_memErrs (s : State) (o v : Nat) : (s.setReg64 o v).memErrs = s.memErrs := rfl
@[simp] theorem State.setReg64_injPois (s : State) (o v : Nat) : (s.setReg64 o v).injPois = s.injPois := rfl
@[simp] theorem State.setReg64_hostIn (s : State) (o v : Nat) : (s.setReg64 o v).hostIn = s.hostIn := rfl
@[simp] theorem State.setReg64_hostPois (s : State) (o v : Nat) : (s.setReg64 o v).hostPois = s.hostPois := rfl
@[simp] theorem State.setReg64_flights (s : State) (o v : Nat) : (s.setReg64 o v).flights = s.flights := rfl
@[simp] theorem State.setReg64_rounds (s : State) (o v : Nat) : (s.setReg64 o v).rounds = s.rounds := rfl
@[simp] theorem State.setReg64_barCfg (s : State) (o v : Nat) : (s.setReg64 o v).barCfg = s.barCfg := rfl
@[simp] theorem State.setReg64_barPend (s : State) (o v : Nat) : (s.setReg64 o v).barPend = s.barPend := rfl
@[simp] theorem State.setReg64_barCap (s : State) (o v : Nat) : (s.setReg64 o v).barCap = s.barCap := rfl
@[simp] theorem State.setReg64_gangPend (s : State) (o v : Nat) : (s.setReg64 o v).gangPend = s.gangPend := rfl
@[simp] theorem State.setReg64_winDue (s : State) (o v : Nat) : (s.setReg64 o v).winDue = s.winDue := rfl
@[simp] theorem State.setReg64_coreRst (s : State) (o v : Nat) : (s.setReg64 o v).coreRst = s.coreRst := rfl
@[simp] theorem State.setReg64_fatal (s : State) (o v : Nat) : (s.setReg64 o v).fatal = s.fatal := rfl
@[simp] theorem State.setReg64_lockRun (s : State) (o v : Nat) : (s.setReg64 o v).lockRun = s.lockRun := rfl
@[simp] theorem State.setReg64_lockFrame (s : State) (o v : Nat) : (s.setReg64 o v).lockFrame = s.lockFrame := rfl
@[simp] theorem State.setReg64_lockLost (s : State) (o v : Nat) : (s.setReg64 o v).lockLost = s.lockLost := rfl
@[simp] theorem State.setReg64_step (s : State) (o v : Nat) : (s.setReg64 o v).step = s.step := rfl
@[simp] theorem State.setReg64_ports (s : State) (o v : Nat) : (s.setReg64 o v).ports = s.ports := rfl
@[simp] theorem State.setReg64_inbox (s : State) (o v : Nat) : (s.setReg64 o v).inbox = s.inbox := rfl
@[simp] theorem State.setReg64_reqs (s : State) (o v : Nat) : (s.setReg64 o v).reqs = s.reqs := rfl
@[simp] theorem State.setReg64_nextTag (s : State) (o v : Nat) : (s.setReg64 o v).nextTag = s.nextTag := rfl
@[simp] theorem State.setReg64_bushels (s : State) (o v : Nat) : (s.setReg64 o v).bushels = s.bushels := rfl
@[simp] theorem State.setReg64_errPend (s : State) (o v : Nat) : (s.setReg64 o v).errPend = s.errPend := rfl
@[simp] theorem State.setReg64_hist (s : State) (o v : Nat) : (s.setReg64 o v).hist = s.hist := rfl
@[simp] theorem State.setReg64_evlog (s : State) (o v : Nat) : (s.setReg64 o v).evlog = s.evlog := rfl
@[simp] theorem State.setReg64_nv (s : State) (o v : Nat) : (s.setReg64 o v).nv = s.nv := rfl
@[simp] theorem State.setReg64_podRel (s : State) (o v : Nat) : (s.setReg64 o v).podRel = s.podRel := rfl
@[simp] theorem State.setReg64_podSent (s : State) (o v : Nat) : (s.setReg64 o v).podSent = s.podSent := rfl
@[simp] theorem State.setReg64_errq (s : State) (o v : Nat) : (s.setReg64 o v).errq = s.errq := rfl
@[simp] theorem State.setReg64_firstRec (s : State) (o v : Nat) : (s.setReg64 o v).firstRec = s.firstRec := rfl
@[simp] theorem State.setReg64_lastRec (s : State) (o v : Nat) : (s.setReg64 o v).lastRec = s.lastRec := rfl
@[simp] theorem State.setReg64_logMsi (s : State) (o v : Nat) : (s.setReg64 o v).logMsi = s.logMsi := rfl
@[simp] theorem State.setReg64_phase (s : State) (o v : Nat) : (s.setReg64 o v).phase = s.phase := rfl
@[simp] theorem State.setReg64_pwrEn (s : State) (o v : Nat) : (s.setReg64 o v).pwrEn = s.pwrEn := rfl
@[simp] theorem State.setReg64_perst (s : State) (o v : Nat) : (s.setReg64 o v).perst = s.perst := rfl
@[simp] theorem State.setReg64_nvPulse (s : State) (o v : Nat) : (s.setReg64 o v).nvPulse = s.nvPulse := rfl
@[simp] theorem State.setReg64_rstDelayed (s : State) (o v : Nat) : (s.setReg64 o v).rstDelayed = s.rstDelayed := rfl
@[simp] theorem State.setReg64_psPend (s : State) (o v : Nat) : (s.setReg64 o v).psPend = s.psPend := rfl
@[simp] theorem State.setReg64_scrub (s : State) (o v : Nat) : (s.setReg64 o v).scrub = s.scrub := rfl
@[simp] theorem State.setReg64_scrubW (s : State) (o v : Nat) : (s.setReg64 o v).scrubW = s.scrubW := rfl
@[simp] theorem State.setReg64_power (s : State) (o v : Nat) : (s.setReg64 o v).power = s.power := rfl
@[simp] theorem State.setReg64_sec (s : State) (o v : Nat) : (s.setReg64 o v).sec = s.sec := rfl
@[simp] theorem State.setReg64_mon (s : State) (o v : Nat) : (s.setReg64 o v).mon = s.mon := rfl
@[simp] theorem State.setReg64_clock (s : State) (o v : Nat) : (s.setReg64 o v).clock = s.clock := rfl
@[simp] theorem State.setReg64_hostLines (s : State) (o v : Nat) : (s.setReg64 o v).hostLines = s.hostLines := rfl
@[simp] theorem State.setReg64_snoopIn (s : State) (o v : Nat) : (s.setReg64 o v).snoopIn = s.snoopIn := rfl
@[simp] theorem State.setReg64_hdm (s : State) (o v : Nat) : (s.setReg64 o v).hdm = s.hdm := rfl
@[simp] theorem State.setReg64_vfs (s : State) (o v : Nat) : (s.setReg64 o v).vfs = s.vfs := rfl
@[simp] theorem State.setReg64_bar0 (s : State) (o v : Nat) : (s.setReg64 o v).bar0 = s.bar0 := rfl
@[simp] theorem State.setReg64_msix (s : State) (o v : Nat) : (s.setReg64 o v).msix = s.msix := rfl
@[simp] theorem State.setReg64_msixPend (s : State) (o v : Nat) : (s.setReg64 o v).msixPend = s.msixPend := rfl
@[simp] theorem State.setReg64_i3cAddr (s : State) (o v : Nat) : (s.setReg64 o v).i3cAddr = s.i3cAddr := rfl
@[simp] theorem State.setReg64_out (s : State) (o v : Nat) : (s.setReg64 o v).out = s.out := rfl
@[simp] theorem State.setReg64_freeCtr (s : State) (o v : Nat) : (s.setReg64 o v).freeCtr = s.freeCtr := rfl
@[simp] theorem State.setReg64_nextId (s : State) (o v : Nat) : (s.setReg64 o v).nextId = s.nextId := rfl

@[simp] theorem State.count_pending (s : State) (o n : Nat) : (s.count o n).pending = s.pending := rfl
@[simp] theorem State.count_cycle (s : State) (o n : Nat) : (s.count o n).cycle = s.cycle := rfl
@[simp] theorem State.count_shadows (s : State) (o n : Nat) : (s.count o n).shadows = s.shadows := rfl
@[simp] theorem State.count_guards (s : State) (o n : Nat) : (s.count o n).guards = s.guards := rfl
@[simp] theorem State.count_gstat (s : State) (o n : Nat) : (s.count o n).gstat = s.gstat := rfl
@[simp] theorem State.count_cores (s : State) (o n : Nat) : (s.count o n).cores = s.cores := rfl
@[simp] theorem State.count_gang (s : State) (o n : Nat) : (s.count o n).gang = s.gang := rfl
@[simp] theorem State.count_parts (s : State) (o n : Nat) : (s.count o n).parts = s.parts := rfl
@[simp] theorem State.count_slwinNow (s : State) (o n : Nat) : (s.count o n).slwinNow = s.slwinNow := rfl
@[simp] theorem State.count_dieTemp (s : State) (o n : Nat) : (s.count o n).dieTemp = s.dieTemp := rfl
@[simp] theorem State.count_dieVolt (s : State) (o n : Nat) : (s.count o n).dieVolt = s.dieVolt := rfl
@[simp] theorem State.count_hbm (s : State) (o n : Nat) : (s.count o n).hbm = s.hbm := rfl
@[simp] theorem State.count_hbmPois (s : State) (o n : Nat) : (s.count o n).hbmPois = s.hbmPois := rfl
@[simp] theorem State.count_hbmInj (s : State) (o n : Nat) : (s.count o n).hbmInj = s.hbmInj := rfl
@[simp] theorem State.count_damage (s : State) (o n : Nat) : (s.count o n).damage = s.damage := rfl
@[simp] theorem State.count_memLines (s : State) (o n : Nat) : (s.count o n).memLines = s.memLines := rfl
@[simp] theorem State.count_lineFaults (s : State) (o n : Nat) : (s.count o n).lineFaults = s.lineFaults := rfl
@[simp] theorem State.count_memErrs (s : State) (o n : Nat) : (s.count o n).memErrs = s.memErrs := rfl
@[simp] theorem State.count_injPois (s : State) (o n : Nat) : (s.count o n).injPois = s.injPois := rfl
@[simp] theorem State.count_hostIn (s : State) (o n : Nat) : (s.count o n).hostIn = s.hostIn := rfl
@[simp] theorem State.count_hostPois (s : State) (o n : Nat) : (s.count o n).hostPois = s.hostPois := rfl
@[simp] theorem State.count_flights (s : State) (o n : Nat) : (s.count o n).flights = s.flights := rfl
@[simp] theorem State.count_rounds (s : State) (o n : Nat) : (s.count o n).rounds = s.rounds := rfl
@[simp] theorem State.count_barCfg (s : State) (o n : Nat) : (s.count o n).barCfg = s.barCfg := rfl
@[simp] theorem State.count_barPend (s : State) (o n : Nat) : (s.count o n).barPend = s.barPend := rfl
@[simp] theorem State.count_barCap (s : State) (o n : Nat) : (s.count o n).barCap = s.barCap := rfl
@[simp] theorem State.count_gangPend (s : State) (o n : Nat) : (s.count o n).gangPend = s.gangPend := rfl
@[simp] theorem State.count_winDue (s : State) (o n : Nat) : (s.count o n).winDue = s.winDue := rfl
@[simp] theorem State.count_coreRst (s : State) (o n : Nat) : (s.count o n).coreRst = s.coreRst := rfl
@[simp] theorem State.count_fatal (s : State) (o n : Nat) : (s.count o n).fatal = s.fatal := rfl
@[simp] theorem State.count_lockRun (s : State) (o n : Nat) : (s.count o n).lockRun = s.lockRun := rfl
@[simp] theorem State.count_lockFrame (s : State) (o n : Nat) : (s.count o n).lockFrame = s.lockFrame := rfl
@[simp] theorem State.count_lockLost (s : State) (o n : Nat) : (s.count o n).lockLost = s.lockLost := rfl
@[simp] theorem State.count_step (s : State) (o n : Nat) : (s.count o n).step = s.step := rfl
@[simp] theorem State.count_ports (s : State) (o n : Nat) : (s.count o n).ports = s.ports := rfl
@[simp] theorem State.count_inbox (s : State) (o n : Nat) : (s.count o n).inbox = s.inbox := rfl
@[simp] theorem State.count_reqs (s : State) (o n : Nat) : (s.count o n).reqs = s.reqs := rfl
@[simp] theorem State.count_nextTag (s : State) (o n : Nat) : (s.count o n).nextTag = s.nextTag := rfl
@[simp] theorem State.count_bushels (s : State) (o n : Nat) : (s.count o n).bushels = s.bushels := rfl
@[simp] theorem State.count_errPend (s : State) (o n : Nat) : (s.count o n).errPend = s.errPend := rfl
@[simp] theorem State.count_hist (s : State) (o n : Nat) : (s.count o n).hist = s.hist := rfl
@[simp] theorem State.count_evlog (s : State) (o n : Nat) : (s.count o n).evlog = s.evlog := rfl
@[simp] theorem State.count_nv (s : State) (o n : Nat) : (s.count o n).nv = s.nv := rfl
@[simp] theorem State.count_podRel (s : State) (o n : Nat) : (s.count o n).podRel = s.podRel := rfl
@[simp] theorem State.count_podSent (s : State) (o n : Nat) : (s.count o n).podSent = s.podSent := rfl
@[simp] theorem State.count_errq (s : State) (o n : Nat) : (s.count o n).errq = s.errq := rfl
@[simp] theorem State.count_firstRec (s : State) (o n : Nat) : (s.count o n).firstRec = s.firstRec := rfl
@[simp] theorem State.count_lastRec (s : State) (o n : Nat) : (s.count o n).lastRec = s.lastRec := rfl
@[simp] theorem State.count_logMsi (s : State) (o n : Nat) : (s.count o n).logMsi = s.logMsi := rfl
@[simp] theorem State.count_phase (s : State) (o n : Nat) : (s.count o n).phase = s.phase := rfl
@[simp] theorem State.count_pwrEn (s : State) (o n : Nat) : (s.count o n).pwrEn = s.pwrEn := rfl
@[simp] theorem State.count_perst (s : State) (o n : Nat) : (s.count o n).perst = s.perst := rfl
@[simp] theorem State.count_nvPulse (s : State) (o n : Nat) : (s.count o n).nvPulse = s.nvPulse := rfl
@[simp] theorem State.count_rstDelayed (s : State) (o n : Nat) : (s.count o n).rstDelayed = s.rstDelayed := rfl
@[simp] theorem State.count_psPend (s : State) (o n : Nat) : (s.count o n).psPend = s.psPend := rfl
@[simp] theorem State.count_scrub (s : State) (o n : Nat) : (s.count o n).scrub = s.scrub := rfl
@[simp] theorem State.count_scrubW (s : State) (o n : Nat) : (s.count o n).scrubW = s.scrubW := rfl
@[simp] theorem State.count_power (s : State) (o n : Nat) : (s.count o n).power = s.power := rfl
@[simp] theorem State.count_sec (s : State) (o n : Nat) : (s.count o n).sec = s.sec := rfl
@[simp] theorem State.count_mon (s : State) (o n : Nat) : (s.count o n).mon = s.mon := rfl
@[simp] theorem State.count_clock (s : State) (o n : Nat) : (s.count o n).clock = s.clock := rfl
@[simp] theorem State.count_hostLines (s : State) (o n : Nat) : (s.count o n).hostLines = s.hostLines := rfl
@[simp] theorem State.count_snoopIn (s : State) (o n : Nat) : (s.count o n).snoopIn = s.snoopIn := rfl
@[simp] theorem State.count_hdm (s : State) (o n : Nat) : (s.count o n).hdm = s.hdm := rfl
@[simp] theorem State.count_vfs (s : State) (o n : Nat) : (s.count o n).vfs = s.vfs := rfl
@[simp] theorem State.count_bar0 (s : State) (o n : Nat) : (s.count o n).bar0 = s.bar0 := rfl
@[simp] theorem State.count_msix (s : State) (o n : Nat) : (s.count o n).msix = s.msix := rfl
@[simp] theorem State.count_msixPend (s : State) (o n : Nat) : (s.count o n).msixPend = s.msixPend := rfl
@[simp] theorem State.count_i3cAddr (s : State) (o n : Nat) : (s.count o n).i3cAddr = s.i3cAddr := rfl
@[simp] theorem State.count_out (s : State) (o n : Nat) : (s.count o n).out = s.out := rfl
@[simp] theorem State.count_freeCtr (s : State) (o n : Nat) : (s.count o n).freeCtr = s.freeCtr := rfl
@[simp] theorem State.count_nextId (s : State) (o n : Nat) : (s.count o n).nextId = s.nextId := rfl

@[simp] theorem State.count64_pending (s : State) (o n : Nat) : (s.count64 o n).pending = s.pending := rfl
@[simp] theorem State.count64_cycle (s : State) (o n : Nat) : (s.count64 o n).cycle = s.cycle := rfl
@[simp] theorem State.count64_shadows (s : State) (o n : Nat) : (s.count64 o n).shadows = s.shadows := rfl
@[simp] theorem State.count64_guards (s : State) (o n : Nat) : (s.count64 o n).guards = s.guards := rfl
@[simp] theorem State.count64_gstat (s : State) (o n : Nat) : (s.count64 o n).gstat = s.gstat := rfl
@[simp] theorem State.count64_cores (s : State) (o n : Nat) : (s.count64 o n).cores = s.cores := rfl
@[simp] theorem State.count64_gang (s : State) (o n : Nat) : (s.count64 o n).gang = s.gang := rfl
@[simp] theorem State.count64_parts (s : State) (o n : Nat) : (s.count64 o n).parts = s.parts := rfl
@[simp] theorem State.count64_slwinNow (s : State) (o n : Nat) : (s.count64 o n).slwinNow = s.slwinNow := rfl
@[simp] theorem State.count64_dieTemp (s : State) (o n : Nat) : (s.count64 o n).dieTemp = s.dieTemp := rfl
@[simp] theorem State.count64_dieVolt (s : State) (o n : Nat) : (s.count64 o n).dieVolt = s.dieVolt := rfl
@[simp] theorem State.count64_hbm (s : State) (o n : Nat) : (s.count64 o n).hbm = s.hbm := rfl
@[simp] theorem State.count64_hbmPois (s : State) (o n : Nat) : (s.count64 o n).hbmPois = s.hbmPois := rfl
@[simp] theorem State.count64_hbmInj (s : State) (o n : Nat) : (s.count64 o n).hbmInj = s.hbmInj := rfl
@[simp] theorem State.count64_damage (s : State) (o n : Nat) : (s.count64 o n).damage = s.damage := rfl
@[simp] theorem State.count64_memLines (s : State) (o n : Nat) : (s.count64 o n).memLines = s.memLines := rfl
@[simp] theorem State.count64_lineFaults (s : State) (o n : Nat) : (s.count64 o n).lineFaults = s.lineFaults := rfl
@[simp] theorem State.count64_memErrs (s : State) (o n : Nat) : (s.count64 o n).memErrs = s.memErrs := rfl
@[simp] theorem State.count64_injPois (s : State) (o n : Nat) : (s.count64 o n).injPois = s.injPois := rfl
@[simp] theorem State.count64_hostIn (s : State) (o n : Nat) : (s.count64 o n).hostIn = s.hostIn := rfl
@[simp] theorem State.count64_hostPois (s : State) (o n : Nat) : (s.count64 o n).hostPois = s.hostPois := rfl
@[simp] theorem State.count64_flights (s : State) (o n : Nat) : (s.count64 o n).flights = s.flights := rfl
@[simp] theorem State.count64_rounds (s : State) (o n : Nat) : (s.count64 o n).rounds = s.rounds := rfl
@[simp] theorem State.count64_barCfg (s : State) (o n : Nat) : (s.count64 o n).barCfg = s.barCfg := rfl
@[simp] theorem State.count64_barPend (s : State) (o n : Nat) : (s.count64 o n).barPend = s.barPend := rfl
@[simp] theorem State.count64_barCap (s : State) (o n : Nat) : (s.count64 o n).barCap = s.barCap := rfl
@[simp] theorem State.count64_gangPend (s : State) (o n : Nat) : (s.count64 o n).gangPend = s.gangPend := rfl
@[simp] theorem State.count64_winDue (s : State) (o n : Nat) : (s.count64 o n).winDue = s.winDue := rfl
@[simp] theorem State.count64_coreRst (s : State) (o n : Nat) : (s.count64 o n).coreRst = s.coreRst := rfl
@[simp] theorem State.count64_fatal (s : State) (o n : Nat) : (s.count64 o n).fatal = s.fatal := rfl
@[simp] theorem State.count64_lockRun (s : State) (o n : Nat) : (s.count64 o n).lockRun = s.lockRun := rfl
@[simp] theorem State.count64_lockFrame (s : State) (o n : Nat) : (s.count64 o n).lockFrame = s.lockFrame := rfl
@[simp] theorem State.count64_lockLost (s : State) (o n : Nat) : (s.count64 o n).lockLost = s.lockLost := rfl
@[simp] theorem State.count64_step (s : State) (o n : Nat) : (s.count64 o n).step = s.step := rfl
@[simp] theorem State.count64_ports (s : State) (o n : Nat) : (s.count64 o n).ports = s.ports := rfl
@[simp] theorem State.count64_inbox (s : State) (o n : Nat) : (s.count64 o n).inbox = s.inbox := rfl
@[simp] theorem State.count64_reqs (s : State) (o n : Nat) : (s.count64 o n).reqs = s.reqs := rfl
@[simp] theorem State.count64_nextTag (s : State) (o n : Nat) : (s.count64 o n).nextTag = s.nextTag := rfl
@[simp] theorem State.count64_bushels (s : State) (o n : Nat) : (s.count64 o n).bushels = s.bushels := rfl
@[simp] theorem State.count64_errPend (s : State) (o n : Nat) : (s.count64 o n).errPend = s.errPend := rfl
@[simp] theorem State.count64_hist (s : State) (o n : Nat) : (s.count64 o n).hist = s.hist := rfl
@[simp] theorem State.count64_evlog (s : State) (o n : Nat) : (s.count64 o n).evlog = s.evlog := rfl
@[simp] theorem State.count64_nv (s : State) (o n : Nat) : (s.count64 o n).nv = s.nv := rfl
@[simp] theorem State.count64_podRel (s : State) (o n : Nat) : (s.count64 o n).podRel = s.podRel := rfl
@[simp] theorem State.count64_podSent (s : State) (o n : Nat) : (s.count64 o n).podSent = s.podSent := rfl
@[simp] theorem State.count64_errq (s : State) (o n : Nat) : (s.count64 o n).errq = s.errq := rfl
@[simp] theorem State.count64_firstRec (s : State) (o n : Nat) : (s.count64 o n).firstRec = s.firstRec := rfl
@[simp] theorem State.count64_lastRec (s : State) (o n : Nat) : (s.count64 o n).lastRec = s.lastRec := rfl
@[simp] theorem State.count64_logMsi (s : State) (o n : Nat) : (s.count64 o n).logMsi = s.logMsi := rfl
@[simp] theorem State.count64_phase (s : State) (o n : Nat) : (s.count64 o n).phase = s.phase := rfl
@[simp] theorem State.count64_pwrEn (s : State) (o n : Nat) : (s.count64 o n).pwrEn = s.pwrEn := rfl
@[simp] theorem State.count64_perst (s : State) (o n : Nat) : (s.count64 o n).perst = s.perst := rfl
@[simp] theorem State.count64_nvPulse (s : State) (o n : Nat) : (s.count64 o n).nvPulse = s.nvPulse := rfl
@[simp] theorem State.count64_rstDelayed (s : State) (o n : Nat) : (s.count64 o n).rstDelayed = s.rstDelayed := rfl
@[simp] theorem State.count64_psPend (s : State) (o n : Nat) : (s.count64 o n).psPend = s.psPend := rfl
@[simp] theorem State.count64_scrub (s : State) (o n : Nat) : (s.count64 o n).scrub = s.scrub := rfl
@[simp] theorem State.count64_scrubW (s : State) (o n : Nat) : (s.count64 o n).scrubW = s.scrubW := rfl
@[simp] theorem State.count64_power (s : State) (o n : Nat) : (s.count64 o n).power = s.power := rfl
@[simp] theorem State.count64_sec (s : State) (o n : Nat) : (s.count64 o n).sec = s.sec := rfl
@[simp] theorem State.count64_mon (s : State) (o n : Nat) : (s.count64 o n).mon = s.mon := rfl
@[simp] theorem State.count64_clock (s : State) (o n : Nat) : (s.count64 o n).clock = s.clock := rfl
@[simp] theorem State.count64_hostLines (s : State) (o n : Nat) : (s.count64 o n).hostLines = s.hostLines := rfl
@[simp] theorem State.count64_snoopIn (s : State) (o n : Nat) : (s.count64 o n).snoopIn = s.snoopIn := rfl
@[simp] theorem State.count64_hdm (s : State) (o n : Nat) : (s.count64 o n).hdm = s.hdm := rfl
@[simp] theorem State.count64_vfs (s : State) (o n : Nat) : (s.count64 o n).vfs = s.vfs := rfl
@[simp] theorem State.count64_bar0 (s : State) (o n : Nat) : (s.count64 o n).bar0 = s.bar0 := rfl
@[simp] theorem State.count64_msix (s : State) (o n : Nat) : (s.count64 o n).msix = s.msix := rfl
@[simp] theorem State.count64_msixPend (s : State) (o n : Nat) : (s.count64 o n).msixPend = s.msixPend := rfl
@[simp] theorem State.count64_i3cAddr (s : State) (o n : Nat) : (s.count64 o n).i3cAddr = s.i3cAddr := rfl
@[simp] theorem State.count64_out (s : State) (o n : Nat) : (s.count64 o n).out = s.out := rfl
@[simp] theorem State.count64_freeCtr (s : State) (o n : Nat) : (s.count64 o n).freeCtr = s.freeCtr := rfl
@[simp] theorem State.count64_nextId (s : State) (o n : Nat) : (s.count64 o n).nextId = s.nextId := rfl

@[simp] theorem State.modPart_pending (s : State) (p : Nat) (g : Part → Part) : (s.modPart p g).pending = s.pending := rfl
@[simp] theorem State.modPart_cycle (s : State) (p : Nat) (g : Part → Part) : (s.modPart p g).cycle = s.cycle := rfl
@[simp] theorem State.modPart_regs (s : State) (p : Nat) (g : Part → Part) : (s.modPart p g).regs = s.regs := rfl
@[simp] theorem State.modPart_shadows (s : State) (p : Nat) (g : Part → Part) : (s.modPart p g).shadows = s.shadows := rfl
@[simp] theorem State.modPart_guards (s : State) (p : Nat) (g : Part → Part) : (s.modPart p g).guards = s.guards := rfl
@[simp] theorem State.modPart_gstat (s : State) (p : Nat) (g : Part → Part) : (s.modPart p g).gstat = s.gstat := rfl
@[simp] theorem State.modPart_cores (s : State) (p : Nat) (g : Part → Part) : (s.modPart p g).cores = s.cores := rfl
@[simp] theorem State.modPart_gang (s : State) (p : Nat) (g : Part → Part) : (s.modPart p g).gang = s.gang := rfl
@[simp] theorem State.modPart_slwinNow (s : State) (p : Nat) (g : Part → Part) : (s.modPart p g).slwinNow = s.slwinNow := rfl
@[simp] theorem State.modPart_dieTemp (s : State) (p : Nat) (g : Part → Part) : (s.modPart p g).dieTemp = s.dieTemp := rfl
@[simp] theorem State.modPart_dieVolt (s : State) (p : Nat) (g : Part → Part) : (s.modPart p g).dieVolt = s.dieVolt := rfl
@[simp] theorem State.modPart_hbm (s : State) (p : Nat) (g : Part → Part) : (s.modPart p g).hbm = s.hbm := rfl
@[simp] theorem State.modPart_hbmPois (s : State) (p : Nat) (g : Part → Part) : (s.modPart p g).hbmPois = s.hbmPois := rfl
@[simp] theorem State.modPart_hbmInj (s : State) (p : Nat) (g : Part → Part) : (s.modPart p g).hbmInj = s.hbmInj := rfl
@[simp] theorem State.modPart_damage (s : State) (p : Nat) (g : Part → Part) : (s.modPart p g).damage = s.damage := rfl
@[simp] theorem State.modPart_memLines (s : State) (p : Nat) (g : Part → Part) : (s.modPart p g).memLines = s.memLines := rfl
@[simp] theorem State.modPart_lineFaults (s : State) (p : Nat) (g : Part → Part) : (s.modPart p g).lineFaults = s.lineFaults := rfl
@[simp] theorem State.modPart_memErrs (s : State) (p : Nat) (g : Part → Part) : (s.modPart p g).memErrs = s.memErrs := rfl
@[simp] theorem State.modPart_injPois (s : State) (p : Nat) (g : Part → Part) : (s.modPart p g).injPois = s.injPois := rfl
@[simp] theorem State.modPart_hostIn (s : State) (p : Nat) (g : Part → Part) : (s.modPart p g).hostIn = s.hostIn := rfl
@[simp] theorem State.modPart_hostPois (s : State) (p : Nat) (g : Part → Part) : (s.modPart p g).hostPois = s.hostPois := rfl
@[simp] theorem State.modPart_flights (s : State) (p : Nat) (g : Part → Part) : (s.modPart p g).flights = s.flights := rfl
@[simp] theorem State.modPart_rounds (s : State) (p : Nat) (g : Part → Part) : (s.modPart p g).rounds = s.rounds := rfl
@[simp] theorem State.modPart_barCfg (s : State) (p : Nat) (g : Part → Part) : (s.modPart p g).barCfg = s.barCfg := rfl
@[simp] theorem State.modPart_barPend (s : State) (p : Nat) (g : Part → Part) : (s.modPart p g).barPend = s.barPend := rfl
@[simp] theorem State.modPart_barCap (s : State) (p : Nat) (g : Part → Part) : (s.modPart p g).barCap = s.barCap := rfl
@[simp] theorem State.modPart_gangPend (s : State) (p : Nat) (g : Part → Part) : (s.modPart p g).gangPend = s.gangPend := rfl
@[simp] theorem State.modPart_winDue (s : State) (p : Nat) (g : Part → Part) : (s.modPart p g).winDue = s.winDue := rfl
@[simp] theorem State.modPart_coreRst (s : State) (p : Nat) (g : Part → Part) : (s.modPart p g).coreRst = s.coreRst := rfl
@[simp] theorem State.modPart_fatal (s : State) (p : Nat) (g : Part → Part) : (s.modPart p g).fatal = s.fatal := rfl
@[simp] theorem State.modPart_lockRun (s : State) (p : Nat) (g : Part → Part) : (s.modPart p g).lockRun = s.lockRun := rfl
@[simp] theorem State.modPart_lockFrame (s : State) (p : Nat) (g : Part → Part) : (s.modPart p g).lockFrame = s.lockFrame := rfl
@[simp] theorem State.modPart_lockLost (s : State) (p : Nat) (g : Part → Part) : (s.modPart p g).lockLost = s.lockLost := rfl
@[simp] theorem State.modPart_step (s : State) (p : Nat) (g : Part → Part) : (s.modPart p g).step = s.step := rfl
@[simp] theorem State.modPart_ports (s : State) (p : Nat) (g : Part → Part) : (s.modPart p g).ports = s.ports := rfl
@[simp] theorem State.modPart_inbox (s : State) (p : Nat) (g : Part → Part) : (s.modPart p g).inbox = s.inbox := rfl
@[simp] theorem State.modPart_reqs (s : State) (p : Nat) (g : Part → Part) : (s.modPart p g).reqs = s.reqs := rfl
@[simp] theorem State.modPart_nextTag (s : State) (p : Nat) (g : Part → Part) : (s.modPart p g).nextTag = s.nextTag := rfl
@[simp] theorem State.modPart_bushels (s : State) (p : Nat) (g : Part → Part) : (s.modPart p g).bushels = s.bushels := rfl
@[simp] theorem State.modPart_errPend (s : State) (p : Nat) (g : Part → Part) : (s.modPart p g).errPend = s.errPend := rfl
@[simp] theorem State.modPart_hist (s : State) (p : Nat) (g : Part → Part) : (s.modPart p g).hist = s.hist := rfl
@[simp] theorem State.modPart_evlog (s : State) (p : Nat) (g : Part → Part) : (s.modPart p g).evlog = s.evlog := rfl
@[simp] theorem State.modPart_nv (s : State) (p : Nat) (g : Part → Part) : (s.modPart p g).nv = s.nv := rfl
@[simp] theorem State.modPart_podRel (s : State) (p : Nat) (g : Part → Part) : (s.modPart p g).podRel = s.podRel := rfl
@[simp] theorem State.modPart_podSent (s : State) (p : Nat) (g : Part → Part) : (s.modPart p g).podSent = s.podSent := rfl
@[simp] theorem State.modPart_errq (s : State) (p : Nat) (g : Part → Part) : (s.modPart p g).errq = s.errq := rfl
@[simp] theorem State.modPart_firstRec (s : State) (p : Nat) (g : Part → Part) : (s.modPart p g).firstRec = s.firstRec := rfl
@[simp] theorem State.modPart_lastRec (s : State) (p : Nat) (g : Part → Part) : (s.modPart p g).lastRec = s.lastRec := rfl
@[simp] theorem State.modPart_logMsi (s : State) (p : Nat) (g : Part → Part) : (s.modPart p g).logMsi = s.logMsi := rfl
@[simp] theorem State.modPart_phase (s : State) (p : Nat) (g : Part → Part) : (s.modPart p g).phase = s.phase := rfl
@[simp] theorem State.modPart_pwrEn (s : State) (p : Nat) (g : Part → Part) : (s.modPart p g).pwrEn = s.pwrEn := rfl
@[simp] theorem State.modPart_perst (s : State) (p : Nat) (g : Part → Part) : (s.modPart p g).perst = s.perst := rfl
@[simp] theorem State.modPart_nvPulse (s : State) (p : Nat) (g : Part → Part) : (s.modPart p g).nvPulse = s.nvPulse := rfl
@[simp] theorem State.modPart_rstDelayed (s : State) (p : Nat) (g : Part → Part) : (s.modPart p g).rstDelayed = s.rstDelayed := rfl
@[simp] theorem State.modPart_psPend (s : State) (p : Nat) (g : Part → Part) : (s.modPart p g).psPend = s.psPend := rfl
@[simp] theorem State.modPart_scrub (s : State) (p : Nat) (g : Part → Part) : (s.modPart p g).scrub = s.scrub := rfl
@[simp] theorem State.modPart_scrubW (s : State) (p : Nat) (g : Part → Part) : (s.modPart p g).scrubW = s.scrubW := rfl
@[simp] theorem State.modPart_power (s : State) (p : Nat) (g : Part → Part) : (s.modPart p g).power = s.power := rfl
@[simp] theorem State.modPart_sec (s : State) (p : Nat) (g : Part → Part) : (s.modPart p g).sec = s.sec := rfl
@[simp] theorem State.modPart_mon (s : State) (p : Nat) (g : Part → Part) : (s.modPart p g).mon = s.mon := rfl
@[simp] theorem State.modPart_clock (s : State) (p : Nat) (g : Part → Part) : (s.modPart p g).clock = s.clock := rfl
@[simp] theorem State.modPart_hostLines (s : State) (p : Nat) (g : Part → Part) : (s.modPart p g).hostLines = s.hostLines := rfl
@[simp] theorem State.modPart_snoopIn (s : State) (p : Nat) (g : Part → Part) : (s.modPart p g).snoopIn = s.snoopIn := rfl
@[simp] theorem State.modPart_hdm (s : State) (p : Nat) (g : Part → Part) : (s.modPart p g).hdm = s.hdm := rfl
@[simp] theorem State.modPart_vfs (s : State) (p : Nat) (g : Part → Part) : (s.modPart p g).vfs = s.vfs := rfl
@[simp] theorem State.modPart_bar0 (s : State) (p : Nat) (g : Part → Part) : (s.modPart p g).bar0 = s.bar0 := rfl
@[simp] theorem State.modPart_msix (s : State) (p : Nat) (g : Part → Part) : (s.modPart p g).msix = s.msix := rfl
@[simp] theorem State.modPart_msixPend (s : State) (p : Nat) (g : Part → Part) : (s.modPart p g).msixPend = s.msixPend := rfl
@[simp] theorem State.modPart_i3cAddr (s : State) (p : Nat) (g : Part → Part) : (s.modPart p g).i3cAddr = s.i3cAddr := rfl
@[simp] theorem State.modPart_out (s : State) (p : Nat) (g : Part → Part) : (s.modPart p g).out = s.out := rfl
@[simp] theorem State.modPart_freeCtr (s : State) (p : Nat) (g : Part → Part) : (s.modPart p g).freeCtr = s.freeCtr := rfl
@[simp] theorem State.modPart_nextId (s : State) (p : Nat) (g : Part → Part) : (s.modPart p g).nextId = s.nextId := rfl

@[simp] theorem State.touch_pending (s : State) (p : Nat) : (s.touch p).pending = s.pending := rfl
@[simp] theorem State.touch_cycle (s : State) (p : Nat) : (s.touch p).cycle = s.cycle := rfl
@[simp] theorem State.touch_regs (s : State) (p : Nat) : (s.touch p).regs = s.regs := rfl
@[simp] theorem State.touch_shadows (s : State) (p : Nat) : (s.touch p).shadows = s.shadows := rfl
@[simp] theorem State.touch_guards (s : State) (p : Nat) : (s.touch p).guards = s.guards := rfl
@[simp] theorem State.touch_gstat (s : State) (p : Nat) : (s.touch p).gstat = s.gstat := rfl
@[simp] theorem State.touch_cores (s : State) (p : Nat) : (s.touch p).cores = s.cores := rfl
@[simp] theorem State.touch_gang (s : State) (p : Nat) : (s.touch p).gang = s.gang := rfl
@[simp] theorem State.touch_slwinNow (s : State) (p : Nat) : (s.touch p).slwinNow = s.slwinNow := rfl
@[simp] theorem State.touch_dieTemp (s : State) (p : Nat) : (s.touch p).dieTemp = s.dieTemp := rfl
@[simp] theorem State.touch_dieVolt (s : State) (p : Nat) : (s.touch p).dieVolt = s.dieVolt := rfl
@[simp] theorem State.touch_hbm (s : State) (p : Nat) : (s.touch p).hbm = s.hbm := rfl
@[simp] theorem State.touch_hbmPois (s : State) (p : Nat) : (s.touch p).hbmPois = s.hbmPois := rfl
@[simp] theorem State.touch_hbmInj (s : State) (p : Nat) : (s.touch p).hbmInj = s.hbmInj := rfl
@[simp] theorem State.touch_damage (s : State) (p : Nat) : (s.touch p).damage = s.damage := rfl
@[simp] theorem State.touch_memLines (s : State) (p : Nat) : (s.touch p).memLines = s.memLines := rfl
@[simp] theorem State.touch_lineFaults (s : State) (p : Nat) : (s.touch p).lineFaults = s.lineFaults := rfl
@[simp] theorem State.touch_memErrs (s : State) (p : Nat) : (s.touch p).memErrs = s.memErrs := rfl
@[simp] theorem State.touch_injPois (s : State) (p : Nat) : (s.touch p).injPois = s.injPois := rfl
@[simp] theorem State.touch_hostIn (s : State) (p : Nat) : (s.touch p).hostIn = s.hostIn := rfl
@[simp] theorem State.touch_hostPois (s : State) (p : Nat) : (s.touch p).hostPois = s.hostPois := rfl
@[simp] theorem State.touch_flights (s : State) (p : Nat) : (s.touch p).flights = s.flights := rfl
@[simp] theorem State.touch_rounds (s : State) (p : Nat) : (s.touch p).rounds = s.rounds := rfl
@[simp] theorem State.touch_barCfg (s : State) (p : Nat) : (s.touch p).barCfg = s.barCfg := rfl
@[simp] theorem State.touch_barPend (s : State) (p : Nat) : (s.touch p).barPend = s.barPend := rfl
@[simp] theorem State.touch_barCap (s : State) (p : Nat) : (s.touch p).barCap = s.barCap := rfl
@[simp] theorem State.touch_gangPend (s : State) (p : Nat) : (s.touch p).gangPend = s.gangPend := rfl
@[simp] theorem State.touch_winDue (s : State) (p : Nat) : (s.touch p).winDue = s.winDue := rfl
@[simp] theorem State.touch_coreRst (s : State) (p : Nat) : (s.touch p).coreRst = s.coreRst := rfl
@[simp] theorem State.touch_fatal (s : State) (p : Nat) : (s.touch p).fatal = s.fatal := rfl
@[simp] theorem State.touch_lockRun (s : State) (p : Nat) : (s.touch p).lockRun = s.lockRun := rfl
@[simp] theorem State.touch_lockFrame (s : State) (p : Nat) : (s.touch p).lockFrame = s.lockFrame := rfl
@[simp] theorem State.touch_lockLost (s : State) (p : Nat) : (s.touch p).lockLost = s.lockLost := rfl
@[simp] theorem State.touch_step (s : State) (p : Nat) : (s.touch p).step = s.step := rfl
@[simp] theorem State.touch_ports (s : State) (p : Nat) : (s.touch p).ports = s.ports := rfl
@[simp] theorem State.touch_inbox (s : State) (p : Nat) : (s.touch p).inbox = s.inbox := rfl
@[simp] theorem State.touch_reqs (s : State) (p : Nat) : (s.touch p).reqs = s.reqs := rfl
@[simp] theorem State.touch_nextTag (s : State) (p : Nat) : (s.touch p).nextTag = s.nextTag := rfl
@[simp] theorem State.touch_bushels (s : State) (p : Nat) : (s.touch p).bushels = s.bushels := rfl
@[simp] theorem State.touch_errPend (s : State) (p : Nat) : (s.touch p).errPend = s.errPend := rfl
@[simp] theorem State.touch_hist (s : State) (p : Nat) : (s.touch p).hist = s.hist := rfl
@[simp] theorem State.touch_evlog (s : State) (p : Nat) : (s.touch p).evlog = s.evlog := rfl
@[simp] theorem State.touch_nv (s : State) (p : Nat) : (s.touch p).nv = s.nv := rfl
@[simp] theorem State.touch_podRel (s : State) (p : Nat) : (s.touch p).podRel = s.podRel := rfl
@[simp] theorem State.touch_podSent (s : State) (p : Nat) : (s.touch p).podSent = s.podSent := rfl
@[simp] theorem State.touch_errq (s : State) (p : Nat) : (s.touch p).errq = s.errq := rfl
@[simp] theorem State.touch_firstRec (s : State) (p : Nat) : (s.touch p).firstRec = s.firstRec := rfl
@[simp] theorem State.touch_lastRec (s : State) (p : Nat) : (s.touch p).lastRec = s.lastRec := rfl
@[simp] theorem State.touch_logMsi (s : State) (p : Nat) : (s.touch p).logMsi = s.logMsi := rfl
@[simp] theorem State.touch_phase (s : State) (p : Nat) : (s.touch p).phase = s.phase := rfl
@[simp] theorem State.touch_pwrEn (s : State) (p : Nat) : (s.touch p).pwrEn = s.pwrEn := rfl
@[simp] theorem State.touch_perst (s : State) (p : Nat) : (s.touch p).perst = s.perst := rfl
@[simp] theorem State.touch_nvPulse (s : State) (p : Nat) : (s.touch p).nvPulse = s.nvPulse := rfl
@[simp] theorem State.touch_rstDelayed (s : State) (p : Nat) : (s.touch p).rstDelayed = s.rstDelayed := rfl
@[simp] theorem State.touch_psPend (s : State) (p : Nat) : (s.touch p).psPend = s.psPend := rfl
@[simp] theorem State.touch_scrub (s : State) (p : Nat) : (s.touch p).scrub = s.scrub := rfl
@[simp] theorem State.touch_scrubW (s : State) (p : Nat) : (s.touch p).scrubW = s.scrubW := rfl
@[simp] theorem State.touch_power (s : State) (p : Nat) : (s.touch p).power = s.power := rfl
@[simp] theorem State.touch_sec (s : State) (p : Nat) : (s.touch p).sec = s.sec := rfl
@[simp] theorem State.touch_mon (s : State) (p : Nat) : (s.touch p).mon = s.mon := rfl
@[simp] theorem State.touch_clock (s : State) (p : Nat) : (s.touch p).clock = s.clock := rfl
@[simp] theorem State.touch_hostLines (s : State) (p : Nat) : (s.touch p).hostLines = s.hostLines := rfl
@[simp] theorem State.touch_snoopIn (s : State) (p : Nat) : (s.touch p).snoopIn = s.snoopIn := rfl
@[simp] theorem State.touch_hdm (s : State) (p : Nat) : (s.touch p).hdm = s.hdm := rfl
@[simp] theorem State.touch_vfs (s : State) (p : Nat) : (s.touch p).vfs = s.vfs := rfl
@[simp] theorem State.touch_bar0 (s : State) (p : Nat) : (s.touch p).bar0 = s.bar0 := rfl
@[simp] theorem State.touch_msix (s : State) (p : Nat) : (s.touch p).msix = s.msix := rfl
@[simp] theorem State.touch_msixPend (s : State) (p : Nat) : (s.touch p).msixPend = s.msixPend := rfl
@[simp] theorem State.touch_i3cAddr (s : State) (p : Nat) : (s.touch p).i3cAddr = s.i3cAddr := rfl
@[simp] theorem State.touch_out (s : State) (p : Nat) : (s.touch p).out = s.out := rfl
@[simp] theorem State.touch_freeCtr (s : State) (p : Nat) : (s.touch p).freeCtr = s.freeCtr := rfl
@[simp] theorem State.touch_nextId (s : State) (p : Nat) : (s.touch p).nextId = s.nextId := rfl

@[simp] theorem State.fresh_pending (s : State) : s.fresh.pending = s.pending := rfl
@[simp] theorem State.fresh_cycle (s : State) : s.fresh.cycle = s.cycle := rfl
@[simp] theorem State.fresh_regs (s : State) : s.fresh.regs = s.regs := rfl
@[simp] theorem State.fresh_shadows (s : State) : s.fresh.shadows = s.shadows := rfl
@[simp] theorem State.fresh_guards (s : State) : s.fresh.guards = s.guards := rfl
@[simp] theorem State.fresh_gstat (s : State) : s.fresh.gstat = s.gstat := rfl
@[simp] theorem State.fresh_cores (s : State) : s.fresh.cores = s.cores := rfl
@[simp] theorem State.fresh_gang (s : State) : s.fresh.gang = s.gang := rfl
@[simp] theorem State.fresh_parts (s : State) : s.fresh.parts = s.parts := rfl
@[simp] theorem State.fresh_slwinNow (s : State) : s.fresh.slwinNow = s.slwinNow := rfl
@[simp] theorem State.fresh_dieTemp (s : State) : s.fresh.dieTemp = s.dieTemp := rfl
@[simp] theorem State.fresh_dieVolt (s : State) : s.fresh.dieVolt = s.dieVolt := rfl
@[simp] theorem State.fresh_hbm (s : State) : s.fresh.hbm = s.hbm := rfl
@[simp] theorem State.fresh_hbmPois (s : State) : s.fresh.hbmPois = s.hbmPois := rfl
@[simp] theorem State.fresh_hbmInj (s : State) : s.fresh.hbmInj = s.hbmInj := rfl
@[simp] theorem State.fresh_damage (s : State) : s.fresh.damage = s.damage := rfl
@[simp] theorem State.fresh_memLines (s : State) : s.fresh.memLines = s.memLines := rfl
@[simp] theorem State.fresh_lineFaults (s : State) : s.fresh.lineFaults = s.lineFaults := rfl
@[simp] theorem State.fresh_memErrs (s : State) : s.fresh.memErrs = s.memErrs := rfl
@[simp] theorem State.fresh_injPois (s : State) : s.fresh.injPois = s.injPois := rfl
@[simp] theorem State.fresh_hostIn (s : State) : s.fresh.hostIn = s.hostIn := rfl
@[simp] theorem State.fresh_hostPois (s : State) : s.fresh.hostPois = s.hostPois := rfl
@[simp] theorem State.fresh_flights (s : State) : s.fresh.flights = s.flights := rfl
@[simp] theorem State.fresh_rounds (s : State) : s.fresh.rounds = s.rounds := rfl
@[simp] theorem State.fresh_barCfg (s : State) : s.fresh.barCfg = s.barCfg := rfl
@[simp] theorem State.fresh_barPend (s : State) : s.fresh.barPend = s.barPend := rfl
@[simp] theorem State.fresh_barCap (s : State) : s.fresh.barCap = s.barCap := rfl
@[simp] theorem State.fresh_gangPend (s : State) : s.fresh.gangPend = s.gangPend := rfl
@[simp] theorem State.fresh_winDue (s : State) : s.fresh.winDue = s.winDue := rfl
@[simp] theorem State.fresh_coreRst (s : State) : s.fresh.coreRst = s.coreRst := rfl
@[simp] theorem State.fresh_fatal (s : State) : s.fresh.fatal = s.fatal := rfl
@[simp] theorem State.fresh_lockRun (s : State) : s.fresh.lockRun = s.lockRun := rfl
@[simp] theorem State.fresh_lockFrame (s : State) : s.fresh.lockFrame = s.lockFrame := rfl
@[simp] theorem State.fresh_lockLost (s : State) : s.fresh.lockLost = s.lockLost := rfl
@[simp] theorem State.fresh_step (s : State) : s.fresh.step = s.step := rfl
@[simp] theorem State.fresh_ports (s : State) : s.fresh.ports = s.ports := rfl
@[simp] theorem State.fresh_inbox (s : State) : s.fresh.inbox = s.inbox := rfl
@[simp] theorem State.fresh_reqs (s : State) : s.fresh.reqs = s.reqs := rfl
@[simp] theorem State.fresh_nextTag (s : State) : s.fresh.nextTag = s.nextTag := rfl
@[simp] theorem State.fresh_bushels (s : State) : s.fresh.bushels = s.bushels := rfl
@[simp] theorem State.fresh_errPend (s : State) : s.fresh.errPend = s.errPend := rfl
@[simp] theorem State.fresh_hist (s : State) : s.fresh.hist = s.hist := rfl
@[simp] theorem State.fresh_evlog (s : State) : s.fresh.evlog = s.evlog := rfl
@[simp] theorem State.fresh_nv (s : State) : s.fresh.nv = s.nv := rfl
@[simp] theorem State.fresh_podRel (s : State) : s.fresh.podRel = s.podRel := rfl
@[simp] theorem State.fresh_podSent (s : State) : s.fresh.podSent = s.podSent := rfl
@[simp] theorem State.fresh_errq (s : State) : s.fresh.errq = s.errq := rfl
@[simp] theorem State.fresh_firstRec (s : State) : s.fresh.firstRec = s.firstRec := rfl
@[simp] theorem State.fresh_lastRec (s : State) : s.fresh.lastRec = s.lastRec := rfl
@[simp] theorem State.fresh_logMsi (s : State) : s.fresh.logMsi = s.logMsi := rfl
@[simp] theorem State.fresh_phase (s : State) : s.fresh.phase = s.phase := rfl
@[simp] theorem State.fresh_pwrEn (s : State) : s.fresh.pwrEn = s.pwrEn := rfl
@[simp] theorem State.fresh_perst (s : State) : s.fresh.perst = s.perst := rfl
@[simp] theorem State.fresh_nvPulse (s : State) : s.fresh.nvPulse = s.nvPulse := rfl
@[simp] theorem State.fresh_rstDelayed (s : State) : s.fresh.rstDelayed = s.rstDelayed := rfl
@[simp] theorem State.fresh_psPend (s : State) : s.fresh.psPend = s.psPend := rfl
@[simp] theorem State.fresh_scrub (s : State) : s.fresh.scrub = s.scrub := rfl
@[simp] theorem State.fresh_scrubW (s : State) : s.fresh.scrubW = s.scrubW := rfl
@[simp] theorem State.fresh_power (s : State) : s.fresh.power = s.power := rfl
@[simp] theorem State.fresh_sec (s : State) : s.fresh.sec = s.sec := rfl
@[simp] theorem State.fresh_mon (s : State) : s.fresh.mon = s.mon := rfl
@[simp] theorem State.fresh_clock (s : State) : s.fresh.clock = s.clock := rfl
@[simp] theorem State.fresh_hostLines (s : State) : s.fresh.hostLines = s.hostLines := rfl
@[simp] theorem State.fresh_snoopIn (s : State) : s.fresh.snoopIn = s.snoopIn := rfl
@[simp] theorem State.fresh_hdm (s : State) : s.fresh.hdm = s.hdm := rfl
@[simp] theorem State.fresh_vfs (s : State) : s.fresh.vfs = s.vfs := rfl
@[simp] theorem State.fresh_bar0 (s : State) : s.fresh.bar0 = s.bar0 := rfl
@[simp] theorem State.fresh_msix (s : State) : s.fresh.msix = s.msix := rfl
@[simp] theorem State.fresh_msixPend (s : State) : s.fresh.msixPend = s.msixPend := rfl
@[simp] theorem State.fresh_i3cAddr (s : State) : s.fresh.i3cAddr = s.i3cAddr := rfl
@[simp] theorem State.fresh_out (s : State) : s.fresh.out = s.out := rfl
@[simp] theorem State.fresh_nextId (s : State) : s.fresh.nextId = s.nextId := rfl

@[simp] theorem State.histSet_pending (s : State) (k v : Nat) : (s.histSet k v).pending = s.pending := rfl
@[simp] theorem State.histSet_cycle (s : State) (k v : Nat) : (s.histSet k v).cycle = s.cycle := rfl
@[simp] theorem State.histSet_regs (s : State) (k v : Nat) : (s.histSet k v).regs = s.regs := rfl
@[simp] theorem State.histSet_shadows (s : State) (k v : Nat) : (s.histSet k v).shadows = s.shadows := rfl
@[simp] theorem State.histSet_guards (s : State) (k v : Nat) : (s.histSet k v).guards = s.guards := rfl
@[simp] theorem State.histSet_gstat (s : State) (k v : Nat) : (s.histSet k v).gstat = s.gstat := rfl
@[simp] theorem State.histSet_cores (s : State) (k v : Nat) : (s.histSet k v).cores = s.cores := rfl
@[simp] theorem State.histSet_gang (s : State) (k v : Nat) : (s.histSet k v).gang = s.gang := rfl
@[simp] theorem State.histSet_parts (s : State) (k v : Nat) : (s.histSet k v).parts = s.parts := rfl
@[simp] theorem State.histSet_slwinNow (s : State) (k v : Nat) : (s.histSet k v).slwinNow = s.slwinNow := rfl
@[simp] theorem State.histSet_dieTemp (s : State) (k v : Nat) : (s.histSet k v).dieTemp = s.dieTemp := rfl
@[simp] theorem State.histSet_dieVolt (s : State) (k v : Nat) : (s.histSet k v).dieVolt = s.dieVolt := rfl
@[simp] theorem State.histSet_hbm (s : State) (k v : Nat) : (s.histSet k v).hbm = s.hbm := rfl
@[simp] theorem State.histSet_hbmPois (s : State) (k v : Nat) : (s.histSet k v).hbmPois = s.hbmPois := rfl
@[simp] theorem State.histSet_hbmInj (s : State) (k v : Nat) : (s.histSet k v).hbmInj = s.hbmInj := rfl
@[simp] theorem State.histSet_damage (s : State) (k v : Nat) : (s.histSet k v).damage = s.damage := rfl
@[simp] theorem State.histSet_memLines (s : State) (k v : Nat) : (s.histSet k v).memLines = s.memLines := rfl
@[simp] theorem State.histSet_lineFaults (s : State) (k v : Nat) : (s.histSet k v).lineFaults = s.lineFaults := rfl
@[simp] theorem State.histSet_memErrs (s : State) (k v : Nat) : (s.histSet k v).memErrs = s.memErrs := rfl
@[simp] theorem State.histSet_injPois (s : State) (k v : Nat) : (s.histSet k v).injPois = s.injPois := rfl
@[simp] theorem State.histSet_hostIn (s : State) (k v : Nat) : (s.histSet k v).hostIn = s.hostIn := rfl
@[simp] theorem State.histSet_hostPois (s : State) (k v : Nat) : (s.histSet k v).hostPois = s.hostPois := rfl
@[simp] theorem State.histSet_flights (s : State) (k v : Nat) : (s.histSet k v).flights = s.flights := rfl
@[simp] theorem State.histSet_rounds (s : State) (k v : Nat) : (s.histSet k v).rounds = s.rounds := rfl
@[simp] theorem State.histSet_barCfg (s : State) (k v : Nat) : (s.histSet k v).barCfg = s.barCfg := rfl
@[simp] theorem State.histSet_barPend (s : State) (k v : Nat) : (s.histSet k v).barPend = s.barPend := rfl
@[simp] theorem State.histSet_barCap (s : State) (k v : Nat) : (s.histSet k v).barCap = s.barCap := rfl
@[simp] theorem State.histSet_gangPend (s : State) (k v : Nat) : (s.histSet k v).gangPend = s.gangPend := rfl
@[simp] theorem State.histSet_winDue (s : State) (k v : Nat) : (s.histSet k v).winDue = s.winDue := rfl
@[simp] theorem State.histSet_coreRst (s : State) (k v : Nat) : (s.histSet k v).coreRst = s.coreRst := rfl
@[simp] theorem State.histSet_fatal (s : State) (k v : Nat) : (s.histSet k v).fatal = s.fatal := rfl
@[simp] theorem State.histSet_lockRun (s : State) (k v : Nat) : (s.histSet k v).lockRun = s.lockRun := rfl
@[simp] theorem State.histSet_lockFrame (s : State) (k v : Nat) : (s.histSet k v).lockFrame = s.lockFrame := rfl
@[simp] theorem State.histSet_lockLost (s : State) (k v : Nat) : (s.histSet k v).lockLost = s.lockLost := rfl
@[simp] theorem State.histSet_step (s : State) (k v : Nat) : (s.histSet k v).step = s.step := rfl
@[simp] theorem State.histSet_ports (s : State) (k v : Nat) : (s.histSet k v).ports = s.ports := rfl
@[simp] theorem State.histSet_inbox (s : State) (k v : Nat) : (s.histSet k v).inbox = s.inbox := rfl
@[simp] theorem State.histSet_reqs (s : State) (k v : Nat) : (s.histSet k v).reqs = s.reqs := rfl
@[simp] theorem State.histSet_nextTag (s : State) (k v : Nat) : (s.histSet k v).nextTag = s.nextTag := rfl
@[simp] theorem State.histSet_bushels (s : State) (k v : Nat) : (s.histSet k v).bushels = s.bushels := rfl
@[simp] theorem State.histSet_errPend (s : State) (k v : Nat) : (s.histSet k v).errPend = s.errPend := rfl
@[simp] theorem State.histSet_evlog (s : State) (k v : Nat) : (s.histSet k v).evlog = s.evlog := rfl
@[simp] theorem State.histSet_nv (s : State) (k v : Nat) : (s.histSet k v).nv = s.nv := rfl
@[simp] theorem State.histSet_podRel (s : State) (k v : Nat) : (s.histSet k v).podRel = s.podRel := rfl
@[simp] theorem State.histSet_podSent (s : State) (k v : Nat) : (s.histSet k v).podSent = s.podSent := rfl
@[simp] theorem State.histSet_errq (s : State) (k v : Nat) : (s.histSet k v).errq = s.errq := rfl
@[simp] theorem State.histSet_firstRec (s : State) (k v : Nat) : (s.histSet k v).firstRec = s.firstRec := rfl
@[simp] theorem State.histSet_lastRec (s : State) (k v : Nat) : (s.histSet k v).lastRec = s.lastRec := rfl
@[simp] theorem State.histSet_logMsi (s : State) (k v : Nat) : (s.histSet k v).logMsi = s.logMsi := rfl
@[simp] theorem State.histSet_phase (s : State) (k v : Nat) : (s.histSet k v).phase = s.phase := rfl
@[simp] theorem State.histSet_pwrEn (s : State) (k v : Nat) : (s.histSet k v).pwrEn = s.pwrEn := rfl
@[simp] theorem State.histSet_perst (s : State) (k v : Nat) : (s.histSet k v).perst = s.perst := rfl
@[simp] theorem State.histSet_nvPulse (s : State) (k v : Nat) : (s.histSet k v).nvPulse = s.nvPulse := rfl
@[simp] theorem State.histSet_rstDelayed (s : State) (k v : Nat) : (s.histSet k v).rstDelayed = s.rstDelayed := rfl
@[simp] theorem State.histSet_psPend (s : State) (k v : Nat) : (s.histSet k v).psPend = s.psPend := rfl
@[simp] theorem State.histSet_scrub (s : State) (k v : Nat) : (s.histSet k v).scrub = s.scrub := rfl
@[simp] theorem State.histSet_scrubW (s : State) (k v : Nat) : (s.histSet k v).scrubW = s.scrubW := rfl
@[simp] theorem State.histSet_power (s : State) (k v : Nat) : (s.histSet k v).power = s.power := rfl
@[simp] theorem State.histSet_sec (s : State) (k v : Nat) : (s.histSet k v).sec = s.sec := rfl
@[simp] theorem State.histSet_mon (s : State) (k v : Nat) : (s.histSet k v).mon = s.mon := rfl
@[simp] theorem State.histSet_clock (s : State) (k v : Nat) : (s.histSet k v).clock = s.clock := rfl
@[simp] theorem State.histSet_hostLines (s : State) (k v : Nat) : (s.histSet k v).hostLines = s.hostLines := rfl
@[simp] theorem State.histSet_snoopIn (s : State) (k v : Nat) : (s.histSet k v).snoopIn = s.snoopIn := rfl
@[simp] theorem State.histSet_hdm (s : State) (k v : Nat) : (s.histSet k v).hdm = s.hdm := rfl
@[simp] theorem State.histSet_vfs (s : State) (k v : Nat) : (s.histSet k v).vfs = s.vfs := rfl
@[simp] theorem State.histSet_bar0 (s : State) (k v : Nat) : (s.histSet k v).bar0 = s.bar0 := rfl
@[simp] theorem State.histSet_msix (s : State) (k v : Nat) : (s.histSet k v).msix = s.msix := rfl
@[simp] theorem State.histSet_msixPend (s : State) (k v : Nat) : (s.histSet k v).msixPend = s.msixPend := rfl
@[simp] theorem State.histSet_i3cAddr (s : State) (k v : Nat) : (s.histSet k v).i3cAddr = s.i3cAddr := rfl
@[simp] theorem State.histSet_out (s : State) (k v : Nat) : (s.histSet k v).out = s.out := rfl
@[simp] theorem State.histSet_freeCtr (s : State) (k v : Nat) : (s.histSet k v).freeCtr = s.freeCtr := rfl
@[simp] theorem State.histSet_nextId (s : State) (k v : Nat) : (s.histSet k v).nextId = s.nextId := rfl

@[simp] theorem State.histAdd_pending (s : State) (k v : Nat) : (s.histAdd k v).pending = s.pending := rfl
@[simp] theorem State.histAdd_cycle (s : State) (k v : Nat) : (s.histAdd k v).cycle = s.cycle := rfl
@[simp] theorem State.histAdd_regs (s : State) (k v : Nat) : (s.histAdd k v).regs = s.regs := rfl
@[simp] theorem State.histAdd_shadows (s : State) (k v : Nat) : (s.histAdd k v).shadows = s.shadows := rfl
@[simp] theorem State.histAdd_guards (s : State) (k v : Nat) : (s.histAdd k v).guards = s.guards := rfl
@[simp] theorem State.histAdd_gstat (s : State) (k v : Nat) : (s.histAdd k v).gstat = s.gstat := rfl
@[simp] theorem State.histAdd_cores (s : State) (k v : Nat) : (s.histAdd k v).cores = s.cores := rfl
@[simp] theorem State.histAdd_gang (s : State) (k v : Nat) : (s.histAdd k v).gang = s.gang := rfl
@[simp] theorem State.histAdd_parts (s : State) (k v : Nat) : (s.histAdd k v).parts = s.parts := rfl
@[simp] theorem State.histAdd_slwinNow (s : State) (k v : Nat) : (s.histAdd k v).slwinNow = s.slwinNow := rfl
@[simp] theorem State.histAdd_dieTemp (s : State) (k v : Nat) : (s.histAdd k v).dieTemp = s.dieTemp := rfl
@[simp] theorem State.histAdd_dieVolt (s : State) (k v : Nat) : (s.histAdd k v).dieVolt = s.dieVolt := rfl
@[simp] theorem State.histAdd_hbm (s : State) (k v : Nat) : (s.histAdd k v).hbm = s.hbm := rfl
@[simp] theorem State.histAdd_hbmPois (s : State) (k v : Nat) : (s.histAdd k v).hbmPois = s.hbmPois := rfl
@[simp] theorem State.histAdd_hbmInj (s : State) (k v : Nat) : (s.histAdd k v).hbmInj = s.hbmInj := rfl
@[simp] theorem State.histAdd_damage (s : State) (k v : Nat) : (s.histAdd k v).damage = s.damage := rfl
@[simp] theorem State.histAdd_memLines (s : State) (k v : Nat) : (s.histAdd k v).memLines = s.memLines := rfl
@[simp] theorem State.histAdd_lineFaults (s : State) (k v : Nat) : (s.histAdd k v).lineFaults = s.lineFaults := rfl
@[simp] theorem State.histAdd_memErrs (s : State) (k v : Nat) : (s.histAdd k v).memErrs = s.memErrs := rfl
@[simp] theorem State.histAdd_injPois (s : State) (k v : Nat) : (s.histAdd k v).injPois = s.injPois := rfl
@[simp] theorem State.histAdd_hostIn (s : State) (k v : Nat) : (s.histAdd k v).hostIn = s.hostIn := rfl
@[simp] theorem State.histAdd_hostPois (s : State) (k v : Nat) : (s.histAdd k v).hostPois = s.hostPois := rfl
@[simp] theorem State.histAdd_flights (s : State) (k v : Nat) : (s.histAdd k v).flights = s.flights := rfl
@[simp] theorem State.histAdd_rounds (s : State) (k v : Nat) : (s.histAdd k v).rounds = s.rounds := rfl
@[simp] theorem State.histAdd_barCfg (s : State) (k v : Nat) : (s.histAdd k v).barCfg = s.barCfg := rfl
@[simp] theorem State.histAdd_barPend (s : State) (k v : Nat) : (s.histAdd k v).barPend = s.barPend := rfl
@[simp] theorem State.histAdd_barCap (s : State) (k v : Nat) : (s.histAdd k v).barCap = s.barCap := rfl
@[simp] theorem State.histAdd_gangPend (s : State) (k v : Nat) : (s.histAdd k v).gangPend = s.gangPend := rfl
@[simp] theorem State.histAdd_winDue (s : State) (k v : Nat) : (s.histAdd k v).winDue = s.winDue := rfl
@[simp] theorem State.histAdd_coreRst (s : State) (k v : Nat) : (s.histAdd k v).coreRst = s.coreRst := rfl
@[simp] theorem State.histAdd_fatal (s : State) (k v : Nat) : (s.histAdd k v).fatal = s.fatal := rfl
@[simp] theorem State.histAdd_lockRun (s : State) (k v : Nat) : (s.histAdd k v).lockRun = s.lockRun := rfl
@[simp] theorem State.histAdd_lockFrame (s : State) (k v : Nat) : (s.histAdd k v).lockFrame = s.lockFrame := rfl
@[simp] theorem State.histAdd_lockLost (s : State) (k v : Nat) : (s.histAdd k v).lockLost = s.lockLost := rfl
@[simp] theorem State.histAdd_step (s : State) (k v : Nat) : (s.histAdd k v).step = s.step := rfl
@[simp] theorem State.histAdd_ports (s : State) (k v : Nat) : (s.histAdd k v).ports = s.ports := rfl
@[simp] theorem State.histAdd_inbox (s : State) (k v : Nat) : (s.histAdd k v).inbox = s.inbox := rfl
@[simp] theorem State.histAdd_reqs (s : State) (k v : Nat) : (s.histAdd k v).reqs = s.reqs := rfl
@[simp] theorem State.histAdd_nextTag (s : State) (k v : Nat) : (s.histAdd k v).nextTag = s.nextTag := rfl
@[simp] theorem State.histAdd_bushels (s : State) (k v : Nat) : (s.histAdd k v).bushels = s.bushels := rfl
@[simp] theorem State.histAdd_errPend (s : State) (k v : Nat) : (s.histAdd k v).errPend = s.errPend := rfl
@[simp] theorem State.histAdd_evlog (s : State) (k v : Nat) : (s.histAdd k v).evlog = s.evlog := rfl
@[simp] theorem State.histAdd_nv (s : State) (k v : Nat) : (s.histAdd k v).nv = s.nv := rfl
@[simp] theorem State.histAdd_podRel (s : State) (k v : Nat) : (s.histAdd k v).podRel = s.podRel := rfl
@[simp] theorem State.histAdd_podSent (s : State) (k v : Nat) : (s.histAdd k v).podSent = s.podSent := rfl
@[simp] theorem State.histAdd_errq (s : State) (k v : Nat) : (s.histAdd k v).errq = s.errq := rfl
@[simp] theorem State.histAdd_firstRec (s : State) (k v : Nat) : (s.histAdd k v).firstRec = s.firstRec := rfl
@[simp] theorem State.histAdd_lastRec (s : State) (k v : Nat) : (s.histAdd k v).lastRec = s.lastRec := rfl
@[simp] theorem State.histAdd_logMsi (s : State) (k v : Nat) : (s.histAdd k v).logMsi = s.logMsi := rfl
@[simp] theorem State.histAdd_phase (s : State) (k v : Nat) : (s.histAdd k v).phase = s.phase := rfl
@[simp] theorem State.histAdd_pwrEn (s : State) (k v : Nat) : (s.histAdd k v).pwrEn = s.pwrEn := rfl
@[simp] theorem State.histAdd_perst (s : State) (k v : Nat) : (s.histAdd k v).perst = s.perst := rfl
@[simp] theorem State.histAdd_nvPulse (s : State) (k v : Nat) : (s.histAdd k v).nvPulse = s.nvPulse := rfl
@[simp] theorem State.histAdd_rstDelayed (s : State) (k v : Nat) : (s.histAdd k v).rstDelayed = s.rstDelayed := rfl
@[simp] theorem State.histAdd_psPend (s : State) (k v : Nat) : (s.histAdd k v).psPend = s.psPend := rfl
@[simp] theorem State.histAdd_scrub (s : State) (k v : Nat) : (s.histAdd k v).scrub = s.scrub := rfl
@[simp] theorem State.histAdd_scrubW (s : State) (k v : Nat) : (s.histAdd k v).scrubW = s.scrubW := rfl
@[simp] theorem State.histAdd_power (s : State) (k v : Nat) : (s.histAdd k v).power = s.power := rfl
@[simp] theorem State.histAdd_sec (s : State) (k v : Nat) : (s.histAdd k v).sec = s.sec := rfl
@[simp] theorem State.histAdd_mon (s : State) (k v : Nat) : (s.histAdd k v).mon = s.mon := rfl
@[simp] theorem State.histAdd_clock (s : State) (k v : Nat) : (s.histAdd k v).clock = s.clock := rfl
@[simp] theorem State.histAdd_hostLines (s : State) (k v : Nat) : (s.histAdd k v).hostLines = s.hostLines := rfl
@[simp] theorem State.histAdd_snoopIn (s : State) (k v : Nat) : (s.histAdd k v).snoopIn = s.snoopIn := rfl
@[simp] theorem State.histAdd_hdm (s : State) (k v : Nat) : (s.histAdd k v).hdm = s.hdm := rfl
@[simp] theorem State.histAdd_vfs (s : State) (k v : Nat) : (s.histAdd k v).vfs = s.vfs := rfl
@[simp] theorem State.histAdd_bar0 (s : State) (k v : Nat) : (s.histAdd k v).bar0 = s.bar0 := rfl
@[simp] theorem State.histAdd_msix (s : State) (k v : Nat) : (s.histAdd k v).msix = s.msix := rfl
@[simp] theorem State.histAdd_msixPend (s : State) (k v : Nat) : (s.histAdd k v).msixPend = s.msixPend := rfl
@[simp] theorem State.histAdd_i3cAddr (s : State) (k v : Nat) : (s.histAdd k v).i3cAddr = s.i3cAddr := rfl
@[simp] theorem State.histAdd_out (s : State) (k v : Nat) : (s.histAdd k v).out = s.out := rfl
@[simp] theorem State.histAdd_freeCtr (s : State) (k v : Nat) : (s.histAdd k v).freeCtr = s.freeCtr := rfl
@[simp] theorem State.histAdd_nextId (s : State) (k v : Nat) : (s.histAdd k v).nextId = s.nextId := rfl

@[simp] theorem Core.setReg_st (k : Core) (o : Nat) (v : Word32) : (k.setReg o v).st = k.st := rfl
@[simp] theorem Core.setReg_hold (k : Core) (o : Nat) (v : Word32) : (k.setReg o v).hold = k.hold := rfl
@[simp] theorem Core.setReg_opnd (k : Core) (o : Nat) (v : Word32) : (k.setReg o v).opnd = k.opnd := rfl
@[simp] theorem Core.setReg_view (k : Core) (o : Nat) (v : Word32) : (k.setReg o v).view = k.view := rfl
@[simp] theorem Core.setReg_active (k : Core) (o : Nat) (v : Word32) : (k.setReg o v).active = k.active := rfl
@[simp] theorem Core.setReg_spill (k : Core) (o : Nat) (v : Word32) : (k.setReg o v).spill = k.spill := rfl
@[simp] theorem Core.setReg_waitFailed (k : Core) (o : Nat) (v : Word32) : (k.setReg o v).waitFailed = k.waitFailed := rfl
@[simp] theorem Core.setReg_late (k : Core) (o : Nat) (v : Word32) : (k.setReg o v).late = k.late := rfl
@[simp] theorem Core.setReg_wait (k : Core) (o : Nat) (v : Word32) : (k.setReg o v).wait = k.wait := rfl
@[simp] theorem Core.setReg_behind (k : Core) (o : Nat) (v : Word32) : (k.setReg o v).behind = k.behind := rfl
@[simp] theorem Core.setReg_catchUp (k : Core) (o : Nat) (v : Word32) : (k.setReg o v).catchUp = k.catchUp := rfl
@[simp] theorem Core.setReg_missed (k : Core) (o : Nat) (v : Word32) : (k.setReg o v).missed = k.missed := rfl
@[simp] theorem Core.setReg_pc (k : Core) (o : Nat) (v : Word32) : (k.setReg o v).pc = k.pc := rfl
@[simp] theorem Core.setReg_npc (k : Core) (o : Nat) (v : Word32) : (k.setReg o v).npc = k.npc := rfl
@[simp] theorem Core.setReg_todo (k : Core) (o : Nat) (v : Word32) : (k.setReg o v).todo = k.todo := rfl
@[simp] theorem Core.setReg_bcy (k : Core) (o : Nat) (v : Word32) : (k.setReg o v).bcy = k.bcy := rfl
@[simp] theorem Core.setReg_wframe (k : Core) (o : Nat) (v : Word32) : (k.setReg o v).wframe = k.wframe := rfl
@[simp] theorem Core.setReg_blockFrame (k : Core) (o : Nat) (v : Word32) : (k.setReg o v).blockFrame = k.blockFrame := rfl
@[simp] theorem Core.setReg_blockNo (k : Core) (o : Nat) (v : Word32) : (k.setReg o v).blockNo = k.blockNo := rfl
@[simp] theorem Core.setReg_framedNo (k : Core) (o : Nat) (v : Word32) : (k.setReg o v).framedNo = k.framedNo := rfl
@[simp] theorem Core.setReg_blockBundles (k : Core) (o : Nat) (v : Word32) : (k.setReg o v).blockBundles = k.blockBundles := rfl
@[simp] theorem Core.setReg_lastBc (k : Core) (o : Nat) (v : Word32) : (k.setReg o v).lastBc = k.lastBc := rfl
@[simp] theorem Core.setReg_first (k : Core) (o : Nat) (v : Word32) : (k.setReg o v).first = k.first := rfl
@[simp] theorem Core.setReg_start (k : Core) (o : Nat) (v : Word32) : (k.setReg o v).start = k.start := rfl
@[simp] theorem Core.setReg_defer (k : Core) (o : Nat) (v : Word32) : (k.setReg o v).defer = k.defer := rfl
@[simp] theorem Core.setReg_faulted (k : Core) (o : Nat) (v : Word32) : (k.setReg o v).faulted = k.faulted := rfl
@[simp] theorem Core.setReg_exiting (k : Core) (o : Nat) (v : Word32) : (k.setReg o v).exiting = k.exiting := rfl
@[simp] theorem Core.setReg_stall (k : Core) (o : Nat) (v : Word32) : (k.setReg o v).stall = k.stall := rfl
@[simp] theorem Core.setReg_guardStall (k : Core) (o : Nat) (v : Word32) : (k.setReg o v).guardStall = k.guardStall := rfl
@[simp] theorem Core.setReg_steps (k : Core) (o : Nat) (v : Word32) : (k.setReg o v).steps = k.steps := rfl
@[simp] theorem Core.setReg_launch (k : Core) (o : Nat) (v : Word32) : (k.setReg o v).launch = k.launch := rfl
@[simp] theorem Core.setReg_retire (k : Core) (o : Nat) (v : Word32) : (k.setReg o v).retire = k.retire := rfl
@[simp] theorem Core.setReg_failPend (k : Core) (o : Nat) (v : Word32) : (k.setReg o v).failPend = k.failPend := rfl
@[simp] theorem Core.setReg_ib (k : Core) (o : Nat) (v : Word32) : (k.setReg o v).ib = k.ib := rfl
@[simp] theorem Core.setReg_ibValid (k : Core) (o : Nat) (v : Word32) : (k.setReg o v).ibValid = k.ibValid := rfl
@[simp] theorem Core.setReg_ibPois (k : Core) (o : Nat) (v : Word32) : (k.setReg o v).ibPois = k.ibPois := rfl
@[simp] theorem Core.setReg_ibSrc (k : Core) (o : Nat) (v : Word32) : (k.setReg o v).ibSrc = k.ibSrc := rfl
@[simp] theorem Core.setReg_ibLoads (k : Core) (o : Nat) (v : Word32) : (k.setReg o v).ibLoads = k.ibLoads := rfl
@[simp] theorem Core.setReg_mq (k : Core) (o : Nat) (v : Word32) : (k.setReg o v).mq = k.mq := rfl
@[simp] theorem Core.setReg_wbuf (k : Core) (o : Nat) (v : Word32) : (k.setReg o v).wbuf = k.wbuf := rfl
@[simp] theorem Core.setReg_wscale (k : Core) (o : Nat) (v : Word32) : (k.setReg o v).wscale = k.wscale := rfl
@[simp] theorem Core.setReg_wmeta (k : Core) (o : Nat) (v : Word32) : (k.setReg o v).wmeta = k.wmeta := rfl
@[simp] theorem Core.setReg_wsteps (k : Core) (o : Nat) (v : Word32) : (k.setReg o v).wsteps = k.wsteps := rfl
@[simp] theorem Core.setReg_waud (k : Core) (o : Nat) (v : Word32) : (k.setReg o v).waud = k.waud := rfl
@[simp] theorem Core.setReg_acc (k : Core) (o : Nat) (v : Word32) : (k.setReg o v).acc = k.acc := rfl
@[simp] theorem Core.setReg_banks (k : Core) (o : Nat) (v : Word32) : (k.setReg o v).banks = k.banks := rfl
@[simp] theorem Core.setReg_replays (k : Core) (o : Nat) (v : Word32) : (k.setReg o v).replays = k.replays := rfl
@[simp] theorem Core.setReg_lm (k : Core) (o : Nat) (v : Word32) : (k.setReg o v).lm = k.lm := rfl
@[simp] theorem Core.setReg_lmPois (k : Core) (o : Nat) (v : Word32) : (k.setReg o v).lmPois = k.lmPois := rfl
@[simp] theorem Core.setReg_dslots (k : Core) (o : Nat) (v : Word32) : (k.setReg o v).dslots = k.dslots := rfl
@[simp] theorem Core.setReg_xfers (k : Core) (o : Nat) (v : Word32) : (k.setReg o v).xfers = k.xfers := rfl
@[simp] theorem Core.setReg_tslots (k : Core) (o : Nat) (v : Word32) : (k.setReg o v).tslots = k.tslots := rfl
@[simp] theorem Core.setReg_tloads (k : Core) (o : Nat) (v : Word32) : (k.setReg o v).tloads = k.tloads := rfl
@[simp] theorem Core.setReg_loads (k : Core) (o : Nat) (v : Word32) : (k.setReg o v).loads = k.loads := rfl
@[simp] theorem Core.setReg_fences (k : Core) (o : Nat) (v : Word32) : (k.setReg o v).fences = k.fences := rfl
@[simp] theorem Core.setReg_outw (k : Core) (o : Nat) (v : Word32) : (k.setReg o v).outw = k.outw := rfl
@[simp] theorem Core.setReg_held (k : Core) (o : Nat) (v : Word32) : (k.setReg o v).held = k.held := rfl
@[simp] theorem Core.setReg_chq (k : Core) (o : Nat) (v : Word32) : (k.setReg o v).chq = k.chq := rfl
@[simp] theorem Core.setReg_bq (k : Core) (o : Nat) (v : Word32) : (k.setReg o v).bq = k.bq := rfl
@[simp] theorem Core.setReg_scnt (k : Core) (o : Nat) (v : Word32) : (k.setReg o v).scnt = k.scnt := rfl
@[simp] theorem Core.setReg_flags (k : Core) (o : Nat) (v : Word32) : (k.setReg o v).flags = k.flags := rfl
@[simp] theorem Core.setReg_bout (k : Core) (o : Nat) (v : Word32) : (k.setReg o v).bout = k.bout := rfl
@[simp] theorem Core.setReg_bseen (k : Core) (o : Nat) (v : Word32) : (k.setReg o v).bseen = k.bseen := rfl
@[simp] theorem Core.setReg_fcount (k : Core) (o : Nat) (v : Word32) : (k.setReg o v).fcount = k.fcount := rfl

@[simp] theorem Core.setFld_st (k : Core) (o h l v : Nat) : (k.setFld o h l v).st = k.st := rfl
@[simp] theorem Core.setFld_hold (k : Core) (o h l v : Nat) : (k.setFld o h l v).hold = k.hold := rfl
@[simp] theorem Core.setFld_opnd (k : Core) (o h l v : Nat) : (k.setFld o h l v).opnd = k.opnd := rfl
@[simp] theorem Core.setFld_view (k : Core) (o h l v : Nat) : (k.setFld o h l v).view = k.view := rfl
@[simp] theorem Core.setFld_active (k : Core) (o h l v : Nat) : (k.setFld o h l v).active = k.active := rfl
@[simp] theorem Core.setFld_spill (k : Core) (o h l v : Nat) : (k.setFld o h l v).spill = k.spill := rfl
@[simp] theorem Core.setFld_waitFailed (k : Core) (o h l v : Nat) : (k.setFld o h l v).waitFailed = k.waitFailed := rfl
@[simp] theorem Core.setFld_late (k : Core) (o h l v : Nat) : (k.setFld o h l v).late = k.late := rfl
@[simp] theorem Core.setFld_wait (k : Core) (o h l v : Nat) : (k.setFld o h l v).wait = k.wait := rfl
@[simp] theorem Core.setFld_behind (k : Core) (o h l v : Nat) : (k.setFld o h l v).behind = k.behind := rfl
@[simp] theorem Core.setFld_catchUp (k : Core) (o h l v : Nat) : (k.setFld o h l v).catchUp = k.catchUp := rfl
@[simp] theorem Core.setFld_missed (k : Core) (o h l v : Nat) : (k.setFld o h l v).missed = k.missed := rfl
@[simp] theorem Core.setFld_pc (k : Core) (o h l v : Nat) : (k.setFld o h l v).pc = k.pc := rfl
@[simp] theorem Core.setFld_npc (k : Core) (o h l v : Nat) : (k.setFld o h l v).npc = k.npc := rfl
@[simp] theorem Core.setFld_todo (k : Core) (o h l v : Nat) : (k.setFld o h l v).todo = k.todo := rfl
@[simp] theorem Core.setFld_bcy (k : Core) (o h l v : Nat) : (k.setFld o h l v).bcy = k.bcy := rfl
@[simp] theorem Core.setFld_wframe (k : Core) (o h l v : Nat) : (k.setFld o h l v).wframe = k.wframe := rfl
@[simp] theorem Core.setFld_blockFrame (k : Core) (o h l v : Nat) : (k.setFld o h l v).blockFrame = k.blockFrame := rfl
@[simp] theorem Core.setFld_blockNo (k : Core) (o h l v : Nat) : (k.setFld o h l v).blockNo = k.blockNo := rfl
@[simp] theorem Core.setFld_framedNo (k : Core) (o h l v : Nat) : (k.setFld o h l v).framedNo = k.framedNo := rfl
@[simp] theorem Core.setFld_blockBundles (k : Core) (o h l v : Nat) : (k.setFld o h l v).blockBundles = k.blockBundles := rfl
@[simp] theorem Core.setFld_lastBc (k : Core) (o h l v : Nat) : (k.setFld o h l v).lastBc = k.lastBc := rfl
@[simp] theorem Core.setFld_first (k : Core) (o h l v : Nat) : (k.setFld o h l v).first = k.first := rfl
@[simp] theorem Core.setFld_start (k : Core) (o h l v : Nat) : (k.setFld o h l v).start = k.start := rfl
@[simp] theorem Core.setFld_defer (k : Core) (o h l v : Nat) : (k.setFld o h l v).defer = k.defer := rfl
@[simp] theorem Core.setFld_faulted (k : Core) (o h l v : Nat) : (k.setFld o h l v).faulted = k.faulted := rfl
@[simp] theorem Core.setFld_exiting (k : Core) (o h l v : Nat) : (k.setFld o h l v).exiting = k.exiting := rfl
@[simp] theorem Core.setFld_stall (k : Core) (o h l v : Nat) : (k.setFld o h l v).stall = k.stall := rfl
@[simp] theorem Core.setFld_guardStall (k : Core) (o h l v : Nat) : (k.setFld o h l v).guardStall = k.guardStall := rfl
@[simp] theorem Core.setFld_steps (k : Core) (o h l v : Nat) : (k.setFld o h l v).steps = k.steps := rfl
@[simp] theorem Core.setFld_launch (k : Core) (o h l v : Nat) : (k.setFld o h l v).launch = k.launch := rfl
@[simp] theorem Core.setFld_retire (k : Core) (o h l v : Nat) : (k.setFld o h l v).retire = k.retire := rfl
@[simp] theorem Core.setFld_failPend (k : Core) (o h l v : Nat) : (k.setFld o h l v).failPend = k.failPend := rfl
@[simp] theorem Core.setFld_ib (k : Core) (o h l v : Nat) : (k.setFld o h l v).ib = k.ib := rfl
@[simp] theorem Core.setFld_ibValid (k : Core) (o h l v : Nat) : (k.setFld o h l v).ibValid = k.ibValid := rfl
@[simp] theorem Core.setFld_ibPois (k : Core) (o h l v : Nat) : (k.setFld o h l v).ibPois = k.ibPois := rfl
@[simp] theorem Core.setFld_ibSrc (k : Core) (o h l v : Nat) : (k.setFld o h l v).ibSrc = k.ibSrc := rfl
@[simp] theorem Core.setFld_ibLoads (k : Core) (o h l v : Nat) : (k.setFld o h l v).ibLoads = k.ibLoads := rfl
@[simp] theorem Core.setFld_mq (k : Core) (o h l v : Nat) : (k.setFld o h l v).mq = k.mq := rfl
@[simp] theorem Core.setFld_wbuf (k : Core) (o h l v : Nat) : (k.setFld o h l v).wbuf = k.wbuf := rfl
@[simp] theorem Core.setFld_wscale (k : Core) (o h l v : Nat) : (k.setFld o h l v).wscale = k.wscale := rfl
@[simp] theorem Core.setFld_wmeta (k : Core) (o h l v : Nat) : (k.setFld o h l v).wmeta = k.wmeta := rfl
@[simp] theorem Core.setFld_wsteps (k : Core) (o h l v : Nat) : (k.setFld o h l v).wsteps = k.wsteps := rfl
@[simp] theorem Core.setFld_waud (k : Core) (o h l v : Nat) : (k.setFld o h l v).waud = k.waud := rfl
@[simp] theorem Core.setFld_acc (k : Core) (o h l v : Nat) : (k.setFld o h l v).acc = k.acc := rfl
@[simp] theorem Core.setFld_banks (k : Core) (o h l v : Nat) : (k.setFld o h l v).banks = k.banks := rfl
@[simp] theorem Core.setFld_replays (k : Core) (o h l v : Nat) : (k.setFld o h l v).replays = k.replays := rfl
@[simp] theorem Core.setFld_lm (k : Core) (o h l v : Nat) : (k.setFld o h l v).lm = k.lm := rfl
@[simp] theorem Core.setFld_lmPois (k : Core) (o h l v : Nat) : (k.setFld o h l v).lmPois = k.lmPois := rfl
@[simp] theorem Core.setFld_dslots (k : Core) (o h l v : Nat) : (k.setFld o h l v).dslots = k.dslots := rfl
@[simp] theorem Core.setFld_xfers (k : Core) (o h l v : Nat) : (k.setFld o h l v).xfers = k.xfers := rfl
@[simp] theorem Core.setFld_tslots (k : Core) (o h l v : Nat) : (k.setFld o h l v).tslots = k.tslots := rfl
@[simp] theorem Core.setFld_tloads (k : Core) (o h l v : Nat) : (k.setFld o h l v).tloads = k.tloads := rfl
@[simp] theorem Core.setFld_loads (k : Core) (o h l v : Nat) : (k.setFld o h l v).loads = k.loads := rfl
@[simp] theorem Core.setFld_fences (k : Core) (o h l v : Nat) : (k.setFld o h l v).fences = k.fences := rfl
@[simp] theorem Core.setFld_outw (k : Core) (o h l v : Nat) : (k.setFld o h l v).outw = k.outw := rfl
@[simp] theorem Core.setFld_held (k : Core) (o h l v : Nat) : (k.setFld o h l v).held = k.held := rfl
@[simp] theorem Core.setFld_chq (k : Core) (o h l v : Nat) : (k.setFld o h l v).chq = k.chq := rfl
@[simp] theorem Core.setFld_bq (k : Core) (o h l v : Nat) : (k.setFld o h l v).bq = k.bq := rfl
@[simp] theorem Core.setFld_scnt (k : Core) (o h l v : Nat) : (k.setFld o h l v).scnt = k.scnt := rfl
@[simp] theorem Core.setFld_flags (k : Core) (o h l v : Nat) : (k.setFld o h l v).flags = k.flags := rfl
@[simp] theorem Core.setFld_bout (k : Core) (o h l v : Nat) : (k.setFld o h l v).bout = k.bout := rfl
@[simp] theorem Core.setFld_bseen (k : Core) (o h l v : Nat) : (k.setFld o h l v).bseen = k.bseen := rfl
@[simp] theorem Core.setFld_fcount (k : Core) (o h l v : Nat) : (k.setFld o h l v).fcount = k.fcount := rfl

@[simp] theorem Core.setReg64_st (k : Core) (o v : Nat) : (k.setReg64 o v).st = k.st := rfl
@[simp] theorem Core.setReg64_hold (k : Core) (o v : Nat) : (k.setReg64 o v).hold = k.hold := rfl
@[simp] theorem Core.setReg64_opnd (k : Core) (o v : Nat) : (k.setReg64 o v).opnd = k.opnd := rfl
@[simp] theorem Core.setReg64_view (k : Core) (o v : Nat) : (k.setReg64 o v).view = k.view := rfl
@[simp] theorem Core.setReg64_active (k : Core) (o v : Nat) : (k.setReg64 o v).active = k.active := rfl
@[simp] theorem Core.setReg64_spill (k : Core) (o v : Nat) : (k.setReg64 o v).spill = k.spill := rfl
@[simp] theorem Core.setReg64_waitFailed (k : Core) (o v : Nat) : (k.setReg64 o v).waitFailed = k.waitFailed := rfl
@[simp] theorem Core.setReg64_late (k : Core) (o v : Nat) : (k.setReg64 o v).late = k.late := rfl
@[simp] theorem Core.setReg64_wait (k : Core) (o v : Nat) : (k.setReg64 o v).wait = k.wait := rfl
@[simp] theorem Core.setReg64_behind (k : Core) (o v : Nat) : (k.setReg64 o v).behind = k.behind := rfl
@[simp] theorem Core.setReg64_catchUp (k : Core) (o v : Nat) : (k.setReg64 o v).catchUp = k.catchUp := rfl
@[simp] theorem Core.setReg64_missed (k : Core) (o v : Nat) : (k.setReg64 o v).missed = k.missed := rfl
@[simp] theorem Core.setReg64_pc (k : Core) (o v : Nat) : (k.setReg64 o v).pc = k.pc := rfl
@[simp] theorem Core.setReg64_npc (k : Core) (o v : Nat) : (k.setReg64 o v).npc = k.npc := rfl
@[simp] theorem Core.setReg64_todo (k : Core) (o v : Nat) : (k.setReg64 o v).todo = k.todo := rfl
@[simp] theorem Core.setReg64_bcy (k : Core) (o v : Nat) : (k.setReg64 o v).bcy = k.bcy := rfl
@[simp] theorem Core.setReg64_wframe (k : Core) (o v : Nat) : (k.setReg64 o v).wframe = k.wframe := rfl
@[simp] theorem Core.setReg64_blockFrame (k : Core) (o v : Nat) : (k.setReg64 o v).blockFrame = k.blockFrame := rfl
@[simp] theorem Core.setReg64_blockNo (k : Core) (o v : Nat) : (k.setReg64 o v).blockNo = k.blockNo := rfl
@[simp] theorem Core.setReg64_framedNo (k : Core) (o v : Nat) : (k.setReg64 o v).framedNo = k.framedNo := rfl
@[simp] theorem Core.setReg64_blockBundles (k : Core) (o v : Nat) : (k.setReg64 o v).blockBundles = k.blockBundles := rfl
@[simp] theorem Core.setReg64_lastBc (k : Core) (o v : Nat) : (k.setReg64 o v).lastBc = k.lastBc := rfl
@[simp] theorem Core.setReg64_first (k : Core) (o v : Nat) : (k.setReg64 o v).first = k.first := rfl
@[simp] theorem Core.setReg64_start (k : Core) (o v : Nat) : (k.setReg64 o v).start = k.start := rfl
@[simp] theorem Core.setReg64_defer (k : Core) (o v : Nat) : (k.setReg64 o v).defer = k.defer := rfl
@[simp] theorem Core.setReg64_faulted (k : Core) (o v : Nat) : (k.setReg64 o v).faulted = k.faulted := rfl
@[simp] theorem Core.setReg64_exiting (k : Core) (o v : Nat) : (k.setReg64 o v).exiting = k.exiting := rfl
@[simp] theorem Core.setReg64_stall (k : Core) (o v : Nat) : (k.setReg64 o v).stall = k.stall := rfl
@[simp] theorem Core.setReg64_guardStall (k : Core) (o v : Nat) : (k.setReg64 o v).guardStall = k.guardStall := rfl
@[simp] theorem Core.setReg64_steps (k : Core) (o v : Nat) : (k.setReg64 o v).steps = k.steps := rfl
@[simp] theorem Core.setReg64_launch (k : Core) (o v : Nat) : (k.setReg64 o v).launch = k.launch := rfl
@[simp] theorem Core.setReg64_retire (k : Core) (o v : Nat) : (k.setReg64 o v).retire = k.retire := rfl
@[simp] theorem Core.setReg64_failPend (k : Core) (o v : Nat) : (k.setReg64 o v).failPend = k.failPend := rfl
@[simp] theorem Core.setReg64_ib (k : Core) (o v : Nat) : (k.setReg64 o v).ib = k.ib := rfl
@[simp] theorem Core.setReg64_ibValid (k : Core) (o v : Nat) : (k.setReg64 o v).ibValid = k.ibValid := rfl
@[simp] theorem Core.setReg64_ibPois (k : Core) (o v : Nat) : (k.setReg64 o v).ibPois = k.ibPois := rfl
@[simp] theorem Core.setReg64_ibSrc (k : Core) (o v : Nat) : (k.setReg64 o v).ibSrc = k.ibSrc := rfl
@[simp] theorem Core.setReg64_ibLoads (k : Core) (o v : Nat) : (k.setReg64 o v).ibLoads = k.ibLoads := rfl
@[simp] theorem Core.setReg64_mq (k : Core) (o v : Nat) : (k.setReg64 o v).mq = k.mq := rfl
@[simp] theorem Core.setReg64_wbuf (k : Core) (o v : Nat) : (k.setReg64 o v).wbuf = k.wbuf := rfl
@[simp] theorem Core.setReg64_wscale (k : Core) (o v : Nat) : (k.setReg64 o v).wscale = k.wscale := rfl
@[simp] theorem Core.setReg64_wmeta (k : Core) (o v : Nat) : (k.setReg64 o v).wmeta = k.wmeta := rfl
@[simp] theorem Core.setReg64_wsteps (k : Core) (o v : Nat) : (k.setReg64 o v).wsteps = k.wsteps := rfl
@[simp] theorem Core.setReg64_waud (k : Core) (o v : Nat) : (k.setReg64 o v).waud = k.waud := rfl
@[simp] theorem Core.setReg64_acc (k : Core) (o v : Nat) : (k.setReg64 o v).acc = k.acc := rfl
@[simp] theorem Core.setReg64_banks (k : Core) (o v : Nat) : (k.setReg64 o v).banks = k.banks := rfl
@[simp] theorem Core.setReg64_replays (k : Core) (o v : Nat) : (k.setReg64 o v).replays = k.replays := rfl
@[simp] theorem Core.setReg64_lm (k : Core) (o v : Nat) : (k.setReg64 o v).lm = k.lm := rfl
@[simp] theorem Core.setReg64_lmPois (k : Core) (o v : Nat) : (k.setReg64 o v).lmPois = k.lmPois := rfl
@[simp] theorem Core.setReg64_dslots (k : Core) (o v : Nat) : (k.setReg64 o v).dslots = k.dslots := rfl
@[simp] theorem Core.setReg64_xfers (k : Core) (o v : Nat) : (k.setReg64 o v).xfers = k.xfers := rfl
@[simp] theorem Core.setReg64_tslots (k : Core) (o v : Nat) : (k.setReg64 o v).tslots = k.tslots := rfl
@[simp] theorem Core.setReg64_tloads (k : Core) (o v : Nat) : (k.setReg64 o v).tloads = k.tloads := rfl
@[simp] theorem Core.setReg64_loads (k : Core) (o v : Nat) : (k.setReg64 o v).loads = k.loads := rfl
@[simp] theorem Core.setReg64_fences (k : Core) (o v : Nat) : (k.setReg64 o v).fences = k.fences := rfl
@[simp] theorem Core.setReg64_outw (k : Core) (o v : Nat) : (k.setReg64 o v).outw = k.outw := rfl
@[simp] theorem Core.setReg64_held (k : Core) (o v : Nat) : (k.setReg64 o v).held = k.held := rfl
@[simp] theorem Core.setReg64_chq (k : Core) (o v : Nat) : (k.setReg64 o v).chq = k.chq := rfl
@[simp] theorem Core.setReg64_bq (k : Core) (o v : Nat) : (k.setReg64 o v).bq = k.bq := rfl
@[simp] theorem Core.setReg64_scnt (k : Core) (o v : Nat) : (k.setReg64 o v).scnt = k.scnt := rfl
@[simp] theorem Core.setReg64_flags (k : Core) (o v : Nat) : (k.setReg64 o v).flags = k.flags := rfl
@[simp] theorem Core.setReg64_bout (k : Core) (o v : Nat) : (k.setReg64 o v).bout = k.bout := rfl
@[simp] theorem Core.setReg64_bseen (k : Core) (o v : Nat) : (k.setReg64 o v).bseen = k.bseen := rfl
@[simp] theorem Core.setReg64_fcount (k : Core) (o v : Nat) : (k.setReg64 o v).fcount = k.fcount := rfl

@[simp] theorem Core.bump_st (k : Core) (o n : Nat) : (k.bump o n).st = k.st := rfl
@[simp] theorem Core.bump_hold (k : Core) (o n : Nat) : (k.bump o n).hold = k.hold := rfl
@[simp] theorem Core.bump_opnd (k : Core) (o n : Nat) : (k.bump o n).opnd = k.opnd := rfl
@[simp] theorem Core.bump_view (k : Core) (o n : Nat) : (k.bump o n).view = k.view := rfl
@[simp] theorem Core.bump_active (k : Core) (o n : Nat) : (k.bump o n).active = k.active := rfl
@[simp] theorem Core.bump_spill (k : Core) (o n : Nat) : (k.bump o n).spill = k.spill := rfl
@[simp] theorem Core.bump_waitFailed (k : Core) (o n : Nat) : (k.bump o n).waitFailed = k.waitFailed := rfl
@[simp] theorem Core.bump_late (k : Core) (o n : Nat) : (k.bump o n).late = k.late := rfl
@[simp] theorem Core.bump_wait (k : Core) (o n : Nat) : (k.bump o n).wait = k.wait := rfl
@[simp] theorem Core.bump_behind (k : Core) (o n : Nat) : (k.bump o n).behind = k.behind := rfl
@[simp] theorem Core.bump_catchUp (k : Core) (o n : Nat) : (k.bump o n).catchUp = k.catchUp := rfl
@[simp] theorem Core.bump_missed (k : Core) (o n : Nat) : (k.bump o n).missed = k.missed := rfl
@[simp] theorem Core.bump_pc (k : Core) (o n : Nat) : (k.bump o n).pc = k.pc := rfl
@[simp] theorem Core.bump_npc (k : Core) (o n : Nat) : (k.bump o n).npc = k.npc := rfl
@[simp] theorem Core.bump_todo (k : Core) (o n : Nat) : (k.bump o n).todo = k.todo := rfl
@[simp] theorem Core.bump_bcy (k : Core) (o n : Nat) : (k.bump o n).bcy = k.bcy := rfl
@[simp] theorem Core.bump_wframe (k : Core) (o n : Nat) : (k.bump o n).wframe = k.wframe := rfl
@[simp] theorem Core.bump_blockFrame (k : Core) (o n : Nat) : (k.bump o n).blockFrame = k.blockFrame := rfl
@[simp] theorem Core.bump_blockNo (k : Core) (o n : Nat) : (k.bump o n).blockNo = k.blockNo := rfl
@[simp] theorem Core.bump_framedNo (k : Core) (o n : Nat) : (k.bump o n).framedNo = k.framedNo := rfl
@[simp] theorem Core.bump_blockBundles (k : Core) (o n : Nat) : (k.bump o n).blockBundles = k.blockBundles := rfl
@[simp] theorem Core.bump_lastBc (k : Core) (o n : Nat) : (k.bump o n).lastBc = k.lastBc := rfl
@[simp] theorem Core.bump_first (k : Core) (o n : Nat) : (k.bump o n).first = k.first := rfl
@[simp] theorem Core.bump_start (k : Core) (o n : Nat) : (k.bump o n).start = k.start := rfl
@[simp] theorem Core.bump_defer (k : Core) (o n : Nat) : (k.bump o n).defer = k.defer := rfl
@[simp] theorem Core.bump_faulted (k : Core) (o n : Nat) : (k.bump o n).faulted = k.faulted := rfl
@[simp] theorem Core.bump_exiting (k : Core) (o n : Nat) : (k.bump o n).exiting = k.exiting := rfl
@[simp] theorem Core.bump_stall (k : Core) (o n : Nat) : (k.bump o n).stall = k.stall := rfl
@[simp] theorem Core.bump_guardStall (k : Core) (o n : Nat) : (k.bump o n).guardStall = k.guardStall := rfl
@[simp] theorem Core.bump_steps (k : Core) (o n : Nat) : (k.bump o n).steps = k.steps := rfl
@[simp] theorem Core.bump_launch (k : Core) (o n : Nat) : (k.bump o n).launch = k.launch := rfl
@[simp] theorem Core.bump_retire (k : Core) (o n : Nat) : (k.bump o n).retire = k.retire := rfl
@[simp] theorem Core.bump_failPend (k : Core) (o n : Nat) : (k.bump o n).failPend = k.failPend := rfl
@[simp] theorem Core.bump_ib (k : Core) (o n : Nat) : (k.bump o n).ib = k.ib := rfl
@[simp] theorem Core.bump_ibValid (k : Core) (o n : Nat) : (k.bump o n).ibValid = k.ibValid := rfl
@[simp] theorem Core.bump_ibPois (k : Core) (o n : Nat) : (k.bump o n).ibPois = k.ibPois := rfl
@[simp] theorem Core.bump_ibSrc (k : Core) (o n : Nat) : (k.bump o n).ibSrc = k.ibSrc := rfl
@[simp] theorem Core.bump_ibLoads (k : Core) (o n : Nat) : (k.bump o n).ibLoads = k.ibLoads := rfl
@[simp] theorem Core.bump_mq (k : Core) (o n : Nat) : (k.bump o n).mq = k.mq := rfl
@[simp] theorem Core.bump_wbuf (k : Core) (o n : Nat) : (k.bump o n).wbuf = k.wbuf := rfl
@[simp] theorem Core.bump_wscale (k : Core) (o n : Nat) : (k.bump o n).wscale = k.wscale := rfl
@[simp] theorem Core.bump_wmeta (k : Core) (o n : Nat) : (k.bump o n).wmeta = k.wmeta := rfl
@[simp] theorem Core.bump_wsteps (k : Core) (o n : Nat) : (k.bump o n).wsteps = k.wsteps := rfl
@[simp] theorem Core.bump_waud (k : Core) (o n : Nat) : (k.bump o n).waud = k.waud := rfl
@[simp] theorem Core.bump_acc (k : Core) (o n : Nat) : (k.bump o n).acc = k.acc := rfl
@[simp] theorem Core.bump_banks (k : Core) (o n : Nat) : (k.bump o n).banks = k.banks := rfl
@[simp] theorem Core.bump_replays (k : Core) (o n : Nat) : (k.bump o n).replays = k.replays := rfl
@[simp] theorem Core.bump_lm (k : Core) (o n : Nat) : (k.bump o n).lm = k.lm := rfl
@[simp] theorem Core.bump_lmPois (k : Core) (o n : Nat) : (k.bump o n).lmPois = k.lmPois := rfl
@[simp] theorem Core.bump_dslots (k : Core) (o n : Nat) : (k.bump o n).dslots = k.dslots := rfl
@[simp] theorem Core.bump_xfers (k : Core) (o n : Nat) : (k.bump o n).xfers = k.xfers := rfl
@[simp] theorem Core.bump_tslots (k : Core) (o n : Nat) : (k.bump o n).tslots = k.tslots := rfl
@[simp] theorem Core.bump_tloads (k : Core) (o n : Nat) : (k.bump o n).tloads = k.tloads := rfl
@[simp] theorem Core.bump_loads (k : Core) (o n : Nat) : (k.bump o n).loads = k.loads := rfl
@[simp] theorem Core.bump_fences (k : Core) (o n : Nat) : (k.bump o n).fences = k.fences := rfl
@[simp] theorem Core.bump_outw (k : Core) (o n : Nat) : (k.bump o n).outw = k.outw := rfl
@[simp] theorem Core.bump_held (k : Core) (o n : Nat) : (k.bump o n).held = k.held := rfl
@[simp] theorem Core.bump_chq (k : Core) (o n : Nat) : (k.bump o n).chq = k.chq := rfl
@[simp] theorem Core.bump_bq (k : Core) (o n : Nat) : (k.bump o n).bq = k.bq := rfl
@[simp] theorem Core.bump_scnt (k : Core) (o n : Nat) : (k.bump o n).scnt = k.scnt := rfl
@[simp] theorem Core.bump_flags (k : Core) (o n : Nat) : (k.bump o n).flags = k.flags := rfl
@[simp] theorem Core.bump_bout (k : Core) (o n : Nat) : (k.bump o n).bout = k.bout := rfl
@[simp] theorem Core.bump_bseen (k : Core) (o n : Nat) : (k.bump o n).bseen = k.bseen := rfl
@[simp] theorem Core.bump_cregs (k : Core) (o n : Nat) : (k.bump o n).cregs = k.cregs := rfl

@[simp] theorem Core.lmWrite_st (k : Core) (a : Nat) (b : List Byte) (p : Bool) : (k.lmWrite a b p).st = k.st := rfl
@[simp] theorem Core.lmWrite_hold (k : Core) (a : Nat) (b : List Byte) (p : Bool) : (k.lmWrite a b p).hold = k.hold := rfl
@[simp] theorem Core.lmWrite_opnd (k : Core) (a : Nat) (b : List Byte) (p : Bool) : (k.lmWrite a b p).opnd = k.opnd := rfl
@[simp] theorem Core.lmWrite_view (k : Core) (a : Nat) (b : List Byte) (p : Bool) : (k.lmWrite a b p).view = k.view := rfl
@[simp] theorem Core.lmWrite_active (k : Core) (a : Nat) (b : List Byte) (p : Bool) : (k.lmWrite a b p).active = k.active := rfl
@[simp] theorem Core.lmWrite_spill (k : Core) (a : Nat) (b : List Byte) (p : Bool) : (k.lmWrite a b p).spill = k.spill := rfl
@[simp] theorem Core.lmWrite_waitFailed (k : Core) (a : Nat) (b : List Byte) (p : Bool) : (k.lmWrite a b p).waitFailed = k.waitFailed := rfl
@[simp] theorem Core.lmWrite_late (k : Core) (a : Nat) (b : List Byte) (p : Bool) : (k.lmWrite a b p).late = k.late := rfl
@[simp] theorem Core.lmWrite_wait (k : Core) (a : Nat) (b : List Byte) (p : Bool) : (k.lmWrite a b p).wait = k.wait := rfl
@[simp] theorem Core.lmWrite_behind (k : Core) (a : Nat) (b : List Byte) (p : Bool) : (k.lmWrite a b p).behind = k.behind := rfl
@[simp] theorem Core.lmWrite_catchUp (k : Core) (a : Nat) (b : List Byte) (p : Bool) : (k.lmWrite a b p).catchUp = k.catchUp := rfl
@[simp] theorem Core.lmWrite_missed (k : Core) (a : Nat) (b : List Byte) (p : Bool) : (k.lmWrite a b p).missed = k.missed := rfl
@[simp] theorem Core.lmWrite_pc (k : Core) (a : Nat) (b : List Byte) (p : Bool) : (k.lmWrite a b p).pc = k.pc := rfl
@[simp] theorem Core.lmWrite_npc (k : Core) (a : Nat) (b : List Byte) (p : Bool) : (k.lmWrite a b p).npc = k.npc := rfl
@[simp] theorem Core.lmWrite_todo (k : Core) (a : Nat) (b : List Byte) (p : Bool) : (k.lmWrite a b p).todo = k.todo := rfl
@[simp] theorem Core.lmWrite_bcy (k : Core) (a : Nat) (b : List Byte) (p : Bool) : (k.lmWrite a b p).bcy = k.bcy := rfl
@[simp] theorem Core.lmWrite_wframe (k : Core) (a : Nat) (b : List Byte) (p : Bool) : (k.lmWrite a b p).wframe = k.wframe := rfl
@[simp] theorem Core.lmWrite_blockFrame (k : Core) (a : Nat) (b : List Byte) (p : Bool) : (k.lmWrite a b p).blockFrame = k.blockFrame := rfl
@[simp] theorem Core.lmWrite_blockNo (k : Core) (a : Nat) (b : List Byte) (p : Bool) : (k.lmWrite a b p).blockNo = k.blockNo := rfl
@[simp] theorem Core.lmWrite_framedNo (k : Core) (a : Nat) (b : List Byte) (p : Bool) : (k.lmWrite a b p).framedNo = k.framedNo := rfl
@[simp] theorem Core.lmWrite_blockBundles (k : Core) (a : Nat) (b : List Byte) (p : Bool) : (k.lmWrite a b p).blockBundles = k.blockBundles := rfl
@[simp] theorem Core.lmWrite_lastBc (k : Core) (a : Nat) (b : List Byte) (p : Bool) : (k.lmWrite a b p).lastBc = k.lastBc := rfl
@[simp] theorem Core.lmWrite_first (k : Core) (a : Nat) (b : List Byte) (p : Bool) : (k.lmWrite a b p).first = k.first := rfl
@[simp] theorem Core.lmWrite_start (k : Core) (a : Nat) (b : List Byte) (p : Bool) : (k.lmWrite a b p).start = k.start := rfl
@[simp] theorem Core.lmWrite_defer (k : Core) (a : Nat) (b : List Byte) (p : Bool) : (k.lmWrite a b p).defer = k.defer := rfl
@[simp] theorem Core.lmWrite_faulted (k : Core) (a : Nat) (b : List Byte) (p : Bool) : (k.lmWrite a b p).faulted = k.faulted := rfl
@[simp] theorem Core.lmWrite_exiting (k : Core) (a : Nat) (b : List Byte) (p : Bool) : (k.lmWrite a b p).exiting = k.exiting := rfl
@[simp] theorem Core.lmWrite_stall (k : Core) (a : Nat) (b : List Byte) (p : Bool) : (k.lmWrite a b p).stall = k.stall := rfl
@[simp] theorem Core.lmWrite_guardStall (k : Core) (a : Nat) (b : List Byte) (p : Bool) : (k.lmWrite a b p).guardStall = k.guardStall := rfl
@[simp] theorem Core.lmWrite_steps (k : Core) (a : Nat) (b : List Byte) (p : Bool) : (k.lmWrite a b p).steps = k.steps := rfl
@[simp] theorem Core.lmWrite_launch (k : Core) (a : Nat) (b : List Byte) (p : Bool) : (k.lmWrite a b p).launch = k.launch := rfl
@[simp] theorem Core.lmWrite_retire (k : Core) (a : Nat) (b : List Byte) (p : Bool) : (k.lmWrite a b p).retire = k.retire := rfl
@[simp] theorem Core.lmWrite_failPend (k : Core) (a : Nat) (b : List Byte) (p : Bool) : (k.lmWrite a b p).failPend = k.failPend := rfl
@[simp] theorem Core.lmWrite_ib (k : Core) (a : Nat) (b : List Byte) (p : Bool) : (k.lmWrite a b p).ib = k.ib := rfl
@[simp] theorem Core.lmWrite_ibValid (k : Core) (a : Nat) (b : List Byte) (p : Bool) : (k.lmWrite a b p).ibValid = k.ibValid := rfl
@[simp] theorem Core.lmWrite_ibPois (k : Core) (a : Nat) (b : List Byte) (p : Bool) : (k.lmWrite a b p).ibPois = k.ibPois := rfl
@[simp] theorem Core.lmWrite_ibSrc (k : Core) (a : Nat) (b : List Byte) (p : Bool) : (k.lmWrite a b p).ibSrc = k.ibSrc := rfl
@[simp] theorem Core.lmWrite_ibLoads (k : Core) (a : Nat) (b : List Byte) (p : Bool) : (k.lmWrite a b p).ibLoads = k.ibLoads := rfl
@[simp] theorem Core.lmWrite_mq (k : Core) (a : Nat) (b : List Byte) (p : Bool) : (k.lmWrite a b p).mq = k.mq := rfl
@[simp] theorem Core.lmWrite_wbuf (k : Core) (a : Nat) (b : List Byte) (p : Bool) : (k.lmWrite a b p).wbuf = k.wbuf := rfl
@[simp] theorem Core.lmWrite_wscale (k : Core) (a : Nat) (b : List Byte) (p : Bool) : (k.lmWrite a b p).wscale = k.wscale := rfl
@[simp] theorem Core.lmWrite_wmeta (k : Core) (a : Nat) (b : List Byte) (p : Bool) : (k.lmWrite a b p).wmeta = k.wmeta := rfl
@[simp] theorem Core.lmWrite_wsteps (k : Core) (a : Nat) (b : List Byte) (p : Bool) : (k.lmWrite a b p).wsteps = k.wsteps := rfl
@[simp] theorem Core.lmWrite_waud (k : Core) (a : Nat) (b : List Byte) (p : Bool) : (k.lmWrite a b p).waud = k.waud := rfl
@[simp] theorem Core.lmWrite_acc (k : Core) (a : Nat) (b : List Byte) (p : Bool) : (k.lmWrite a b p).acc = k.acc := rfl
@[simp] theorem Core.lmWrite_banks (k : Core) (a : Nat) (b : List Byte) (p : Bool) : (k.lmWrite a b p).banks = k.banks := rfl
@[simp] theorem Core.lmWrite_replays (k : Core) (a : Nat) (b : List Byte) (p : Bool) : (k.lmWrite a b p).replays = k.replays := rfl
@[simp] theorem Core.lmWrite_dslots (k : Core) (a : Nat) (b : List Byte) (p : Bool) : (k.lmWrite a b p).dslots = k.dslots := rfl
@[simp] theorem Core.lmWrite_xfers (k : Core) (a : Nat) (b : List Byte) (p : Bool) : (k.lmWrite a b p).xfers = k.xfers := rfl
@[simp] theorem Core.lmWrite_tslots (k : Core) (a : Nat) (b : List Byte) (p : Bool) : (k.lmWrite a b p).tslots = k.tslots := rfl
@[simp] theorem Core.lmWrite_tloads (k : Core) (a : Nat) (b : List Byte) (p : Bool) : (k.lmWrite a b p).tloads = k.tloads := rfl
@[simp] theorem Core.lmWrite_loads (k : Core) (a : Nat) (b : List Byte) (p : Bool) : (k.lmWrite a b p).loads = k.loads := rfl
@[simp] theorem Core.lmWrite_fences (k : Core) (a : Nat) (b : List Byte) (p : Bool) : (k.lmWrite a b p).fences = k.fences := rfl
@[simp] theorem Core.lmWrite_outw (k : Core) (a : Nat) (b : List Byte) (p : Bool) : (k.lmWrite a b p).outw = k.outw := rfl
@[simp] theorem Core.lmWrite_held (k : Core) (a : Nat) (b : List Byte) (p : Bool) : (k.lmWrite a b p).held = k.held := rfl
@[simp] theorem Core.lmWrite_chq (k : Core) (a : Nat) (b : List Byte) (p : Bool) : (k.lmWrite a b p).chq = k.chq := rfl
@[simp] theorem Core.lmWrite_bq (k : Core) (a : Nat) (b : List Byte) (p : Bool) : (k.lmWrite a b p).bq = k.bq := rfl
@[simp] theorem Core.lmWrite_scnt (k : Core) (a : Nat) (b : List Byte) (p : Bool) : (k.lmWrite a b p).scnt = k.scnt := rfl
@[simp] theorem Core.lmWrite_flags (k : Core) (a : Nat) (b : List Byte) (p : Bool) : (k.lmWrite a b p).flags = k.flags := rfl
@[simp] theorem Core.lmWrite_bout (k : Core) (a : Nat) (b : List Byte) (p : Bool) : (k.lmWrite a b p).bout = k.bout := rfl
@[simp] theorem Core.lmWrite_bseen (k : Core) (a : Nat) (b : List Byte) (p : Bool) : (k.lmWrite a b p).bseen = k.bseen := rfl
@[simp] theorem Core.lmWrite_cregs (k : Core) (a : Nat) (b : List Byte) (p : Bool) : (k.lmWrite a b p).cregs = k.cregs := rfl
@[simp] theorem Core.lmWrite_fcount (k : Core) (a : Nat) (b : List Byte) (p : Bool) : (k.lmWrite a b p).fcount = k.fcount := rfl

end Sys2Proof.Machine
end

