-- ==== Sys2Proof/Laws/Cores.lean ====
section
/-!
SUPPORT. Reading cores after updates, and what an operation on every member of a gang does.
-/
namespace Sys2Proof.Machine

theorem State.setCore_core (s : State) (c d : Fin 96) (k : Core) : (s.setCore c k).core d = if d = c then k else s.core d := by
  unfold State.setCore State.core
  simp only [Fin.getElem_fin]
  rw [Vector.getElem_set]
  by_cases h : d = c
  · simp [h]
  · simp [h]; intro hh; exact absurd (Fin.ext hh.symm) h

theorem State.modCore_core (s : State) (c d : Fin 96) (g : Core → Core) :
    (s.modCore c g).core d = if d = c then g (s.core c) else s.core d := State.setCore_core s c d _

@[simp] theorem State.setCore_members (s : State) (c d : Fin 96) (k : Core) : (s.setCore c k).members d = s.members d := rfl
@[simp] theorem State.modCore_members (s : State) (c d : Fin 96) (g : Core → Core) : (s.modCore c g).members d = s.members d := rfl

/-- The cores of a state read by `h`. -/
def State.withCores (s : State) (h : Fin 96 → Core) : State := { s with cores := Vector.ofFn h }

@[simp] theorem State.withCores_core (s : State) (h : Fin 96 → Core) (c : Fin 96) : (s.withCores h).core c = h c := by
  simp [State.withCores, State.core]

theorem State.withCores_self (s : State) : s.withCores s.core = s := by
  have : Vector.ofFn s.core = s.cores := by
    ext i hi
    simp [State.core]
  simp [State.withCores, this]

theorem State.modCore_withCores (s : State) (c : Fin 96) (g : Core → Core) :
    s.modCore c g = s.withCores (fun d => if d = c then g (s.core c) else s.core d) := by
  have h : (s.modCore c g).withCores (s.modCore c g).core = s.modCore c g := State.withCores_self _
  rw [← h]
  have : (s.modCore c g).core = fun d => if d = c then g (s.core c) else s.core d := by
    funext d; exact State.modCore_core s c d g
  rw [this]; simp only [State.withCores, State.modCore, State.setCore]

@[simp] theorem State.withCores_withCores (s : State) (h h' : Fin 96 → Core) : (s.withCores h).withCores h' = s.withCores h' := by
  simp only [State.withCores]

theorem State.foldl_modCore (g : Fin 96 → Core → Core) (l : List (Fin 96)) (hl : l.Nodup) (s : State) :
    l.foldl (fun s m => s.modCore m (g m)) s = s.withCores (fun m => if m ∈ l then g m (s.core m) else s.core m) := by
  induction l generalizing s with
  | nil => simpa using (State.withCores_self s).symm
  | cons a r ih =>
    have ha : a ∉ r := (List.nodup_cons.mp hl).1
    rw [List.foldl_cons, ih (List.nodup_cons.mp hl).2, State.modCore_withCores]
    simp only [State.withCores_withCores, State.withCores_core, List.mem_cons]
    congr 1
    funext m
    by_cases hm : m = a
    · subst hm; simp [ha]
    · simp [hm]

theorem State.members_nodup (s : State) (c : Fin 96) : (s.members c).Nodup := List.Nodup.filter _ (List.nodup_finRange 96)

theorem State.mem_members (s : State) (c m : Fin 96) : m ∈ s.members c ↔ s.gang[m] = s.gang[c] := by
  simp [State.members, allCores]

/-- An operation on the cores of a gang, each by itself. -/
theorem State.eachMember_modCore (s : State) (c : Fin 96) (g : Fin 96 → Core → Core) :
    s.eachMember c (fun m s => s.modCore m (g m)) = s.withCores (fun m => if m ∈ s.members c then g m (s.core m) else s.core m) :=
  State.foldl_modCore g _ (State.members_nodup s c) s

end Sys2Proof.Machine
end

