-- ==== Sys2Proof/Laws/Map.lean ====
section
/-!
SUPPORT. Sparse stores: a read after a write, and the canonical form, which every operation of a memory keeps.
-/
namespace Sys2Proof.Machine

theorem mapFind_mapSet {α : Type} (l : List (Nat × α)) (k a : Nat) (v : α) :
    mapFind (mapSet l k v) a = if a = k then some v else mapFind l a := by
  induction l with
  | nil => simp [mapSet, mapFind]
  | cons p r ih =>
    obtain ⟨b, x⟩ := p
    simp only [mapSet]
    by_cases h1 : k < b
    · simp [h1, mapFind]
    · by_cases h2 : k = b
      · subst h2; by_cases h3 : a = k <;> simp [mapFind, h3]
      · simp only [h1, h2, if_false, mapFind, ih]
        by_cases h3 : a = b
        · subst h3; simp [Ne.symm h2]
        · simp [h3]

theorem mapFind_mapErase {α : Type} (l : List (Nat × α)) (k a : Nat) :
    mapFind (mapErase l k) a = if a = k then none else mapFind l a := by
  induction l with
  | nil => simp [mapErase, mapFind]
  | cons p r ih =>
    obtain ⟨b, x⟩ := p
    simp only [mapErase]
    by_cases h2 : k = b
    · subst h2; simp only [if_true, ih, mapFind]; by_cases h3 : a = k <;> simp [h3]
    · simp only [h2, if_false, mapFind, ih]
      by_cases h3 : a = b
      · subst h3; simp [Ne.symm h2]
      · simp [h3]

/-- A read after a write. -/
theorem mapGet_mapPut {α : Type} [DecidableEq α] (d : α) (l : List (Nat × α)) (k a : Nat) (v : α) :
    mapGet d (mapPut d l k v) a = if a = k then v else mapGet d l a := by
  unfold mapGet mapPut
  by_cases h : v = d
  · rw [if_pos h, mapFind_mapErase]; by_cases h3 : a = k <;> simp [h3, h]
  · rw [if_neg h, mapFind_mapSet]; by_cases h3 : a = k <;> simp [h3]

/-! ## The canonical form -/

/-- The same form, said of every key after the first. -/
theorem mapAscending_cons {α : Type} (p : Nat × α) (r : List (Nat × α)) :
    mapAscending (p :: r) = true ↔ mapAscending r = true ∧ ∀ q ∈ r, p.1 < q.1 := by
  induction r generalizing p with
  | nil => simp [mapAscending]
  | cons q r ih =>
    obtain ⟨k, v⟩ := p
    obtain ⟨k', v'⟩ := q
    simp only [mapAscending, Bool.and_eq_true, decide_eq_true_eq, List.mem_cons]
    constructor
    · rintro ⟨h1, h2⟩
      refine ⟨h2, ?_⟩
      rintro x (rfl | hx)
      · exact h1
      · exact Nat.lt_trans h1 (((ih _).mp h2).2 x hx)
    · rintro ⟨h2, h⟩
      exact ⟨h (k', v') (Or.inl rfl), h2⟩

theorem mem_mapSet {α : Type} (l : List (Nat × α)) (k : Nat) (v : α) (q : Nat × α) (h : q ∈ mapSet l k v) : q = (k, v) ∨ q ∈ l := by
  induction l with
  | nil => exact Or.inl (by simpa [mapSet] using h)
  | cons p r ih =>
    obtain ⟨b, x⟩ := p
    simp only [mapSet] at h
    split at h
    · simpa using h
    · split at h
      · rcases List.mem_cons.mp h with h | h
        · exact Or.inl h
        · exact Or.inr (List.mem_cons_of_mem _ h)
      · rcases List.mem_cons.mp h with h | h
        · exact Or.inr (h ▸ List.mem_cons_self)
        · rcases ih h with h | h
          · exact Or.inl h
          · exact Or.inr (List.mem_cons_of_mem _ h)

theorem mem_mapErase {α : Type} (l : List (Nat × α)) (k : Nat) (q : Nat × α) (h : q ∈ mapErase l k) : q ∈ l := by
  induction l with
  | nil => simp [mapErase] at h
  | cons p r ih =>
    obtain ⟨b, x⟩ := p
    simp only [mapErase] at h
    split at h
    · exact List.mem_cons_of_mem _ (ih h)
    · rcases List.mem_cons.mp h with h | h
      · exact h ▸ List.mem_cons_self
      · exact List.mem_cons_of_mem _ (ih h)

theorem mapSet_ascending {α : Type} (l : List (Nat × α)) (k : Nat) (v : α) (h : mapAscending l = true) :
    mapAscending (mapSet l k v) = true := by
  induction l with
  | nil => rfl
  | cons p r ih =>
    obtain ⟨b, x⟩ := p
    have hc := (mapAscending_cons _ _).mp h
    simp only [mapSet]
    split
    · rename_i hk
      refine (mapAscending_cons _ _).mpr ⟨h, ?_⟩
      intro q hq
      rcases List.mem_cons.mp hq with rfl | hq
      · exact hk
      · exact Nat.lt_trans hk (hc.2 q hq)
    · split
      · rename_i hb
        subst hb
        exact (mapAscending_cons _ _).mpr ⟨hc.1, hc.2⟩
      · rename_i h1 h2
        refine (mapAscending_cons _ _).mpr ⟨ih hc.1, ?_⟩
        intro q hq
        rcases mem_mapSet _ _ _ _ hq with rfl | hq
        · simp only; omega
        · exact hc.2 q hq

theorem mapErase_ascending {α : Type} (l : List (Nat × α)) (k : Nat) (h : mapAscending l = true) :
    mapAscending (mapErase l k) = true := by
  induction l with
  | nil => rfl
  | cons p r ih =>
    obtain ⟨b, x⟩ := p
    have hc := (mapAscending_cons _ _).mp h
    simp only [mapErase]
    split
    · exact ih hc.1
    · exact (mapAscending_cons _ _).mpr ⟨ih hc.1, fun q hq => hc.2 q (mem_mapErase _ _ _ hq)⟩

/-- Writing one byte keeps the canonical form of a store. -/
theorem Store.put_wf (m : Store) (a : Nat) (v : Byte) (h : m.wf = true) : (m.put a v).wf = true := by
  simp only [Store.wf, Bool.and_eq_true, Bool.or_eq_true, bne_iff_ne, List.all_eq_true] at h ⊢
  unfold Store.put
  by_cases hc : m.gen = 0 ∧ v = 0
  · simp only [hc, and_self, if_true]
    refine ⟨mapErase_ascending _ _ h.1, ?_⟩
    rcases h.2 with h2 | h2
    · exact absurd hc.1 h2
    · exact Or.inr (fun x hx => h2 x (mem_mapErase _ _ _ hx))
  · rw [if_neg hc]
    refine ⟨mapSet_ascending _ _ _ h.1, ?_⟩
    by_cases hg : m.gen = 0
    · refine Or.inr (fun x hx => ?_)
      rcases mem_mapSet _ _ _ _ hx with rfl | hx
      · exact fun hv => hc ⟨hg, hv⟩
      · rcases h.2 with h2 | h2
        · exact absurd hg h2
        · exact h2 x hx
    · exact Or.inl hg

theorem Store.putN_wf (b : List Byte) (m : Store) (a : Nat) (h : m.wf = true) : (m.putN a b).wf = true := by
  induction b generalizing m a with
  | nil => exact h
  | cons x r ih => exact ih _ _ (Store.put_wf m a x h)

/-- A byte read after a write of one byte. -/
theorem Store.get_put (m : Store) (a b : Nat) (v : Byte) : (m.put a v).get b = if b = a then v else m.get b := by
  unfold Store.get Store.put
  by_cases hc : m.gen = 0 ∧ v = 0
  · simp only [hc, and_self, if_true, mapFind_mapErase]
    by_cases h : b = a <;> simp [h]
  · simp only [if_neg hc, mapFind_mapSet]
    by_cases h : b = a <;> simp [h]

/-- A byte outside those written reads as before. -/
theorem Store.get_putN_out (bs : List Byte) (m : Store) (a b : Nat) (h : b < a ∨ a + bs.length ≤ b) :
    (m.putN a bs).get b = m.get b := by
  induction bs generalizing m a with
  | nil => rfl
  | cons x r ih =>
    simp only [List.length_cons] at h
    rw [Store.putN, ih _ _ (by omega), Store.get_put, if_neg (by omega)]

/-- A byte written reads as written. -/
theorem Store.get_putN_in (bs : List Byte) (m : Store) (a i : Nat) (h : i < bs.length) :
    (m.putN a bs).get (a + i) = bs[i] := by
  induction bs generalizing m a i with
  | nil => simp at h
  | cons x r ih =>
    cases i with
    | zero => rw [Store.putN, Store.get_putN_out _ _ _ _ (by omega), Store.get_put]; simp
    | succ n =>
      have := ih (m.put a x) (a + 1) n (by simpa using h)
      rw [Store.putN, show a + (n + 1) = a + 1 + n by omega, this]; rfl

@[simp] theorem Store.put_gen (m : Store) (a : Nat) (v : Byte) : (m.put a v).gen = m.gen := rfl

/-! ## Registers -/

theorem State.setReg_reg (s : State) (o o' : Nat) (v : Word32) : (s.setReg o v).reg o' = if o' = o then v else s.reg o' := by
  unfold State.reg State.setReg mapPut
  simp only
  split
  · rename_i hv; rw [mapFind_mapErase]; by_cases h : o' = o <;> simp [h, hv]
  · rw [mapFind_mapSet]; by_cases h : o' = o <;> simp [h]

theorem Core.setReg_reg (k : Core) (o o' : Nat) (v : Word32) : (k.setReg o v).reg o' = if o' = o then v else k.reg o' := by
  unfold Core.reg Core.setReg mapPut
  simp only
  split
  · rename_i hv; rw [mapFind_mapErase]; by_cases h : o' = o <;> simp [h, hv]
  · rw [mapFind_mapSet]; by_cases h : o' = o <;> simp [h]

/-! ## Numbers as bytes (R4) -/

theorem leBytes_length (k n : Nat) : (leBytes k n).length = k := by
  induction k generalizing n with
  | zero => rfl
  | succ k ih => simp [leBytes, ih]

theorem leNat_leBytes (k n : Nat) : leNat (leBytes k n) = n % 256 ^ k := by
  induction k generalizing n with
  | zero => simp [leBytes, leNat, Nat.mod_one]
  | succ k ih => simp [leBytes, leNat, ih, Nat.pow_succ', Nat.mod_mul]

end Sys2Proof.Machine
end

