-- ==== Sys2Proof/Laws/Issue.lean ====
section
/-!
SUPPORT. What the issue of an instruction does when nothing holds it: the bundle opens, each member's core takes the body, the bundle
closes.
-/
namespace Sys2Proof.Machine

@[simp] theorem State.withCores_members (s : State) (h : Fin 96 → Core) (c : Fin 96) : (s.withCores h).members c = s.members c := by
  unfold State.withCores State.members; rfl

theorem Core.sameBundle_refl (k : Core) : k.sameBundle k := rfl

theorem Core.sameBundle_trans {k k' k'' : Core} (h : k.sameBundle k') (h' : k'.sameBundle k'') : k.sameBundle k'' := by
  unfold Core.sameBundle at *
  rw [← h]
  rw [← h']

theorem Core.opening_rd (a b c : Bool) (n : Nat) (k : Core) : (k.opening a b c n).rd = if a then k.rd else k.opnd := by
  cases a <;> cases b <;> cases c <;> rfl

theorem Core.opening_opnd (a b c : Bool) (n : Nat) (k : Core) : (k.opening a b c n).opnd = k.opnd := by
  cases a <;> cases b <;> cases c <;> rfl

theorem Core.opening_same (a b c : Bool) (n : Nat) (k : Core) : k.sameBundle (k.opening a b c n) := by
  cases a <;> cases b <;> cases c <;> rfl

theorem State.openedCore_rd (s : State) (op : Nat) (i : Issue) (m : Fin 96) : (s.openedCore op i m).rd = s.operands i m :=
  Core.opening_rd _ _ _ _ _

theorem State.openedCore_opnd (s : State) (op : Nat) (i : Issue) (m : Fin 96) : (s.openedCore op i m).opnd = (s.core m).opnd :=
  Core.opening_opnd _ _ _ _ _

theorem State.openedCore_same (s : State) (op : Nat) (i : Issue) (m : Fin 96) : (s.core m).sameBundle (s.openedCore op i m) :=
  Core.opening_same _ _ _ _ _

/-- What an issue may change outside the cores. -/
def State.looseEq (s t : State) : Prop :=
  { t with cores := s.cores, cycle := s.cycle, mon := s.mon, regs := s.regs, out := s.out } = s
    ∧ ∀ o, o ≠ rDBG_TRPTR → t.reg o = s.reg o

theorem State.looseEq_refl (s : State) : s.looseEq s := ⟨rfl, fun _ _ => rfl⟩

theorem State.looseEq_trans {s t u : State} (h : s.looseEq t) (h' : t.looseEq u) : s.looseEq u := by
  refine ⟨?_, fun o ho => (h'.2 o ho).trans (h.2 o ho)⟩
  have h1 := h.1
  have h2 := h'.1
  rw [← h1]
  rw [← h2]

theorem State.looseEq_gang {s t : State} (h : s.looseEq t) : t.gang = s.gang := by rw [← h.1]

theorem State.looseEq_members {s t : State} (h : s.looseEq t) (c : Fin 96) : t.members c = s.members c := by
  unfold State.members; rw [State.looseEq_gang h]

theorem State.withCores_loose (s : State) (h : Fin 96 → Core) : s.looseEq (s.withCores h) := by
  refine ⟨by simp only [State.withCores], fun o _ => ?_⟩
  simp only [State.withCores, State.reg]

theorem State.modCore_loose (s : State) (c : Fin 96) (g : Core → Core) : s.looseEq (s.modCore c g) := ⟨rfl, fun _ _ => rfl⟩

theorem State.foldl_loose {α : Type} (l : List α) (g : State → α → State) (hg : ∀ (s : State) (x : α), s.looseEq (g s x)) (s : State) :
    s.looseEq (l.foldl g s) := by
  induction l generalizing s with
  | nil => exact State.looseEq_refl s
  | cons a r ih => exact State.looseEq_trans (hg s a) (ih _)

theorem State.traceBundle_core (s : State) (c m : Fin 96) : (s.traceBundle c).core m = s.core m := by
  unfold State.traceBundle; simp only; split <;> rfl

theorem State.traceBundle_loose (s : State) (c : Fin 96) : s.looseEq (s.traceBundle c) := by
  unfold State.traceBundle
  simp only
  split
  · refine ⟨rfl, fun o ho => ?_⟩
    rw [State.setReg_reg, if_neg ho]; rfl
  · exact State.looseEq_refl s

theorem State.eachMember_core (s : State) (c m : Fin 96) (g : Fin 96 → Core → Core) :
    (s.eachMember c (fun m s => s.modCore m (g m))).core m = if m ∈ s.members c then g m (s.core m) else s.core m := by
  rw [State.eachMember_modCore, State.withCores_core]

theorem State.eachMember_loose (s : State) (c : Fin 96) (g : Fin 96 → Core → Core) :
    s.looseEq (s.eachMember c (fun m s => s.modCore m (g m))) := by
  rw [State.eachMember_modCore]; exact State.withCores_loose _ _

theorem State.eachMember_const (s : State) (c m : Fin 96) (g : Core → Core) :
    (s.eachMember c (fun m s => s.modCore m g)).core m = if m ∈ s.members c then g (s.core m) else s.core m :=
  State.eachMember_core s c m (fun _ => g)

theorem State.eachMember_const_loose (s : State) (c : Fin 96) (g : Core → Core) :
    s.looseEq (s.eachMember c (fun m s => s.modCore m g)) := State.eachMember_loose s c (fun _ => g)

theorem State.openBundle_loose (s : State) (c : Fin 96) (cy : Nat) : s.looseEq (s.openBundle c cy) := by
  unfold State.openBundle
  split
  · exact State.looseEq_refl s
  · exact State.looseEq_trans (State.traceBundle_loose s c)
      (State.looseEq_trans (State.eachMember_const_loose _ c _) (State.modCore_loose _ _ _))

/-- A core as the bundle opens, before any of its instructions is taken. -/
def Core.opened (isOpen lead : Bool) (cy : Nat) (k : Core) : Core :=
  let k := if isOpen then k else { k with view := some k.opnd }
  if !isOpen && lead then { k with npc := (k.pc + 1) % 2048, todo := bundleSlots k.bundleWords, bcy := cy } else k

theorem State.openBundle_core (s : State) (c m : Fin 96) (cy : Nat) (hm : m ∈ s.members c) :
    (s.openBundle c cy).core m = (s.core m).opened (s.core c).view.isSome (decide (m = c)) cy := by
  unfold State.openBundle
  cases h : (s.core c).view.isSome
  · have ht := State.looseEq_members (State.traceBundle_loose s c) c
    have hc : c ∈ s.members c := by simp [State.mem_members]
    rw [if_neg (by simp), State.modCore_core, State.eachMember_const, State.eachMember_const, ht, State.traceBundle_core,
      State.traceBundle_core, if_pos hm, if_pos hc]
    by_cases e : m = c
    · subst e; rw [if_pos rfl]; simp only [decide_true]; rfl
    · rw [if_neg e]; simp only [e, decide_false]; rfl
  · rw [if_pos rfl]; rfl

theorem State.openBundle_out (s : State) (c m : Fin 96) (cy : Nat) (hm : m ∉ s.members c) : (s.openBundle c cy).core m = s.core m := by
  unfold State.openBundle
  have hne : m ≠ c := by rintro rfl; exact hm (by simp [State.mem_members])
  split
  · rfl
  · rw [State.modCore_core, if_neg hne, State.eachMember_const, State.looseEq_members (State.traceBundle_loose s c),
      if_neg hm, State.traceBundle_core]

/-- One core at the close of a bundle, before the leader's PC moves. -/
def Core.closing (fr cy : Nat) (k : Core) : Core :=
  if k.st = .running then { (k.countBundle (k.blockCycle fr cy)) with view := none } else { k with view := none }

theorem Core.closing_same (fr cy : Nat) (k : Core) : k.sameBundle (k.closing fr cy) := by
  unfold Core.closing Core.sameBundle; split <;> simp only [Core.countBundle, Core.bump]

/-- The state at the close of a bundle, before the monitor's line. -/
def State.closing (s : State) (c : Fin 96) (cy : Nat) : State :=
  (s.eachMember c (fun m s => s.modCore m (Core.closing s.frame cy))).modCore c
    (fun k => if k.st = .running then { k with pc := k.npc } else k)

@[simp] theorem State.modCore_frame (s : State) (c : Fin 96) (g : Core → Core) : (s.modCore c g).frame = s.frame := by
  simp only [State.frame, State.reg64, State.reg, State.modCore_regs]

theorem State.foldl_closing (l : List (Fin 96)) (cy fr : Nat) (s : State) (h : s.frame = fr) :
    l.foldl (fun s m => s.modCore m (Core.closing s.frame cy)) s = l.foldl (fun s m => s.modCore m (Core.closing fr cy)) s := by
  induction l generalizing s with
  | nil => simp only [List.foldl_nil]
  | cons a r ih =>
    subst h
    simp only [List.foldl_cons]
    exact ih _ (State.modCore_frame s a (Core.closing s.frame cy))

theorem State.closing_eq (s : State) (c : Fin 96) (cy : Nat) :
    s.closing c cy = (s.eachMember c (fun m t => t.modCore m (Core.closing s.frame cy))).modCore c
      (fun k => if k.st = .running then { k with pc := k.npc } else k) := by
  unfold State.closing State.eachMember
  rw [State.foldl_closing _ cy s.frame s rfl]

theorem State.closing_loose (s : State) (c : Fin 96) (cy : Nat) : s.looseEq (s.closing c cy) := by
  rw [State.closing_eq]
  exact State.looseEq_trans (State.eachMember_const_loose s c _) (State.modCore_loose _ c _)

theorem State.closing_core (s : State) (c m : Fin 96) (cy : Nat) : (s.core m).sameBundle ((s.closing c cy).core m) := by
  rw [State.closing_eq]
  have h1 : ∀ m, (s.core m).sameBundle ((s.eachMember c (fun m s' => s'.modCore m (Core.closing s.frame cy))).core m) := by
    intro m
    rw [State.eachMember_const]
    split
    · exact Core.closing_same _ _ _
    · exact Core.sameBundle_refl _
  rw [State.modCore_core]
  split
  · rename_i e; subst e
    refine Core.sameBundle_trans (h1 m) ?_
    split <;> rfl
  · exact h1 m

theorem State.closing_out (s : State) (c m : Fin 96) (cy : Nat) (h : m ∉ s.members c) : (s.closing c cy).core m = s.core m := by
  have hne : m ≠ c := by rintro rfl; exact h (by simp [State.mem_members])
  rw [State.closing_eq, State.modCore_core, if_neg hne, State.eachMember_const, if_neg h]

/-- A monitor step's line and its count (R421). -/
def State.stepped (s : State) (c : Fin 96) (n : Nat) (l : List Output) : State :=
  ({ s with out := l } : State).eachMember c (fun m s => s.modCore m (fun k => { k with steps := some n }))

theorem State.stepped_loose (s : State) (c : Fin 96) (n : Nat) (l : List Output) : s.looseEq (s.stepped c n l) :=
  State.looseEq_trans (t := { s with out := l }) ⟨rfl, fun _ _ => rfl⟩ (State.eachMember_const_loose _ c _)

theorem State.stepped_core (s : State) (c m : Fin 96) (n : Nat) (l : List Output) :
    (s.core m).sameBundle ((s.stepped c n l).core m) := by
  unfold State.stepped
  rw [State.eachMember_const]
  show (s.core m).sameBundle (if m ∈ s.members c then { s.core m with steps := some n } else s.core m)
  split <;> rfl

theorem State.stepped_out (s : State) (c m : Fin 96) (n : Nat) (l : List Output) (h : m ∉ s.members c) :
    (s.stepped c n l).core m = s.core m := by
  unfold State.stepped
  rw [State.eachMember_const]
  exact if_neg h

theorem State.closeBundle_cases (s : State) (c : Fin 96) (cy : Nat) :
    s.closeBundle c cy = s.closing c cy ∨ ∃ n l, s.closeBundle c cy = (s.closing c cy).stepped c n l := by
  unfold State.closeBundle
  simp only
  split
  · exact Or.inr ⟨_, _, rfl⟩
  · exact Or.inl rfl

theorem State.closeBundle_loose (s : State) (c : Fin 96) (cy : Nat) : s.looseEq (s.closeBundle c cy) := by
  rcases State.closeBundle_cases s c cy with h | ⟨n, l, h⟩ <;> rw [h]
  · exact State.closing_loose s c cy
  · exact State.looseEq_trans (State.closing_loose s c cy) (State.stepped_loose _ c n l)

theorem State.closeBundle_core (s : State) (c m : Fin 96) (cy : Nat) : (s.core m).sameBundle ((s.closeBundle c cy).core m) := by
  rcases State.closeBundle_cases s c cy with h | ⟨n, l, h⟩ <;> rw [h]
  · exact State.closing_core s c m cy
  · exact Core.sameBundle_trans (State.closing_core s c m cy) (State.stepped_core _ c m n l)

theorem State.closeBundle_out (s : State) (c m : Fin 96) (cy : Nat) (h : m ∉ s.members c) :
    (s.closeBundle c cy).core m = s.core m := by
  rcases State.closeBundle_cases s c cy with e | ⟨n, l, e⟩ <;> rw [e]
  · exact State.closing_out s c m cy h
  · rw [State.stepped_out, State.closing_out s c m cy h]
    rw [State.looseEq_members (State.closing_loose s c cy)]; exact h

/-- The state in which the bodies of an instruction run. -/
def State.opened (s : State) (op : Nat) (i : Issue) : State :=
  let t := (({ s with cycle := i.cy } : State).openBundle i.core i.cy).modCore i.core (fun k => { k with todo := k.todo.drop 1 })
  if slotOf op = 2 then t.eachMember i.core (fun m s => s.modCore m (fun k => k.bump (kCNT_VISSUE) 1)) else t

theorem State.begun_loose (s : State) (i : Issue) :
    s.looseEq ((({ s with cycle := i.cy } : State).openBundle i.core i.cy).modCore i.core (fun k => { k with todo := k.todo.drop 1 })) :=
  State.looseEq_trans (t := { s with cycle := i.cy }) ⟨rfl, fun _ _ => rfl⟩
    (State.looseEq_trans (State.openBundle_loose _ _ _) (State.modCore_loose _ _ _))

theorem State.opened_loose (s : State) (op : Nat) (i : Issue) : s.looseEq (s.opened op i) := by
  unfold State.opened
  simp only
  split
  · exact State.looseEq_trans (State.begun_loose s i) (State.eachMember_const_loose _ i.core _)
  · exact State.begun_loose s i

theorem State.opened_core (s : State) (op : Nat) (i : Issue) (m : Fin 96) (hm : m ∈ s.members i.core) :
    (s.opened op i).core m = s.openedCore op i m := by
  have h0 : (({ s with cycle := i.cy } : State).openBundle i.core i.cy).core m =
      (s.core m).opened (s.core i.core).view.isSome (decide (m = i.core)) i.cy := State.openBundle_core _ _ _ _ hm
  have h1 : ((({ s with cycle := i.cy } : State).openBundle i.core i.cy).modCore i.core (fun k => { k with todo := k.todo.drop 1 })).core m
      = (s.core m).opening (s.core i.core).view.isSome (decide (m = i.core)) false i.cy := by
    rw [State.modCore_core]
    by_cases e : m = i.core
    · rw [if_pos e, State.openBundle_core _ _ _ _ (by simp [State.mem_members])]; simp only [e, decide_true]; rfl
    · rw [if_neg e, h0]; simp only [e, decide_false]; rfl
  unfold State.opened State.openedCore
  simp only
  split
  · rename_i e
    rw [State.eachMember_const, State.looseEq_members (State.begun_loose s i), if_pos hm, h1]
    simp only [e, decide_true]; rfl
  · rename_i e
    rw [h1]; simp only [e, decide_false]

theorem State.opened_out (s : State) (op : Nat) (i : Issue) (m : Fin 96) (hm : m ∉ s.members i.core) :
    (s.opened op i).core m = s.core m := by
  have hne : m ≠ i.core := by rintro rfl; exact hm (by simp [State.mem_members])
  have h1 : ((({ s with cycle := i.cy } : State).openBundle i.core i.cy).modCore i.core (fun k => { k with todo := k.todo.drop 1 })).core m
      = s.core m := by
    rw [State.modCore_core, if_neg hne]; exact State.openBundle_out _ _ _ _ hm
  unfold State.opened
  simp only
  split
  · rw [State.eachMember_const, State.looseEq_members (State.begun_loose s i), if_neg hm, h1]
  · exact h1

/-- The bundle's end after the bodies of an instruction: it closes with its last instruction, or where the leader has stopped. -/
def State.issueEnd (t : State) (i : Issue) : State :=
  if i.last ∨ (t.core i.core).st ≠ .running then t.closeBundle i.core i.cy else t

/-- An instruction that nothing holds issues: the bodies run in the opened state, and the bundle may end. -/
theorem State.issue_ready (s : State) (op : Nat) (i : Issue) (f : Fields) (body : Fin 96 → State → State) (h : s.ready op i f) :
    s.issue op i f body = .next (((s.opened op i).eachMember i.core body).issueEnd i) := by
  obtain ⟨h1, h2, h3, -, h5⟩ := h
  unfold State.issue
  simp only [h1, Bool.not_true, Bool.false_eq_true, if_false, h2, h3]
  cases hv : (s.core i.core).view with
  | none =>
    obtain ⟨h6, h7⟩ := h5 hv
    simp only [Option.isSome_none, Bool.not_false, Bool.false_eq_true, if_false, h6, h7, Bool.and_false]
    rfl
  | some v =>
    simp only [Option.isSome_some, Bool.not_true, Bool.false_eq_true, if_true, if_false, Bool.false_and]
    rfl

theorem State.issueEnd_loose (t : State) (i : Issue) : t.looseEq (t.issueEnd i) := by
  unfold State.issueEnd; split
  · exact State.closeBundle_loose _ _ _
  · exact State.looseEq_refl t

theorem State.issueEnd_core (t : State) (i : Issue) (m : Fin 96) : (t.core m).sameBundle ((t.issueEnd i).core m) := by
  unfold State.issueEnd; split
  · exact State.closeBundle_core _ _ _ _
  · exact Core.sameBundle_refl _

theorem State.issueEnd_out (t : State) (i : Issue) (m : Fin 96) (h : m ∉ t.members i.core) : (t.issueEnd i).core m = t.core m := by
  unfold State.issueEnd; split
  · exact State.closeBundle_out _ _ _ _ h
  · rfl

/-- An instruction whose effect on each member lies in that member's core. -/
theorem State.issue_cores (s : State) (op : Nat) (i : Issue) (f : Fields) (g : Fin 96 → Core → Core) (h : s.ready op i f) :
    ∃ t, s.issue op i f (fun m s => s.modCore m (g m)) = .next t ∧ s.issueFrame t i ∧
      ∀ m, m ∈ s.members i.core → (g m (s.openedCore op i m)).sameBundle (t.core m) := by
  refine ⟨_, State.issue_ready s op i f _ h, ?_⟩
  have hl := State.opened_loose s op i
  have hm := State.looseEq_members hl i.core
  have hl2 := State.looseEq_trans hl (State.eachMember_loose (s.opened op i) i.core g)
  have hl3 := State.looseEq_trans hl2 (State.issueEnd_loose _ i)
  refine ⟨⟨hl3.1, hl3.2, fun c hc => ?_⟩, fun m hmm => ?_⟩
  · rw [State.issueEnd_out _ _ _ (by rw [State.looseEq_members hl2]; exact hc), State.eachMember_core, hm, if_neg hc,
      State.opened_out _ _ _ _ hc]
  · have e : ((s.opened op i).eachMember i.core (fun m s => s.modCore m (g m))).core m = g m (s.openedCore op i m) := by
      rw [State.eachMember_core, hm, if_pos hmm, State.opened_core _ _ _ _ hmm]
    rw [← e]; exact State.issueEnd_core _ _ _

end Sys2Proof.Machine
end

