-- ==== Sys2Proof/Laws/Memory.lean ====
section
/-!
SUPPORT. Reads of memory: where no sector is damaged, the host holds no line and no sector is poisoned, a read of HBM and a translation
change nothing.
-/
namespace Sys2Proof.Machine

theorem State.decodeSector_clean (s : State) (k : Nat) (scrub : Bool) (h : s.damage = []) (hl : s.memLines = []) :
    s.decodeSector k scrub = (s, []) := by
  simp [State.decodeSector, h, hl]

theorem State.snoop_clean (s : State) (ks : List Nat) (h : s.hostLines = []) : s.snoop ks = s := by simp [State.snoop, h]

theorem State.hbmDecode_clean (s : State) (ks : List Nat) (h : s.clean) (hp : s.hbmPois = []) : s.hbmDecode ks = (s, []) := by
  have key : ∀ l : List Nat, l.foldl (fun (x : State × List (Nat × Byte)) k =>
      let d := x.1.decodeSector k false
      (if mapGet false d.1.hbmPois k then d.1.count (rMC_PREAD (32 * k / 2 ^ 37)) 1 else d.1, x.2 ++ d.2)) (s, []) = (s, []) := by
    intro l
    induction l with
    | nil => rfl
    | cons k l ih => simpa [List.foldl_cons, State.decodeSector_clean s k false h.1 h.2.1, hp, mapGet, mapFind] using ih
  exact key _

theorem State.hbmReadRaw_clean (s : State) (ks : List Nat) (h : s.clean) (hp : s.hbmPois = []) : (s.hbmReadRaw ks).1 = s := by
  rw [State.hbmReadRaw, State.hbmDecode_clean s ks h hp]

theorem State.hbmRead_clean (s : State) (ks : List Nat) (h : s.clean) (hp : s.hbmPois = []) : (s.hbmRead ks).1 = s := by
  rw [State.hbmRead, State.snoop_clean s ks h.2.2]
  exact State.hbmReadRaw_clean s ks h hp

theorem State.hbm_keys (s : State) (as : List Nat) (hp : s.hbmPois = []) (ha : ∀ a, a ∈ as → ∃ k, s.locate a = .hbm k) :
    as.any s.poisAt = false ∧ as.filterMap s.hostKeyOf = [] := by
  refine ⟨List.any_eq_false.mpr fun a hm => ?_, List.filterMap_eq_nil_iff.mpr fun a hm => ?_⟩ <;> obtain ⟨k, hk⟩ := ha a hm
  · simp [State.poisAt, hk, hp, mapGet, mapFind]
  · simp [State.hostKeyOf, hk]

/-- A read of HBM alone, without poison, changes nothing. -/
theorem State.devReadL_clean (s : State) (as : List Nat) (h : s.clean) (hp : s.hbmPois = [])
    (ha : ∀ a, a ∈ as → ∃ k, s.locate a = .hbm k) : (s.devReadL as).1 = s := by
  simp [State.devReadL, State.snoop_clean s _ h.2.2, State.hbmDecode_clean s _ h hp, s.hbm_keys as hp ha]

theorem State.hostAsk_hbm (s : State) (as : List Nat) (hp : s.hbmPois = []) (ha : ∀ a, a ∈ as → ∃ k, s.locate a = .hbm k) :
    s.hostAsk as = s := by
  simp [State.hostAsk, (s.hbm_keys as hp ha).2, lineRuns]

theorem State.locate_hbm (s : State) (a : Nat) (h : a < hbmEnd) : s.locate a = .hbm (hbmKey (s.place a)) := by
  simp [State.locate, h]

/-- A walk of page tables without poison changes nothing. -/
theorem State.walk_clean (s : State) (va : Nat) (write : Bool) (h : s.clean) (hp : s.hbmPois = []) (fuel lv tbl : Nat) :
    (s.walk va write fuel lv tbl).1 = s := by
  induction fuel generalizing lv tbl with
  | zero => rfl
  | succ n ih =>
    by_cases he : tbl + 8 * (va / 2 ^ (39 - 9 * lv) % 512) + 8 > hbmEnd
    · simp [State.walk, he]
    · have hr : (s.devRead (tbl + 8 * (va / 2 ^ (39 - 9 * lv) % 512)) 8).1 = s := by
        refine State.devReadL_clean s _ h hp fun a ha => ?_
        obtain ⟨j, hj, rfl⟩ := List.mem_map.mp ha
        exact ⟨_, s.locate_hbm _ (by have := List.mem_range.mp hj; omega)⟩
      simp only [State.walk, if_neg he, hr]
      split_ifs <;> first | rfl | exact ih _ _

theorem State.translate_clean (s : State) (p va : Nat) (write : Bool) (h : s.clean) (hp : s.hbmPois = []) :
    (s.translate p va write).1 = s := by
  simp only [State.translate]
  split_ifs
  · rfl
  · rfl
  · exact s.walk_clean va write h hp _ _ _

theorem State.translateN_clean (s : State) (p va n : Nat) (write : Bool) (h : s.clean) (hp : s.hbmPois = []) :
    (s.translateN p va n write).1 = s := by
  have h1 := s.translate_clean p va write h hp
  have h2 := s.translate_clean p (va + min n (2 ^ 21 - va % 2 ^ 21)) write h hp
  simp only [State.translateN]
  generalize s.translate p va write = r at h1 ⊢
  obtain ⟨r1, r2⟩ := r
  simp only at h1
  subst h1
  cases r2 with
  | fail => rfl
  | poison o => rfl
  | ok a =>
    simp only
    split_ifs
    · rfl
    · generalize State.translate r1 p _ write = q at h2 ⊢
      obtain ⟨q1, q2⟩ := q
      simp only at h2
      subst h2
      cases q2 <;> rfl

/-- A command processor's read of HBM at translated addresses changes nothing and answers the bytes there. -/
theorem State.cpRead_clean (s : State) (p va n : Nat) (as : List Nat) (h : s.clean) (hp : s.hbmPois = [])
    (ht : (s.translateN p va n false).2 = .ok as) (ha : ∀ a, a ∈ as → a < hbmEnd) :
    s.cpRead p va n = (s, .ok (s.devReadL as).2.1 (s.devReadL as).2.2 (as.headD 0)) := by
  have h1 := s.translateN_clean p va n false h hp
  have hk : ∀ a, a ∈ as → ∃ k, s.locate a = .hbm k := fun a hm => ⟨_, s.locate_hbm a (ha a hm)⟩
  have h2 := s.devReadL_clean as h hp hk
  have h3 := s.hostAsk_hbm as hp hk
  simp only [State.cpRead]
  generalize s.translateN p va n false = r at h1 ht ⊢
  obtain ⟨r1, r2⟩ := r
  simp only at h1 ht
  subst h1 ht
  simp only [h3, h2]

end Sys2Proof.Machine
end

