-- ==== Sys2Proof/WellFormed.lean ====
section
/-!
DEFINITION. Well-formed commands: what a sender that keeps the spec's formats may send. `exec` gives every command an effect, a
well-formed one or not; a command that is not well formed changes nothing or is answered as the spec says.
-/
namespace Sys2Proof
open Sys2Proof.Machine

/-- A cycle of a frame in which programs run: programs run in frames of 1,300 cycles alone (R3, R41). -/
def cyWf (cy : Nat) : Bool := decide (cy < 1300)

/-- A legal encoding at a cycle of a frame (R203 to R205). -/
def insWf (op : Nat) (i : Issue) (f : Fields) : Bool := cyWf i.cy && !illegal op f

/-- The length of a step frame, in cycles (R41). -/
def stepWf (len : Nat) : Bool := decide (650 ≤ len ∧ len ≤ 1950)

/-- An access of register space: 512 MiB, of up to 64 bytes (R385, R386). -/
def accessWf (off len : Nat) : Bool := decide (1 ≤ len ∧ len ≤ 64 ∧ off + len ≤ 2 ^ 29)

/-- The argument and the tag of a request to the power firmware (R329). -/
def mailWf (arg tag : Nat) : Bool := decide (arg < 2 ^ 32 ∧ tag < 256)

/-- A fault at a place that exists: local memory ends below 12 MiB (R156), the staging memory at 4 MiB. -/
def HwFault.wf : HwFault → Bool
  | .localMem _ off _ => decide (off.toNat < lmEnd)
  | .hbm _ off _ => decide (off.toNat < 96 * 2 ^ 30)
  | .hbmLine .. | .core .. | .staging .. | .portBuffer .. | .commandProc .. | .cxl | .network .. | .history .. | .option .. => true

/-- Well-formed commands, constructor by constructor. -/
def Instr.wf : Instr → Bool
  | .nop i f => insWf 0x00 i f
  | .add i f => insWf 0x01 i f
  | .sub i f => insWf 0x02 i f
  | .mul i f => insWf 0x03 i f
  | .mulh i f => insWf 0x04 i f
  | .mulhu i f => insWf 0x05 i f
  | .div i f => insWf 0x06 i f
  | .divu i f => insWf 0x07 i f
  | .rem i f => insWf 0x08 i f
  | .remu i f => insWf 0x09 i f
  | .and i f => insWf 0x0A i f
  | .or i f => insWf 0x0B i f
  | .xor i f => insWf 0x0C i f
  | .shl i f => insWf 0x0D i f
  | .shr i f => insWf 0x0E i f
  | .sra i f => insWf 0x0F i f
  | .slt i f => insWf 0x10 i f
  | .sltu i f => insWf 0x11 i f
  | .seq i f => insWf 0x12 i f
  | .min i f => insWf 0x13 i f
  | .max i f => insWf 0x14 i f
  | .addi i f => insWf 0x21 i f
  | .subi i f => insWf 0x22 i f
  | .muli i f => insWf 0x23 i f
  | .mulhi i f => insWf 0x24 i f
  | .mulhui i f => insWf 0x25 i f
  | .divi i f => insWf 0x26 i f
  | .divui i f => insWf 0x27 i f
  | .remi i f => insWf 0x28 i f
  | .remui i f => insWf 0x29 i f
  | .andi i f => insWf 0x2A i f
  | .ori i f => insWf 0x2B i f
  | .xori i f => insWf 0x2C i f
  | .shli i f => insWf 0x2D i f
  | .shri i f => insWf 0x2E i f
  | .srai i f => insWf 0x2F i f
  | .slti i f => insWf 0x30 i f
  | .sltui i f => insWf 0x31 i f
  | .seqi i f => insWf 0x32 i f
  | .mini i f => insWf 0x33 i f
  | .maxi i f => insWf 0x34 i f
  | .sel i f => insWf 0x15 i f
  | .li i f => insWf 0x16 i f
  | .lih i f => insWf 0x17 i f
  | .fadd i f => insWf 0x18 i f
  | .fsub i f => insWf 0x19 i f
  | .fmul i f => insWf 0x1A i f
  | .ffma i f => insWf 0x1B i f
  | .fmin i f => insWf 0x1C i f
  | .fmax i f => insWf 0x1D i f
  | .fcmp i f => insWf 0x1E i f
  | .fcvt i f => insWf 0x1F i f
  | .scntrd i f => insWf 0x36 i f
  | .br i f => insWf 0x38 i f
  | .jal i f => insWf 0x39 i f
  | .jr i f => insWf 0x3A i f
  | .frame i f => insWf 0x3C i f
  | .exit i f => insWf 0x3D i f
  | .srd i f => insWf 0x3E i f
  | .swr i f => insWf 0x3F i f
  | .illegalEncoding _ cy _ _ _ _ => cyWf cy
  | .wload i f => insWf 0x40 i f
  | .mma i f => insWf 0x41 i f
  | .mdrain i f => insWf 0x42 i f
  | .wloadExecute _ _ => true
  | .mmaExecute _ _ => true
  | .mdrainExecute _ _ _ => true
  | .csumReplay _ _ _ => true
  | .vadd i f => insWf 0x50 i f
  | .vsub i f => insWf 0x51 i f
  | .vmul i f => insWf 0x52 i f
  | .vfma i f => insWf 0x53 i f
  | .vfms i f => insWf 0x54 i f
  | .vmax i f => insWf 0x55 i f
  | .vmin i f => insWf 0x56 i f
  | .vabs i f => insWf 0x57 i f
  | .vneg i f => insWf 0x58 i f
  | .vcpsgn i f => insWf 0x59 i f
  | .vmov i f => insWf 0x5A i f
  | .vcmp i f => insWf 0x5B i f
  | .vsel i f => insWf 0x5C i f
  | .viadd i f => insWf 0x60 i f
  | .visub i f => insWf 0x61 i f
  | .vimul i f => insWf 0x62 i f
  | .vimax i f => insWf 0x63 i f
  | .vimin i f => insWf 0x64 i f
  | .vand i f => insWf 0x65 i f
  | .vor i f => insWf 0x66 i f
  | .vxor i f => insWf 0x67 i f
  | .vandn i f => insWf 0x68 i f
  | .vnot i f => insWf 0x69 i f
  | .vshl i f => insWf 0x6A i f
  | .vshr i f => insWf 0x6B i f
  | .vicmp i f => insWf 0x6C i f
  | .viota i f => insWf 0x6D i f
  | .pand i f => insWf 0x70 i f
  | .por i f => insWf 0x71 i f
  | .pxor i f => insWf 0x72 i f
  | .pandn i f => insWf 0x73 i f
  | .pnot i f => insWf 0x74 i f
  | .pany i f => insWf 0x75 i f
  | .pcount i f => insWf 0x76 i f
  | .vcvt i f => insWf 0x78 i f
  | .vrsum i f => insWf 0x80 i f
  | .vrssq i f => insWf 0x81 i f
  | .vrmax i f => insWf 0x82 i f
  | .vrmin i f => insWf 0x83 i f
  | .vrargmax i f => insWf 0x84 i f
  | .vbcast i f => insWf 0x88 i f
  | .vbcasts i f => insWf 0x89 i f
  | .vshift i f => insWf 0x8A i f
  | .vrot i f => insWf 0x8B i f
  | .vgather i f => insWf 0x8C i f
  | .vmovs i f => insWf 0x8D i f
  | .vscan i f => insWf 0x90 i f
  | .vmscan i f => insWf 0x91 i f
  | .vascan i f => insWf 0x92 i f
  | .vcput i f => insWf 0x94 i f
  | .vcget i f => insWf 0x95 i f
  | .pack24 i f => insWf 0x98 i f
  | .vexp2 i f => insWf 0xA0 i f
  | .vexp i f => insWf 0xA1 i f
  | .vlog2 i f => insWf 0xA2 i f
  | .vlog i f => insWf 0xA3 i f
  | .vrcp i f => insWf 0xA4 i f
  | .vrsqrt i f => insWf 0xA5 i f
  | .vsqrt i f => insWf 0xA6 i f
  | .vsin i f => insWf 0xA7 i f
  | .vcos i f => insWf 0xA8 i f
  | .vtanh i f => insWf 0xA9 i f
  | .vsig i f => insWf 0xAA i f
  | .verf i f => insWf 0xAB i f
  | .vsoftp i f => insWf 0xAC i f
  | .vdiv i f => insWf 0xAD i f
  | .vtbl i f => insWf 0xAE i f
  | .vrstat i f => insWf 0xAF i f
  | .ld i f => insWf 0xC0 i f
  | .st i f => insWf 0xC1 i f
  | .ldg i f => insWf 0xC2 i f
  | .stg i f => insWf 0xC3 i f
  | .loadReturn _ _ => true
  | .ldesc i f => insWf 0xC8 i f
  | .ldescDecide _ _ => true
  | .lxfer i f => insWf 0xC9 i f
  | .lxferStart _ => true
  | .lxferComplete _ _ => true
  | .tload i f => insWf 0xCA i f
  | .tloadComplete _ cy => cyWf cy
  | .ibload i f => insWf 0xCB i f
  | .ibLineArrival _ => true
  | .fence i f => insWf 0xD0 i f
  | .signal i f => insWf 0xD1 i f
  | .counterIncrement _ => true
  | .barrive i f => insWf 0xD2 i f
  | .barrierArrival _ => true
  | .scfg i f => insWf 0xD3 i f
  | .flgset i f => insWf 0xD4 i f
  | .flagArrival _ => true
  | .flgclr i f => insWf 0xD5 i f
  | .flgwait i f => insWf 0xD6 i f
  | .cwrite i f => insWf 0xE0 i f
  | .cread i f => insWf 0xE1 i f
  | .csig i f => insWf 0xE2 i f
  | .bcmd i f => insWf 0xE8 i f
  | .jobClear _ => true
  | .jobSend _ => true
  | .jobScalars _ => true
  | .jobOpen _ => true
  | .jobAbort _ => true
  | .blockUpdate _ _ _ => true
  | .jobComplete _ _ => true
  | .tick => true
  | .capture => true
  | .blockOverrun _ => true
  | .arrayRemap _ => true
  | .coreFailed _ => true
  | .gangMapCommit _ => true
  | .partitionChange _ => true
  | .domainConfigChange _ => true
  | .barrierConfigChange _ => true
  | .slwinChange _ => true
  | .waitEvaluation => true
  | .barrierRelease _ => true
  | .deadlockDetector => true
  | .deadlock _ => true
  | .governorDecision => true
  | .tableSwap => true
  | .watchEvaluation => true
  | .tickMessage _ => true
  | .launchSampling => true
  | .issueDecision => true
  | .tickLate _ => true
  | .coreIdle _ => true
  | .linkTick _ _ => true
  | .timeLock => true
  | .stepFrame _ len => stepWf len
  | .holdover => true
  | .tickRefEdge _ => true
  | .refLost => true
  | .flitReceive _ b _ _ => decide (b.length = 256)
  | .flitTransmit _ _ => true
  | .replayTimeout _ => true
  | .retrainLimit _ => true
  | .rxIdleTimeout _ => true
  | .linkLoss _ => true
  | .creditStuck _ => true
  | .signalDetect _ => true
  | .trainTimeout _ => true
  | .trainRetry _ => true
  | .hello _ _ _ => true
  | .ctrlReset _ => true
  | .transit _ => true
  | .chWrite _ => true
  | .writePerformed _ => true
  | .writeRefused _ => true
  | .chRead _ => true
  | .readData _ => true
  | .readRefused _ => true
  | .signalIncrement _ => true
  | .signalRefused _ => true
  | .podBarrierArrival _ => true
  | .podReleaseDecision _ => true
  | .podBarrierRelease _ => true
  | .podReleaseApply _ => true
  | .redContrib _ => true
  | .redContribAccepted _ => true
  | .redContribRefused _ => true
  | .paramBcast _ => true
  | .domainNotice _ => true
  | .responseTimeout _ => true
  | .portEnable _ _ => true
  | .portDisable _ _ => true
  | .retrain _ _ => true
  | .nodeid _ _ => true
  | .rstsend _ _ => true
  | .slotConfig _ _ _ _ => true
  | .cxlMemRead _ _ _ => true
  | .cxlMemWrite _ _ _ _ _ => true
  | .bisnpResponse _ _ => true
  | .hostReadResponse h b _ => decide (h + b.length ≤ 2 ^ 45)
  | .configRequest _ => true
  | .hdmCommit _ _ _ => true
  | .registerWrite _ off len v => accessWf off len && decide (v < 2 ^ (8 * len))
  | .clearingRead _ off len => accessWf off len
  | .latchedRead _ off => accessWf off 4
  | .commit _ _ => true
  | .splitall _ _ => true
  | .timeCtrl _ _ => true
  | .slwin _ _ _ => true
  | .injectArm _ _ _ => true
  | .injarr _ _ => true
  | .scntInc _ _ _ _ => true
  | .partCfg _ _ _ => true
  | .partReset _ _ => true
  | .inval _ _ => true
  | .invalComplete _ => true
  | .ringEnable _ _ _ _ => true
  | .logen _ => true
  | .logc _ _ => true
  | .hdata _ => true
  | .dbgHaltWrite _ _ _ => true
  | .sysrst _ => true
  | .corerst _ => true
  | .psreqS0 _ => true
  | .psreqS1 _ => true
  | .psreqS2 _ => true
  | .psreqS3 _ => true
  | .s2EntryComplete => true
  | .s2ExitComplete => true
  | .scrubGo _ len => decide (len < 2 ^ 20)
  | .hbmScrubDone => true
  | .mbSetSus _ arg tag => mailWf arg tag
  | .mbSetPeak _ arg tag => mailWf arg tag
  | .mbSetReserve _ arg tag => mailWf arg tag
  | .mbRelease _ arg tag => mailWf arg tag
  | .hogsheadUpdate _ _ _ => true
  | .wearCap => true
  | .wearWrite => true
  | .thermalSample _ _ _ => true
  | .psusEffStep => true
  | .thermalTrip => true
  | .vinLow => true
  | .overvoltage => true
  | .overcurrent => true
  | .powerFailure => true
  | .softStart => true
  | .bulkCharged => true
  | .bootRom => true
  | .trimLoad _ _ => true
  | .sfwPhase => true
  | .computeRails => true
  | .hbmTraining => true
  | .firstTick => true
  | .perstFall => true
  | .hotReset => true
  | .watchdog => true
  | .pwrEnRise => true
  | .pwrEnFall => true
  | .coreResetEntry => true
  | .computeScrubDone => true
  | .coreResetRelease => true
  | .clusterScrubDone _ _ => true
  | .hbmScrubRead _ _ => true
  | .localPatrolScrub _ _ _ => true
  | .softPpr _ row _ => decide (row ≠ [])
  | .errorRecord _ f => match f with | some x => x.wf | none => true
  | .mctpDelivery _ => true
  | .mctpRetry _ => true
  | .historyWrite => true
  | .certIssue => true
  | .certSigned => true
  | .getCertificate _ => true
  | .spdmChallenge _ _ => true
  | .getMeasurements _ => true
  | .keyExchange _ _ => true
  | .firmwareUpdate _ => true
  | .activateFirmware _ => true
  | .ideKm _ _ _ => true
  | .ideFailure _ => true
  | .tspLock _ te => decide (te.length ≤ 4)
  | .tspUnlock _ => true
  | .entdaa _ => true
  | .setdasa _ _ => true
  | .ifHelp => true
  | .ifVer => true
  | .ifLogin => true
  | .ifUnlock sig => match sig with | some x => decide (x.length = 96) | none => true
  | .unlockTimeout => true
  | .lockoutExpiry => true
  | .ifLock => true
  | .ifStatus => true
  | .ifLog _ => true
  | .ifRd a n => decide (a % 4 = 0 ∧ 1 ≤ n)
  | .ifRdc a => decide (a % 4 = 0)
  | .ifWr a _ => decide (a % 4 = 0)
  | .ifWrg a _ => decide (a % 4 = 0)
  | .ifDump a n => decide (a % 32 = 0 ∧ 1 ≤ n ∧ n ≤ 4096)
  | .ifHalt _ => true
  | .ifGo _ => true
  | .ifStep _ n => decide (1 ≤ n ∧ n ≤ 256)
  | .ifTraceOn _ => true
  | .ifTraceOff => true
  | .ifTraceShow _ => true
  | .ifResetCore => true
  | .ifResetSys => true
  | .ifPs _ => true
  | .trainConverged _ => true
  | .alignmentLock _ _ _ _ => true
  | .cxlLinkTrained _ _ _ => true
  | .cxlLinkDown => true
  | .perstRise => true
  | .hostWriteCompletion _ _ => true
  | .hostSnoop _ => true
  | .vinRestored => true
  | .holdUpExpiry => true
  | .mailboxResult => true
  | .nvWritePulseEnd => true
  | .ifendiRomRecovery => true
  | .malformedCommand _ => true
  | .getVersion _ => true
  | .getCapabilities _ => true
  | .negotiateAlgorithms _ => true
  | .getDigests _ => true
  | .spdmFinish _ _ _ => true
  | .endSession _ _ => true

end Sys2Proof
end

