-- ==== Sys2Proof/Tests/Slice0.lean ====
section
/-!
SUPPORT. Tests of single commands on small states, and for every statement with hypotheses concrete states and operands that meet them
(theorems `wit_…`, one conjunct for each clause). Expected values come from the spec's rules by hand.
-/
namespace Sys2Proof.Tests
open Sys2Proof Sys2Proof.Machine

set_option Elab.async false

/-! ## States -/

/-- A core that runs a block of a launch, its instruction buffer valid. -/
def kRun : Core := { Core.zero .running with active := true, ibValid := 0xFFFFFFFFFFFFFFFF, launch := some ⟨0, 0, 0, [0], 0, 0, 1, 0, 0⟩ }

/-- The running module: partition 0 has cluster 0; core 0 is as given, the other cores are idle. -/
def mod (k : Core) : State :=
  { State.reset with
    phase := .run, cycle := 100, hbm := Store.zero, parts := State.reset.parts.set 0 { Part.start 0 with cfgNow := 0x101 },
    regs := [(rPART_STATUS 0, 1)], cores := Vector.ofFn (fun c => if c.val = 0 then k else Core.zero .idle) }

/-- The running module with core 0 at work. -/
def s0 : State := mod kRun

/-- An issue on core 0 at cycle 100 that ends its bundle. -/
@[reducible] def i0 : Issue := ⟨0, 100, true⟩

/-- Fields: destination, three sources, format code, modifiers or immediate. -/
def fl (d a b c : BitVec 5) (t : BitVec 4) (m : Word32) : Fields := ⟨d, a, b, c, t, m⟩

theorem mod_core (k : Core) : (mod k).core 0 = k := by simp [State.core, mod]

theorem mod_gang (k : Core) (c : Fin 96) : (mod k).gang[c] = c := by simp [mod, State.reset]

theorem mod_members (k : Core) : (mod k).members 0 = [0] := by
  simp only [State.members, mod_gang]
  decide +kernel

/-- A core whose bundle at index 0 holds one instruction. -/
def kI (k : Core) (op : Nat) (f : Fields) : Core := { k with ib := k.ib.putN (8 * slotOf op) (leBytes 8 (wordOf op f).toNat) }

/-- The running module with that core as core 0. -/
def sI (k : Core) (op : Nat) (f : Fields) : State := mod (kI k op f)

/-- Whether core k, as core 0 of the running module, issues the only instruction of its bundle at `i0`. -/
def readyK (k : Core) (op : Nat) (f : Fields) : Bool :=
  decide (k.st = .running) && decide (k.view.isSome = false) && k.active && decide (k.steps ≠ some 0) && decide (k.lineSt = .ready)
    && decide (bundleSlots k.bundleWords = [(slotOf op, wordOf op f)]) && !illegal op f && decide (bundleIllegal k.bundleWords = [])
    && !k.interlock (opcodeOf (wordOf op f)) (fieldsOf (wordOf op f))
    && !(mod k).opStalls 0 0 (opcodeOf (wordOf op f)) (fieldsOf (wordOf op f))

theorem ready_ofK {k : Core} {op : Nat} {f : Fields} (h : readyK k op f = true) : (mod k).ready op i0 f := by
  simp only [readyK, Bool.and_eq_true, Bool.not_eq_true', decide_eq_true_eq] at h
  obtain ⟨⟨⟨⟨⟨⟨⟨⟨⟨hst, hv⟩, hact⟩, hsteps⟩, hline⟩, hslots⟩, hleg⟩, hbun⟩, hint⟩, hop⟩ := h
  refine ⟨?_, ?_, ?_, hleg, fun _ => ⟨?_, ?_⟩⟩
  · simp [State.canIssue, mod_core, hst, hv, hact, hsteps]
    exact mod_gang k 0
  · simpa only [i0, mod_core] using hline
  · simp only [State.named, mod_core, Core.todoNow, hv, Bool.false_eq_true, if_false, hslots]
    simp
  · simpa only [i0, mod_core] using hbun
  · simp only [State.bundleStalls, mod_core, mod_members, hslots, List.any_cons, List.any_nil, hint, hop, Bool.or_false]

/-- Whether core k issues the instruction where its bundle holds that alone. -/
def readyI (k : Core) (op : Nat) (f : Fields) : Bool := readyK (kI k op f) op f

theorem ready_of {k : Core} {op : Nat} {f : Fields} (h : readyI k op f = true) : (sI k op f).ready op i0 f := ready_ofK h

/-- Each instruction of a list issues on core k. -/
theorem readies {k : Core} {l : List (Nat × Fields)} (h : l.all (fun x => readyI k x.1 x.2) = true) :
    ∀ x, x ∈ l → (sI k x.1 x.2).ready x.1 i0 x.2 := fun x hx => ready_of (List.all_eq_true.mp h x hx)

/-- Whether an instruction issues in a state (`State.ready` as a Bool). -/
def readyB (s : State) (op : Nat) (i : Issue) (f : Fields) : Bool :=
  s.canIssue i && decide ((s.core i.core).lineSt = .ready) && s.named op i f && !illegal op f
    && ((s.core i.core).view.isSome || (bundleIllegal (s.core i.core).bundleWords).isEmpty && !s.bundleStalls i.core)

theorem ready_ofB {s : State} {op : Nat} {i : Issue} {f : Fields} (h : readyB s op i f = true) : s.ready op i f := by
  simp only [readyB, Bool.and_eq_true, Bool.or_eq_true, Bool.not_eq_true', decide_eq_true_eq, List.isEmpty_iff] at h
  exact ⟨h.1.1.1.1, h.1.1.1.2, h.1.1.2, h.1.2, fun hv => h.2.resolve_left (by simp [hv])⟩

/-- The state a command answers. -/
def after (c : Instr) (s : State) : State := match exec c s with | .next t => t | _ => s

/-- Core 0 at work with scalar register n holding v. -/
def kN (n : Fin 32) (v : Nat) : Core := { kRun with opnd := { Opnd.zero with s := Opnd.zero.s.set n.val (BitVec.ofNat 64 v) n.isLt } }

/-- The running module whose partition 0 maps its first GiB onto device addresses from 0 (Table 14-4): entry 0 of the table at 0 names the
table at 4096, which lies at offset 256 of stack 5 (R225), and entry 0 of that is a readable and writable leaf. -/
def mapped (k : Core) : State := { mod k with hbm := ⟨0, [(0, 1), (1, 0x10), (5 * 2 ^ 37 + 256, 15)]⟩ }

/-! ## Scalar instructions -/

theorem wit_ScalarIntegerResult :
    (∀ e, e ∈ scalarTable → (sI kRun e.1 (fl 1 2 3 0 0 0)).ready e.1 i0 (fl 1 2 3 0 0 0)
      ∧ (sI kRun (e.1 + 0x20) (fl 1 2 0 0 0 5)).ready (e.1 + 0x20) i0 (fl 1 2 0 0 0 5))
    ∧ ∀ x, x ∈ [(0x15, fl 1 2 3 4 0 0), (0x16, fl 1 0 0 0 0 7), (0x17, fl 1 2 0 0 0 7)] → (sI kRun x.1 x.2).ready x.1 i0 x.2 := by
  refine ⟨fun e he => ?_, readies (by decide +kernel)⟩
  have h : scalarTable.all (fun e => readyI kRun e.1 (fl 1 2 3 0 0 0) && readyI kRun (e.1 + 0x20) (fl 1 2 0 0 0 5)) = true := by
    decide +kernel
  have := List.all_eq_true.mp h e he
  rw [Bool.and_eq_true] at this
  exact ⟨ready_of this.1, ready_of this.2⟩

theorem wit_ScalarFloatResult :
    (∀ e, e ∈ scalarFpTable → (sI kRun e.1 (fl 1 2 3 0 0 0)).ready e.1 i0 (fl 1 2 3 0 0 0))
    ∧ ∀ x, x ∈ [(0x1B, fl 1 2 3 4 1 0), (0x1E, fl 1 2 3 0 0 7), (0x1F, fl 1 2 0 0 8 0)] → (sI kRun x.1 x.2).ready x.1 i0 x.2 := by
  have h : scalarFpTable.all (fun e => readyI kRun e.1 (fl 1 2 3 0 0 0)) = true := by decide +kernel
  exact ⟨fun e he => ready_of (List.all_eq_true.mp h e he), readies (by decide +kernel)⟩

/-- Core 0 at work with 2,048 in register 2. -/
def kJr : Core := kN 2 2048

theorem wit_ControlTransfer :
    (∀ x, x ∈ [(0x00, fl 0 0 0 0 0 0), (0x38, fl 0 2 3 0 1 0xFFFFF801), (0x39, fl 1 0 0 0 0 2047), (0x3A, fl 0 2 0 0 0 0)] →
      (sI kRun x.1 x.2).ready x.1 i0 x.2)
    ∧ (sI kJr 0x3A (fl 0 2 0 0 0 0)).ready 0x3A i0 (fl 0 2 0 0 0 0) :=
  ⟨readies (by decide +kernel), ready_of (by decide +kernel)⟩

theorem wit_ControlTransfer_values :
    (((sI kRun 0x3A (fl 0 2 0 0 0 0)).operands i0 0).scalar 2).toNat < 2048
      ∧ (((sI kJr 0x3A (fl 0 2 0 0 0 0)).operands i0 0).scalar 2).toNat = 2048 ∧ (sI kJr 0x3A (fl 0 2 0 0 0 0)).partOf 0 = some 0
      ∧ (sI kJr 0x3A (fl 0 2 0 0 0 0)).isStopped 0 = false ∧ ((sI kJr 0x3A (fl 0 2 0 0 0 0)).core 0).reg (kSEQ_FAULT) = 0
      ∧ ((sI kJr 0x3A (fl 0 2 0 0 0 0)).core 0).faulted = false
      ∧ (fl 0 0 0 0 0 0xFFFFF800).mods.toInt < -2047 ∧ 2047 < (fl 0 0 0 0 0 2048).mods.toInt := by
  decide +kernel

theorem wit_SpecialRegisters :
    ∀ x, x ∈ [(0x36, fl 1 0 0 0 0 63), (0x3E, fl 1 0 0 0 0 0x10), (0x3F, fl 0 2 0 0 0 0x10)] → (sI kRun x.1 x.2).ready x.1 i0 x.2 :=
  readies (by decide +kernel)

theorem wit_BlockEnds : ∀ x, x ∈ [(0x3C, fl 0 0 0 0 0 0x1FE), (0x3D, fl 0 0 0 0 0 0)] → (sI kRun x.1 x.2).ready x.1 i0 x.2 :=
  readies (by decide +kernel)

/-- The module whose core 0 has an illegal word in slot 0 of its bundle. -/
def sBad : State := mod { kRun with ib := kRun.ib.putN 0 (leBytes 8 0xFF00000000000000) }

theorem wit_IllegalEncodingStops :
    sBad.canIssue ⟨0, 100, true⟩ = true ∧ (sBad.core 0).view.isNone = true ∧ (sBad.core 0).lineSt = .ready
      ∧ (sBad.core 0).bundleWords = [0xFF00000000000000, 0, 0, 0]
      ∧ (bundleIllegal [0xFF00000000000000, 0, 0, 0]).head? = some (0, 0xFF00000000000000) ∧ (sBad.core 0).reg (kSEQ_FAULT) = 0
      ∧ (sBad.core 0).faulted = false ∧ (sBad.core 0).pc < 2048 ∧ sBad.partOf 0 = some 0 ∧ sBad.isStopped 0 = false := by
  decide +kernel

/-! ## The vector engine -/

theorem wit_VectorFloatResult :
    (∀ e, e ∈ fpTable.map (fun e => (e.1, fl 1 2 (if e.2.2.1 = 1 then 0 else 3) (if e.2.2.1 = 3 then 4 else 0) 3 0x1F)) →
      (sI kRun e.1 e.2).ready e.1 i0 e.2)
    ∧ (sI kRun 0x5A (fl 1 2 0 0 7 0x11)).ready 0x5A i0 (fl 1 2 0 0 7 0x11) :=
  ⟨readies (by decide +kernel), ready_of (by decide +kernel)⟩

theorem wit_VectorIntegerResult :
    (∀ e, e ∈ intTable.map (fun e => (e.1, fl 1 2 (if e.2.2.1 = 1 then 0 else 3) 0 7 0x10)) → (sI kRun e.1 e.2).ready e.1 i0 e.2)
    ∧ (sI kRun 0x6D (fl 1 2 0 0 0 0)).ready 0x6D i0 (fl 1 2 0 0 0 0) :=
  ⟨readies (by decide +kernel), ready_of (by decide +kernel)⟩

theorem wit_CompareWritesPredicate :
    ∀ x, x ∈ [(0x5B, fl 1 2 3 0 2 0x1C000), (0x6C, fl 7 2 3 0 7 0x14000)] → (sI kRun x.1 x.2).ready x.1 i0 x.2 :=
  readies (by decide +kernel)

/-- Core 0 at work with every row of tiles and predicates poisoned. -/
def kZ : Core := { kRun with opnd := { Opnd.zero with tpois := BitVec.allOnes _, ppois := BitVec.allOnes _ } }

theorem wit_PredicateOperations :
    (∀ x, x ∈ [(0x70, fl 1 2 3 0 0 0), (0x71, fl 1 2 3 0 0 0), (0x72, fl 1 2 3 0 0 0), (0x73, fl 1 2 3 0 0 0), (0x74, fl 1 2 0 0 0 0),
        (0x75, fl 1 2 0 0 1 0), (0x76, fl 1 0 0 0 0 0)] → (sI kRun x.1 x.2).ready x.1 i0 x.2)
    ∧ ∀ x, x ∈ [(0x75, fl 1 2 0 0 0 0), (0x76, fl 1 2 0 0 0 0)] → (sI kZ x.1 x.2).ready x.1 i0 x.2 :=
  ⟨readies (by decide +kernel), readies (by decide +kernel)⟩

theorem wit_PredicateOperations_poison :
    (∀ r, r < 32 → ((sI kRun 0x75 (fl 1 2 0 0 1 0)).openedCore 0x75 i0 0).ppz 2 r = false
      ∧ ((sI kRun 0x76 (fl 1 0 0 0 0 0)).openedCore 0x76 i0 0).ppz 0 r = false)
    ∧ (sI kZ 0x75 (fl 1 2 0 0 0 0)).partOf 0 = some 0 ∧ (sI kZ 0x75 (fl 1 2 0 0 0 0)).isStopped 0 = false
    ∧ ((sI kZ 0x75 (fl 1 2 0 0 0 0)).openedCore 0x75 i0 0).ppz 2 31 = true
    ∧ ((sI kZ 0x76 (fl 1 2 0 0 0 0)).openedCore 0x76 i0 0).ppz 2 0 = true := by
  decide +kernel

theorem wit_MovesToScalar : ∀ k, k ∈ [(kRun, false), (kZ, true)] →
    (sI k.1 0x8D (fl 1 2 0 0 1 0x7C0000)).ready 0x8D i0 (fl 1 2 0 0 1 0x7C0000)
      ∧ (sI k.1 0x8D (fl 1 2 0 0 1 0x7C0000)).partOf 0 = some 0 ∧ (sI k.1 0x8D (fl 1 2 0 0 1 0x7C0000)).isStopped 0 = false
      ∧ ((sI k.1 0x8D (fl 1 2 0 0 1 0x7C0000)).openedCore 0x8D i0 0).tpz 2 31 = k.2 := by
  intro k hk
  have h : [(kRun, false), (kZ, true)].all (fun k => readyI k.1 0x8D (fl 1 2 0 0 1 0x7C0000)) = true := by decide +kernel
  refine ⟨ready_of (List.all_eq_true.mp h k hk), ?_⟩
  revert k
  decide +kernel

theorem wit_VectorMoves :
    ∀ x, x ∈ [(0x5C, fl 1 2 3 0 1 8), (0x88, fl 1 2 0 0 1 0x7C0200), (0x89, fl 1 2 0 0 1 0), (0x8A, fl 1 2 0 0 1 0x20040200),
      (0x8B, fl 1 2 0 0 1 0x40000), (0x8C, fl 1 2 3 0 1 0x40000000)] → (sI kRun x.1 x.2).ready x.1 i0 x.2 :=
  readies (by decide +kernel)

/-- A user table of zeros, loaded. -/
def tab0 : Table := { image := List.replicate tableBytes 0, poison := false }

/-- Core 0 with its user tables active. -/
def kT : Core := { kRun with tslots := Vector.replicate 8 { TSlot.zero with active := some tab0 } }

theorem wit_FunctionResult :
    (∀ e, e ∈ fnTable.map (fun e => (e.1, fl 1 2 0 0 3 0)) → (sI kRun e.1 e.2).ready e.1 i0 e.2)
    ∧ (sI kRun 0xAD (fl 1 2 3 0 1 0)).ready 0xAD i0 (fl 1 2 3 0 1 0) ∧ (sI kT 0xAE (fl 1 2 7 0 1 0)).ready 0xAE i0 (fl 1 2 7 0 1 0)
    ∧ (((sI kT 0xAE (fl 1 2 7 0 1 0)).core 0).tslot 7).active = some tab0 :=
  ⟨readies (by decide +kernel), ready_of (by decide +kernel), ready_of (by decide +kernel), by decide +kernel⟩

theorem wit_VectorTileEffects :
    (∀ x, x ∈ [(0x78, fl 1 2 0 0 1 0), (0x78, fl 1 2 0 0 4 0x6000), (0x80, fl 1 2 0 0 1 0), (0x81, fl 1 2 0 0 1 0x200),
      (0x82, fl 1 2 0 0 1 0), (0x83, fl 1 2 0 0 1 0), (0x84, fl 1 2 0 0 1 0), (0x98, fl 1 2 0 0 4 0), (0xAF, fl 1 2 0 0 1 0)] →
      (sI kRun x.1 x.2).ready x.1 i0 x.2)
    ∧ cvtBdst (fl 1 2 0 0 1 0) = false ∧ cvtBdst (fl 1 2 0 0 4 0x6000) = true :=
  ⟨readies (by decide +kernel), by decide +kernel⟩

/-- Core 0 with carry slot 127 valid. -/
def kV : Core := { kRun with opnd := { Opnd.zero with cvalid := 1 <<< 127 } }

theorem wit_ScansAndCarryStore :
    (∀ x, x ∈ [(0x90, fl 1 2 0 0 1 0), (0x91, fl 1 2 0 0 0 0x18000200), (0x92, fl 1 2 3 0 1 0x4000200), (0x94, fl 1 2 0 0 0 0x1FC0000),
      (0x95, fl 1 2 0 0 0 0), (0x90, fl 1 2 0 0 1 0x7FC0000)] → (sI kRun x.1 x.2).ready x.1 i0 x.2)
    ∧ (sI kV 0x90 (fl 1 2 0 0 1 0x7FC0000)).ready 0x90 i0 (fl 1 2 0 0 1 0x7FC0000) :=
  ⟨readies (by decide +kernel), ready_of (by decide +kernel)⟩

theorem wit_ScansAndCarryStore_slots :
    (fl 1 2 0 0 1 0x7FC0000).mb 25 = true ∧ scanSlots (fl 1 2 0 0 1 0x7FC0000) = [127]
    ∧ ((sI kV 0x90 (fl 1 2 0 0 1 0x7FC0000)).operands i0 0).cvalid.getLsbD 127 = true
    ∧ ((sI kRun 0x90 (fl 1 2 0 0 1 0x7FC0000)).operands i0 0).cvalid.getLsbD 127 = false
    ∧ (sI kRun 0x90 (fl 1 2 0 0 1 0x7FC0000)).partOf 0 = some 0 ∧ (sI kRun 0x90 (fl 1 2 0 0 1 0x7FC0000)).isStopped 0 = false
    ∧ ((sI kRun 0x90 (fl 1 2 0 0 1 0x7FC0000)).core 0).st = .running
    ∧ ((sI kRun 0x90 (fl 1 2 0 0 1 0x7FC0000)).core 0).reg (kVEC_FAULT) = 0 := by
  decide +kernel

/-! ## Matrix arrays, local memory, loads and stores -/

/-- An entry of a matrix queue. -/
def mop (kd : MKind) (f : Fields) (v1 v2 : Word64) : MOp := ⟨kd, f, v1, v2, 0, 0, Rows.zero 1024, 0, 0, 1, 0, ⟨false, 0, 0⟩⟩

/-- Core 0 with one entry in the queue of array 0. -/
def kM (e : MOp) : Core := { kRun with mq := (Vector.replicate 4 []).set 0 [e] }

theorem wit_MatrixQueues :
    ∀ x, x ∈ [(0x40, fl 3 2 0 0 1 0xFF), (0x41, fl 6 2 0 0 1 0x100), (0x42, fl 0 6 0 0 1 0), (0x42, fl 0 6 3 0 1 0x40001),
      (0x42, fl 0 6 3 0 1 0x40002)] → (sI kRun x.1 x.2).ready x.1 i0 x.2 :=
  readies (by decide +kernel)

theorem wit_MatrixQueues_operands :
    ((sI kRun 0x40 (fl 3 2 0 0 1 0xFF)).openedCore 0x40 i0 0).wloadOut (fl 3 2 0 0 1 0xFF) = false
      ∧ ((sI kRun 0x41 (fl 6 2 0 0 1 0x100)).openedCore 0x41 i0 0).mmaOut (fl 6 2 0 0 1 0x100) = false
      ∧ (fl 0 6 3 0 1 0x40001).m 1 0 = 1 ∧ drainEnd (fl 0 6 3 0 1 0x40001) 0 ≤ lmEnd ∧ (fl 0 6 3 0 1 0x40002).m 1 0 = 2
      ∧ badBushelAddr (((sI kRun 0x42 (fl 0 6 3 0 1 0x40002)).operands i0 0).scalar 3) = false := by
  decide +kernel

/-- WLOADs of one BF16 step, plain, gathered, and gathered from beyond local memory; an MMA of the step; and drains of bank 0. -/
def eW : MOp := mop .wload (fl 0 2 0 0 2 0) 0 0
def eG (v1 : Word64) : MOp := { mop .wload (fl 0 2 0 0 2 0x200) v1 0 with v3 := 2 ^ 32 }
def eA : MOp := mop .mma (fl 0 2 0 0 2 0x100) 0 0
def eD (f : Fields) (v2 : Word64) : MOp := mop .mdrain f 0 v2

/-- A checksummed run without steps that locks half 0. -/
def run0 : Run := ⟨0, 0, [0], [], [], [], []⟩

/-- Bank 0 with FP32 values and a run. -/
def banks0 (r : Option Run) : Vector Bank 8 := (Vector.replicate 8 Bank.zero).set 0 ⟨some .fp32, 1, r, none⟩

theorem wit_WloadExecutes :
    (∀ e, e ∈ [eW, eG 0, eG 0xBFFFF0] → ((mod (kM e)).core 0).mhead 0 .wload = some e ∧ illegal 0x40 e.f = false
      ∧ MKind.wload.arrays e.f = [0] ∧ ((mod (kM e)).core 0).halfLocked 0 (e.f.m 11 11) = false)
    ∧ (((mod (kM (eG 0))).core 0).gatherPanel (eG 0)).2 = false ∧ (((mod (kM (eG 0xBFFFF0))).core 0).gatherPanel (eG 0xBFFFF0)).2 = true
    ∧ (mod (kM eW)).partOf 0 = some 0 ∧ (mod (kM eW)).isStopped 0 = false ∧ ((mod (kM eW)).core 0).st = .running
    ∧ ((mod (kM eW)).core 0).reg (kLAY_FAULT) = 0 ∧ ((mod (kM eW)).core 0).reg (kMAT_FAULT) = 0
    ∧ ((mod { kM eW with banks := banks0 (some run0) }).core 0).halfLocked 0 0 = true := by
  decide +kernel

/-- Core 0 with the step that an MMA names loaded. -/
def kA (e : MOp) : Core := { kM e with wsteps := [(0, ⟨2, false, e.f.mb 25, false, 0, none⟩)] }

/-- A sparse-sparse MMA of one step whose list is empty, and one whose list never ends. -/
def eS (v2 : Word64) : MOp := mop .mma (fl 0 2 0 0 2 0xA000100) 0 v2

theorem wit_MmaExecutes :
    (∀ e, e ∈ [eA, eS 0xBFFFFC] → ((mod (kA e)).core 0).mhead 0 .mma = some e ∧ MKind.mma.arrays e.f = [0]
      ∧ ((mod (kA e)).core 0).mmaCause e 0 = none)
    ∧ (eS 0).f.mb 27 = true ∧ (eS 0).sparseStop false [] = some 0 ∧ (eS 0).sparseStop true [] = none
    ∧ (eS 0xBFFFF0).sparseStop true [(0, 0x600000)] = some 0 ∧ (mod (kA eA)).partOf 0 = some 0 ∧ (mod (kA eA)).isStopped 0 = false
    ∧ ((mod (kA eA)).core 0).st = .running ∧ ((mod (kA eA)).core 0).reg (kLAY_FAULT) = 0
    ∧ ((mod (kM eA)).core 0).mhead 0 .mma = some eA
    ∧ (MKind.mma.arrays eA.f).findSome? (fun b => (((mod (kM eA)).core 0).mmaCause eA b).map (fun x => (x, b))) = some (8, 0)
    ∧ ((mod (kM eA)).core 0).reg (kMAT_FAULT) = 0 := by
  decide +kernel

/-- Core 0 with a drain in the queue of array 0, bank 0 holding FP32, with a checksummed run where `r` is set. -/
def kD (e : MOp) (r : Option Run) : Core := { kM e with banks := banks0 r }

theorem wit_DrainsAndReplays : ∀ e, e ∈ [eD (fl 0 0 0 0 1 0) 0, eD (fl 0 0 3 0 1 0x40001) 0xBFFC00] →
    ((mod (kD e none)).core 0).mhead 0 .mdrain = some e ∧ ((mod (kD e none)).core 0).heldBy e.fid = false
      ∧ ((mod (kD e none)).core 0).replays = [] ∧ ((mod (kD e none)).core 0).bushelWaits e = false
      ∧ MKind.mdrain.arrays e.f = [0] ∧ ((mod (kD e none)).core 0).bank (drainBank e.f 0) = ⟨some .fp32, 1, none, none⟩
      ∧ drainOk .fp32 e.f = true ∧ ((mod (kD e none)).csumFirst 0 e []).2 = [] ∧ ((mod (kD e none)).core 0).held = []
      ∧ ((mod (kD e (some run0))).csumFirst 0 e [⟨0, 1, 0⟩]).2 ≠ []
      ∧ drainOk .fp32 (fl 0 0 0 0 0 0) = false ∧ (mod (kD e none)).partOf 0 = some 0 ∧ (mod (kD e none)).isStopped 0 = false
      ∧ ((mod (kD e none)).core 0).st = .running ∧ ((mod (kD e none)).core 0).reg (kMAT_FAULT) = 0 := by
  decide +kernel

/-- Core 0 with the drain of bank 0 to tiles under replay. -/
def sRep (inj : Bool) : State := mod { kD (eD (fl 0 0 0 0 1 0) 0) (some run0) with replays := [⟨1, [⟨0, 1, 0, inj⟩]⟩] }

theorem wit_DrainsAndReplays_replay : ∀ inj : Bool,
    ((sRep inj).core 0).mhead 0 .mdrain = some (eD (fl 0 0 0 0 1 0) 0)
      ∧ ((sRep inj).core 0).replays.find? (fun r => r.uid = 1) = some ⟨1, [⟨0, 1, 0, inj⟩]⟩ ∧ ((sRep inj).core 0).held = []
      ∧ (sRep inj).partOf 0 = some 0 ∧ (sRep inj).isStopped 0 = false ∧ ((sRep inj).core 0).st = .running := by
  decide +kernel

/-- Register 2 holds the address: one past the end of local memory, and the highest multiple of 64. -/
theorem wit_OutsideLocalMemoryStops : ∀ v, v ∈ [0xC00000, 0xFFFFFFFFFFFFFFC0] →
    (∀ x, x ∈ [(0x40, fl 3 2 0 0 1 0), (0x41, fl 6 2 0 0 1 0), (0xC0, fl 1 2 0 0 0 0), (0xC1, fl 0 2 3 0 0 0), (0xCA, fl 7 2 0 0 0 0),
      (0xC8, fl 15 2 0 0 0 0)] → readyI (kN 2 v) x.1 x.2 = true)
    ∧ ((sI (kN 2 v) 0x40 (fl 3 2 0 0 1 0)).openedCore 0x40 i0 0).wloadOut (fl 3 2 0 0 1 0) = true
    ∧ ((sI (kN 2 v) 0x41 (fl 6 2 0 0 1 0)).openedCore 0x41 i0 0).mmaOut (fl 6 2 0 0 1 0) = true
    ∧ ((sI (kN 2 v) 0xC0 (fl 1 2 0 0 0 0)).openedCore 0xC0 i0 0).accAddr (fl 1 2 0 0 0 0) % 8 = 0
    ∧ lmEnd < ((sI (kN 2 v) 0xC0 (fl 1 2 0 0 0 0)).openedCore 0xC0 i0 0).accAddr (fl 1 2 0 0 0 0) + 8
    ∧ lmEnd < (((sI (kN 2 v) 0xC8 (fl 15 2 0 0 0 0)).operands i0 0).scalar 2).toNat + 128
    ∧ (sI (kN 2 v) 0x40 (fl 3 2 0 0 1 0)).partOf 0 = some 0 ∧ (sI (kN 2 v) 0x40 (fl 3 2 0 0 1 0)).isStopped 0 = false
    ∧ ((sI (kN 2 v) 0x40 (fl 3 2 0 0 1 0)).core 0).reg (kLAY_FAULT) = 0 := by
  decide +kernel

/-- The mapped module with an access by register 2 at the last doubleword of the mapped GiB. -/
def sMap (op : Nat) (f : Fields) (l : List Fence) : State := mapped (kI { kN 2 0x3FFFFFF8 with fences := l } op f)

theorem wit_LoadsAndStores : ∀ x, x ∈ [((1 : BitVec 4), 4), (3, 2)] →
    readyI (kN 2 (lmEnd - x.2)) 0xC0 (fl 1 2 0 0 x.1 0) = true ∧ readyI (kN 2 (lmEnd - x.2)) 0xC1 (fl 0 2 3 0 x.1 0) = true
      ∧ readyI { kN 2 (lmEnd - x.2) with fences := [⟨1, 0, [1]⟩] } 0xC1 (fl 0 2 3 0 x.1 0) = true
      ∧ ((sI (kN 2 (lmEnd - x.2)) 0xC0 (fl 1 2 0 0 x.1 0)).openedCore 0xC0 i0 0).accAddr (fl 1 2 0 0 x.1 0) = lmEnd - x.2
      ∧ accWidth (fl 1 2 0 0 x.1 0) = x.2 ∧ (lmEnd - x.2) % x.2 = 0 ∧ ((sI (kN 2 (lmEnd - x.2)) 0xC0 (fl 1 2 0 0 x.1 0)).core 0).xfers = [] := by
  decide +kernel

theorem wit_LoadsAndStores_device : ∀ l, l ∈ [[], [⟨1, 1, [1]⟩]] →
    readyB (sMap 0xC2 (fl 1 2 0 0 0 0) l) 0xC2 i0 (fl 1 2 0 0 0 0) = true ∧ readyB (sMap 0xC3 (fl 0 2 3 0 0 0) l) 0xC3 i0 (fl 0 2 3 0 0 0) = true
      ∧ (sMap 0xC2 (fl 1 2 0 0 0 0) l).damage = [] ∧ (sMap 0xC2 (fl 1 2 0 0 0 0) l).memLines = [] ∧ (sMap 0xC2 (fl 1 2 0 0 0 0) l).hostLines = []
      ∧ (∀ w, w ∈ [false, true] → ((sMap 0xC2 (fl 1 2 0 0 0 0) l).translateN 0 0x3FFFFFF8 8 w).2 = .ok ((List.range 8).map (0x3FFFFFF8 + ·)))
      ∧ ((sMap 0xC3 (fl 0 2 3 0 0 0) l).openedCore 0xC3 i0 0).accAddr (fl 0 2 3 0 0 0) = 0x3FFFFFF8
      ∧ ((sMap 0xC2 (fl 1 2 0 0 0 0) l).core 0).part = 0 ∧ ((sMap 0xC3 (fl 0 2 3 0 0 0) l).core 0).fences = l
      ∧ ∀ j, j < 8 → (sMap 0xC3 (fl 0 2 3 0 0 0) l).locate (0x3FFFFFF8 + j) = .hbm (hbmKey (placeR225 0x3FFFFFF8) + j) := by
  decide +kernel

/-- Core 0 with a load in flight. -/
def kL (src : LoadSrc) : Core := { kRun with loads := [⟨31, 8, false, src, 0, 0, false⟩] }

theorem wit_LoadReturns :
    ((mod (kL (.value 0xFFFFFFFFFFFFFFFF false))).core 0).loads[0]? = some ⟨31, 8, false, .value 0xFFFFFFFFFFFFFFFF false, 0, 0, false⟩
      ∧ (∀ j, j < 8 → (mod (kL (.device 0xDFFFFFFFFFF8))).locate (0xDFFFFFFFFFF8 + j) = .host (0x1FFFFFFFFFF8 + j)
        ∧ mapGet false (mod (kL (.device 0xDFFFFFFFFFF8))).hostPois (0x1FFFFFFFFFF8 + j) = false)
      ∧ (mod (kL (.value 0 true))).partOf 0 = some 0 ∧ (mod (kL (.value 0 true))).isStopped 0 = false
      ∧ ((mod (kL (.value 0 true))).core 0).st = .running := by
  decide +kernel

/-! ## The layout engine, user tables, synchronisation -/

/-- A descriptor of `n` bytes along one dimension of local memory, `ctrl` its word at 24h. -/
def img0 (n ctrl : Nat) : List Byte :=
  leBytes 8 0 ++ leBytes 8 0xBFFFC0 ++ leBytes 20 n ++ leBytes 4 ctrl ++ leBytes 20 1 ++ leBytes 20 1 ++ leBytes 20 0 ++ leBytes 4 0x77
    ++ leBytes 24 0

/-- A transfer of that descriptor. -/
def x0 (uid ctrl : Nat) (run sent : Bool) : Xfer :=
  ⟨uid, img0 64 ctrl, 0, 0xBFFFC0, 0, 0, 0, Rows.zero 1024, 0, 0, true, 63, 15, run, sent, [], 0⟩

/-- Core 0 with slot 15 in a state and n in register 2. -/
def kDs (n : Nat) (d : DSlot) : Core := { kN 2 n with dslots := (Vector.replicate 16 .empty).set 15 d }

theorem wit_LayoutDescriptors :
    readyI (kN 2 (lmEnd - 128)) 0xC8 (fl 15 2 0 0 0 0) = true ∧ ((sI (kN 2 (lmEnd - 128)) 0xC8 (fl 15 2 0 0 0 0)).operands i0 0).scalar 2 = 0xBFFF80
      ∧ (0xBFFF80 : Nat) + 128 = lmEnd ∧ ((sI (kN 2 (lmEnd - 128)) 0xC8 (fl 15 2 0 0 0 0)).core 0).lmPoison 0xBFFF80 128 = false
      ∧ readyI (kDs 0 (.valid (img0 64 0x15))) 0xC9 (fl 15 0 0 0 0 0x7F) = true
      ∧ readyI (kDs 64 (.valid (img0 64 0x15))) 0xC9 (fl 15 2 0 0 0 0x7F) = true
      ∧ ((mod (kDs 64 (.valid (img0 64 0x15)))).core 0).dslot 15 = .valid (img0 64 0x15)
      ∧ (mod (kDs 64 .empty)).reg64 (rPART_ALLOCBASE 0) + 4096 ≤ hbmEnd
      ∧ ((mod (kDs 64 .empty)).sideChk 0 1 0 ((parseDesc (img0 64 0x15)).srcExt 64) false 5).2 = .ok
      ∧ ((mod (kDs 64 .empty)).sideChk 0 1 0 ((parseDesc (img0 64 0x15)).dstExt 0xBFFFC0) true 6).2 = .ok
      ∧ ((mod (kDs 0 (.deciding (img0 64 0x15)))).core 0).dslot 15 = .deciding (img0 64 0x15)
      ∧ ((mod (kDs 0 .empty)).validate 0 (parseDesc (img0 64 0x15))).2.1 = some 0
      ∧ ((mod (kDs 0 .empty)).validate 0 (parseDesc (img0 65 0x15))).2.1 = some 6
      ∧ (parseDesc (img0 0 0x15)).ndim = 1 ∧ (parseDesc (img0 0 0x15)).n.getD 0 0 = 0
      ∧ (parseDesc (img0 1 0x05)).ndim = 0 ∧ (parseDesc (img0 1 0x65)).ndim = 6 := by
  decide +kernel

/-- Core 0 with three transfers running and one queued. -/
def kX : Core := { kRun with xfers := [x0 1 0x15 true false, x0 2 0x15 true false, x0 3 0x15 true false, x0 4 0x15 false false] }

/-- Core 0 with a transfer to virtual addresses, `sent` when its writes await the host. -/
def kXh (sent : Bool) : Core := { kRun with xfers := [x0 1 0x11 true sent], outw := if sent then [(1, .host)] else [] }

/-- The mapped module with its first GiB on host memory: the leaf's frame begins at C000_0000_0000h. -/
def sXh : State :=
  { mapped (kXh false) with hbm := ⟨0, [(0, 1), (1, 0x10), (5 * 2 ^ 37 + 256, 15), (5 * 2 ^ 37 + 261, 0xC0)]⟩ }.setReg (rCXL_LINK) 0x200

theorem wit_LayoutTransfers :
    ((mod kX).core 0).xfers.find? (fun x => !x.running) = some (x0 4 0x15 false false)
      ∧ (((mod kX).core 0).xfers.filter (·.running)).length = 3 ∧ ((mod kX).core 0).heldBy 0 = false
      ∧ (((mod kX).core 0).xfers.filter (·.running))[2]? = some (x0 3 0x15 true false) ∧ ((mod kX).core 0).st = .running
      ∧ ((mod kX).core 0).held = [] ∧ (((mod kX).xferTaken 0).xferRun 0 (x0 3 0x15 true false) none).2 = none
      ∧ ((mod kX).xferTaken 0).hostWrites 0 (x0 3 0x15 true false) = false
      ∧ ((sXh.xferTaken 0).xferRun 0 (x0 1 0x11 true false) none).2 = none
      ∧ (sXh.xferTaken 0).hostWrites 0 (x0 1 0x11 true false) = true
      ∧ (∃ va, (((mod (kXh false)).xferTaken 0).xferRun 0 (x0 1 0x11 true false) none).2 = some (.xlate va))
      ∧ (mod (kXh false)).partOf 0 = some 0 ∧ (mod (kXh false)).isStopped 0 = false ∧ ((mod (kXh false)).core 0).reg (kLAY_FAULT) = 0
      ∧ ((((mod (kXh true)).core 0).outw.filter (fun w => w.2 = .host)).map (·.1))[0]? = some 1
      ∧ ((mod (kXh true)).core 0).xfers.find? (fun x => x.uid = 1) = some (x0 1 0x11 true true) := by
  refine ⟨by decide +kernel, by decide +kernel, by decide +kernel, by decide +kernel, by decide +kernel, by decide +kernel, by decide +kernel,
    ?_⟩
  refine ⟨by decide +kernel, by decide +kernel, by decide +kernel, ⟨0xBFFFC0, by decide +kernel⟩, ?_⟩
  decide +kernel

theorem wit_LayoutTransfers_copy :
    (x0 3 0x15 true false).sent = false ∧ (x0 3 0x15 true false).since = [] ∧ (parseDesc (img0 64 0x15)).ndim = 1
      ∧ (parseDesc (img0 64 0x15)).sspace = 1 ∧ (parseDesc (img0 64 0x15)).dspace = 1 ∧ (parseDesc (img0 64 0x15)).sfmt = 7
      ∧ (parseDesc (img0 64 0x15)).dfmt = 7 ∧ (parseDesc (img0 64 0x15)).lmode = 0 ∧ (parseDesc (img0 64 0x15)).ss 0 = 1
      ∧ (parseDesc (img0 64 0x15)).ds 0 = 1 ∧ (parseDesc (img0 64 0x15)).plo.getD 0 0 = 0 ∧ (parseDesc (img0 64 0x15)).phi.getD 0 0 = 0
      ∧ (x0 3 0x15 true false).sbase = (0 : Nat) ∧ (x0 3 0x15 true false).dbase = (0xBFFFC0 : Nat) := by
  decide +kernel

/-- The image of a table with scale 1. -/
def tabImg : List Byte := List.replicate 3076 0 ++ [0, 0, 0x80, 0x3F] ++ List.replicate 8 0

/-- A line in flight. -/
def ibl (dev : Bool) (a : Nat) : IbLoad := ⟨1, 63, dev, a, 0⟩

theorem wit_TablesAndBuffer :
    readyI (kN 2 0xBFF3C0) 0xCA (fl 7 2 0 0 0 0) = true ∧ (0xBFF3C0 : Nat) % 64 = 0 ∧ 0xBFF3C0 + tableBytes ≤ lmEnd
      ∧ ((sI (kN 2 0xBFF3C0) 0xCA (fl 7 2 0 0 0 0)).core 0).xfers = []
      ∧ readyI (kN 2 (lmEnd - 65536)) 0xCB (fl 0 2 0 0 0 0xFFF) = true ∧ readyI (kN 2 0x2000000) 0xCB (fl 0 2 0 0 0 0x1FFF) = true
      ∧ (((sI (kN 2 (lmEnd - 65536)) 0xCB (fl 0 2 0 0 0 0xFFF)).operands i0 0).scalar 2).toNat + 1024 * ((fl 0 2 0 0 0 0xFFF).m 11 6 + 1) = lmEnd
      ∧ ((mod { kRun with tloads := [⟨7, ⟨tabImg, false⟩, 0, 0⟩] }).core 0).tloads = [⟨7, ⟨tabImg, false⟩, 0, 0⟩]
      ∧ (⟨tabImg, false⟩ : Table).ok = true
      ∧ ((mod { kRun with ibLoads := [ibl false (lmEnd - 1024)] }).core 0).ibLoads = [ibl false (lmEnd - 1024)]
      ∧ ((mapped { kRun with ibLoads := [ibl true 0x3FFFFC00] }).translateN 0 0x3FFFFC00 1024 false).2 =
        .ok ((List.range 1024).map (0x3FFFFC00 + ·))
      ∧ ∀ a, a ∈ (List.range 1024).map (0x3FFFFC00 + ·) → ((mapped { kRun with ibLoads := [ibl true 0x3FFFFC00] }).hbmKeyOf a).isSome = true := by
  decide +kernel

/-- Core 0 with flag 15 set, and with configuration `n` at counter 63. -/
def kFlag : Core := { kRun with flags := 0x8000 }
def kCfg (n : Word32) : Core := { kRun with cregs := [(kSCNT_CFG 63, n)] }

theorem wit_CountersAndFlags :
    (∀ f, f ∈ [fl 0 0 0 0 0 0, fl 0 0 0 0 0 3] → readyI kRun 0xD0 f = true)
      ∧ (∀ f, f ∈ [fl 0 0 0 0 0 0x40, fl 0 2 0 0 0 0x3F] → readyI (kN 2 11) 0xD1 f = true
        ∧ ((sI (kN 2 11) 0xD1 f).target 0 (f.mb 6) (((sI (kN 2 11) 0xD1 f).operands i0 0).scalar f.a).toNat).isSome = true)
      ∧ readyI (kCfg 1) 0xD1 (fl 0 0 0 0 0 0x3FFF) = true ∧ ((sI (kCfg 1) 0xD1 (fl 0 0 0 0 0 0x3FFF)).core 0).fld (kSCNT_CFG 63) 15 0 = 1
      ∧ ((sI (kCfg 1) 0xD1 (fl 0 0 0 0 0 0x3FFF)).target 0 true 0).isSome = true ∧ readyI kRun 0xD3 (fl 0 2 0 0 0 63) = true
      ∧ { s0 with flights := [.inc 0 95 63 1] }.flights[0]? = some (.inc 0 95 63 1)
      ∧ readyI kRun 0xD4 (fl 0 0 0 0 0 0x1F) = true ∧ s0.target 0 true 0 = some 0 ∧ readyI kRun 0xD5 (fl 0 0 0 0 0 15) = true
      ∧ readyI kFlag 0xD6 (fl 0 0 0 0 0 0x1F) = true ∧ (kFlag.flags).getLsbD 15 = true
      ∧ { s0 with flights := [.flag 95 0 15] }.flights[0]? = some (.flag 95 0 15) := by
  decide +kernel

/-- Whether core k's bundle names the instruction as the next to issue and is legal: it issues or stalls. -/
def facesI (k : Core) (op : Nat) (f : Fields) : Bool :=
  (sI k op f).canIssue i0 && decide (((sI k op f).core 0).lineSt = .ready) && (sI k op f).named op i0 f && !illegal op f
    && ((sI k op f).core 0).view.isNone && (bundleIllegal ((sI k op f).core 0).bundleWords).isEmpty

theorem wit_CountersAndFlags_wait :
    facesI kRun 0xD6 (fl 0 0 0 0 0 0x1F) = true ∧ ((sI kRun 0xD6 (fl 0 0 0 0 0 0x1F)).core 0).flags.getLsbD 15 = false := by
  decide +kernel

/-- Core 0 with n of its entries of module barrier 63 outstanding. -/
def kBo (n : Nat) : Core := { kRun with bout := [(127, n)] }

/-- Core 0 on the way to module barrier 63, of one participant, in round `n` of a barrier still in round 0. -/
def sBar (n : Nat) : State := { s0 with flights := [.arrive 0 true 63 n], barCfg := [(191, 0x8001)] }

theorem wit_BarrierEntry :
    readyI (kBo 1) 0xD2 (fl 0 0 0 0 0 0x7F) = true ∧ (kBo 1).bo true 63 = 1 ∧ facesI (kBo 2) 0xD2 (fl 0 0 0 0 0 0x7F) = true
      ∧ ((sI (kBo 2) 0xD2 (fl 0 0 0 0 0 0x7F)).core 0).bo true 63 = 2
      ∧ ∀ n, n ∈ [(0, 6, 0), (1, 14, 8)] → (sBar n.1).flights[0]? = some (.arrive 0 true 63 n.1) ∧ barOf 0 true 63 = 191
        ∧ bitsOf 15 15 ((sBar n.1).barNow 191).toNat = 1 ∧ (sBar n.1).partOf 0 = some (bitsOf 10 8 ((sBar n.1).barNow 191).toNat)
        ∧ n.1 = mapGet 0 (sBar n.1).rounds 191 + n.1
        ∧ (sBar n.1).fld (barStatReg 191) n.2.1 n.2.2 < bitsOf 6 0 ((sBar n.1).barNow 191).toNat := by
  decide +kernel

/-! ## Remote operations, frames and the tick window -/

/-- A record of zeros in a Bushel's queue. -/
def rec0 : BRec := ⟨0, 0, List.replicate 64 0⟩

/-- A module whose core 0 issues a BCMD of the last 64 bytes of local memory to Bushel 11, which holds n waiting records. -/
def sBq (n : Nat) : State :=
  { sI (kN 2 (lmEnd - 64)) 0xE8 (fl 0 2 0 0 0 11) with
    bushels := (Vector.replicate 12 Bushel.zero).set 11 { Bushel.zero with queue := List.replicate n rec0 } }

theorem wit_RemoteOperations :
    (∀ op, op ∈ [0xE0, 0xE1] → readyI (kN 2 0x800000) op (fl 0 0 2 0 0 0x7FFFFF) = true
        ∧ ((sI (kN 2 0x800000) op (fl 0 0 2 0 0 0x7FFFFF)).core 0).fences = []
        ∧ (sI (kN 2 0x800000) op (fl 0 0 2 0 0 0x7FFFFF)).chainReach 0 0 = true
        ∧ (((sI (kN 2 0x800000) op (fl 0 0 2 0 0 0x7FFFFF)).operands i0 0).scalar 2).toNat + 64 * (0xFFFF + 1) = lmEnd)
      ∧ readyI kRun 0xE2 (fl 0 0 0 0 0 63) = true ∧ s0.node = 0 ∧ s0.chainReach 0 0 = true
      ∧ (∀ n, n ∈ [31, 32] → readyB (sBq n) 0xE8 i0 (fl 0 2 0 0 0 11) = true ∧ ((sBq n).bsh 11).queue.length = n
        ∧ ((sBq n).core 0).lmPoison (lmEnd - 64) 64 = false ∧ ((sBq n).core 0).bq = []) := by
  decide +kernel

theorem wit_TickStartsFrame :
    State.reset.phase ≠ .run ∧ s0.phase = .run ∧ (mod { kRun with start := true }).coreRst ≠ some .stopping
      ∧ (∀ p, p < 8 → ((mod { kRun with start := true }).part p).rst ≠ some .stopping) ∧ (mod { kRun with start := true }).gang[(0 : Fin 96)] = 0
      ∧ ((mod { kRun with start := true }).core 0).st = .running ∧ ((mod { kRun with start := true }).core 0).start = true
      ∧ (0 : Fin 96) ∈ (mod { kRun with start := true }).members 0 := by
  decide +kernel

/-- Core 0 still issuing its slipped block of an earlier frame. -/
def sOver : State := (mod { kRun with spill := true }).setReg (rTIME_FRAME) 1

/-- The module with core 0 in a hard domain. -/
def sHard : State := s0.modPart 0 (fun q => { q with domNow := 0x11000 })

theorem wit_CaptureAndSlips :
    s0.phase = .run ∧ s0.power.stopAll = false ∧ mapAscending (s0.core 0).scnt = true ∧ s0.gang[(0 : Fin 96)] = 0
      ∧ (s0.core 0).active = true ∧ (s0.core 0).spill = false ∧ (s0.core 0).st = .running ∧ s0.partOf 0 = some 0
      ∧ (∀ q, q < 8 → s0.inPart q 0 = true → q = 0) ∧ s0.halted 0 = false ∧ s0.isStopped 0 = false
      ∧ (s0.core 0).fcount = [] ∧ (s0.part 0).domNow.getLsbD 16 = false ∧ (sHard.part 0).domNow.getLsbD 16 = true ∧ sHard.isStopped 0 = false
      ∧ sOver.gang[(0 : Fin 96)] = 0 ∧ (sOver.core 0).active = true ∧ (sOver.core 0).spill = true ∧ (sOver.core 0).st = .running
      ∧ (sOver.core 0).blockFrame.toNat < sOver.frame ∧ sOver.partOf 0 = some 0 ∧ sOver.halted 0 = false ∧ sOver.isStopped 0 = false
      ∧ (sOver.core 0).reg (kSEQ_FAULT) = 0 ∧ (sOver.core 0).faulted = false := by
  decide +kernel

/-- The module with core 0 idle and due for what `k` says. -/
def sIdle (k : Core → Core) : State := mod (k (Core.zero .idle))

theorem wit_UnitsAndGangs :
    ((sIdle (fun k => { k with retire := some (4, 0) })).core 0).st = .idle
      ∧ ((sIdle (fun k => { k with retire := some (4, 0) })).core 0).retire = some (4, 0)
      ∧ ((sIdle (fun k => { k with failPend := true })).core 0).failPend = true
      ∧ (∀ d, d ∈ { s0 with winDue := [100, 200] }.winDue → 100 ≤ d) ∧ (∀ d, d ∈ { s0 with winDue := [200, 300] }.winDue → 200 ≤ d)
      ∧ mapFind { s0 with gangPend := [(7, true)] }.gangPend 7 = some true ∧ { s0 with gangPend := [(7, true)] }.mapOk 7 true = true
      ∧ { s0 with gangPend := [(0, false)] }.mapOk 0 false = true := by
  decide +kernel

/-- Partition 0 is to move from cluster 0 to cluster 7. -/
def sCfg : State := { ((sIdle id).setReg (rPART_STATUS 0) 0x101).setReg (rPART_CFG 0) 0x180 with winDue := [300] }

/-- The same with a staged partition that takes partition 1's cluster, with a running core, and with a cluster that awaits its scrub. -/
def sCfgs : List State :=
  [sCfg.setReg (rPART_STATUS 1) 0x80, sCfg.modCore 0 (fun k => { k with st := .running }), sCfg.modPart 0 (fun q => { q with scrubCl := [7] })]

theorem wit_ConfigurationChanges :
    sCfg.bit (rPART_STATUS 0) 8 = true ∧ cfgClusters (sCfg.reg (rPART_CFG 0)) = 0x80
      ∧ (∀ q, q < 8 → q ≠ 0 → sCfg.clusters q &&& 0x80 = 0)
      ∧ (∀ k, k < 8 → ∀ j, j < 12 → (sCfg.clusters 0).testBit k ≠ (0x80 : Nat).testBit k → (sCfg.core (coreOf (12 * k + j))).st.movable = true)
      ∧ (∀ q, q < 8 → (sCfg.part q).scrubCl = []) ∧ (∀ s, s ∈ sCfgs → s.bit (rPART_STATUS 0) 8 = true)
      ∧ (sCfgs.map (fun s => (decide (s.clusters 1 &&& 0x80 ≠ 0), (s.core 0).st.movable, (s.part 0).scrubCl))) =
        [(true, true, []), (false, false, []), (false, true, [7])]
      ∧ (sIdle id).allIdle 0 = true ∧ { sIdle id with barPend := [191] }.barPend.contains 191 = true
      ∧ ∀ c, ({ sIdle id with barPend := [191] }.core c).st ≠ .running ∧ ({ sIdle id with barPend := [191] }.core c).st ≠ .waiting := by
  decide +kernel

theorem wit_WaitsAndReleases :
    (0 : Fin 96) ∈ (mod { kRun with active := false }).between
      ∧ { s0 with barCfg := [(191, 0x8001)], barCap := [(191, 1)] }.roundDone 191 = true
      ∧ ({ s0 with barCfg := [(191, 0x8001)], barCap := [(191, 1)] }.barNow 191).getLsbD 16 = false := by
  decide +kernel

/-- The module whose partition 0 has been quiet for its window. -/
def sQt : State := s0.modPart 0 (fun q => { q with quiet := s0.fld (rPART_DLWIN 0) 15 0 })

theorem wit_DeadlockDetection :
    sQt.fld (rPART_DLWIN 0) 15 0 ≤ (sQt.part 0).quiet ∧ sQt.isStopped 0 = false ∧ sQt.inPart 0 11 = true
      ∧ (sQt.core 11).st.inService = true ∧ sQt.inPart 0 12 = false := by
  decide +kernel

/-- Partition 0 in a domain of several modules with lag 1, of two members. -/
def sLate : State := (s0.modPart 0 (fun q => { q with domNow := 0x21000 })).setReg (rCHC_DOMCFG 0) 0x200

/-- The module with core 0 after EXIT, in a launch of its partition that names it. -/
def sExit : State :=
  (mod { kRun with exiting := true }).modPart 0 (fun q => { q with launches := [⟨0, 0, 0, [0], false, 0, 0, none⟩] })

theorem wit_IssueDecisions :
    s0.gang[(0 : Fin 96)] = 0 ∧ s0.inPart 0 0 = true ∧ (∀ q, q < 8 → s0.inPart q 0 = true → q = 0) ∧ (s0.core 0).st = .running
      ∧ (s0.core 0).launch.isSome = true ∧ (sLate.part 0).domNow.getLsbD 17 = true ∧ (sLate.part 0).lag = sLate.frame + 1
      ∧ ((sLate.part 0).notices.filter (fun n => n.1 = sLate.frame + 1 - (sLate.part 0).lag)).length < sLate.fld (rCHC_DOMCFG 0) 20 8 - 1
      ∧ (sLate.part 0).forced = [] ∧ (sExit.core 0).exiting = true ∧ (sExit.core 0).st = .running ∧ sExit.gang[(0 : Fin 96)] = 0
      ∧ (∀ m, m ∈ sExit.members 0 → sExit.inFlight m = false) ∧ sExit.partOf 0 = some 0
      ∧ (sExit.part 0).launches = [⟨0, 0, 0, [0], false, 0, 0, none⟩] := by
  decide +kernel


/-! ## Launches and the loss watch -/

/-- A descriptor for the gang of core 0: an image of 64 lines, entered at bundle 2,047. -/
def desc0 : List Byte := leBytes 4 0 ++ leBytes 4 (64 + 2 ^ 7 * 2047) ++ List.replicate 248 0

/-- Ring 3 of partition 0, of two entries, with one descriptor at 20000h and its count at 10000h. -/
def sRing : State :=
  { ((((mapped (Core.zero .idle)).setReg (rPART_RCFG 0 3) 0x80000001).setReg (rPART_PADDR 0 3) 0x10000).setReg (rPART_RBASE 0 3) 0x20000) with
    hbm := ((mapped (Core.zero .idle)).hbm.putN (hbmKey (placeR225 0x10000)) (leBytes 8 1)).putN (hbmKey (placeR225 0x20000)) desc0 }

/-- The same state at the cycle of the launches. -/
def sRingU : State := { sRing with cycle := sRing.winCy 1290 }

theorem wit_LaunchStarts :
    sRing.winDue = [] ∧ sRing.samples 0 = true ∧ (∀ q, q < 8 → q ≠ 0 → sRing.samples q = false)
      ∧ (sRing.part 0).launches = [] ∧ (sRing.part 0).reports = []
      ∧ sRing.isStopped 0 = false ∧ sRing.bit (rPART_WCTRL 0) 0 = false ∧ sRing.bit (rPART_RCFG 0 3) 31 = true
      ∧ (∀ r', r' < 4 → r' ≠ 3 → sRing.bit (rPART_RCFG 0 r') 31 = false)
      ∧ sRingU.cpRead 0 (sRing.reg64 (rPART_PADDR 0 3)) 8 = (sRingU, .ok (leBytes 8 1) false 0x10000)
      ∧ leNat (leBytes 8 1) = (sRing.ring 0 3).t + 1 ∧ leNat (leBytes 8 1) - (sRing.ring 0 3).d ≤ 2 ^ sRing.fld (rPART_RCFG 0 3) 3 0
      ∧ sRingU.cpRead 0 (sRing.reg64 (rPART_RBASE 0 3) + 256 * ((sRing.ring 0 3).t % 2 ^ sRing.fld (rPART_RCFG 0 3) 3 0)) 256 =
        (sRingU, .ok desc0 false 0x20000)
      ∧ sRing.refusedDesc 0 desc0 = false ∧ ∀ c, c ∈ sRing.targets (imgF desc0 0 4) → (sRing.core c).st = .idle := by
  have hc : sRingU.clean := by unfold State.clean; decide +kernel
  have hp : sRingU.hbmPois = [] := by decide +kernel
  iterate 9 refine ⟨by decide +kernel, ?_⟩
  refine ⟨?_, by decide +kernel, by decide +kernel, ?_, by decide +kernel⟩
  · rw [State.cpRead_clean sRingU 0 _ 8 ((List.range 8).map (0x10000 + ·)) hc hp (by decide +kernel) (by decide +kernel)]
    exact congrArg (Prod.mk sRingU) (by decide +kernel)
  · rw [State.cpRead_clean sRingU 0 _ 256 ((List.range 256).map (0x20000 + ·)) hc hp (by decide +kernel) (by decide +kernel)]
    exact congrArg (Prod.mk sRingU) (by decide +kernel)

/-- A loss record: step and loss. -/
def loss0 (step loss : Nat) : List Byte := leBytes 8 step ++ leBytes 4 loss ++ List.replicate 20 0

theorem wit_LossWatch :
    ((s0.modPart 7 (fun q => { q with wread := some (.got (loss0 0 0) true) })).part 7).wread = some (.got (loss0 0 0) true)
      ∧ ((s0.modPart 7 (fun q => { q with wread := some (.got (loss0 1 0x3F800000) false) })).part 7).wread =
        some (.got (loss0 1 0x3F800000) false)
      ∧ s0.reg64 (rPART_WLAST 7) < imgF (loss0 1 0x3F800000) 0 8 ∧ s0.reg (rPART_WCOUNT 7) = 0
      ∧ (fdecode .fp32 (imgF (loss0 1 0x3F800000) 8 4)).isFin = true ∧ imgF (loss0 0 0) 0 8 = s0.reg64 (rPART_WLAST 7)
      ∧ imgF (loss0 0 0) 0 8 < (s0.setReg (rPART_WLAST 7) 1).reg64 (rPART_WLAST 7) := by
  decide +kernel

/-! ## Bushels and the Chain -/

theorem next_of {s : State} {x : InMsg} (h : s.inbox = [x]) : s.nextMsg 0 x := by
  refine ⟨by rw [h]; rfl, ?_⟩
  intro y hy
  simp [h] at hy

/-- A command record: control word, blocks, the rest from byte 8. -/
def recB (ctrl nb : Nat) (rest : List Byte) : BRec := ⟨0, 0, leBytes 4 ctrl ++ leBytes 4 nb ++ rest⟩

/-- The running module with record r in the queue of Bushel n and a private region of partition 0 at the start of stack n. -/
def sRec (n : Fin 12) (r : BRec) : State :=
  ({ mapped kRun with bushels := (Vector.replicate 12 Bushel.zero).set n.val { Bushel.zero with queue := [r] } n.isLt }).setReg
    (rBSH_PRIVLEN n.val 0) 1

/-- The OPEN of a one-block job of rule 0 whose weights lie at 0, state at 80h, and completion record at 1000h. -/
def recOpen : BRec :=
  recB 0xF04 1 (leBytes 8 0 ++ leBytes 8 0x80 ++ leBytes 8 0 ++ leBytes 8 0 ++ leBytes 4 1 ++ leBytes 4 0 ++ leBytes 8 0 ++ leBytes 8 0x1000)

/-- `sRec` with job 15 loaded and the first GiB mapped onto the second, whose first unit lies on stack 9. -/
def sOpen : State :=
  ({ sRec 9 recOpen with hbm := ⟨0, [(0, 1), (1, 0x10), (5 * 2 ^ 37 + 256, 15), (5 * 2 ^ 37 + 259, 0x40)]⟩ }).setJob 9 15
    { Job.zero with st := .loaded }

/-- What `sOpen`'s OPEN describes, and its translations. -/
def jOpen : Job := recOpen.job (sOpen.job 9 15) (sOpen.reg64 (rPART_SRKEY 0))
def pOpen : State × Xlate × List (Nat × Nat) :=
  sOpen.openPages 0 [] ((pagesOf jOpen.pbase (jOpen.wlen * jOpen.nb) ++ pagesOf jOpen.sbase jOpen.slen).map (fun v => (v, true))
      ++ (pagesOf jOpen.cbase 64).map (fun v => (v, false)))

/-- No core of `sRec` holds a record, and record r heads its queue. -/
def runsB (s : State) (n : Nat) (r : BRec) (op : Nat) : Bool :=
  decide ((s.bsh n).queue = [r] ∧ r.ctrl 7 0 = op) && !r.badField && allCores.all (fun c => (s.core c).bq.isEmpty)

theorem runs_of {s : State} {n op : Nat} {r : BRec} (h : runsB s n r op = true) : s.runs n r [] op := by
  simp only [runsB, Bool.and_eq_true, decide_eq_true_eq, Bool.not_eq_true', List.all_eq_true, List.isEmpty_iff] at h
  refine ⟨h.1.1.1, h.1.1.2, h.1.2, fun c x hx => ?_⟩
  rw [h.2 c (List.mem_finRange c)] at hx
  exact absurd hx (List.not_mem_nil)

theorem wit_BushelCommands :
    (∀ r, r ∈ [(recB 1 16384 (List.replicate 56 0), 1), (recB 2 1 (List.replicate 56 0), 2), (recB 0xF03 0 (List.replicate 56 0), 3)] →
      (sRec 11 r.1).runs 11 r.1 [] r.2)
    ∧ ((sRec 11 (recB 0xF05 0 (List.replicate 56 0))).setJob 11 15 { Job.zero with st := .opened }).runs 11
        (recB 0xF05 0 (List.replicate 56 0)) [] 5
    ∧ sOpen.runs 9 recOpen [] 4 := by
  refine ⟨fun r hr => runs_of ?_, runs_of (by decide +kernel), runs_of (by decide +kernel)⟩
  revert r
  decide +kernel

theorem wit_BushelCommands_operands :
    (sRec 11 (recB 1 16384 (List.replicate 56 0))).inRegion 0 11 0 (128 * 16384) = true
      ∧ (sRec 11 (recB 2 1 (List.replicate 56 0))).inRegion 0 11 0 128 = true
      ∧ (sRec 11 (recB 2 1 (List.replicate 56 0))).chainReach 0 0 = true
      ∧ ((sRec 11 (recB 0xF03 0 (List.replicate 56 0))).job 11 15).st = .free
      ∧ (((sRec 11 (recB 0xF05 0 (List.replicate 56 0))).setJob 11 15 { Job.zero with st := .opened }).job 11 15).st = .opened
      ∧ sOpen.damage = [] ∧ sOpen.memLines = [] ∧ sOpen.hostLines = []
      ∧ (sOpen.job 9 15).st = .loaded ∧ jOpen.lcore < 96 ∧ sOpen.inPart 0 (coreOf jOpen.lcore) = true
      ∧ pOpen.2.1 = .ok 0 ∧ sOpen.onStack 9 { jOpen with pages := pOpen.2.2 } jOpen.pbase (jOpen.wlen * jOpen.nb) = true
      ∧ sOpen.onStack 9 { jOpen with pages := pOpen.2.2 } jOpen.sbase jOpen.slen = true
      ∧ sOpen.inRegion 0 9 jOpen.abase (128 * jOpen.nb) = true ∧ jOpen.nb = 1 ∧ jOpen.rule = 0 := by
  decide +kernel

/-- A message for this module from node 1. -/
def mg (typ sub w3 w4 : Nat) (data : List Byte) : Msg := ⟨typ, sub, false, false, 0, 1, 0, 0, 0, 7, 0, 31, w3, w4, data⟩

/-- A job of one block at Bushel 11, slot 15. -/
def job0 (st : JobSt) : Job := { Job.zero with st := st, nb := 1, ranks := 4096 }

/-- The running module that serves domain 0, with job 15 of Bushel 11 as given and message m arrived by port 11. -/
def sIn (x : Job) (m : Msg) : State :=
  { ((mapped kRun).setReg (rCHC_PRIGHTS 0) 0x10000).setJob 11 15 x with inbox := [⟨some 11, m.vcOf, false, m⟩] }

/-- A set of which one block has come. -/
def set0 : RxSet := ⟨(1, 0, 0), 1, false⟩

/-- A parameter block for the last 128 bytes of the mapped GiB, of a set of two, whose tracker is Bushel 11. -/
def mgP : Msg := mg 6 0 (2 ^ 9 * 11) (2 * 2 ^ 32 + 0x3FFFFF80 * 2 ^ 64) (List.replicate 128 1)

theorem wit_BushelJobs :
    (∀ st, st ∈ [JobSt.updating, .opened] → (sIn { job0 st with ranks := 0 } mgP).job 11 15 = { job0 st with ranks := 0 }
        ∧ ({ job0 st with ranks := 0 }).complete 0 = true ∧ (({ job0 st with ranks := 0 }).block 0).updated = false)
      ∧ ((sIn { job0 .updating with nupd := 1, cbase := 64 } mgP).job 11 15).nupd = 1
      ∧ (∀ i, i < 64 → (sIn { job0 .updating with nupd := 1, cbase := 64 } mgP).locate
          (({ job0 .updating with nupd := 1, cbase := 64 } : Job).phys (64 + i)) = .hbm (64 + i))
      ∧ (sIn (job0 .free) mgP).nextMsg 0 ⟨some 11, mgP.vcOf, false, mgP⟩ ∧ (sIn (job0 .free) mgP).server 0 = some 0
      ∧ mgP.f4 24 8 + mgP.f4 16 4 * mgP.data.length = 0x3FFFFF80
      ∧ ((sIn (job0 .free) mgP).translateN 0 0x3FFFFF80 128 true).2 = .ok ((List.range 128).map (0x3FFFFF80 + ·))
      ∧ ((List.range 128).map (0x3FFFFF80 + ·)).map (sIn (job0 .free) mgP).locate =
        ((List.range 128).map (hbmKey (placeR225 0x3FFFFF80) + ·)).map Loc.hbm
      ∧ ((List.range 128).map (hbmKey (placeR225 0x3FFFFF80) + ·)).Nodup
      ∧ (((sIn (job0 .free) mgP).modBsh 11 (fun b => { b with sets := [set0] })).bsh (mgP.f3 12 9)).sets.find?
          (fun y => y.key = (mgP.src, mgP.f3 3 0, mgP.f3 7 4)) = some set0 :=
  ⟨by decide +kernel, by decide +kernel, by decide +kernel, next_of rfl, by decide +kernel, by decide +kernel, by decide +kernel,
    by decide +kernel, List.nodup_range.map (fun _ _ h => by simpa using h), by decide +kernel⟩

/-- A message in transit for node 5, whose route is port 11. -/
def sTr (ttl : Nat) (mc : Bool) : State :=
  { ((s0.setReg (rCHC_ROUTE 0) 0x00B00000).setReg (rCH_STATUS 11) 3).setReg (rCHC_MCGRP 5) 0x800 with
    inbox := [⟨some 0, 2, true, { mg 1 0 0 0 [] with dst := 5, ttl := ttl, mcast := mc }⟩] }

/-- A WRITE and a READ of the last 256 bytes of the mapped GiB, a SIGNAL and a contribution. -/
def mgW : Msg := mg 1 0 0 0x3FFFFF00 (List.replicate 256 1)
def mgR : Msg := mg 2 0 16 0x3FFFFF00 []
def mgS : Msg := mg 3 0 1 (11 + 2 ^ 8 * 63) []
def mgC : Msg := mg 5 0 (11 + 2 ^ 4 * 15 + 2 ^ 8 * 4095) 0 (List.replicate 128 0)

theorem wit_RequestsServed :
    (∀ m, (sIn (job0 .opened) m).nextMsg 0 ⟨some 11, m.vcOf, false, m⟩)
      ∧ ((List.range 256).map (hbmKey (placeR225 0x3FFFFF00) + ·)).Nodup
      ∧ ∀ e, e ∈ [(1, false), (2, false), (2, true)] → (sTr e.1 e.2).nextMsg 0
          ⟨some 0, 2, true, { mg 1 0 0 0 [] with dst := 5, ttl := e.1, mcast := e.2 }⟩ :=
  ⟨fun _ => next_of rfl, List.nodup_range.map (fun _ _ h => by simpa using h), fun _ _ => next_of rfl⟩

theorem wit_RequestsServed_operands :
    (∀ m, m ∈ [mgW, mgR, mgS, mgC] → (sIn (job0 .opened) m).server m.dom = some 0 ∧ (sIn (job0 .opened) m).damage = []
        ∧ (sIn (job0 .opened) m).memLines = [] ∧ (sIn (job0 .opened) m).hostLines = [])
      ∧ (∀ w, w ∈ [true, false] →
        ((sIn (job0 .opened) (if w then mgW else mgR)).translateN 0 0x3FFFFF00 256 w).2 = .ok ((List.range 256).map (0x3FFFFF00 + ·)))
      ∧ mgR.f4 16 8 = 0x3FFFFF00 ∧ 16 * mgR.f3 4 0 = 256 ∧ mgW.f4 16 8 = 0x3FFFFF00
      ∧ ((List.range 256).map (0x3FFFFF00 + ·)).map (sIn (job0 .opened) mgW).locate =
        ((List.range 256).map (hbmKey (placeR225 0x3FFFFF00) + ·)).map Loc.hbm
      ∧ bitsOf 6 0 mgS.w4 = 11 ∧ (sIn (job0 .opened) mgS).inPart 0 11 = true ∧ mgC.f3 3 0 = 11 ∧ mgC.f3 7 4 = 15 ∧ mgC.f3 19 8 = 4095
      ∧ (sIn (job0 .opened) mgC).job 11 15 = job0 .opened ∧ (job0 .opened).takes 0 4095 = true
      ∧ (sTr 2 false).route 5 = 11 ∧ (sTr 2 false).portUp 11 = true := by
  decide +kernel

/-- A request of core 0 of its operation 9. -/
def rq (kd : ReqKind) : ChReq := ⟨7, kd, 0, 9, 0xBFFFC0, 64, 1, 0⟩

/-- Core 0 awaiting n responses of its operation 9, and an answer. -/
def sAns (kd : ReqKind) (n : Nat) (m : Msg) : State :=
  { mod { kRun with chq := [⟨9, 0, true, 63, n⟩] } with reqs := [rq kd], inbox := [⟨some 11, 3, false, m⟩] }

theorem wit_RequestsAnswered :
    (∀ e, e ∈ [(ReqKind.write, 1), (.read, 2), (.contrib, 5)] → ∀ n, n ∈ [1, 2] →
      (sAns e.1 n (mg e.2 1 0 0 (List.replicate 64 1))).reqOf (mg e.2 1 0 0 (List.replicate 64 1)) e.1 = some (rq e.1)
      ∧ ((sAns e.1 n (mg e.2 1 0 0 (List.replicate 64 1))).core 0).chq.find? (fun y => y.uid = 9) = some ⟨9, 0, true, 63, n⟩
      ∧ ((sAns e.1 n (mg e.2 1 0 0 (List.replicate 64 1))).core 0).held = [])
      ∧ (sAns .contrib 1 (mg 5 2 5 0 [])).reqOf (mg 5 2 5 0 []) .contrib = some (rq .contrib)
      ∧ ∀ kd n m, (sAns kd n m).nextMsg 0 ⟨some 11, 3, false, m⟩ :=
  ⟨by decide +kernel, by decide +kernel, fun _ _ _ => next_of rfl⟩

theorem wit_RequestsFailed :
    (∀ e, e ∈ [(ReqKind.write, 1), (.read, 2)] → (sAns e.1 1 (mg e.2 2 2 0 [])).partOf 0 = some 0 ∧ (sAns e.1 1 (mg e.2 2 2 0 [])).isStopped 0 = false
        ∧ ((sAns e.1 1 (mg e.2 2 2 0 [])).core 0).st = .running ∧ (sAns e.1 1 (mg e.2 2 2 0 [])).reg (rCHC_PFAULT 0) = 0
        ∧ (sAns e.1 1 (mg e.2 2 2 0 [])).reqOf (mg e.2 2 2 0 []) e.1 = some (rq e.1))
      ∧ (mg 3 2 4 0 []).agent = 0
      ∧ ((sAns .write 1 (mg 1 1 0 0 [])).setReg (rTIME_FRAME) (BitVec.ofNat 32 (s0.fld (rCHC_RTIMEOUT) 15 0))).reqs.find? (fun r => r.tag = 7 &&
          decide (((sAns .write 1 (mg 1 1 0 0 [])).setReg (rTIME_FRAME) (BitVec.ofNat 32 (s0.fld (rCHC_RTIMEOUT) 15 0))).frame ≥ r.frame
            + ((sAns .write 1 (mg 1 1 0 0 [])).setReg (rTIME_FRAME) (BitVec.ofNat 32 (s0.fld (rCHC_RTIMEOUT) 15 0))).fld (rCHC_RTIMEOUT) 15 0)) =
        some (rq .write)
      ∧ ({ s0.setReg (rCHC_RTIMEOUT) 0 with reqs := [{ rq .contrib with agent := 96 }] }).reqs.find? (fun r => r.tag = 7 &&
          decide ((s0.setReg (rCHC_RTIMEOUT) 0).frame ≥ r.frame + (s0.setReg (rCHC_RTIMEOUT) 0).fld (rCHC_RTIMEOUT) 15 0)) =
        some { rq .contrib with agent := 96 } := by
  decide +kernel

/-! ## Ports, time and pod barriers -/

/-- The running module with port 11 in state `st`, holding `x`. -/
def sPort (st : Word32) (x : Port) : State :=
  { (s0.setReg (rCH_STATUS 11) st).setReg (rCH_CTRL 11) 1 with ports := s0.ports.set 11 x }

theorem wit_PortTraining :
    (∀ st, st < 5 → (sPort (BitVec.ofNat 32 st) Port.zero).portSt 11 = st ∧ (sPort (BitVec.ofNat 32 st) Port.zero).bit (rCH_CTRL 11) 0 = true
        ∧ (sPort (BitVec.ofNat 32 st) Port.zero).fld (rRST_STATUS) 5 4 < 2)
      ∧ ((sPort 2 { Port.zero with hello := true }).port 11).hello = true ∧ (5 ≠ (sPort 2 Port.zero).node ∧ 0 = (sPort 2 Port.zero).node)
      ∧ (∀ n, n ∈ [16, 17] → 16 ≤ ((sPort 3 { Port.zero with replays := n }).port 11).replays
        ∧ (sPort 3 { Port.zero with replays := n }).portUp 11 = true)
      ∧ ((sPort 1 { Port.zero with leftUp := true }).port 11).leftUp = true ∧ (sPort 1 { Port.zero with leftUp := true }).portUp 11 = false
      ∧ ((sPort 3 { Port.zero with starve := #v[0, 0, 1000, 7] }).port 11).starve[(2 : Fin 4)] = 1000 := by
  decide +kernel

/-- A flit whose CRC field holds v: 252 bytes of header, body and FIRST, then v. -/
def flitV (h : Nat) (body : Vector Byte 240) (v : Nat) : List Byte := leBytes 8 h ++ body.toList ++ leBytes 4 15 ++ leBytes 4 v

/-- The CRC of `flitV`'s first 252 bytes. -/
def flitC (h : Nat) (body : Vector Byte 240) : Nat := (crc32 (leBytes 8 h ++ body.toList ++ leBytes 4 15)).toNat

theorem flitV_ok (h v : Nat) (y : Vector Byte 240) : (flitV h y v).length = 256
    ∧ (crc32 ((flitV h y v).take 252)).toNat = flitC h y
    ∧ leNat ((flitV h y v).drop 252) = v % 2 ^ 32 ∧ leNat ((flitV h y v).take 8) = h % 2 ^ 64 := by
  have hl : (leBytes 8 h ++ y.toList ++ leBytes 4 15).length = 252 := by
    rw [List.length_append, List.length_append, leBytes_length, leBytes_length, Vector.length_toList]
  refine ⟨?_, ?_, ?_, ?_⟩
  · rw [flitV, List.length_append, hl, leBytes_length]
  · rw [flitV, List.take_left' hl]; rfl
  · rw [flitV, List.drop_left' hl, leNat_leBytes]; norm_num
  · rw [flitV, List.append_assoc, List.append_assoc, List.take_left' (leBytes_length 8 h), leNat_leBytes]; norm_num

/-- Bodies: empty, and a link tick of one unit. -/
def y0 : Vector Byte 240 := Vector.replicate 240 0
def yT : Vector Byte 240 := (y0.set 0 7).set 7 1

/-- Port 11 UP, flit 4095 next in and `q` to be sent again. -/
def sUp (q : List TxFlit) (next : Nat) (o : List OutMsg) : State :=
  sPort 3 { Port.zero with seqRx := 4095, seqTx := 4095, replay := q, next := next, outq := o }

theorem wit_FlitsInAndOut :
    (∀ q n o, (sUp q n o).portUp 11 = true)
      ∧ ((flitV 0 y0 (flitC 0 y0 + 1)).length = 256
        ∧ (crc32 ((flitV 0 y0 (flitC 0 y0 + 1)).take 252)).toNat ≠ leNat ((flitV 0 y0 (flitC 0 y0 + 1)).drop 252))
      ∧ ∀ n y k, (n = 4095 ∨ n = 0) ∧ k = 0 ∨ n = 2 ^ 29 ∧ k = 2 → (flitV n y (flitC n y)).length = 256
        ∧ (crc32 ((flitV n y (flitC n y)).take 252)).toNat = leNat ((flitV n y (flitC n y)).drop 252)
        ∧ bitsOf 29 28 (leNat ((flitV n y (flitC n y)).take 8)) = k ∧ bitsOf 11 0 (leNat ((flitV n y (flitC n y)).take 8)) = n % 2 ^ 29 := by
  have hc : ∀ h y, flitC h y < 2 ^ 32 := fun h y => BitVec.isLt _
  refine ⟨fun q n o => ?_, ⟨(flitV_ok _ _ _).1, ?_⟩, fun n y k hn => ⟨(flitV_ok _ _ _).1, ?_, ?_⟩⟩
  · exact show (sPort 3 Port.zero).portUp 11 = true by decide +kernel
  · rw [(flitV_ok _ _ _).2.1, (flitV_ok _ _ _).2.2.1]
    have := hc 0 y0
    omega
  · rw [(flitV_ok _ _ _).2.1, (flitV_ok _ _ _).2.2.1, Nat.mod_eq_of_lt (hc n y)]
  · rw [(flitV_ok _ _ _).2.2.2]
    rcases hn with ⟨rfl | rfl, rfl⟩ | ⟨rfl, rfl⟩ <;> decide +kernel

theorem wit_FlitsInAndOut_out :
    ((sUp [] 0 []).port 11).seqRx = 4095 ∧ ((sUp [] 0 []).port 11).naked = false
      ∧ ((sUp [⟨4094, 0, 15, [], 0⟩] 0 []).port 11).replay[((sUp [⟨4094, 0, 15, [], 0⟩] 0 []).port 11).next]? = some ⟨4094, 0, 15, [], 0⟩
      ∧ (∀ n, n ∈ [0, 48 * 15, 48 * 16] →
        ((sUp [⟨4094, 0, 15, [], 0⟩] 1 [⟨3, 12, mg 1 1 0 0 []⟩]).port 11).eligible 3
          (if (sUp [] 0 []).slotOffered (n / 48) then mapGet 0 ((sUp [] 0 []).port 11).slots (n / 48) else 0) = true)
      ∧ ((sUp [⟨4094, 0, 15, [], 0⟩] 1 []).port 11).replay[((sUp [⟨4094, 0, 15, [], 0⟩] 1 []).port 11).next]? = none
      ∧ ((sUp [⟨4094, 0, 15, [], 0⟩] 1 []).port 11).replay.length < 1600
      ∧ ∀ v, v ∈ [0, 1, 3, 2] → ((sUp [] 0 []).port 11).eligible v 0 = false := by
  decide +kernel

theorem wit_FlitsInAndOut_tick : ∀ y, y ∈ [(y0, 0), (yT, 7)] → leNat (((flitV (2 ^ 29) y.1 0).drop 8).take 1) % 64 = y.2
    ∧ leNat (((flitV (2 ^ 29) y.1 0).drop 15).take 1) % 32 = y.2 / 7 := by
  decide +kernel

/-- A link tick of frame 9 that echoes frame 3. -/
def mgT : Msg := mg 7 0 1 (2 ^ 16 * 9) (leBytes 4 3 ++ leBytes 4 1000 ++ leBytes 4 0 ++ leBytes 4 0)

/-- A module of role `role`, steered through port 11, in `st`. -/
def sRole (role : Word32) (st : Word32) : State :=
  { ((sPort st { Port.zero with tickTx := [(3, 500)], tickIn := [(3, 700, 40)] }).setReg (rTIME_CTRL) (role ||| 0x1B0)) with
    cores := Vector.replicate 96 (Core.zero .idle), lockRun := 256, inbox := [⟨some 11, 0, false, mgT⟩] }

theorem wit_PodTime :
    (∀ st, (sRole 2 st).inbox[0]? = some ⟨some 11, 0, false, mgT⟩) ∧ mgT.isLinkTick = true
      ∧ ((sRole 2 3).port 11).tickTx.find? (fun e => e.1 % 2 ^ 32 = leNat (mgT.data.take 4)) = some (3, 500)
      ∧ ((sRole 2 3).port 11).tickIn.find? (fun e => e.1 % 2 ^ 32 = leNat (mgT.data.take 4)) = some (3, 700, 40)
      ∧ (∀ r, r ∈ [2, 3] → (sRole (BitVec.ofNat 32 r) 3).fld (rTIME_CTRL) 1 0 = r ∧ 256 ≤ (sRole (BitVec.ofNat 32 r) 3).lockRun)
      ∧ (sRole 2 3).phase = .run ∧ (sRole 2 3).bit (rTIME_CTRL) 8 = true ∧ (∀ c, ((sRole 2 3).core c).st = .idle)
      ∧ ((sRole 2 3).port ((sRole 2 3).fld (rTIME_CTRL) 7 4)).tickIn.getLast? = some (3, 700, 40)
      ∧ (sRole 3 3).frame = (sRole 3 3).lockFrame ∧ (sRole 3 3).lockRun ≠ 0
      ∧ { sRole 3 3 with lockFrame := 7 }.frame ≠ 7 ∧ ((sRole 3 3).setReg (rTIME_FRAME) 1).frame = (sRole 3 3).lockFrame + 1
      ∧ (sRole 2 1).portUp ((sRole 2 1).fld (rTIME_CTRL) 7 4) = false := by
  refine ⟨fun _ => rfl, ?_⟩
  decide +kernel

/-- A notice of node 1, a pod-barrier arrival and release of barrier 63, round 65,535. -/
def mgN (w3 : Nat) : Msg := { mg 7 1 w3 (2 ^ 16 * 50) [] with dom := 5 }
def mgB (sub : Nat) : Msg := { mg 4 sub (63 + 2 ^ 16 * 65535) (2 ^ 16 * 50) [] with dom := 5 }

/-- Partition 0 in domain 5; barrier 63 spans two modules, this one its home, in round 65,535, with n modules arrived; m has come. -/
def sPod (n : Word32) (rel : List (Nat × Nat × Nat)) (m : Msg) : State :=
  { ((s0.setReg (rGLB_BARPOD 63) 0x2F000).setReg (rGLB_BARPCUR 63) n).setReg (rCHC_DOMCFG 0) 0x200 with
    parts := s0.parts.set 0 { (Part.start 0) with cfgNow := 0x101, domNow := 0x20005 }, barCfg := [(191, 0x18000)],
    rounds := [(191, 65535)], podRel := rel, inbox := [⟨some 11, 1, false, m⟩] }

theorem wit_PodBarriers :
    (∀ w, (List.range 8).find? (fun q => ((sPod 0 [] (mgN w)).part q).domNow.getLsbD 17 && (sPod 0 [] (mgN w)).domId q = (mgN w).dom) = some 0)
      ∧ (mgN 3).src ≠ (sPod 0 [] (mgN 3)).node ∧ 1 < (sPod 0 [] (mgN 3)).fld (rCHC_DOMCFG 0) 20 8
      ∧ (∀ w, w ∈ [0, 1, 3] → ((sPod 0 [] (mgN w)).part 0).notices.contains ((mgN w).f4 16 8, (mgN w).src) = false)
      ∧ (∀ b, b ∈ [0, 1] → (mgB b).f3 5 0 = 63 ∧ (sPod 1 [] (mgB b)).isPod 63 = true
        ∧ (sPod 1 [] (mgB b)).domId ((sPod 1 [] (mgB b)).barPart 63) = (mgB b).dom)
      ∧ ((sPod 1 [] (mgB 0)).fld (rGLB_BARPOD 63) 11 0 = (sPod 1 [] (mgB 0)).node
        ∧ (mgB 0).f3 31 16 = mapGet 0 (sPod 1 [] (mgB 0)).rounds (128 + 63) % 65536)
      ∧ (sPod 1 [] (mgB 1)).frame < (mgB 1).f4 16 8
      ∧ ((sPod 2 [] mgT).fld (rGLB_BARPOD 63) 28 16 = 2 ∧ (sPod 2 [] mgT).fld (rGLB_BARPCUR 63) 12 0 = 2)
      ∧ ((63, 0, 65535) ∈ (sPod 2 [(63, 0, 65535)] mgT).podRel ∧ 0 ≤ (sPod 2 [(63, 0, 65535)] mgT).frame)
      ∧ ∀ n r m, (sPod n r m).nextMsg 0 ⟨some 11, 1, false, m⟩ := by
  refine ⟨fun w => ?_, ?_⟩
  rotate_left
  · iterate 8 refine ⟨by decide +kernel, ?_⟩
    exact fun _ _ _ => next_of rfl
  exact show (List.range 8).find? (fun q => ((sPod 0 [] mgT).part q).domNow.getLsbD 17 && (sPod 0 [] mgT).domId q = 5) = some 0 by
    decide +kernel

/-! ## Registers, resets and start-up -/

def writableB (s : State) (r : Fin 10) (o : Nat) : Bool := s.reach r o true && !s.lockRefuses r o

theorem writable_ofB {s : State} {r : Fin 10} {o : Nat} (h : writableB s r o = true) : s.writable r o := by
  simpa [writableB, State.writable] using h

def acceptsB (s : State) (r : Fin 10) (o v g : Nat) : Bool :=
  writableB s r o && decide ((s.reg o ^^^ BitVec.ofNat 32 v) &&& BitVec.ofNat 32 g ≠ 0)

theorem accepts_ofB {s : State} {r : Fin 10} {o v g : Nat} (h : acceptsB s r o v g = true) :
    s.accepts r o (BitVec.ofNat 32 v) (BitVec.ofNat 32 g) := by
  simp only [acceptsB, writableB, Bool.and_eq_true, Bool.not_eq_true', decide_eq_true_eq] at h
  exact ⟨h.1.1, h.1.2, h.2⟩

/-- The running module with its CXL link up, eight VFs and the first GiB of partition 0 mapped, compute idle but for core 0. -/
def sHost : State := { (mapped kRun).setReg (rCXL_LINK) 0x741 with vfs := 8 }

/-- The same with compute idle. -/
def sQuiet : State := { sHost with cores := Vector.replicate 96 (Core.zero .idle) }

/-- Ring 3 of partition 0, its descriptors' address at the end of the mapped GiB. -/
def sRingE : State := sHost.setReg (rPART_DADDR 0 3) 0x3FFFFFF8

theorem wit_RegisterAccesses :
    (∀ r, sHost.online r = true) ∧ (aligned 2 4 = false ∧ aligned 0 3 = false ∧ 3 < 4)
      ∧ (∀ r, r ∈ [(0 : Fin 10), 9] → ∀ p : Fin 8, sHost.writable r (rPART_WTHR p.val) ∧ sHost.reach r (rPART_WSTAT p.val) false = true
        ∧ sHost.writable r (rPART_CTRL p.val))
      ∧ (∀ p : Fin 8, sHost.writable (p.succ.castLE (by decide)) (rPART_WTHR p.val))
      ∧ (∀ r : Fin 10, sHost.reach r (rTIME_FRAME) false = true ∧ sHost.reach r (rTIME_FRAME_HI) false = true)
      ∧ sHost.reach 0 (rERR_HDATA) false = true
      ∧ (sHost.writable 0 (0x10000000 + 0x100000 * 95 + kSCNT_INC 63) ∧ sHost.writable 1 (0x10000000 + kSCNT_INC 0)
        ∧ sHost.fld (rRST_STATUS) 5 4 ≠ 2)
      ∧ (∀ n, n ∈ [4, 16] → (sHost.setReg (rERR_CTRL) (BitVec.ofNat 32 (256 * n))).writable 0 (rERR_CTRL)
        ∧ (sHost.setReg (rERR_CTRL) (BitVec.ofNat 32 (256 * n))).bit (rERR_CTRL) 0 = false
        ∧ (sHost.setReg (rERR_CTRL) (BitVec.ofNat 32 (256 * n))).fld (rERR_CTRL) 12 8 = n)
      ∧ sHost.writable 9 (rERR_LOGC)
      ∧ (sHost.writable 9 (rCHC_SLOT 11 15) ∧ bitsOf 18 16 0xF4FFF1 ≤ 4 ∧ bitsOf 23 20 0xF4FFF1 < 2 ^ bitsOf 18 16 0xF4FFF1)
      ∧ sRingE.writable 0 (rPART_RCFG 0 3) ∧ sRingE.bit (rPART_RCFG 0 3) 31 = false ∧ sRingE.clean
      ∧ (sRingE.translateN 0 (sRingE.reg64 (rPART_DADDR 0 3)) 8 false).2 = .ok ((List.range 8).map (0x3FFFFFF8 + ·))
      ∧ (∀ a, a ∈ (List.range 8).map (0x3FFFFFF8 + ·) → (sRingE.hbmKeyOf a).isSome = true)
      ∧ (sRingE.devReadL ((List.range 8).map (0x3FFFFFF8 + ·))).2.2 = false := by
  have hw : ∀ e, e ∈ ([0, 9].flatMap fun r : Fin 10 => (List.finRange 8).flatMap fun p => [(r, rPART_WTHR p.val), (r, rPART_CTRL p.val)])
      ++ (List.finRange 8).map (fun p => (p.succ.castLE (by decide), rPART_WTHR p.val))
      ++ [(0, 0x10000000 + 0x100000 * 95 + kSCNT_INC 63), (1, 0x10000000 + kSCNT_INC 0), (9, rERR_LOGC), (9, rCHC_SLOT 11 15)] →
      writableB sHost e.1 e.2 = true := by decide +kernel
  have hw' := fun r o h => writable_ofB (hw (r, o) h)
  refine ⟨by decide +kernel, by decide, fun r hr p => ⟨hw' r _ (by fin_cases hr <;> fin_cases p <;> decide), ?_,
    hw' r _ (by fin_cases hr <;> fin_cases p <;> decide)⟩, fun p => hw' _ _ (by fin_cases p <;> decide), by decide +kernel, by decide +kernel,
    ⟨hw' _ _ (by decide), hw' _ _ (by decide), by decide +kernel⟩, fun n hn => ⟨writable_ofB ?_, ?_⟩, hw' _ _ (by decide),
    ⟨hw' _ _ (by decide), by decide⟩, writable_ofB (by decide +kernel), by decide +kernel, ⟨rfl, rfl, rfl⟩, by decide +kernel, by decide +kernel,
    by decide +kernel⟩
  · exact (show ∀ r, r ∈ [(0 : Fin 10), 9] → ∀ p : Fin 8, sHost.reach r (rPART_WSTAT p.val) false = true by decide +kernel) r hr p
  · exact (show ∀ n, n ∈ [4, 16] → writableB (sHost.setReg (rERR_CTRL) (BitVec.ofNat 32 (256 * n))) 0 (rERR_CTRL) = true by
      decide +kernel) n hn
  · exact (show ∀ n, n ∈ [4, 16] → (sHost.setReg (rERR_CTRL) (BitVec.ofNat 32 (256 * n))).bit (rERR_CTRL) 0 = false
      ∧ (sHost.setReg (rERR_CTRL) (BitVec.ofNat 32 (256 * n))).fld (rERR_CTRL) 12 8 = n by decide +kernel) n hn

/-- Ports 10 and 11 of the module: enabled and UP. -/
def sUp2 : State := (((sHost.setReg (rCH_CTRL 11) 1).setReg (rCH_STATUS 11) 3).setReg (rCH_CTRL 10) 1).setReg (rCH_STATUS 10) 0

theorem wit_GuardedWrites :
    (∀ r, r ∈ [(0 : Fin 10), 9] →
      sHost.accepts r (rCH_CTRL 11) 1 3 ∧ sUp2.accepts r (rCH_CTRL 11) 0 3 ∧ sUp2.writable r (rCH_CTRL 11)
      ∧ sHost.accepts r (rCHC_NODEID) 0xFFF 0xFFF ∧ sUp2.accepts r (rCHC_NODEID) 0xFFF 0xFFF
      ∧ sHost.accepts r (rCHC_RSTSEND) 0x80000FFF 0x80000FFF
      ∧ sHost.accepts r (rUCB_cl_GANGCTL 7) 1 3 ∧ sHost.accepts r (rUCB_cl_GANGCTL 7) 3 3
      ∧ sHost.accepts r (rTIME_CTRL) 0xC2 0x1F3 ∧ sHost.accepts r (rTIME_CTRL) 0xB2 0x1F3 ∧ sHost.accepts r (rTIME_CTRL) 0xC3 0x1F3
      ∧ sHost.accepts r (rGLB_SLWIN 15) 0x8000015F 0x80007F7F ∧ sHost.accepts r (rGLB_SLWIN 15) 0x80000160 0x80007F7F
      ∧ sHost.accepts r (rMC_INJCTL 11) 0x8000238D 0x80007FFF
      ∧ sHost.accepts r (rERR_INJARR) 0x800001DF 0x800003FF ∧ sHost.accepts r (rPART_CFG 7) 0x7F80 0x7FFF
      ∧ sHost.accepts r (rDBG_HALT 2) 0x80000000 0xFFFFFFFF
      ∧ (sHost.setReg (rDBG_HALT 2) 0x80000000).accepts r (rDBG_HALT 2) 1 0xFFFFFFFF
      ∧ sHost.accepts r (rSEC_SCRUBCTL) (BitVec.ofNat 32 (1 + 2 ^ 31)) 0x800FFFFF ∧ sHost.writable r (rPWR_MBARG)
      ∧ ∀ e, e ∈ [(1, 0), (2, 255), (3, 1), (4, 2)] → sHost.accepts r (rPWR_MBCMD) (BitVec.ofNat 32 (e.1 + 2 ^ 16 * (e.2 % 256))) 0xFF000F)
      ∧ (sHost.bit (rCH_CTRL 11) 0 = false ∧ sUp2.bit (rCH_CTRL 11) 0 = true ∧ sUp2.bit (rCH_CTRL 11) 1 = false ∧ sUp2.portUp 11 = true)
      ∧ ((∀ p, p < 12 → sHost.portSt p = 0) ∧ sUp2.portSt 11 ≠ 0)
      ∧ (bitsOf 1 0 0xC2 = 2 ∧ 11 < bitsOf 7 4 0xC2 ∧ bitsOf 7 4 0xB2 ≤ 11 ∧ bitsOf 1 0 0xC3 ≠ 2)
      ∧ (¬(96 < bitsOf 6 0 0x8000015F + bitsOf 14 8 0x8000015F ∨ (bitsOf 14 8 0x8000015F = 0 ∧ (0x8000015F : Word32).getLsbD 31 = true)
          ∨ ∃ j, j < 16 ∧ j ≠ 15 ∧ sHost.bit (rGLB_SLWIN j) 31 = true) ∧ 96 < bitsOf 6 0 0x80000160 + bitsOf 14 8 0x80000160)
      ∧ (bitsOf 7 2 0x8000238D ≤ 35 ∧ bitsOf 13 8 0x8000238D = 35 ∧ bitsOf 1 0 0x8000238D ≠ 2)
      ∧ (bitsOf 6 0 0x800001DF = 95 ∧ bitsOf 9 7 0x800001DF = 3 ∧ (sHost.core (coreOf 95)).logicalOf 3 ≠ 0xFF)
      ∧ ((sHost.reg (rDBG_HALT 2)).getLsbD 31 = false ∧ (0x80000000 : Word32).getLsbD 31 = true
        ∧ (95 : Fin 96) ∈ sHost.members (coreOf (32 * 2 + 31)))
      ∧ (sHost.bit (rSEC_SCRUBSTAT) 0 = false ∧ sHost.reg64 (rSEC_SCRUBBASE) + 1 * 2 ^ 21 ≤ hbmEnd)
      ∧ (sHost.bit (rPWR_MBSTAT) 0 = false ∧ (sHost.setBit (rPWR_MBSTAT) 0 true).bit (rPWR_MBSTAT) 0 = true
        ∧ acceptsB (sHost.setBit (rPWR_MBSTAT) 0 true) 9 (rPWR_MBCMD) 1 0xFF000F = true ∧ sHost.phase.alive = true ∧ sHost.phase ≠ .recovery) := by
  have hw : ∀ r, r ∈ [(0 : Fin 10), 9] → writableB sUp2 r (rCH_CTRL 11) = true ∧ writableB sHost r (rPWR_MBARG) = true
      ∧ acceptsB (sHost.setReg (rDBG_HALT 2) 0x80000000) r (rDBG_HALT 2) 1 0xFFFFFFFF = true
      ∧ acceptsB sUp2 r (rCH_CTRL 11) 0 3 = true ∧ acceptsB sUp2 r (rCHC_NODEID) 0xFFF 0xFFF = true := by decide +kernel
  have ha : ∀ r, r ∈ [(0 : Fin 10), 9] → ∀ e, e ∈ [(rCH_CTRL 11, 1, 3), (rCHC_NODEID, 0xFFF, 0xFFF),
      (rCHC_RSTSEND, 0x80000FFF, 0x80000FFF), (rUCB_cl_GANGCTL 7, 1, 3), (rUCB_cl_GANGCTL 7, 3, 3), (rTIME_CTRL, 0xC2, 0x1F3),
      (rTIME_CTRL, 0xB2, 0x1F3), (rTIME_CTRL, 0xC3, 0x1F3), (rGLB_SLWIN 15, 0x8000015F, 0x80007F7F),
      (rGLB_SLWIN 15, 0x80000160, 0x80007F7F), (rMC_INJCTL 11, 0x8000238D, 0x80007FFF), (rERR_INJARR, 0x800001DF, 0x800003FF),
      (rPART_CFG 7, 0x7F80, 0x7FFF), (rDBG_HALT 2, 0x80000000, 0xFFFFFFFF), (rSEC_SCRUBCTL, 1 + 2 ^ 31, 0x800FFFFF),
      (rPWR_MBCMD, 1, 0xFF000F), (rPWR_MBCMD, 2 + 2 ^ 16 * 255, 0xFF000F), (rPWR_MBCMD, 3 + 2 ^ 16, 0xFF000F),
      (rPWR_MBCMD, 4 + 2 ^ 17, 0xFF000F)] → acceptsB sHost r e.1 e.2.1 e.2.2 = true := by decide +kernel
  refine ⟨fun r hr => ?_, by decide +kernel⟩
  have ha' := fun o v g h => accepts_ofB (ha r hr (o, v, g) h)
  obtain ⟨h1, h2, h3, h4, h5⟩ := hw r hr
  refine ⟨ha' _ 1 3 (by decide), accepts_ofB h4, writable_ofB h1, ha' _ 0xFFF 0xFFF (by decide), accepts_ofB h5,
    ha' _ 0x80000FFF 0x80000FFF (by decide), ha' _ 1 3 (by decide), ha' _ 3 3 (by decide), ha' _ 0xC2 0x1F3 (by decide),
    ha' _ 0xB2 0x1F3 (by decide), ha' _ 0xC3 0x1F3 (by decide), ha' _ 0x8000015F 0x80007F7F (by decide),
    ha' _ 0x80000160 0x80007F7F (by decide), ha' _ 0x8000238D 0x80007FFF (by decide), ha' _ 0x800001DF 0x800003FF (by decide),
    ha' _ 0x7F80 0x7FFF (by decide), ha' _ 0x80000000 0xFFFFFFFF (by decide), accepts_ofB h3, ha' _ _ 0x800FFFFF (by decide), writable_ofB h2,
    fun e he => ?_⟩
  refine accepts_ofB (g := 0xFF000F) (ha r hr (rPWR_MBCMD, e.1 + 2 ^ 16 * (e.2 % 256), 0xFF000F) ?_)
  fin_cases he <;> decide

/-- Compute idle, the module in power state n with transition p pending, in phase `ph`. -/
def sPs (n : Nat) (p : Option Nat) (ph : Phase) : State :=
  { sQuiet.setReg (rRST_STATUS) (BitVec.ofNat 32 (16 * n)) with psPend := p, phase := ph }

/-- A CTRL message of node 1 that asks for a reset. -/
def mgX : Msg := mg 8 0 2 0 []

/-- Compute idle after a power failure, a reset delayed. -/
def sFail : State := { sQuiet with nvPulse := true, rstDelayed := some 0x20, power := { sQuiet.power with failed := true } }

theorem wit_ResetsAndPowerStates :
    (∀ r, r ∈ [(0 : Fin 10), 9] → sQuiet.accepts r (rRST_CTRL) 1 3 ∧ sQuiet.accepts r (rRST_CTRL) 2 3
        ∧ (∀ p : Fin 8, sQuiet.accepts r (rPART_CTRL p.val) 1 1)
        ∧ sFail.accepts r (rRST_PSREQ) (BitVec.ofNat 32 (2 ^ 31 + 3)) 0x80000003
        ∧ ∀ n, n ≤ 2 → (sPs n none .run).accepts r (rRST_PSREQ) (BitVec.ofNat 32 (2 ^ 31 + n)) 0x80000003
          ∧ (sPs n none .run).accepts r (rRST_PSREQ) (BitVec.ofNat 32 (2 ^ 31 + 3)) 0x80000003
          ∧ (sPs n none .run).accepts r (rRST_PSREQ) (BitVec.ofNat 32 (2 ^ 31 + 0)) 0x80000003)
      ∧ (∀ r, r ∈ [(0 : Fin 10), 9] → (sPs 3 none .s3).accepts r (rRST_PSREQ) (BitVec.ofNat 32 (2 ^ 31 + 0)) 0x80000003)
      ∧ sQuiet.power.failed = false ∧ sQuiet.nvPulse = false ∧ sQuiet.phase = .run ∧ sQuiet.coreRst = none
      ∧ (∀ n, n ≤ 2 → (sPs n none .run).fld (rRST_STATUS) 5 4 = n ∧ (∀ c, ((sPs n none .run).core c).st.movable = true))
      ∧ ((sPs 3 none .s3).phase = .s3 ∧ (sPs 3 none .s3).pwrEn = true)
      ∧ ((∀ p, p < 8 → sQuiet.bushelPending p = false) ∧ sQuiet.reqs = [] ∧ (sHost.core 0).st.movable = false)
      ∧ (sQuiet.fld (rCXL_LINK) 3 0 ≠ 0 ∧ sQuiet.phase.alive = true)
      ∧ ({ sQuiet with inbox := [⟨some 11, 1, false, mgX⟩] }).nextMsg 0 ⟨some 11, 1, false, mgX⟩
      ∧ (mgX.typ = 8 ∧ mgX.sub = 0 ∧ mgX.f3 7 0 = 2 ∧ (sQuiet.setReg (rCHC_RSTSRC) 0x80000001).bit (rCHC_RSTSRC) 31 = true
        ∧ (sQuiet.setReg (rCHC_RSTSRC) 0x80000001).fld (rCHC_RSTSRC) 11 0 = mgX.src ∧ sQuiet.bit (rCHC_RSTSRC) 31 = false
        ∧ (sQuiet.setReg (rCHC_RSTSRC) 0x80000FFF).fld (rCHC_RSTSRC) 11 0 ≠ mgX.src)
      ∧ (∀ m, m ∈ [none, some 0x20] → ({ sQuiet with nvPulse := true, rstDelayed := m }).nvPulse = true)
      ∧ (sFail.power.failed = true ∧ sFail.rstDelayed = some 0x20 ∧ sFail.nvPulse = true)
      ∧ (∀ n, n < 2 → (sPs n (some 2) .run).psPend = some 2 ∧ (sPs n (some 2) .run).fld (rRST_STATUS) 5 4 < 2)
      ∧ ((sPs 2 (some 0) .run).psPend = some 0 ∧ (sPs 2 (some 0) .run).fld (rRST_STATUS) 5 4 = 2 ∧ (sPs 2 (some 0) .run).fatal = false)
      ∧ (({ sPs 2 (some 0) .run with cores := Vector.replicate 96 (Core.zero .off) }).core 95).st = .off
      ∧ (∀ c : Fin 96, ({ sPs 2 (some 0) .run with cores := Vector.replicate 96 (Core.zero .off) }).core c = Core.zero .off
        ∧ (Core.zero .off).failPend = false) ∧ (∀ p, p < 8 → (sQuiet.part p).scrubCl = []) := by
  have ha : ∀ r, r ∈ [(0 : Fin 10), 9] → (acceptsB sQuiet r (rRST_CTRL) 1 3 = true ∧ acceptsB sQuiet r (rRST_CTRL) 2 3 = true)
      ∧ (∀ p : Fin 8, acceptsB sQuiet r (rPART_CTRL p.val) 1 1 = true)
      ∧ acceptsB sFail r (rRST_PSREQ) (2 ^ 31 + 3) 0x80000003 = true
      ∧ (∀ n, n ≤ 2 → ∀ m, m < 4 → acceptsB (sPs n none .run) r (rRST_PSREQ) (2 ^ 31 + m) 0x80000003 = true)
      ∧ acceptsB (sPs 3 none .s3) r (rRST_PSREQ) (2 ^ 31 + 0) 0x80000003 = true := by decide +kernel
  refine ⟨fun r hr => ?_, fun r hr => accepts_ofB (ha r hr).2.2.2.2, ?_⟩
  · obtain ⟨⟨h1, h2⟩, h3, h5, h4, -⟩ := ha r hr
    exact ⟨accepts_ofB (v := 1) (g := 3) h1, accepts_ofB (v := 2) (g := 3) h2, fun p => accepts_ofB (v := 1) (g := 1) (h3 p), accepts_ofB h5,
      fun n hn => ⟨accepts_ofB (h4 n hn n (by omega)), accepts_ofB (h4 n hn 3 (by omega)), accepts_ofB (h4 n hn 0 (by omega))⟩⟩
  · iterate 8 refine ⟨by decide +kernel, ?_⟩
    refine ⟨next_of rfl, ?_⟩
    iterate 6 refine ⟨by decide +kernel, ?_⟩
    exact ⟨fun c => ⟨by simp [State.core], by decide +kernel⟩, by decide +kernel⟩

/-- The running module whose partition 7 has cluster 7, with resets in progress as given. -/
def sRst (a : Option RStage) (b : Option RStage) : State :=
  { s0.setReg (rPART_STATUS 7) 0x80 with coreRst := a, parts := s0.parts.set 7 { Part.start 7 with rst := b, scrubCl := [6] } }

theorem wit_CoreResets :
    ((∀ p q, p < 8 → q < 8 → p ≠ q → (sRst none none).clusters p &&& (sRst none none).clusters q = 0))
      ∧ (sRst (some .asked) none).coreRst = some .asked
      ∧ ((sRst none (some .asked)).coreRst ≠ some .asked ∧ decide (((sRst none (some .asked)).part 7).rst = some .asked) = true)
      ∧ ((sRst none none).isStopped 0 = false ∧ (sRst none none).inPart 0 0 = true ∧ ((sRst none none).core 0).st.inService = true)
      ∧ ((sRst (some .held) none).coreRst = some .held ∧ (sRst (some .held) none).bit (rRST_STATUS) 2 = false
        ∧ (sRst (some .held) none).fld (rRST_STATUS) 5 4 < 2)
      ∧ ((sRst none (some .held)).coreRst = none ∧ ((sRst none (some .held)).part 7).rst = some .held
        ∧ (sRst none (some .held)).inPart 7 95 = true ∧ ((sRst none (some .held)).core 95).st ≠ .failed)
      ∧ ((sRst (some .scrubbed) none).coreRst = some .scrubbed ∧ (sRst (some .scrubbed) none).fatal = false
        ∧ ({ sRst (some .scrubbed) none with cores := Vector.replicate 96 (Core.zero .inReset) }.core 95).st = .inReset)
      ∧ (((sRst none none).part 7).scrubCl.contains 6 = true ∧ ((sRst none none).core 83).failPend = false ∧ ((sRst none none).core 83).st ≠ .failed
        ∧ (∀ q, q < 8 → q ≠ 7 → ((sRst none none).part q).scrubCl.contains 6 = false)) := by
  refine ⟨?_, by decide +kernel⟩
  have : ∀ p, p < 8 → ∀ q, q < 8 → p ≠ q → (sRst none none).clusters p &&& (sRst none none).clusters q = 0 := by decide +kernel
  exact fun p q hp hq => this p hp q hq

/-- The module in phase `ph` of its start, with security state x. -/
def sBoot (ph : Phase) (x : Security) : State := { State.reset with phase := ph, sec := x }

/-- Firmware whose images are the bytes given, in both slots, slot n preferred, with good option words. -/
def secOf (a b : List Byte) (n : Nat) : Security :=
  { Security.factory with
    slots := Vector.replicate 2 ⟨a, b⟩, running := some ⟨a, b⟩,
    options := (((Vector.replicate 16 (OptWord.both 0)).set 0 (OptWord.both (BitVec.ofNat 32 n))).set 1 (OptWord.both 0x0AF00258)).set 2
      (OptWord.both 10) }

/-- An image of kind k without a body, its keys and signatures zeros, its digest the one of an empty body (Table 17-2). -/
def imgOf (k : Nat) : List Byte :=
  leBytes 4 0x5746545A ++ leBytes 4 k ++ leBytes 4 0 ++ leBytes 4 0 ++ leBytes 8 0 ++ Config.sha384 [] ++ List.replicate 0x23B8 0

theorem wit_StartUp :
    (∀ ph x, (sBoot ph x).phase = ph) ∧ (∀ a b n, (secOf a b n).running = some ⟨a, b⟩)
      ∧ (∀ n, n < 2 → ((secOf [] [] n).options[0].get.getD 0).toNat % 2 = n ∧ badOption (secOf [] [] n).options = none)
      ∧ (secOf [] [] 1).imageOk ((secOf [] [] 1).slot 1).sfw 1 = false ∧ (secOf [] [] 1).imageOk ((secOf [] [] 1).slot 0).sfw 1 = false
      ∧ (sBoot .boot (secOf [] [] 1)).bit (rSEC_STATUS) 3 = false
      ∧ (∀ n, n < 4 → ((sBoot .trims (secOf [] [] 0)).setReg (rTRIM_FAILS) (BitVec.ofNat 32 n)).fld (rTRIM_FAILS) 1 0 = n)
      ∧ (sBoot .trims (secOf [] [] 0)).nvPulse = false ∧ (sBoot .trims (secOf [] [] 0)).power.failed = false
      ∧ (sBoot .rails (secOf [] [] 0)).pwrEn = true ∧ (sBoot .sfw (secOf [] [] 0)).sec.running = some ⟨[], []⟩ := by
  refine ⟨fun _ _ => rfl, fun _ _ _ => rfl, ?_⟩
  decide +kernel

/-- Which images verify rests on functions that nothing evaluates (log entry 8): `imgOf` verifies where the digest has its 48 bytes, the
digest of its zero keys is that of key set 0, and both signatures hold. -/
theorem wit_image (k : Nat) (hk : k = 1 ∨ k = 2) (h1 : (Config.sha384 []).length = 48)
    (h2 : Config.sha384 (List.replicate 416 0) = Config.keyDigest 0)
    (h3 : ∀ m, Config.rsaVerify (List.replicate 384 0) m (List.replicate 384 0) = true)
    (h4 : ∀ m, Config.slhVerify (List.replicate 32 0) m (List.replicate 7856 0) = true) : (secOf [] [] 0).imageOk (imgOf k) k = true := by
  have hz : ∀ o n, 72 ≤ o → o + n ≤ 0x2400 → hdrBytes (imgOf k) o n = List.replicate n 0 := by
    intro o n ho hn
    have hl : (leBytes 4 0x5746545A ++ leBytes 4 k ++ leBytes 4 0 ++ leBytes 4 0 ++ leBytes 8 0 ++ Config.sha384 []).length = 72 := by
      simp only [List.length_append, leBytes_length, h1]
    rw [hdrBytes, imgOf, List.drop_append, List.drop_eq_nil_of_le (by omega), hl, List.nil_append, List.drop_replicate,
      List.take_replicate]
    congr 1; omega
  have hp : ∀ o n, o + n ≤ 24 → hdrNat (imgOf k) o n
      = hdrNat (leBytes 4 0x5746545A ++ leBytes 4 k ++ leBytes 4 0 ++ leBytes 4 0 ++ leBytes 8 0) o n := by
    intro o n hn
    have hl : (leBytes 4 0x5746545A ++ leBytes 4 k ++ leBytes 4 0 ++ leBytes 4 0 ++ leBytes 8 0).length = 24 := by
      simp only [List.length_append, leBytes_length]
    rw [hdrNat, imgOf, List.append_assoc, List.drop_append_of_le_length (by omega), List.take_append_of_le_length, hdrNat]
    rw [List.length_drop]; omega
  have hd : hdrBytes (imgOf k) 0x18 48 = Config.sha384 [] := by
    have hl : (leBytes 4 0x5746545A ++ leBytes 4 k ++ leBytes 4 0 ++ leBytes 4 0 ++ leBytes 8 0).length = 24 := by
      simp only [List.length_append, leBytes_length]
    rw [hdrBytes, imgOf, List.append_assoc, List.drop_left' hl, List.take_left' h1]
  have hlen : (imgOf k).length = 0x2400 := by
    simp only [imgOf, List.length_append, leBytes_length, h1, List.length_replicate]
  have hb : imgBody (imgOf k) = [] := by
    rw [imgBody, hp 0x10 8 (by decide), List.drop_eq_nil_of_le (by omega), List.take_nil]
  have hn : ∀ e, e ∈ [(0, 4, 0x5746545A), (4, 4, k), (8, 4, 0), (0xC, 4, 0), (0x10, 8, 0)] → hdrNat (imgOf k) e.1 e.2.1 = e.2.2 := by
    intro e he
    rw [hp]
    · obtain rfl | rfl := hk <;> fin_cases he <;> rfl
    · obtain rfl | rfl := hk <;> fin_cases he <;> decide
  have a0 := hn (0, 4, 0x5746545A) (by simp)
  have a1 := hn (4, 4, k) (by simp)
  have a2 := hn (8, 4, 0) (by simp)
  have a3 := hn (0xC, 4, 0) (by simp)
  have a4 := hn (0x10, 8, 0) (by simp)
  simp only at a0 a1 a2 a3 a4
  simp only [Security.imageOk, imgSvn, a0, a1, a2, a3, a4, hlen, hb, hd, hz 0x48 416 (by decide) (by decide), h2,
    hz 0x48 384 (by decide) (by decide), hz 0x200 384 (by decide) (by decide), hz 0x1C8 32 (by decide) (by decide),
    hz 0x380 7856 (by decide) (by decide), h3, h4]
  decide


/-! ## Power, the host, faults, security and the monitor -/

/-- The running module with the power state x. -/
def sPow (x : Power) : State := { s0 with power := x }

/-- The power state with requests q. -/
def pReq (q : List (Bool × Nat × Nat × Nat)) : Power := { s0.power with requests := q }

/-- The limits 600 W and 2,800 W in force, the module HOT at 85 °C. -/
def sLim (q : List (Bool × Nat × Nat × Nat)) : State :=
  (((sPow (pReq q)).setReg (rPWR_LIMITS) 0x0AF00258).setReg (rPWR_STATUS) 8).setReg (rPWR_TEMP) 680

theorem wit_PowerGovernor :
    s0.phase = .run ∧ s0.power.accepted = [] ∧ (∀ l, l ∈ [none, some (0, 650), some (9, 1950)] →
        (match ({ s0 with step := l }).step with | some (_, n) => n | none => 1300) ∈ [1300, 650, 1950])
      ∧ ((s0.setFld (rPWR_HOG) 31 16 10).power.hog < ((s0.setFld (rPWR_HOG) 31 16 10).fld (rPWR_HOG) 31 16 : Int) * hogMJ
        ∨ 0 ≤ s0.power.hog)
      ∧ (∀ e, e ∈ [(1, 600), (2, 2800), (3, 10), (3, 65535)] → (sPow { s0.power with accepted := [e] }).power.accepted = [e] ∧ e.2 < 65536)
      ∧ (∀ e, e ∈ [(1, 600, 0), (1, 599, 2), (1, 2800, 0), (1, 2801, 2)] →
        ((e.2.2 = 0 ↔ 600 ≤ e.2.1 ∧ e.2.1 ≤ (sLim [(true, e.1, e.2.1, 0)]).fld (rPWR_LIMITS) 31 16) ∧ (e.2.2 = 0 ∨ e.2.2 = 2)))
      ∧ (∀ e, e ∈ [(2, 600, 0), (2, 599, 2), (2, 2800, 0), (2, 2801, 2)] →
        ((e.2.2 = 0 ↔ (sLim [(true, e.1, e.2.1, 0)]).fld (rPWR_LIMITS) 15 0 ≤ e.2.1 ∧ e.2.1 ≤ 2800) ∧ (e.2.2 = 0 ∨ e.2.2 = 2)))
      ∧ (∀ e, e ∈ [(3, 10, 0), (3, 9, 2), (3, 1000, 0), (3, 1001, 2)] → ((e.2.2 = 0 ↔ 10 ≤ e.2.1 ∧ e.2.1 ≤ 1000) ∧ (e.2.2 = 0 ∨ e.2.2 = 2)))
      ∧ ((sLim [(false, 4, 0, 255)]).bit (rPWR_STATUS) 3 = true ∧ (sLim [(false, 4, 0, 255)]).fld (rPWR_TEMP) 11 0 = 680
        ∧ (s0.bit (rPWR_STATUS) 3 = false))
      ∧ (7200000000000 ≤ (sPow { s0.power with wear := 7200000000000 }).power.wear ∧ s0.phase.alive = true ∧ s0.nvPulse = false
        ∧ s0.rstDelayed = none ∧ { s0 with rstDelayed := some 0x20 }.rstDelayed ≠ none) := by
  decide +kernel

theorem wit_HeatAndInput :
    s0.phase = .run
      ∧ ((∃ i : Fin 8, 736 ≤ (#v[0, 0, 0, 0, 0, 0, 0, 736] : Vector Int 8)[i]) ∧ ¬(∃ i : Fin 8, 736 ≤ (Vector.replicate 8 735 : Vector Int 8)[i])
        ∧ (∃ i : Fin 12, 760 ≤ (#v[0, 0, 0, 0, 0, 0, 0, 0, 0, 0, 0, 760] : Vector Int 12)[i])
        ∧ ¬(∃ i : Fin 12, 760 ≤ (Vector.replicate 12 759 : Vector Int 12)[i]))
      ∧ ((∃ i : Fin 8, 840 ≤ (#v[0, 0, 0, 0, 0, 0, 0, 840] : Vector Int 8)[i]) ∧ ∀ i : Fin 8, (Vector.replicate 8 839 : Vector Int 8)[i] < 840)
      ∧ (1000 ≤ (sPow { s0.power with hotFr := 1000 }).power.hotFr)
      ∧ ((sPow { s0.power with hotFr := 999, coolFr := 1000 }).power.hotFr < 1000
        ∧ 1000 ≤ (sPow { s0.power with hotFr := 999, coolFr := 1000 }).power.coolFr)
      ∧ (2 ≤ (sPow { s0.power with hot105 := 2 }).power.hot105 ∧ (sPow { s0.power with hot105 := 2 }).bit (rPWR_STATUS) 3 = false
        ∧ (sPow { s0.power with hot105 := 2 }).power.failed = false)
      ∧ (∀ p, p < 8 → ∀ q, q < 8 → p ≠ q → s0.clusters p &&& s0.clusters q = 0)
      ∧ (s0.isStopped 0 = false ∧ s0.inPart 0 0 = true ∧ (s0.core 0).st.inService = true)
      ∧ (s0.phase.alive = true ∧ s0.power.failed = false ∧ s0.power.excursion = false)
      ∧ ({ s0 with phase := .charging }).phase = .charging ∧ (sPow { s0.power with failed := true }).power.failed = true := by
  decide +kernel

/-- The module whose host maps HBM from address 2^40 and all of it, with UIO and .mem, and the link trained. -/
def sMem : State := { sQuiet with hbm := Store.zero, hdm := [⟨2 ^ 40, dpaEnd, 0⟩] }

/-- `sMem` with partition 7 locked and its TE range 3 at the last 32 MiB. -/
def sTe : State :=
  ((sMem.setReg (rSEC_PSTATE 7) 3).setReg (rSEC_TE 7 3) 0xFE000000).setReg (rSEC_TE 7 3 + 4) 0x0001011F

/-- Core 95 awaiting the completion of a write to host memory. -/
def sOut : State :=
  { sMem with
    cores := sMem.cores.set 95 { Core.zero .idle with outw := [(6, .core), (7, .host)] },
    hostLines := [hbmKey (sMem.place (hbmEnd - 64)) / 64] }

/-- `sMem` with a private region over the last 2 MiB of each stack, and with its link stream failed. -/
def sPriv : State :=
  (List.range 12).foldl (fun s t => (s.setReg (rBSH_PRIVBASE t 0) 0xBFFF).setReg (rBSH_PRIVLEN t 0) 1) sMem
def sDown : State := { sMem with sec := { sMem.sec with ideDown := [4] } }

theorem wit_HostAccess_link :
    (∀ x, x ∈ [s0, { s0 with phase := .memory }] → x.phase.powered = true ∧ x.perst = true)
      ∧ sMem.linkUp = true ∧ ({ sMem with phase := .boot }).phase ≠ .run ∧ ({ sMem with phase := .boot }).linkUp = true ∧ sMem.phase = .run
      ∧ ({ sMem with vfs := 7 }).vfs < 8 ∧ 8 ≤ sMem.vfs
      ∧ (∀ o, o ∈ [((0x4FFFFF : BitVec 26), 0x4FFFFF), (0x57FFFF, 0x8000000 + 0x100000 * 7 + 0xFFFF), (0x59FFFF, 0xE000000 + 0x100000 + 0xFFFF),
          (0x3FFFFFF, 0x10000000 + 0x100000 * 95 + 0x7FFFF)] →
        o.1.toNat < 0x500000 ∧ o.2 = o.1.toNat
          ∨ o.1.toNat = 0x500000 + 0x10000 * 7 + 0xFFFF ∧ o.2 = 0x8000000 + 0x100000 * 7 + 0xFFFF
          ∨ o.1.toNat = 0x580000 + 0x10000 * 1 + 0xFFFF ∧ o.2 = 0xE000000 + 0x100000 * 1 + 0xFFFF
          ∨ o.1.toNat = 0x1000000 + 0x80000 * 95 + 0x7FFFF ∧ o.2 = 0x10000000 + 0x100000 * 95 + 0x7FFFF)
      ∧ sMem.bit (rCXL_LINK) 9 = true ∧ sMem.bit (rCXL_LINK) 10 = true ∧ (∀ n, n < 8 → sMem.bit (rSEC_PSTATE n) 1 = false)
      ∧ (sQuiet.hdm = [] ∧ (0x1208 : BitVec 36) ≠ 0 ∧ (0 + 0x1208) * 2 ^ 28 ≤ dpaEnd)
      ∧ ({ sMem with hdm := [⟨2 ^ 40, 2 ^ 28, 0⟩, ⟨2 ^ 41, 2 ^ 28, 2 ^ 28⟩] }).hdm.length = 2 := by
  decide +kernel

theorem wit_HostAccess :
    sMem.sec.ideDown.contains 4 = false ∧ (mapFind sMem.sec.ideKeys 4).isSome = false
      ∧ (sMem.dpaOf ((2 ^ 40 - 1) / 64 * 64) = none ∧ sMem.dpaOf (2 ^ 40 + dpaEnd) = none)
      ∧ (sTe.dpaOf ((2 ^ 40 + hbmEnd - 1) / 64 * 64) = some (hbmEnd - 64) ∧ sTe.teRefuses (hbmEnd - 64) none = true
        ∧ sTe.teRefuses (hbmEnd - 64) (some 6) = true ∧ sTe.teRefuses (hbmEnd - 64) (some 7) = false)
      ∧ (sMem.dpaOf ((2 ^ 40 + hbmEnd - 1) / 64 * 64) = some (hbmEnd - 64) ∧ sMem.teRefuses (hbmEnd - 64) none = false
        ∧ sMem.fld (rRST_STATUS) 5 4 ≠ 2 ∧ hbmEnd - 64 < hbmEnd ∧ sMem.damage = [] ∧ sMem.memLines = []
        ∧ sMem.inPriv (sMem.place (hbmEnd - 64)) = false ∧ sMem.hostLines.length < 2 ^ 22)
      ∧ (∀ i, i < 64 → mapGet false sMem.hbmPois ((hbmKey (sMem.place (hbmEnd - 64)) + i) / 32) = false)
      ∧ (sPriv.dpaOf (2 ^ 40 + hbmEnd - 64) = some (hbmEnd - 64) ∧ sPriv.teRefuses (hbmEnd - 64) none = false
        ∧ sPriv.inPriv (sPriv.place (hbmEnd - 64)) = true ∧ sPriv.hostLines = [])
      ∧ sDown.sec.ideDown.contains 4 = true
      ∧ sOut.hostLines.contains (hbmKey (sOut.place (hbmEnd - 64)) / 64) = true
      ∧ (2 ^ 45 - 64 + (List.replicate 64 (0 : Byte)).length ≤ 2 ^ 45)
      ∧ ((((sOut.core 95).outw.filter (fun w => w.2 = .host)).map (·.1))[0]? = some 7 ∧ (sOut.core 95).held = []) := by
  decide +kernel

/-- A record of class n from unit u. -/
def rec (n u : Nat) : ErrRec := ⟨n, false, u, 0, 0, 0, 7, 0, 0, 0, false, 0, 0, 0, []⟩

/-- Two records of one cycle, of which the second is numbered first, by its unit's kind. -/
def sRecs (n : Nat) : State := { s0 with errPend := [rec 2 5, rec n 1] }

/-- Sectors of one pseudo-channel of stack 11: eight of one row, eight of another. -/
def rowL : List (BitVec 37) := (List.range 16).map (fun i => BitVec.ofNat 37 (32 * (i % 8) + 2 ^ 18 * (i / 8)))

/-- The keys of a row of stack 11. -/
def keysOf (row : List (BitVec 37)) : List Nat := row.map (fun o => (2 ^ 37 * 11 + o.toNat) / 32)

/-- Symbol 35 found in error in each sector of `rowL`, a day between the first and the last. -/
def sLine : State := { s0 with memErrs := (keysOf rowL).mapIdx (fun i k => ⟨k, if i = 0 then 7 else 7 + dayUs, some 35⟩) }

/-- One sector's errors: an uncorrectable one; three corrected ones within a day. -/
def sUnc : State := { s0 with memErrs := [⟨11 * 2 ^ 32, 0, none⟩] }
def sCor : State := { s0 with memErrs := [⟨11 * 2 ^ 32, 0, some 1⟩, ⟨11 * 2 ^ 32, 1, some 1⟩, ⟨11 * 2 ^ 32, dayUs, some 2⟩] }

theorem wit_FaultRecords_rows :
    s0.hbmUp = true ∧ s0.damage = [] ∧ s0.memLines = [] ∧ s0.lineFaults = [] ∧ keysOf [0] = [11 * 2 ^ 32]
      ∧ (∃ e, e ∈ sUnc.memErrs ∧ e.key ∈ keysOf [0] ∧ e.sym = none)
      ∧ (∀ e, e ∈ sCor.memErrs → e.key ∈ keysOf [0] ∧ e.sym ≠ none) ∧ sCor.memErrs.map (·.time) = [0, 1, dayUs]
      ∧ 16 ≤ (keysOf rowL).length ∧ (keysOf rowL).Nodup ∧ (∀ k, k ∈ keysOf rowL → pcKey k = pcKey ((keysOf rowL).headD 0))
      ∧ sLine.lineFaults.contains (36 * pcKey ((keysOf rowL).headD 0) + 35) = false
      ∧ (∃ z, z ∈ sLine.memErrs ∧ ∀ k, k ∈ keysOf rowL → ∃ e, e ∈ sLine.memErrs ∧ e.key = k ∧ e.sym = some 35 ∧ e.time ≤ z.time
        ∧ z.time ≤ e.time + dayUs)
      ∧ ∀ e, e ∈ s0.memErrs → e.key ∉ keysOf rowL := by
  decide +kernel

theorem wit_FaultRecords :
    s0.phase.alive = true
      ∧ (∀ n, n ∈ [1, 16] → (sRecs n).errPend = [rec 2 5, rec n 1] ∧ 1 ≤ (rec n 1).cls ∧ (rec n 1).cls ≤ 16
        ∧ (rec n 1).rank < (rec 2 5).rank ∧ (rec n 1).frame = (rec 2 5).frame ∧ (rec n 1).cycle = (rec 2 5).cycle)
      ∧ s0.bit (rERR_CTRL) 0 = false ∧ s0.errq.length < 32 ∧ s0.errPend.length < 1
      ∧ (∀ p, p < 8 → ∀ q, q < 8 → p ≠ q → s0.clusters p &&& s0.clusters q = 0)
      ∧ (s0.isStopped 0 = false ∧ s0.inPart 0 0 = true ∧ (s0.core 0).st.inService = true)
      ∧ (s0.hbmUp = true ∧ 0xBFFFFF < lmEnd ∧ (s0.core 95).st ≠ .failed)
      ∧ (∀ pos, pos ∈ [0, 96 * 2 ^ 30 - 32] → (((s0.setReg (rMC_SCRUBCTL 11) 0x80000000).setReg64 (rMC_SCRUBPOS 11) pos)).reg64
          (rMC_SCRUBPOS 11) = pos ∧ (((s0.setReg (rMC_SCRUBCTL 11) 0x80000000).setReg64 (rMC_SCRUBPOS 11) pos)).bit (rMC_SCRUBCTL 11) 31 = true
          ∧ mapGet false s0.hbmPois ((2 ^ 37 * 11 + pos) / 32) = false)
      ∧ s0.damage = [] ∧ s0.memLines = []
      ∧ (∀ n, n ∈ [0, 1, 2, 3] → ({ s0 with errq := [⟨1, 1, [], n⟩] }).errq = ⟨1, 1, [], n⟩ :: [])
      ∧ s0.nvPulse = false
      ∧ (({ s0 with scrub := some (0, 2 ^ 21) }).scrub = some (0, 2 ^ 21) ∧ s0.scrubW = [] ∧ s0.hbmUp = true ∧ s0.hbm.gen = 0) := by
  decide +kernel

/-- The running module with security state x. -/
def sSec (x : Security) : State := { sQuiet with sec := x }

/-- A module with a certificate c under signature, or none, and sessions l. -/
def secS (c : Option Cert) (l : List Session) : Security :=
  { Security.factory with signing := c, sessions := l, activating := false, noCert := false, ideKeys := [(4, [])], aliasEc := [1], aliasMl := [2] }

theorem wit_SecurityRequests :
    (∀ x, (sSec x).phase = .run ∧ (sSec x).phase.alive = true ∧ (sSec x).linkUp = true ∧ (sSec x).phase ≠ .recovery
        ∧ (sSec x).power.failed = false ∧ (sSec x).nvPulse = false)
      ∧ ((secS none []).signing = none ∧ (sSec { secS none [] with issued := [] }).attested ≠ [])
      ∧ ((secS (some ⟨[], false⟩) []).signing = some ⟨[], false⟩ ∧ (secS (some ⟨[], false⟩) []).waiting = [])
      ∧ ({ sSec (secS none []) with phase := .safe }).phase = .safe ∧ (sSec (secS none [])).rstDelayed = none
      ∧ ((secS none []).activating = false ∧ (secS none []).noCert = false)
      ∧ (∀ n, n ∈ [0, 1, 2, 3] → (secS none ((List.range n).map (fun i => ⟨i, [], true⟩))).sessions.length < 4)
      ∧ (secS none [⟨3, [], false⟩]).sessions.find? (fun t => t.id = 3 && !t.finished) = some ⟨3, [], false⟩
      ∧ (secS none [⟨3, [], true⟩]).sessions.any (fun t => t.id = 3 && t.finished) = true
      ∧ (secS none []).imageOk [] 1 = false ∧ (mapFind (secS none []).ideKeys 4).isSome = true
      ∧ (∀ p : Fin 8, sQuiet.bit (rSEC_PSTATE p.val) 1 = false) ∧ (List.replicate 4 ((0 : BitVec 23), (1 : BitVec 16))).length ≤ 4
      ∧ (∀ p : Fin 8, (sQuiet.setReg (rSEC_PSTATE p.val) 3).bit (rSEC_PSTATE p.val) 1 = true)
      ∧ (sTe.inPart 7 95 = false ∧ sTe.inPart 0 0 = true ∧ sTe.hbm.gen = 0)
      ∧ sQuiet.i3cAddr = none := by
  refine ⟨fun x => ?_, ⟨rfl, fun h => ?_⟩, by decide +kernel⟩
  · exact show sQuiet.phase = .run ∧ sQuiet.phase.alive = true ∧ sQuiet.linkUp = true ∧ sQuiet.phase ≠ .recovery ∧ sQuiet.power.failed = false
      ∧ sQuiet.nvPulse = false by decide +kernel
  · rw [State.attested] at h
    simp only [List.append_assoc, List.append_eq_nil_iff] at h
    have := congrArg List.length h.1
    simp [leBytes_length] at this

/-- The running module, unlocked, at level n. -/
def sMon (n : Nat) : State := sQuiet.setFld (rDBG_STATUS) 1 0 n

theorem wit_MonitorCommands :
    (∀ n, n ≤ 2 → (sMon n).phase.alive = true ∧ (sMon n).level = n ∧ (sMon n).phase ≠ .recovery ∧ (sMon n).phase ≠ .boot
        ∧ (sMon n).phase ≠ .trims ∧ (sMon n).phase ≠ .sfw ∧ (sMon n).bit (rDBG_STATUS) 2 = false)
      ∧ (∀ ph, ph ∈ [Phase.recovery, .boot, .trims, .sfw] → ({ sMon 0 with phase := ph }).phase.alive = true)
      ∧ ({ sMon 0 with mon := { s0.mon with challenge := some [1] } }).mon.challenge = some [1]
      ∧ ((sMon 2).setBit (rDBG_STATUS) 2 true).bit (rDBG_STATUS) 2 = true ∧ (List.replicate 96 (0 : Byte)).length = 96
      ∧ (∀ p : Fin 8, (sMon 2).lockRefuses 9 (rPART_WTHR p.val) = false)
      ∧ (∀ p : Fin 8, (sMon 2).accepts 9 (rPART_CFG p.val) 0x7FFF 0x7FFF ∧ mapFind (sMon 2).guards (guardKey 9 (rPART_CFG p.val)) = none)
      ∧ (0xF00000000002 % 4 ≠ 0 ∧ (hbmEnd - 32) % 32 = 0 ∧ hbmEnd - 32 + 32 ≤ hbmEnd)
      ∧ ((sMon 2).clean ∧ ∀ p, p < 8 → (sMon 2).bit (rSEC_PSTATE p) 0 = false)
      ∧ ((sMon 2).setReg (rDBG_HALT 2) 0x80000000).haltBit 95 = true
      ∧ (∀ c : Fin 96, ((sMon 2).core c).st.movable = true) ∧ (sMon 2).fld (rRST_STATUS) 5 4 = 0
      ∧ (sMon 2).accepts 9 (rRST_CTRL) 1 3 ∧ (sMon 2).accepts 9 (rRST_CTRL) 2 3 ∧ (sMon 2).accepts 9 (rRST_PSREQ) 0x80000001 0x80000003
      ∧ (sMon 2).power.failed = false ∧ (sMon 2).nvPulse = false := by
  have ha : ∀ e, e ∈ [(rRST_CTRL, 1, 3), (rRST_CTRL, 2, 3), (rRST_PSREQ, 0x80000001, 0x80000003)] →
      acceptsB (sMon 2) 9 e.1 e.2.1 e.2.2 = true := by decide +kernel
  have hp : ∀ p : Fin 8, acceptsB (sMon 2) 9 (rPART_CFG p.val) 0x7FFF 0x7FFF = true := by decide +kernel
  have hg : ∀ p : Fin 8, mapFind (sMon 2).guards (guardKey 9 (rPART_CFG p.val)) = none := by decide +kernel
  iterate 6 refine ⟨by decide +kernel, ?_⟩
  refine ⟨fun p => ⟨accepts_ofB (v := 0x7FFF) (g := 0x7FFF) (hp p), hg p⟩, by decide, ⟨⟨rfl, rfl, rfl⟩, by decide +kernel⟩, ?_⟩
  iterate 3 refine ⟨by decide +kernel, ?_⟩
  exact ⟨accepts_ofB (ha (rRST_CTRL, 1, 3) (by decide)), accepts_ofB (ha (rRST_CTRL, 2, 3) (by decide)),
    accepts_ofB (ha (rRST_PSREQ, 0x80000001, 0x80000003) (by decide)), by decide +kernel⟩

theorem wit_GangsStayLegal : State.reset.gangsOk ∧ ∃ t, step State.reset = .next t := by
  refine ⟨fun c => ?_, _, rfl⟩
  simp [State.reset]

/-! ## Well-formed commands: for each check of `Instr.wf` a command that it refuses -/

theorem test_wf_refuses :
    ∀ c, c ∈ [Instr.add ⟨0, 1300, true⟩ (fl 1 2 3 0 0 0), .add ⟨0, 0, true⟩ (fl 1 2 3 0 1 0), .illegalEncoding 0 1300 0 0 0 0,
      .stepFrame 9 649, .stepFrame 9 1951, .flitReceive 11 [0] 0 [], .hostReadResponse (2 ^ 45) [0] false, .registerWrite 9 0 0 0,
      .registerWrite 9 0 65 0, .registerWrite 9 (2 ^ 29 - 4) 8 0, .registerWrite 9 0 4 (2 ^ 32), .clearingRead 9 (2 ^ 29) 4,
      .latchedRead 9 (2 ^ 29 - 3), .scrubGo 9 (2 ^ 20), .mbSetSus none (2 ^ 32) 0, .mbSetPeak none 0 256, .mbSetReserve none (2 ^ 32) 0,
      .mbRelease none 0 256, .softPpr 11 [] .repaired, .tspLock 7 (List.replicate 5 (0, 0)), .ifRd 2 1, .ifRd 0 0, .ifRdc 1, .ifWr 3 0,
      .ifWrg 2 0, .ifDump 16 1, .ifDump 0 0, .ifDump 0 4097, .ifStep 0 0, .ifStep 0 257, .errorRecord 0 (some (.localMem 0 0xC00000 .clean))] →
      c.wf = false := by
  decide +kernel

theorem test_wf_accepts :
    ∀ c, c ∈ [Instr.add ⟨95, 1299, false⟩ (fl 31 31 31 0 0 0), .stepFrame 9 650, .stepFrame 9 1950, .registerWrite 9 (2 ^ 29 - 64) 64 0,
      .latchedRead 9 (2 ^ 29 - 4), .scrubGo 9 (2 ^ 20 - 1), .mbSetSus none (2 ^ 32 - 1) 255, .tspLock 7 (List.replicate 4 (0, 0)), .ifRd 4 1,
      .ifDump 32 4096, .ifStep 95 256, .errorRecord 0 (some (.localMem 0 0xBFFFFF .clean))] → c.wf = true := by
  decide +kernel

/-! ## The spec's worked examples -/

/-- Example 10-1: the words of a bundle have the fields of its table, and all are legal. -/
theorem test_example_10_1 :
    fieldsOf 0x2139C00000000001 = fl 7 7 0 0 0 1 ∧ fieldsOf 0x41010A020000073F = fl 0 4 5 0 2 0x73F
      ∧ fieldsOf 0xA110800100000000 = fl 2 2 0 0 1 0 ∧ fieldsOf 0xD000000000000002 = fl 0 0 0 0 0 2
      ∧ bundleIllegal [0x2139C00000000001, 0x41010A020000073F, 0xA110800100000000, 0xD000000000000002] = [] := by
  decide +kernel

/-- Example 10-1: the instructions of those words; an opcode that is not assigned names none. -/
theorem test_decode :
    decodeWord i0 0x2139C00000000001 = some (.addi i0 (fl 7 7 0 0 0 1)) ∧ decodeWord i0 0x41010A020000073F = some (.mma i0 (fl 0 4 5 0 2 0x73F))
      ∧ decodeWord i0 0xA110800100000000 = some (.vexp i0 (fl 2 2 0 0 1 0)) ∧ decodeWord i0 0xD000000000000002 = some (.fence i0 (fl 0 0 0 0 0 2))
      ∧ decodeWord i0 0xFF00000000000000 = none ∧ decodeTableWord 64 0x2139C00000000001 = none := by
  decide +kernel

/-- Example 11-1: placement of addresses on stacks. -/
theorem test_example_11_1 :
    placeR225 0x123400 = (5, 0x18400) ∧ (placeR225 0x123500).1 = 6 ∧ (placeR225 (0x123400 + 12 * 256 * 16)).1 = 4
      ∧ (placeR225 (31 * 12 * 256)).1 = 2 ∧ (placeR225 (32 * 12 * 256)).1 = 2 := by
  decide +kernel

/-- Example 3-1: a block of E4M3, its scale and four of its elements. -/
theorem test_example_3_1 :
    (quantBlock 4 [some (.fin false 1000, .rne), some (.fin false 3.1, .rne), some (.fin true 0.01, .rne), some (.fin false 0, .rne)])
      = (128, [some 0x7E, some 0x3C, some 0x83, some 0]) := by
  decide +kernel

/-- Example 3-2: FP32 to BF16 under SR with two draws. -/
theorem test_example_3_2 :
    convF .bf16 (.sr 0x1234) false (fdecode .fp32 0x3F804000) = 0x3F80 ∧ convF .bf16 (.sr 0xC3A1) false (fdecode .fp32 0x3F804000) = 0x3F81 := by
  decide +kernel

/-- Example 3-3: FP32 to E4M3 without block scaling. -/
theorem test_example_3_3 :
    ∀ e, e ∈ [((460 : ℚ), 0x7E, 0x7E), (464, 0x7E, 0x7E), (470, 0x7F, 0x7E), (1 / 1024, 0, 0), (3 / 1024, 2, 2)] →
      convF .e4m3 .rne false (.fin false e.1) = e.2.1 ∧ convF .e4m3 .rne true (.fin false e.1) = e.2.2 := by
  decide +kernel

/-- Example 13-1: delay and offset of an exchange. -/
theorem test_example_13_1 : exchange 1005800 990800 999800 990800 = (12000, 3000) := by decide +kernel

/-- Example 15-1: the Hogshead in frame 1, a work frame at 2,800 W. -/
theorem test_example_15_1 :
    (after (.hogsheadUpdate 2800000 48000 60) ((sPow { s0.power with hog := hogCap }).setFld (rPWR_LIMITS) 15 0 2200)).power.hog
      = 29999400000 * 1300 := by
  decide +kernel

/-- Example 22-1: what the monitor reads of the identity (the revision is each part's own, R397). -/
theorem test_example_22_1 : ((sMon 1).monRead 0xF00000000000 false).2 = some 0x29640 := by decide +kernel

/-! ## Single steps -/

/-- The state after core k issues the instruction that its bundle holds alone. -/
def afterI (c : Fields → Instr) (op : Nat) (f : Fields) (k : Core) : State := after (c f) (sI k op f)

/-- R209, Table 10-5: MULH takes the upper half of the signed product; a write to S0 is discarded. -/
theorem test_mulh : (((afterI (.mulhi i0) 0x24 (fl 1 2 0 0 0 0x80000000) (kN 2 (2 ^ 63))).core 0).opnd.s[1]) = BitVec.ofNat 64 (2 ^ 30)
    ∧ ((afterI (.addi i0) 0x21 (fl 0 2 0 0 0 1) (kN 2 5)).core 0).opnd.s[0] = 0 := by
  decide +kernel

/-- R209: REM has the sign of the dividend, and the shift of 64 clears. -/
theorem test_rem : (((afterI (.remi i0) 0x28 (fl 1 2 0 0 0 3) (kN 2 (2 ^ 64 - 7))).core 0).opnd.s[1]) = BitVec.ofInt 64 (-1)
    ∧ ((afterI (.shli i0) 0x2D (fl 1 2 0 0 0 64) (kN 2 5)).core 0).opnd.s[1] = 0 := by
  decide +kernel

/-- R211, Table 10-7: BR.ne from index 0 goes on at its offset, taken; BR.eq of 7 and 0 is not taken. -/
theorem test_br : ((afterI (.br i0) 0x38 (fl 0 2 0 0 2 2047) (kN 2 7)).core 0).pc = 2047
    ∧ ((afterI (.br i0) 0x38 (fl 0 2 0 0 1 5) (kN 2 7)).core 0).pc = 1 := by
  decide +kernel

/-- A command at the front of the queue leaves it (log entry 1). -/
theorem test_queue : (match step { s0 with pending := [.nop i0 (fl 0 0 0 0 0 0), .tick] } with | .next t => t.pending | _ => []) = [.tick] := by
  decide +kernel

end Sys2Proof.Tests
end

section
/-!
# O60: the gang map of the reset state (R12, R20)

After reset every core is its own gang and no command waits (log entry 1).
-/
namespace Sys2Proof.Machine

theorem State.reset_gang (c : Fin 96) : State.reset.gang[c] = c := by simp [State.reset]

/-- A gang map in which every core leads itself is legal (R12). -/
theorem State.gangsOk_of_single (s : State) (h : ∀ c : Fin 96, s.gang[c] = c) : s.gangsOk := fun c => by simp only [h, le_refl, and_self]

/-- A core that leads itself in a map of single cores is its gang's only member. -/
theorem State.members_of_single (s : State) (h : ∀ c : Fin 96, s.gang[c] = c) (c : Fin 96) : s.members c = [c] := by
  unfold State.members allCores
  simp only [h]
  rw [List.filter_eq, List.count_eq_one_of_mem (List.nodup_finRange 96) (List.mem_finRange c), List.replicate_one]

/-- Settles O60: the reset state has each core as its own leader. -/
theorem resetGangs : Obligations.ResetGangs :=
  ⟨State.reset.gangsOk_of_single State.reset_gang, State.reset.members_of_single State.reset_gang, rfl⟩

end Sys2Proof.Machine
end

section
/-!
# Operations that leave the gang map as it stands

SUPPORT. The gang map (R12) is one field of the state, and few operations write it. For each other operation that a command can reach, one
equation: its gang map afterwards is the one before. The equations are in the order of the model's files and each cites those before it.
-/
namespace Sys2Proof.Machine

/-- The gang map that a choice leaves. -/
@[simp] theorem State.ite_gang (p : Prop) [Decidable p] (s t : State) : (if p then s else t).gang = if p then s.gang else t.gang :=
  apply_ite State.gang p s t

@[simp] theorem State.ite_fst_gang {α : Type} (p : Prop) [Decidable p] (x y : State × α) :
    (if p then x else y).1.gang = if p then x.1.gang else y.1.gang :=
  apply_ite (fun z : State × α => z.1.gang) p x y

@[simp] theorem State.foldl_gang {α : Type} (l : List α) (g : State → α → State) (s : State) (h : ∀ t a, (g t a).gang = t.gang) :
    (l.foldl g s).gang = s.gang := by
  induction l generalizing s with
  | nil => rfl
  | cons a l ih => rw [List.foldl_cons, ih, h]

@[simp] theorem State.foldl_fst_gang {α β : Type} (l : List α) (g : State × β → α → State × β) (x : State × β)
    (h : ∀ y a, (g y a).1.gang = y.1.gang) : (l.foldl g x).1.gang = x.1.gang := by
  induction l generalizing x with
  | nil => rfl
  | cons a l ih => rw [List.foldl_cons, ih, h]

/-- The state that a result is matched against has the result's gang map. -/
theorem State.gang_of_fst {α : Type} {x : State × α} {t : State} {a : α} (h : x = (t, a)) : t.gang = x.1.gang := by rw [h]

theorem State.mk_fst_gang {α : Type} (t : State) (a : α) : (t, a).1.gang = t.gang := rfl

/-- `State.openPages` over any translation and page size. -/
def openPagesBy (tr : State → Nat → Nat → Bool → State × Xlate) (size : Nat) (s : State) (p : Nat) (acc : List (Nat × Nat)) :
    List (Nat × Bool) → State × Xlate × List (Nat × Nat)
  | [] => (s, .ok 0, acc)
  | (v, rd) :: r =>
    match tr s p (v * size) true with
    | (s, .ok a) =>
      match (if rd then tr s p (v * size) false else (s, .ok a)) with
      | (s, .ok _) => openPagesBy tr size s p (mapSet acc v a) r
      | (s, x) => (s, x, acc)
    | (s, x) => (s, x, acc)

theorem State.openPages_eq : State.openPages = openPagesBy State.translate (2 ^ 21) := by
  delta State.openPages State.openPages._f
  obtain ⟨tr, htr⟩ : ∃ tr, tr = State.translate := ⟨_, rfl⟩
  obtain ⟨m, hm⟩ : ∃ m, m = 2 ^ 21 := ⟨_, rfl⟩
  rw [← htr, ← hm]
  funext s p acc l
  induction l generalizing s acc with
  | nil => rfl
  | cons v r ih =>
    obtain ⟨v, rd⟩ := v
    rw [openPagesBy]
    simp only [← ih] <;> rfl

theorem openPagesBy_gang (tr : State → Nat → Nat → Bool → State × Xlate) (size : Nat) (s : State) (p : Nat) (acc : List (Nat × Nat))
    (l : List (Nat × Bool)) (htr : ∀ s p a w, (tr s p a w).1.gang = s.gang) : (openPagesBy tr size s p acc l).1.gang = s.gang := by
  induction l generalizing s acc with
  | nil => rfl
  | cons v r ih =>
    unfold openPagesBy
    split <;> rename_i h
    · split <;> rename_i h'
      all_goals
       split at h'
       · simp [ih, State.gang_of_fst h', htr, State.gang_of_fst h]
       · cases h'
         simp [ih, State.gang_of_fst h, htr]
    · simp [State.gang_of_fst h, htr]

theorem State.applyCore_eq (s : State) (c : Fin 96) (o : Nat) (new act : Word32) :
    (∃ n, s.applyCore c o new act = s.modCore c (fun k => k.addCount n act.toNat)) ∨ s.applyCore c o new act = s.regPut o new := by
  generalize hf : State.applyCore = f
  delta State.applyCore at hf
  subst hf
  beta_reduce
  extract_lets l
  split
  · exact .inl ⟨_, rfl⟩
  · exact .inr rfl

theorem State.gang_of_eq_ite {p : Prop} [Decidable p] {r s t u : State} (e : r = if p then s else t) (hs : s.gang = u.gang)
    (ht : t.gang = u.gang) : r.gang = u.gang := by
  rw [e]
  split
  · exact hs
  · exact ht

theorem State.ite_pair_gang {α β : Type} (p : Prop) [Decidable p] (s : State) (x : State × β) (a b : α) (h : x.1.gang = s.gang) :
    (if p then (s, a) else (x.1, b)).1.gang = s.gang := by
  split
  · rfl
  · exact h


/-! ## Operations of `Machine.Ops` -/

@[simp] theorem State.eachMember_gang (s : State) (c : Fin 96) (g : Fin 96 → State → State) (hg : ∀ m t, (g m t).gang = t.gang) :
    (s.eachMember c g).gang = s.gang := State.foldl_gang _ _ _ fun t m => hg m t
@[simp] theorem State.errsumMod_gang (s : State) (b : Nat) : (s.errsumMod b).gang = s.gang := rfl
@[simp] theorem State.errsum_gang (s : State) (c : Fin 96) (b : Nat) : (s.errsum c b).gang = s.gang := rfl
@[simp] theorem State.errsumArr_gang (s : State) (c : Fin 96) (ph b : Nat) : (s.errsumArr c ph b).gang = s.gang := rfl
@[simp] theorem State.record_gang (s : State) (cls unit op action addr subkind synd : Nat) (inj : Bool) :
    (s.record cls unit op action addr subkind synd inj).gang = s.gang := rfl
@[simp] theorem State.raise_gang (s : State) (fn v : Nat) : (s.raise fn v).gang = s.gang := by simp [State.raise]
@[simp] theorem State.alert_gang (s : State) (on : Bool) : (s.alert on).gang = s.gang := rfl
@[simp] theorem State.stopPart_gang (s : State) (p c cause : Nat) (st : CoreSt) : (s.stopPart p c cause st).gang = s.gang := by
  unfold State.stopPart
  split
  · rfl
  · exact (State.modPart_gang _ _ _).trans (State.foldl_gang _ _ _ fun _ _ => rfl)
@[simp] theorem State.progNote_gang (s : State) (c : Fin 96) (unit freg op addr : Nat) :
    (s.progNote c unit freg op addr).gang = s.gang := by simp [State.progNote]
@[simp] theorem State.progFault_gang (s : State) (c : Fin 96) (unit freg op addr : Nat) :
    (s.progFault c unit freg op addr).gang = s.gang := by
  unfold State.progFault
  dsimp only
  split <;> simp
@[simp] theorem State.poisonUse_gang (s : State) (c : Fin 96) (unit op addr : Nat) (inj : Bool) :
    (s.poisonUse c unit op addr inj).gang = s.gang := by
  unfold State.poisonUse
  dsimp only
  split <;> simp
@[simp] theorem State.seqFault_gang (s : State) (c : Fin 96) (cause slot op : Nat) :
    (s.seqFault c cause slot op).gang = s.gang := by simp [State.seqFault]
@[simp] theorem State.layFault_gang (s : State) (c : Fin 96) (cause slot op : Nat) :
    (s.layFault c cause slot op).gang = s.gang := by simp [State.layFault]
@[simp] theorem State.xlateFault_gang (s : State) (c : Fin 96) (addr slot op : Nat) :
    (s.xlateFault c addr slot op).gang = s.gang := by simp [State.xlateFault]
@[simp] theorem State.flip_gang (s : State) (x : List (Nat × Byte)) : (s.flip x).gang = s.gang := rfl
@[simp] theorem State.memNote_gang (s : State) (k cls action : Nat) (scrub inj : Bool) (cw sym : Nat) :
    (s.memNote k cls action scrub inj cw sym).gang = s.gang := rfl
@[simp] theorem State.memEvents_gang (s : State) (k : Nat) (inj : Bool) (l : List (Option Nat)) :
    (s.memEvents k inj l).gang = s.gang := by simp [State.memEvents]
@[simp] theorem State.memUncorrectable_gang (s : State) (k : Nat) (l : List SymErr) (scrub : Bool) :
    (s.memUncorrectable k l scrub).gang = s.gang := by simp [State.memUncorrectable]
@[simp] theorem State.decodeSector_gang (s : State) (k : Nat) (scrub : Bool) : (s.decodeSector k scrub).1.gang = s.gang := by
  unfold State.decodeSector
  split
  · rfl
  · extract_lets l free s₁ a b
    split
    · rfl
    · split
      · split
        · rfl
        · simp [s₁]
      · split
        · simp [s₁]
        · split
          · rfl
          · rename_i inj s₂ _ _ _ _ _ _
            simp [s₂, s₁]
@[simp] theorem State.applyInject_gang (s : State) (k : Nat) : (s.applyInject k).gang = s.gang := by
  unfold State.applyInject
  dsimp only
  split
  · split <;> rfl
  · rfl
@[simp] theorem State.snoopLine_gang (s : State) (l : Nat) : (s.snoopLine l).gang = s.gang := by
  unfold State.snoopLine
  dsimp only
  split <;> simp -implicitDefEqProofs
@[simp] theorem State.snoop_gang (s : State) (ks : List Nat) : (s.snoop ks).gang = s.gang := by simp [State.snoop]
@[simp] theorem State.hbmDecode_gang (s : State) (ks : List Nat) : (s.hbmDecode ks).1.gang = s.gang := by simp [State.hbmDecode]
@[simp] theorem State.hbmReadRaw_gang (s : State) (ks : List Nat) : (s.hbmReadRaw ks).1.gang = s.gang := by simp [State.hbmReadRaw]
@[simp] theorem State.hbmRead_gang (s : State) (ks : List Nat) : (s.hbmRead ks).1.gang = s.gang := by simp [State.hbmRead]
@[simp] theorem State.hbmWriteRaw_gang (s : State) (kb : List (Nat × Byte × Bool)) :
    (s.hbmWriteRaw kb).gang = s.gang := by simp [State.hbmWriteRaw]
@[simp] theorem State.hbmWrite_gang (s : State) (kb : List (Nat × Byte × Bool)) :
    (s.hbmWrite kb).gang = s.gang := by simp [State.hbmWrite]
@[simp] theorem State.devReadL_gang (s : State) (as : List Nat) : (s.devReadL as).1.gang = s.gang := by simp [State.devReadL]
@[simp] theorem State.hostAsk_gang (s : State) (as : List Nat) : (s.hostAsk as).gang = s.gang := rfl
@[simp] theorem State.devRead_gang (s : State) (a n : Nat) : (s.devRead a n).1.gang = s.gang := by simp [State.devRead]
@[simp] theorem State.devWriteL_gang (s : State) (w : List (Nat × Byte × Bool)) : (s.devWriteL w).gang = s.gang := by
  unfold State.devWriteL
  extract_lets hb lm ho s₁ s₂
  have h₁ : s₁.gang = s.gang := by simp [s₁]
  have h₂ : s₂.gang = s₁.gang := State.foldl_gang _ _ _ fun _ _ => rfl
  exact h₂.trans h₁
@[simp] theorem State.devWrite_gang (s : State) (a : Nat) (b : List Byte) (p : Bool) :
    (s.devWrite a b p).gang = s.gang := by simp [State.devWrite]
@[simp] theorem State.walk_gang (s : State) (va : Nat) (write : Bool)
    (fuel level table : Nat) : (s.walk va write fuel level table).1.gang = s.gang := by
  induction fuel generalizing s level table with
  | zero => rfl
  | succ fuel ih => simp [State.walk, ih]
@[simp] theorem State.translate_gang (s : State) (p va : Nat) (write : Bool) :
    (s.translate p va write).1.gang = s.gang := by simp [State.translate]
@[simp] theorem State.translateN_gang (s : State) (p va n : Nat) (write : Bool) : (s.translateN p va n write).1.gang = s.gang := by
  unfold State.translateN
  split <;> rename_i h
  · simp [State.gang_of_fst h]
  · simp [State.gang_of_fst h]
  · dsimp only
    split
    · simp [State.gang_of_fst h]
    · split <;> rename_i h' <;> simp [State.gang_of_fst h', State.gang_of_fst h]
@[simp] theorem State.ptePoison_gang (s : State) (p : Nat) (c : Fin 96) (op off : Nat) :
    (s.ptePoison p c op off).gang = s.gang := by simp [State.ptePoison]

/-! ## Operations of `Machine.Issue` -/

@[simp] theorem State.illegalFault_gang (s : State) (c : Fin 96) (slot : Nat) (w : Word64) :
    (s.illegalFault c slot w).gang = s.gang := by simp [State.illegalFault]
@[simp] theorem State.seqPoison_gang (s : State) (c : Fin 96) (slot op addr : Nat) (inj : Bool) :
    (s.seqPoison c slot op addr inj).gang = s.gang := by simp [State.seqPoison]
@[simp] theorem State.markStall_gang (s : State) (c : Fin 96) : (s.markStall c).gang = s.gang :=
  State.foldl_gang _ _ _ fun _ _ => State.eachMember_gang _ _ _ fun _ _ => rfl
@[simp] theorem State.traceBundle_gang (s : State) (c : Fin 96) : (s.traceBundle c).gang = s.gang := by simp [State.traceBundle]
@[simp] theorem State.openBundle_gang (s : State) (c : Fin 96) (cy : Nat) : (s.openBundle c cy).gang = s.gang := by
  unfold State.openBundle
  split
  · rfl
  · rw [State.modCore_gang, State.eachMember_gang, State.traceBundle_gang]
    intro m t
    rfl
@[simp] theorem State.closeBundle_gang (s : State) (c : Fin 96) (cy : Nat) : (s.closeBundle c cy).gang = s.gang := by
  unfold State.closeBundle
  dsimp only
  split <;> simp -implicitDefEqProofs

/-! ## Operations of `Machine.ChainOps` -/

@[simp] theorem State.modPort_gang (s : State) (p : Nat) (g : Port → Port) : (s.modPort p g).gang = s.gang := by
  unfold State.modPort; split <;> simp
@[simp] theorem State.chainRec_gang (s : State) (unit action reg : Nat) : (s.chainRec unit action reg).gang = s.gang := rfl
@[simp] theorem State.tdrop_gang (s : State) : s.tdrop.gang = s.gang := rfl
@[simp] theorem State.protoRec_gang (s : State) : s.protoRec.gang = s.gang := rfl
@[simp] theorem State.toPortOn_gang (s : State) (p src v : Nat) (m : Msg) :
    (s.toPortOn p src v m).gang = s.gang := by simp [State.toPortOn]
@[simp] theorem State.toPort_gang (s : State) (p src : Nat) (m : Msg) : (s.toPort p src m).gang = s.gang := by simp [State.toPort]
@[simp] theorem State.deliver_gang (s : State) (port : Option Nat) (transit : Bool) (m : Msg) :
    (s.deliver port transit m).gang = s.gang := rfl
@[simp] theorem State.chSend_gang (s : State) (m : Msg) : (s.chSend m).gang = s.gang := by simp [State.chSend]
@[simp] theorem State.respond_gang (s : State) (m : Msg) (sub w3 : Nat) : (s.respond m sub w3).gang = s.gang := by simp [State.respond]
@[simp] theorem State.chainFault_gang (s : State) (c : Fin 96) (cause node reason op : Nat) :
    (s.chainFault c cause node reason op).gang = s.gang := by simp [State.chainFault]
@[simp] theorem State.drawTag_gang (s : State) : s.drawTag.1.gang = s.gang := rfl
@[simp] theorem State.chainReq_gang (s : State) (c : Fin 96) (g : ChTag) (uid : Nat) (write : Bool) (rem loc node n : Nat) :
    (s.chainReq c g uid write rem loc node n).gang = s.gang := by simp [State.chainReq]
@[simp] theorem State.chainReqs_gang (s : State) (c : Fin 96) (g : ChTag) (uid : Nat) (write : Bool) (rem loc node b : Nat) :
    (s.chainReqs c g uid write rem loc node b).gang = s.gang := by simp [State.chainReqs]
@[simp] theorem State.chainStart_gang (s : State) (c : Fin 96) (g : ChTag) (uid : Nat) (write : Bool) (rem loc node b : Nat) (sigen : Bool)
    (scnt opw : Nat) :
    (s.chainStart c g uid write rem loc node b sigen scnt opw).gang = s.gang := by simp [State.chainStart]
@[simp] theorem State.sendCsig_gang (s : State) (c : Fin 96) (g : ChTag) (node core n amount : Nat) :
    (s.sendCsig c g node core n amount).gang = s.gang := by simp [State.sendCsig]

/-! ## Operations of `Machine.Order` -/

@[simp] theorem State.doStore_gang (s : State) (c : Fin 96) (id : Nat) (dev : Bool) (addr width value : Nat) :
    (s.doStore c id dev addr width value).gang = s.gang := by
  unfold State.doStore; (repeat' split) <;> simp
@[simp] theorem State.perform_gang (s : State) (c : Fin 96) (id : Nat) (op : HeldOp) : (s.perform c id op).gang = s.gang := by
  unfold State.perform; split <;> simp
@[simp] theorem State.release_gang (s : State) (c : Fin 96) (fuel : Nat) : (s.release c fuel).gang = s.gang := by
  induction fuel generalizing s with
  | zero => rfl
  | succ fuel ih =>
    unfold State.release
    dsimp only
    split <;> simp [ih]
@[simp] theorem State.settle_gang (s : State) (c : Fin 96) : (s.settle c).gang = s.gang := by simp [State.settle]
@[simp] theorem State.ordered_gang (s : State) (c : Fin 96) (op : HeldOp) : (s.ordered c op).gang = s.gang := by simp [State.ordered]
@[simp] theorem State.scntFault_gang (s : State) (c : Fin 96) (cause ix : Nat) (modbar : Bool) (op : Nat) :
    (s.scntFault c cause ix modbar op).gang = s.gang := by simp [State.scntFault]

/-! ## Operations of `Machine.BushelOps` -/

@[simp] theorem State.modBsh_gang (s : State) (n : Nat) (g : Bushel → Bushel) : (s.modBsh n g).gang = s.gang := by
  unfold State.modBsh; split <;> simp
@[simp] theorem State.setJob_gang (s : State) (n j : Nat) (x : Job) : (s.setJob n j x).gang = s.gang := by simp [State.setJob]
@[simp] theorem State.bshRefuse_gang (s : State) (n cause job : Nat) (c : Fin 96) (part op : Nat) :
    (s.bshRefuse n cause job c part op).gang = s.gang := by simp [State.bshRefuse]
@[simp] theorem State.bshPut_gang (s : State) (n off : Nat) (vs : List Nat) (p : Bool) :
    (s.bshPut n off vs p).gang = s.gang := by simp [State.bshPut]
@[simp] theorem State.bshGet_gang (s : State) (n off len : Nat) : (s.bshGet n off len).1.gang = s.gang := by simp [State.bshGet]
@[simp] theorem State.poisonBlock_gang (n : Nat) (s t : State) (b : Nat) :
    (State.poisonBlock n s t b).gang = t.gang := by simp [State.poisonBlock]
@[simp] theorem State.bshAddRow_gang (s : State) (n off : Nat) (vs : List Nat) (z : Bool) :
    (s.bshAddRow n off vs z).gang = s.gang := by simp [State.bshAddRow]
@[simp] theorem State.sendContrib_gang (s : State) (who : Sender) (uid node omc job rank blk : Nat) (vs : List Nat) (z : Bool) :
    (s.sendContrib who uid node omc job rank blk vs z).gang = s.gang := by
  unfold State.sendContrib
  split
  next t tag h =>
  have ht : t.gang = s.gang := (State.gang_of_fst h).trans s.drawTag_gang
  cases who with
  | core c g => simp [ht]
  | bushel n p =>
    dsimp only
    split <;> simp [ht]
@[simp] theorem State.sumAdd_gang (s : State) (n j b : Nat) (c : HeldC) : (s.sumAdd n j b c).gang = s.gang := by
  unfold State.sumAdd
  extract_lets x y nf vs s₁ x₁ off g r t z t₁
  have h₁ : s₁.gang = s.gang := by simp [s₁]
  have hr : r.1.gang = s₁.gang := State.ite_pair_gang _ _ _ _ _ (State.bshGet_gang _ _ _ _)
  have ht : t.gang = r.1.gang := by simp only [t, State.count64_gang, State.bshPut_gang]
  have ht₁ : t₁.gang = t.gang := by unfold t₁; clear_value t z; split <;> rfl
  rw [State.setJob_gang, ht₁, ht, hr, h₁]
@[simp] theorem State.sumRun_gang (s : State) (n j b fuel : Nat) : (s.sumRun n j b fuel).gang = s.gang := by
  induction fuel generalizing s with
  | zero => rfl
  | succ fuel ih =>
    unfold State.sumRun
    dsimp only
    split <;> simp [ih]
@[simp] theorem State.acceptContrib_gang (s : State) (n j b : Nat) (c : HeldC) :
    (s.acceptContrib n j b c).gang = s.gang := by simp [State.acceptContrib]

/-! ## Operations of `Machine.Bushel` -/

@[simp] theorem State.bqPull_gang (s : State) (n : Nat) : (s.bqPull n).gang = s.gang := by
  unfold State.bqPull; split <;> simp
@[simp] theorem State.bcmdRun_gang (s : State) (n op : Nat) (body : BRec → State → State) (hbody : ∀ r t, (body r t).gang = t.gang) :
    (s.bcmdRun n op body).gang = s.gang := by
  unfold State.bcmdRun
  split
  · rfl
  · dsimp only
    split
    · split <;> simp [hbody]
    · rfl
@[simp] theorem State.refuse_gang (s : State) (n cause : Nat) (r : BRec) : (s.refuse n cause r).gang = s.gang := by simp [State.refuse]
@[simp] theorem State.openPages_gang (s : State) (p : Nat) (acc : List (Nat × Nat)) (l : List (Nat × Bool)) :
    (s.openPages p acc l).1.gang = s.gang := by
  rw [State.openPages_eq]
  exact openPagesBy_gang _ _ _ _ _ _ State.translate_gang
@[simp] theorem State.jobRead_gang (s : State) (x : Job) (va len : Nat) : (s.jobRead x va len).1.gang = s.gang := by simp [State.jobRead]
@[simp] theorem State.jobWrite_gang (s : State) (x : Job) (va : Nat) (b : List Byte) (z : Bool) :
    (s.jobWrite x va b z).gang = s.gang := by simp [State.jobWrite]
@[simp] theorem State.moment_gang (s : State) (x : Job) (q b : Nat) : (s.moment x q b).1.gang = s.gang := by simp [State.moment]
@[simp] theorem State.putMoment_gang (s : State) (x : Job) (q b : Nat) (vs : List Fv) (z : Bool) :
    (s.putMoment x q b vs z).gang = s.gang := by simp [State.putMoment]
@[simp] theorem State.factors_gang (s : State) (n : Nat) (x : Job) : (s.factors n x).1.gang = s.gang := by
  unfold State.factors
  extract_lets gs sq zero q p old prev step r c z bad f
  have hg : gs.1.gang = s.gang := State.foldl_fst_gang _ _ _ fun y a => (State.mk_fst_gang _ _).trans (State.bshGet_gang _ _ _ _)
  rw [State.mk_fst_gang, State.jobWrite_gang, State.jobRead_gang, hg]
@[simp] theorem State.paramSend_gang (s : State) (m : Msg) (p : Nat) : (s.paramSend m p).gang = s.gang := by simp [State.paramSend]
@[simp] theorem State.updateBlock_gang (s : State) (n j b : Nat) : (s.updateBlock n j b).gang = s.gang := by
  unfold State.updateBlock
  extract_lets x₀ f r x fac g w m0 v0 z wv el new wfmt nf bytes s₁ s₂ s₃ s₄ fresh s₅ blk src s₆ data
  have hr : r.1.gang = s.gang := by
    unfold r
    split
    · exact (State.mk_fst_gang _ _).trans (State.factors_gang _ _ _)
    · rfl
  have hg : g.1.gang = r.1.gang := State.bshGet_gang _ _ _ _
  have hw : w.1.gang = g.1.gang := State.jobRead_gang _ _ _ _
  have hm : m0.1.gang = w.1.gang := State.moment_gang _ _ _ _
  have hv : v0.1.gang = m0.1.gang := by
    unfold v0
    rw [State.ite_fst_gang, State.moment_gang, ite_self]
  have h₁ : s₁.gang = v0.1.gang := State.putMoment_gang _ _ _ _ _ _
  have h₂ : s₂.gang = s₁.gang := State.gang_of_eq_ite rfl (State.putMoment_gang _ _ _ _ _ _) rfl
  have h₃ : s₃.gang = s₂.gang := State.jobWrite_gang _ _ _ _ _
  have h₄ : s₄.gang = s₃.gang := (State.count64_gang _ _ _).trans (State.count_gang _ _ _)
  have h₅ : s₅.gang = s₄.gang := State.gang_of_eq_ite rfl (State.count_gang _ _ _) rfl
  have h₆ : s₆.gang = s₅.gang := State.setJob_gang _ _ _ _
  rw [State.ite_gang, State.paramSend_gang, ite_self, h₆, h₅, h₄, h₃, h₂, h₁, hv, hm, hw, hg, hr]

/-! ## Operations of `Machine.Chain` -/

@[simp] theorem State.chainIssue_gang (s : State) (m : Fin 96) (op : Nat) (f : Fields) (write : Bool) :
    (s.chainIssue m op f write).gang = s.gang := by simp [State.chainIssue]
@[simp] theorem State.takeMsg_gang (s : State) (k : Nat) (p : InMsg → Bool) (body : InMsg → State → State)
    (hbody : ∀ x t, (body x t).gang = t.gang) :
    (s.takeMsg k p body).gang = s.gang := by
  unfold State.takeMsg
  split
  · rfl
  · split <;> simp [hbody]
@[simp] theorem State.refuseMsg_gang (s : State) (m : Msg) (reason : Nat) :
    (s.refuseMsg m reason).gang = s.gang := by simp [State.refuseMsg]
@[simp] theorem State.noPriv_gang (s : State) : s.noPriv.gang = s.gang :=
  State.foldl_gang _ _ _ fun _ _ => State.foldl_gang _ _ _ fun _ _ => rfl
@[simp] theorem State.msgPoison_gang (s : State) (q off : Nat) : (s.msgPoison q off).gang = s.gang := by simp [State.msgPoison]
@[simp] theorem State.serveAt_gang (s : State) (m : Msg) (addr n : Nat) (write hbmOnly : Bool) (g : Nat → List Nat → State → State)
    (hg : ∀ a l t, (g a l t).gang = t.gang) :
    (s.serveAt m addr n write hbmOnly g).gang = s.gang := by
  unfold State.serveAt
  split
  · simp
  · split <;> rename_i h
    · split <;> simp [hg, State.gang_of_fst h]
    · simp [State.gang_of_fst h]
    · split <;> simp [State.gang_of_fst h]
@[simp] theorem State.rxPois_gang (s : State) (m : Msg) : (s.rxPois m).gang = s.gang := by simp [State.rxPois]
@[simp] theorem State.answer_gang (s : State) (m : Msg) (kd : ReqKind) (g : ChReq → State → State) (hg : ∀ r t, (g r t).gang = t.gang) :
    (s.answer m kd g).gang = s.gang := by
  unfold State.answer
  split <;> simp [hg]
@[simp] theorem State.chainDone_gang (s : State) (c : Fin 96) (uid : Nat) (ok : Bool) : (s.chainDone c uid ok).gang = s.gang := by
  unfold State.chainDone; split <;> simp
@[simp] theorem State.chainFailed_gang (s : State) (r : ChReq) (cause reason : Nat) :
    (s.chainFailed r cause reason).gang = s.gang := by simp [State.chainFailed]
@[simp] theorem State.touchCore_gang (s : State) (c : Fin 96) : (s.touchCore c).gang = s.gang := by
  unfold State.touchCore; split <;> simp
@[simp] theorem State.sendDone_gang (s : State) (n uid : Nat) : (s.sendDone n uid).gang = s.gang := by
  unfold State.sendDone; split <;> simp
@[simp] theorem State.trackSet_gang (s : State) (m : Msg) : (s.trackSet m).gang = s.gang := by simp [State.trackSet]

/-! ## Operations of `Machine.ChainLink` -/

@[simp] theorem State.sendFlit_gang (s : State) (p kind seq vc first : Nat) (body : List Byte) :
    (s.sendFlit p kind seq vc first body).gang = s.gang := by simp [State.sendFlit]
@[simp] theorem State.enterHoldover_gang (s : State) : s.enterHoldover.gang = s.gang := by
  unfold State.enterHoldover
  dsimp only
  split <;> simp -implicitDefEqProofs
@[simp] theorem State.setPortSt_gang (s : State) (p st : Nat) : (s.setPortSt p st).gang = s.gang := by simp [State.setPortSt]
@[simp] theorem State.leaveUp_gang (s : State) (p st : Nat) : (s.leaveUp p st).gang = s.gang := by simp [State.leaveUp]
@[simp] theorem State.retrainPort_gang (s : State) (p : Nat) : (s.retrainPort p).gang = s.gang := by simp [State.retrainPort]
@[simp] theorem State.retrainFault_gang (s : State) (p : Nat) : (s.retrainFault p).gang = s.gang := by simp [State.retrainFault]
@[simp] theorem State.dropLink_gang (s : State) (p : Nat) : (s.dropLink p).gang = s.gang := by simp [State.dropLink]
@[simp] theorem State.trainFail_gang (s : State) (p cause : Nat) : (s.trainFail p cause).gang = s.gang := by simp [State.trainFail]
@[simp] theorem State.arrived_gang (s : State) (p v : Nat) (m : Msg) : (s.arrived p v m).gang = s.gang := by simp [State.arrived]
@[simp] theorem State.acceptBody_gang (s : State) (p v first : Nat) (body : List Byte) :
    (s.acceptBody p v first body).gang = s.gang := by simp [State.acceptBody]
@[simp] theorem State.portCorrected_gang (s : State) (p : Nat) : (s.portCorrected p).gang = s.gang := rfl

/-! ## Operations of `Machine.Errors` -/

@[simp] theorem State.saveHistory_gang (s : State) : s.saveHistory.gang = s.gang := rfl
@[simp] theorem State.noteRepair_gang (s : State) (n off : Nat) : (s.noteRepair n off).gang = s.gang := by simp [State.noteRepair]
@[simp] theorem State.noteLine_gang (s : State) (n pc line : Nat) : (s.noteLine n pc line).gang = s.gang := by simp [State.noteLine]
@[simp] theorem State.classCore_gang (s : State) (c : Fin 96) : (s.classCore c).gang = s.gang := by simp [State.classCore]
@[simp] theorem State.classArray_gang (s : State) (c : Fin 96) (ph frame : Nat) : (s.classArray c ph frame).gang = s.gang := by
  unfold State.classArray
  extract_lets s₁
  have h₁ : s₁.gang = s.gang := rfl
  split
  · exact h₁
  · split
    · split
      · exact h₁
      · simp [h₁]
    · split <;> simp [h₁]
@[simp] theorem State.judge_gang (s : State) (r : ErrRec) : (s.judge r).gang = s.gang := by
  unfold State.judge; split <;> simp
@[simp] theorem State.nvCorrected_gang (s : State) : s.nvCorrected.gang = s.gang := rfl
@[simp] theorem State.placeLog_gang (s : State) (b : List Byte) (dead : Bool) :
    (s.placeLog b dead).gang = s.gang := by simp [State.placeLog]
@[simp] theorem State.dropNote_gang (s : State) : s.dropNote.gang = s.gang := rfl
@[simp] theorem State.takeRecord_gang (s : State) (r : ErrRec) : (s.takeRecord r).gang = s.gang := by
  unfold State.takeRecord
  dsimp only
  split <;> simp
@[simp] theorem State.takeN_gang (s : State) (n : Nat) : (s.takeN n).gang = s.gang := by
  induction n generalizing s with
  | zero => rfl
  | succ n ih =>
    unfold State.takeN
    split
    · rfl
    · dsimp only
      split <;> simp [ih]
@[simp] theorem State.takeAll_gang (s : State) : s.takeAll.gang = s.gang := by simp [State.takeAll]

/-! ## Operations of `Machine.ResetOps` -/

@[simp] theorem State.toPhase_gang (s : State) (p : Phase) : (s.toPhase p).gang = s.gang := rfl
@[simp] theorem State.cause_gang (s : State) (mask : Nat) : (s.cause mask).gang = s.gang := rfl
@[simp] theorem State.requestCore_gang (s : State) (mask : Nat) : (s.requestCore mask).gang = s.gang := by simp [State.requestCore]
@[simp] theorem State.requestPart_gang (s : State) (p : Nat) : (s.requestPart p).gang = s.gang := by simp [State.requestPart]
@[simp] theorem State.rebuildCore_gang (s : State) (c : Fin 96) : (s.rebuildCore c).gang = s.gang := by
  unfold State.rebuildCore
  extract_lets gone old q s₁ s₂ s₃ t₁ t₂
  have h₁ : s₁.gang = s.gang := rfl
  have h₂ : s₂.gang = s₁.gang := by unfold s₂; clear_value q; split <;> rfl
  have h₃ : s₃.gang = s₂.gang := State.foldl_gang _ _ _ fun _ _ => rfl
  have ht : t₂.gang = s₃.gang := rfl
  simp [ht, h₃, h₂, h₁]
@[simp] theorem State.loadHistory_gang (s : State) : s.loadHistory.gang = s.gang := by
  unfold State.loadHistory
  extract_lets s₁ s₂ s₃ s₄ s₅
  have h : s₅.gang = s.gang := State.foldl_gang _ _ _ fun _ _ => rfl
  exact (State.foldl_gang _ _ _ State.rebuildCore_gang).trans h
@[simp] theorem State.showPeak_gang (s : State) : s.showPeak.gang = s.gang := rfl
@[simp] theorem State.loadLimits_gang (s : State) : s.loadLimits.gang = s.gang := rfl

/-! ## Operations of `Machine.Frame` -/

@[simp] theorem State.eachCore_gang (s : State) (l : List (Fin 96)) (g : Core → Core) : (s.eachCore l g).gang = s.gang :=
  State.foldl_gang _ _ _ fun _ _ => rfl
@[simp] theorem State.loadImage_gang (s : State) (c : Fin 96) (l : Launch) : (s.loadImage c l).gang = s.gang :=
  State.foldl_gang _ _ _ fun _ _ => rfl
@[simp] theorem State.startBlock_gang (s : State) (c : Fin 96) : (s.startBlock c).gang = s.gang := by
  unfold State.startBlock
  dsimp only
  split <;> simp -implicitDefEqProofs
@[simp] theorem State.portFrame_gang (s : State) (p : Nat) : (s.portFrame p).gang = s.gang := by simp [State.portFrame]
@[simp] theorem State.dropAccess_gang (s : State) (lo hi : Nat) : (s.dropAccess lo hi).gang = s.gang := rfl
@[simp] theorem State.resetCores_gang (s : State) (l : List (Fin 96)) : (s.resetCores l).gang = s.gang :=
  State.foldl_gang _ _ _ fun _ _ => rfl
@[simp] theorem State.clearBarrier_gang (s : State) (b : Nat) : (s.clearBarrier b).gang = s.gang := by simp [State.clearBarrier]
@[simp] theorem State.clearUcb_gang (s : State) (base : Nat) : (s.clearUcb base).gang = s.gang := rfl
@[simp] theorem State.coreWindows_gang (s : State) (c : Fin 96) : (s.coreWindows c).gang = s.gang := rfl
@[simp] theorem State.unitWindows_gang (s : State) (base first n : Nat) (bar : Option Nat) :
    (s.unitWindows base first n bar).gang = s.gang := State.foldl_gang _ _ _ fun _ _ => rfl
@[simp] theorem State.windows_gang (s : State) : s.windows.gang = s.gang := by
  unfold State.windows
  extract_lets s₁ s₂ s₃
  have h₁ : s₁.gang = s.gang := State.foldl_gang _ _ _ State.coreWindows_gang
  have h₂ : s₂.gang = s₁.gang := State.foldl_gang _ _ _ fun t k => State.unitWindows_gang _ _ _ _ _
  simp [s₃, h₁, h₂]
@[simp] theorem State.slip_gang (s : State) (c : Fin 96) (p : Nat) : (s.slip c p).gang = s.gang := by
  unfold State.slip
  dsimp only
  split <;> simp -implicitDefEqProofs
@[simp] theorem State.slips_gang (s : State) : s.slips.gang = s.gang := by
  unfold State.slips
  extract_lets l s₁
  have h₁ : s₁.gang = s.gang := State.foldl_gang _ _ _ fun t c => by split <;> simp
  rw [State.foldl_gang, h₁]
  intro t c
  split
  · split <;> simp
  · rfl
@[simp] theorem State.powerState_gang (s : State) : s.powerState.gang = s.gang := by
  unfold State.powerState; split <;> simp
@[simp] theorem State.windowDone_gang (s : State) (d : Nat) : (s.windowDone d).gang = s.gang := rfl

/-! ## Operations of `Machine.Window` -/

@[simp] theorem State.remap_gang (s : State) (c : Fin 96) : (s.remap c).gang = s.gang := by
  unfold State.remap
  dsimp only
  split <;> simp
@[simp] theorem State.releaseRound_gang (s : State) (b : Nat) : (s.releaseRound b).gang = s.gang := by simp [State.releaseRound]
@[simp] theorem State.decide1_gang (s : State) (p f : Nat) (c : Fin 96) : (s.decide1 p f c).gang = s.gang := by
  simp -implicitDefEqProofs [State.decide1]
@[simp] theorem State.noteDone_gang (s : State) (p : Nat) : (s.noteDone p).gang = s.gang := rfl

/-! ## Operations of `Machine.TimeSync` -/

@[simp] theorem State.sendNotice_gang (s : State) (p : Nat) : (s.sendNotice p).gang = s.gang := by simp [State.sendNotice]
@[simp] theorem State.sendLinkTick_gang (s : State) (p txt : Nat) : (s.sendLinkTick p txt).gang = s.gang := by simp [State.sendLinkTick]
@[simp] theorem State.podArrive_gang (s : State) (n tag : Nat) : (s.podArrive n tag).gang = s.gang := by simp [State.podArrive]
@[simp] theorem State.podLocal_gang (s : State) (n : Nat) : (s.podLocal n).gang = s.gang := by simp [State.podLocal]
@[simp] theorem State.measured_gang (s : State) (o : Int) : (s.measured o).gang = s.gang := rfl
@[simp] theorem State.tickMeasure_gang (s : State) (p : Nat) (d o : Int) :
    (s.tickMeasure p d o).gang = s.gang := by simp [State.tickMeasure]
@[simp] theorem State.slaveHops_gang (s : State) (p : Nat) : (s.slaveHops p).gang = s.gang := by simp [State.slaveHops]
@[simp] theorem State.timeRec_gang (s : State) : s.timeRec.gang = s.gang := rfl
@[simp] theorem State.takeBarrier_gang (s : State) (k sub : Nat) (g : Nat → Nat → Msg → State → State)
    (hg : ∀ a b m t, (g a b m t).gang = t.gang) :
    (s.takeBarrier k sub g).gang = s.gang := by
  refine State.takeMsg_gang _ _ _ _ fun x t => ?_
  dsimp only
  split <;> simp [hg]
@[simp] theorem State.holdRelease_gang (s : State) (n f round : Nat) :
    (s.holdRelease n f round).gang = s.gang := by simp [State.holdRelease]
@[simp] theorem State.podNext_gang (s : State) (n : Nat) : (s.podNext n).gang = s.gang := by simp [State.podNext]

/-! ## Operations of `Machine.Launch` -/

@[simp] theorem State.cpPoison_gang (s : State) (p addr : Nat) : (s.cpPoison p addr).gang = s.gang := by simp [State.cpPoison]
@[simp] theorem State.cpRead_gang (s : State) (p va n : Nat) : (s.cpRead p va n).1.gang = s.gang := by
  unfold State.cpRead
  split <;> rename_i h <;> simp [State.gang_of_fst h]
@[simp] theorem State.cpWrite_gang (s : State) (p va : Nat) (b : List Byte) : (s.cpWrite p va b).1.gang = s.gang := by
  unfold State.cpWrite
  split <;> rename_i h <;> simp [State.gang_of_fst h]
@[simp] theorem State.modRing_gang (s : State) (p r : Nat) (g : Ring → Ring) : (s.modRing p r g).gang = s.gang := rfl
@[simp] theorem State.ringFault_gang (s : State) (p r cause : Nat) : (s.ringFault p r cause).gang = s.gang := rfl
@[simp] theorem State.launch_gang (s : State) (p r ix addr : Nat) (d : List Byte) : (s.launch p r ix addr d).gang = s.gang := by
  simp -implicitDefEqProofs [State.launch]
@[simp] theorem State.report_gang (s : State) (p : Nat) (x : Report) : (s.report p x).gang = s.gang := by simp [State.report]
@[simp] theorem State.collect_gang (s : State) (p : Nat) : (s.collect p).gang = s.gang := by simp [State.collect]
@[simp] theorem State.takeDescs_gang (s : State) (p r pc fuel : Nat) : (s.takeDescs p r pc fuel).gang = s.gang := by
  induction fuel generalizing s with
  | zero => rfl
  | succ fuel ih =>
    unfold State.takeDescs
    extract_lets t
    split
    · rfl
    · split <;> rename_i h
      · simp [State.gang_of_fst h]
      · simp [State.gang_of_fst h]
      · extract_lets next s₂ ctrl l
        have hn : next.gang = s.gang := by simp [next, State.gang_of_fst h]
        have h₂ : s₂.gang = s.gang := by simp [s₂, hn]
        split
        · simp [h₂]
        · split
          · simp [ih, hn]
          · split <;> simp [ih, hn, State.gang_of_fst h]
@[simp] theorem State.sampleRing_gang (s : State) (p r : Nat) : (s.sampleRing p r).gang = s.gang := by
  unfold State.sampleRing
  split
  · rfl
  · split <;> rename_i h <;> simp [State.gang_of_fst h]
@[simp] theorem State.readLoss_gang (s : State) (p : Nat) : (s.readLoss p).gang = s.gang := by
  unfold State.readLoss
  split
  · rfl
  · split <;> rename_i h <;> simp [State.gang_of_fst h]
@[simp] theorem State.sampling_gang (s : State) (p : Nat) : (s.sampling p).gang = s.gang := by simp [State.sampling]
@[simp] theorem State.spike_gang (s : State) (p step x : Nat) : (s.spike p step x).gang = s.gang := by simp [State.spike]
@[simp] theorem State.takeSample_gang (s : State) (p step x : Nat) : (s.takeSample p step x).gang = s.gang := by simp [State.takeSample]
@[simp] theorem State.evalWatch_gang (s : State) (p : Nat) : (s.evalWatch p).gang = s.gang := by
  unfold State.evalWatch; (repeat' split) <;> simp

/-! ## Operations of `Machine.MatrixOps` -/

@[simp] theorem State.matFault_gang (s : State) (c : Fin 96) (cause a op : Nat) :
    (s.matFault c cause a op).gang = s.gang := by simp [State.matFault]

/-! ## Operations of `Machine.Matrix` -/

@[simp] theorem State.mQueue_gang (s : State) (m : Fin 96) (kd : MKind) (op : Nat) (f : Fields) :
    (s.mQueue m kd op f).gang = s.gang := rfl
@[simp] theorem State.csumFirst_gang (s : State) (c : Fin 96) (m : MOp) (ups : List Upset) : (s.csumFirst c m ups).1.gang = s.gang := by
  refine State.foldl_fst_gang _ _ _ fun x a => ?_
  dsimp only
  split
  · simp
  · rfl
@[simp] theorem State.drainDeliver_gang (s : State) (c : Fin 96) (m : MOp) (rows : List (List Nat × Nat × List Bool)) :
    (s.drainDeliver c m rows).1.gang = s.gang := by
  unfold State.drainDeliver
  extract_lets f p
  split
  · rfl
  · rfl
  · split <;> simp
  · split
    · simp
    · split
      · simp
      · exact State.foldl_gang _ _ _ fun t x => State.sendContrib_gang _ _ _ _ _ _ _ _ _ _
@[simp] theorem State.drainCommit_gang (s : State) (c : Fin 96) (m : MOp) :
    (s.drainCommit c m).gang = s.gang := by simp [State.drainCommit]
@[simp] theorem State.csumRecord_gang (s : State) (c : Fin 96) (cls action op b : Nat) (x : Mismatch) :
    (s.csumRecord c cls action op b x).gang = s.gang := rfl
@[simp] theorem State.csumCleared_gang (s : State) (c : Fin 96) (m : MOp) (x : Mismatch) : (s.csumCleared c m x).gang = s.gang := rfl
@[simp] theorem State.csumFailed_gang (s : State) (c : Fin 96) (m : MOp) (x : Mismatch) :
    (s.csumFailed c m x).gang = s.gang := by simp [State.csumFailed]

/-! ## Operations of `Machine.RegAccess` -/

@[simp] theorem State.observe_gang (s : State) (p : Nat) : (s.observe p).gang = s.gang := by simp [State.observe]
@[simp] theorem State.observeCore_gang (s : State) (c : Fin 96) : (s.observeCore c).gang = s.gang := by
  unfold State.observeCore; split <;> simp
@[simp] theorem State.observeRead_gang (s : State) (r : Fin 10) (o : Nat) : (s.observeRead r o).gang = s.gang := by
  unfold State.observeRead; (repeat' split) <;> simp
@[simp] theorem State.regPut_gang (s : State) (o : Nat) (v : Word32) : (s.regPut o v).gang = s.gang := by
  unfold State.regPut; split <;> simp
@[simp] theorem State.hostTouch_gang (s : State) (r : Fin 10) (o : Nat) : (s.hostTouch r o).gang = s.gang := by
  unfold State.hostTouch
  split
  · rfl
  · exact State.foldl_gang _ _ _ fun _ _ => rfl
@[simp] theorem State.regRead_gang (s : State) (r : Fin 10) (off : Nat) : (s.regRead r off).1.gang = s.gang := by
  unfold State.regRead
  extract_lets w o
  split
  · split <;> rfl
  · split
    · rfl
    · next v key s₁ s₂ _ _ _ _ =>
      have h₂ : s₂.gang = s.gang := by simp [s₂, s₁]
      clear_value s₂
      simp [h₂]
@[simp] theorem State.readReg_gang (s : State) (r : Fin 10) (off len : Nat) :
    (s.readReg r off len).1.gang = s.gang := by simp [State.readReg]
@[simp] theorem State.haltGang_gang (s : State) (c : Fin 96) (on : Bool) : (s.haltGang c on).gang = s.gang := by simp [State.haltGang]
@[simp] theorem State.writeHalt_gang (s : State) (m : Nat) (v : Word32) : (s.writeHalt m v).gang = s.gang := by simp [State.writeHalt]
@[simp] theorem State.writeTimeCtrl_gang (s : State) (new : Word32) : (s.writeTimeCtrl new).gang = s.gang := by simp [State.writeTimeCtrl]
@[simp] theorem State.writeSlwin_gang (s : State) (k : Nat) (new : Word32) :
    (s.writeSlwin k new).gang = s.gang := by simp [State.writeSlwin]
@[simp] theorem State.writeInj_gang (s : State) (n : Nat) (new : Word32) : (s.writeInj n new).gang = s.gang := by simp [State.writeInj]
@[simp] theorem State.writeInjArr_gang (s : State) (new : Word32) : (s.writeInjArr new).gang = s.gang := by simp [State.writeInjArr]
@[simp] theorem State.mailbox_gang (s : State) (cmd tag : Nat) : (s.mailbox cmd tag).gang = s.gang := by simp [State.mailbox]
@[simp] theorem State.pldmRequest_gang (s : State) (cmd arg tag : Nat) : (s.pldmRequest cmd arg tag).gang = s.gang := rfl
@[simp] theorem State.leaveS3_gang (s : State) : s.leaveS3.gang = s.gang := by simp [State.leaveS3]
@[simp] theorem State.scrubGo_gang (s : State) (len : Nat) : (s.scrubGo len).gang = s.gang := by simp [State.scrubGo]
@[simp] theorem State.ringOn_gang (s : State) (p r : Nat) : (s.ringOn p r).gang = s.gang := by
  unfold State.ringOn
  split <;> rename_i h <;> simp [State.gang_of_fst h]
@[simp] theorem State.writeRcfg_gang (s : State) (p r : Nat) (new : Word32) :
    (s.writeRcfg p r new).gang = s.gang := by simp [State.writeRcfg]
@[simp] theorem State.writeErrCtrl_gang (s : State) (new : Word32) : (s.writeErrCtrl new).gang = s.gang := by simp [State.writeErrCtrl]
@[simp] theorem State.writeChCtrl_gang (s : State) (p : Nat) (new : Word32) (retrain : Bool) :
    (s.writeChCtrl p new retrain).gang = s.gang := by simp [State.writeChCtrl]
@[simp] theorem State.chcRefuse_gang (s : State) : s.chcRefuse.gang = s.gang := rfl
@[simp] theorem State.applyCore_gang (s : State) (c : Fin 96) (o : Nat) (new act : Word32) : (s.applyCore c o new act).gang = s.gang := by
  obtain ⟨n, h⟩ | h := s.applyCore_eq c o new act <;> simp [h]
@[simp] theorem State.applyPart_gang (s : State) (p o : Nat) (new act : Word32) : (s.applyPart p o new act).gang = s.gang := by
  unfold State.applyPart; (repeat' split) <;> simp
@[simp] theorem State.applyChc_gang (s : State) (o : Nat) (new act : Word32) :
    (s.applyChc o new act).gang = s.gang := by simp [State.applyChc]
@[simp] theorem State.limitsWrite_gang (s : State) (sus peak : Nat) :
    (s.limitsWrite sus peak).gang = s.gang := by simp [State.limitsWrite]
@[simp] theorem State.reserveWrite_gang (s : State) (n : Nat) : (s.reserveWrite n).gang = s.gang := by simp [State.reserveWrite]
@[simp] theorem State.guardFail_gang (s : State) (r : Fin 10) (o : Nat) : (s.guardFail r o).gang = s.gang := rfl
@[simp] theorem State.disturb_gang (s : State) (r : Fin 10) (o : Nat) : (s.disturb r o).gang = s.gang := by
  unfold State.disturb; split <;> simp

/-! ## Operations of `Machine.Reset` -/

@[simp] theorem State.endLaunches_gang (s : State) (p : Nat) : (s.endLaunches p).gang = s.gang := rfl
@[simp] theorem State.scrubCores_gang (s : State) (l : List (Fin 96)) : (s.scrubCores l).gang = s.gang := by simp [State.scrubCores]
@[simp] theorem State.endRip_gang (s : State) : s.endRip.gang = s.gang := by simp [State.endRip]
@[simp] theorem State.linkDown_gang (s : State) : s.linkDown.gang = s.gang := rfl
@[simp] theorem State.fallbackRec_gang (s : State) : s.fallbackRec.gang = s.gang := rfl
@[simp] theorem State.bootSlot_gang (s : State) (i : Nat) : (s.bootSlot i).gang = s.gang := rfl
@[simp] theorem State.withDevice_gang (s : State) : s.withDevice.gang = s.gang := by simp [State.withDevice]
@[simp] theorem State.mendOptions_gang (s : State) : s.mendOptions.gang = s.gang := State.foldl_gang _ _ _ fun _ _ => rfl
@[simp] theorem State.withCdi0_gang (s : State) : s.withCdi0.gang = s.gang := rfl
@[simp] theorem State.withAlias_gang (s : State) : s.withAlias.gang = s.gang := rfl
@[simp] theorem State.raiseSvn_gang (s : State) : s.raiseSvn.gang = s.gang := by simp [State.raiseSvn]

/-! ## Operations of `Machine.Power` -/

@[simp] theorem State.showHog_gang (s : State) : s.showHog.gang = s.gang := rfl
@[simp] theorem State.applyLimit_gang (s : State) (x : Nat × Nat) : (s.applyLimit x).gang = s.gang := by
  unfold State.applyLimit; split <;> simp
@[simp] theorem State.powerRec_gang (s : State) (cls action : Nat) : (s.powerRec cls action).gang = s.gang := rfl
@[simp] theorem State.powerFail_gang (s : State) : s.powerFail.gang = s.gang := by simp [State.powerFail]

/-! ## Operations of `Machine.Faults` -/

@[simp] theorem State.localFault_gang (s : State) (c : Fin 96) (off : Nat) (f : Found) : (s.localFault c off f).gang = s.gang := by
  unfold State.localFault; split <;> simp
@[simp] theorem State.fatalFault_gang (s : State) (unit : Nat) : (s.fatalFault unit).gang = s.gang := by simp [State.fatalFault]
@[simp] theorem State.stateFault_gang (s : State) (c : Fin 96) (array : Option (Fin 5)) (synd : Nat) (fixed : Bool) :
    (s.stateFault c array synd fixed).gang = s.gang := by
  unfold State.stateFault
  extract_lets unit s₁
  split
  · rfl
  · have h₁ : s₁.gang = s.gang := by simp [s₁]
    split <;> simp [h₁]
@[simp] theorem State.stagingFault_gang (s : State) (n : Fin 12) (off : Nat) (job : Fin 16) (b held : Nat) (f : Found) :
    (s.stagingFault n off job b held f).gang = s.gang := by
  unfold State.stagingFault; split <;> simp
@[simp] theorem State.portFault_gang (s : State) (p : Fin 12) (buf : PortBuf) (k : Nat) (sector : Option (Fin 8)) (f : Found) :
    (s.portFault p buf k sector f).gang = s.gang := by
  unfold State.portFault; (repeat' split) <;> simp
@[simp] theorem State.addDamage_gang (s : State) (k : Nat) (x : Symbols) : (s.addDamage k x).gang = s.gang := rfl
@[simp] theorem State.historyFault_gang (s : State) (i : Nat) : (s.historyFault i).gang = s.gang := by simp [State.historyFault]
@[simp] theorem State.optionFault_gang (s : State) (i : Fin 16) (j : Fin 2) : (s.optionFault i j).gang = s.gang := rfl
@[simp] theorem State.detect_gang (s : State) (f : HwFault) : (s.detect f).gang = s.gang := by
  unfold State.detect; split <;> simp
@[simp] theorem State.mctpSend_gang (s : State) (ack : Bool) : (s.mctpSend ack).gang = s.gang := by
  unfold State.mctpSend; split <;> simp
@[simp] theorem State.memRec_gang (s : State) (n off what : Nat) : (s.memRec n off what).gang = s.gang := rfl
@[simp] theorem State.zeroRange_gang (s : State) (base len : Nat) (keep : List (Nat × List (Nat × Bool))) :
    (s.zeroRange base len keep).gang = s.gang := by simp [State.zeroRange]

/-! ## Operations of `Machine.FuncUnit` -/

@[simp] theorem State.tblFault_gang (s : State) (c : Fin 96) (cause slot op : Nat) :
    (s.tblFault c cause slot op).gang = s.gang := by simp [State.tblFault]

/-! ## Operations of `Machine.Layout` -/

@[simp] theorem State.allocEntry_gang (s : State) (p ix : Nat) : (s.allocEntry p ix).1.gang = s.gang := by simp [State.allocEntry]
@[simp] theorem State.sideChk_gang (s : State) (p space ix : Nat) (e : Int × Int) (write : Bool) (out : Nat) :
    (s.sideChk p space ix e write out).1.gang = s.gang := by
  unfold State.sideChk
  extract_lets wraps
  split
  · rfl
  · split
    · split <;> rename_i h <;> simp [State.gang_of_fst h]
    · rfl
@[simp] theorem State.validate_gang (s : State) (p : Nat) (d : Desc) : (s.validate p d).1.gang = s.gang := by
  unfold State.validate
  split
  · rfl
  · extract_lets fixed a b
    have ha : a.1.gang = s.gang := State.sideChk_gang _ _ _ _ _ _ _
    have hb : b.1.gang = a.1.gang := State.sideChk_gang _ _ _ _ _ _ _
    split <;> simp [ha, hb]
@[simp] theorem State.layPoison_gang (s : State) (c : Fin 96) (slot op addr : Nat) (inj : Bool) :
    (s.layPoison c slot op addr inj).gang = s.gang := by simp [State.layPoison]
@[simp] theorem State.xferGet_gang (s : State) (c : Fin 96) (x : Xfer) (d : Desc) (a n : Nat) :
    (s.xferGet c x d a n).1.gang = s.gang := by
  unfold State.xferGet
  extract_lets k
  split
  · rfl
  · split
    · rfl
    · split <;> rename_i h <;> simp [State.gang_of_fst h]
@[simp] theorem State.xferDst_gang (s : State) (c : Fin 96) (d : Desc) (a n : Nat) : (s.xferDst c d a n).1.gang = s.gang := by
  unfold State.xferDst
  split
  · split <;> rename_i h <;> simp [State.gang_of_fst h]
  · rfl
@[simp] theorem State.xferAt_gang (s : State) (c : Fin 96) (x : Xfer) (d : Desc) (p : Nat) : (s.xferAt c x d p).1.gang = s.gang := by
  unfold State.xferAt
  extract_lets k des b a ix ent
  split
  · split <;> rename_i h <;> simp [State.gang_of_fst h]
  · clear_value ent
    split
    · rfl
    · extract_lets oor dix six src
      have hs : src.1.gang = s.gang := by
        unfold src
        split
        · rfl
        · exact State.xferGet_gang _ _ _ _ _ _
      clear_value src
      split
      · rfl
      · split
        · exact hs
        · extract_lets v
          split <;> rename_i h <;> simpa [State.gang_of_fst h] using hs
@[simp] theorem State.xferScan_gang (s : State) (c : Fin 96) (x : Xfer) (d : Desc) (fuel i : Nat) :
    (s.xferScan c x d fuel i).1.gang = s.gang := by
  induction fuel generalizing s i with
  | zero => rfl
  | succ fuel ih =>
    unfold State.xferScan
    split <;> rename_i h <;> simp [State.gang_of_fst h, ih]
@[simp] theorem State.xferPut_gang (s : State) (c : Fin 96) (d : Desc) (ws : List XAcc) :
    (s.xferPut c d ws).gang = s.gang := by simp [State.xferPut]
@[simp] theorem State.xferAccs_gang (s : State) (c : Fin 96) (x : Xfer) : (s.xferAccs c x).1.gang = s.gang := by simp [State.xferAccs]
@[simp] theorem State.noteOver_gang (s : State) (c : Fin 96) (x : Xfer) (l : List XAcc) :
    (s.noteOver c x l).gang = s.gang := by simp [State.noteOver]
@[simp] theorem State.xferRun_gang (s : State) (c : Fin 96) (x : Xfer) (n : Option Nat) : (s.xferRun c x n).1.gang = s.gang := by
  unfold State.xferRun; split <;> simp
@[simp] theorem State.xferStop_gang (s : State) (c : Fin 96) (x : Xfer) (e : XStop) : (s.xferStop c x e).gang = s.gang := by
  unfold State.xferStop; split <;> simp
@[simp] theorem State.xferDone_gang (s : State) (c : Fin 96) (x : Xfer) : (s.xferDone c x).gang = s.gang := by simp [State.xferDone]

/-! ## Operations of `Machine.Security` -/

@[simp] theorem State.spdmOut_gang (s : State) (doe : Bool) (name : String) (body : List Byte) :
    (s.spdmOut doe name body).gang = s.gang := rfl
@[simp] theorem State.spdm_gang (s : State) (doe : Bool) (serve : State → State) (hserve : ∀ t, (serve t).gang = t.gang) :
    (s.spdm doe serve).gang = s.gang := by
  unfold State.spdm
  repeat' split
  all_goals simp [hserve]
@[simp] theorem State.answerCert_gang (s : State) (x : Bool × Nat × List Byte) : (s.answerCert x).gang = s.gang := by
  unfold State.answerCert; split <;> simp
@[simp] theorem State.askCert_gang (s : State) (x : Bool × Nat × List Byte) : (s.askCert x).gang = s.gang := by simp [State.askCert]
@[simp] theorem State.pldmOut_gang (s : State) (name : String) (v : Nat) : (s.pldmOut name v).gang = s.gang := rfl

/-! ## Operations of `Machine.HostLink` -/

@[simp] theorem State.emit_gang (s : State) (o : Output) : (s.emit o).gang = s.gang := rfl
@[simp] theorem State.configWrite_gang (s : State) (fn off : Nat) (v : Word32) :
    (s.configWrite fn off v).gang = s.gang := by simp [State.configWrite]
@[simp] theorem State.msixWrite_gang (s : State) (fn o : Nat) (v : Word32) :
    (s.msixWrite fn o v).gang = s.gang := by simp [State.msixWrite]
@[simp] theorem State.barRead_gang (s : State) (fn : Fin 9) (o len : Nat) : (s.barRead fn o len).1.gang = s.gang := by
  unfold State.barRead; split <;> simp
@[simp] theorem State.vfReset_gang (s : State) (fn : Nat) : (s.vfReset fn).gang = s.gang := rfl
@[simp] theorem State.cxlRec_gang (s : State) : s.cxlRec.gang = s.gang := rfl
@[simp] theorem State.grant_gang (s : State) (l : Nat) : (s.grant l).gang = s.gang := by
  unfold State.grant
  split
  · rfl
  · extract_lets mine held s₁
    show s₁.gang = s.gang
    unfold s₁
    clear_value held
    split
    · split
      · simp
      · rfl
    · rfl
@[simp] theorem State.setHold_gang (s : State) (l : Nat) (hold : Bool) : (s.setHold l hold).gang = s.gang := by simp [State.setHold]
@[simp] theorem State.windowUse_gang (s : State) (a : Nat) (te : Option (Fin 8)) (read : Bool) :
    (s.windowUse a te read).gang = s.gang := by
  unfold State.windowUse; (repeat' split) <;> simp
@[simp] theorem State.touchAll_gang (s : State) : s.touchAll.gang = s.gang := State.foldl_gang _ _ _ fun _ _ => rfl
@[simp] theorem State.readLine_gang (s : State) (o : Nat) : (s.readLine o).1.gang = s.gang := by simp [State.readLine]

/-! ## Operations of `Machine.Ifendi` -/

@[simp] theorem State.setLevel_gang (s : State) (n : Nat) : (s.setLevel n).gang = s.gang := rfl
@[simp] theorem State.say_gang (s : State) (t : String) : (s.say t).gang = s.gang := rfl
@[simp] theorem State.sayLevel_gang (s : State) : s.sayLevel.gang = s.gang := rfl
@[simp] theorem State.ifendi_gang (s : State) (lvl : Nat) (act : State → State) (hact : ∀ t, (act t).gang = t.gang) :
    (s.ifendi lvl act).gang = s.gang := by
  unfold State.ifendi
  repeat' split
  all_goals simp [hact]
@[simp] theorem State.observed_gang (s : State) (p : Option Nat) : (s.observed p).gang = s.gang := by
  unfold State.observed; split <;> simp
@[simp] theorem State.observedAll_gang (s : State) (ps : List (Option Nat)) :
    (s.observedAll ps).gang = s.gang := by simp [State.observedAll]
@[simp] theorem State.unlockFails_gang (s : State) : s.unlockFails.gang = s.gang := by simp [State.unlockFails]
@[simp] theorem State.monRead_gang (s : State) (a : Nat) (base : Bool) : (s.monRead a base).1.gang = s.gang := by
  unfold State.monRead; split <;> simp

/-! ## Operations of `Machine.LoadStore` -/

@[simp] theorem State.ownRead_gang (s : State) (m : Fin 96) (a w : Nat) : (s.ownRead m a w).1.gang = s.gang := by simp [State.ownRead]
@[simp] theorem State.devAccess_gang (s : State) (m : Fin 96) (a w : Nat) (write : Bool) (op : Nat) (g : Nat → State → State)
    (hg : ∀ pa t, (g pa t).gang = t.gang) :
    (s.devAccess m a w write op g).gang = s.gang := by
  unfold State.devAccess
  split <;> rename_i h <;> simp [hg, State.gang_of_fst h]
@[simp] theorem State.loadPoison_gang (s : State) (c : Fin 96) (l : Load) : (s.loadPoison c l).gang = s.gang := by simp [State.loadPoison]

/-! ## Operations of `Machine.VecScan` -/

@[simp] theorem State.vecFault_gang (s : State) (c : Fin 96) (slot op : Nat) :
    (s.vecFault c slot op).gang = s.gang := by simp [State.vecFault]

end Sys2Proof.Machine
end

section
/-!
# Commands that leave the gang map as it stands

SUPPORT. `LeavesGang` of each such command, in the order of `exec`. The scalar instructions that only write a core are instances of
`State.issueCore_leavesGang` and have no lemma of their own.
-/
namespace Sys2Proof.Machine

/-- What a command that leaves the gang map alone answers. -/
def LeavesGang (s : State) (o : Host.Outcome State Fault Refusal) : Prop := ∀ t, o = .next t → t.gang = s.gang

@[simp] theorem leavesGang_next (s t : State) : LeavesGang s (.next t) ↔ t.gang = s.gang := by
  simp [LeavesGang]

/-- The issue of an instruction leaves the gang map where its work on each member does (R44 to R46). -/
theorem State.issue_leavesGang (s : State) (op : Nat) (i : Issue) (f : Fields) (body : Fin 96 → State → State)
    (hb : ∀ m t, (body m t).gang = t.gang) : LeavesGang s (s.issue op i f body) := by
  unfold State.issue
  dsimp only
  repeat' split
  all_goals simp -implicitDefEqProofs [hb]

theorem State.issueCore_leavesGang (s : State) (op : Nat) (i : Issue) (f : Fields) (g : Core → Core) :
    LeavesGang s (s.issueCore op i f g) :=
  s.issue_leavesGang op i f _ fun _ _ => rfl

theorem State.ifendi_leavesGang (s : State) (lvl : Nat) (act : State → State) (h : ∀ t, (act t).gang = t.gang) :
    LeavesGang s (.next (s.ifendi lvl act)) := (leavesGang_next _ _).2 (s.ifendi_gang lvl act h)

theorem State.spdm_leavesGang (s : State) (doe : Bool) (serve : State → State) (h : ∀ t, (serve t).gang = t.gang) :
    LeavesGang s (.next (s.spdm doe serve)) := (leavesGang_next _ _).2 (s.spdm_gang doe serve h)

theorem execPany_leavesGang (i : Issue) (f : Fields) (s : State) : LeavesGang s (execPany i f s) :=
  State.issue_leavesGang _ _ _ _ _ fun _ _ => by simp

theorem execPcount_leavesGang (i : Issue) (f : Fields) (s : State) : LeavesGang s (execPcount i f s) :=
  State.issue_leavesGang _ _ _ _ _ fun _ _ => by simp

theorem execVmovs_leavesGang (i : Issue) (f : Fields) (s : State) : LeavesGang s (execVmovs i f s) :=
  State.issue_leavesGang _ _ _ _ _ fun _ _ => by simp

theorem execVscan_leavesGang (i : Issue) (f : Fields) (s : State) : LeavesGang s (execVscan i f s) := by
  refine State.issue_leavesGang _ _ _ _ _ fun m t => ?_
  repeat' split
  all_goals simp

theorem execVmscan_leavesGang (i : Issue) (f : Fields) (s : State) : LeavesGang s (execVmscan i f s) := by
  refine State.issue_leavesGang _ _ _ _ _ fun m t => ?_
  repeat' split
  all_goals simp

theorem execVascan_leavesGang (i : Issue) (f : Fields) (s : State) : LeavesGang s (execVascan i f s) := by
  refine State.issue_leavesGang _ _ _ _ _ fun m t => ?_
  repeat' split
  all_goals simp

theorem execVtbl_leavesGang (i : Issue) (f : Fields) (s : State) : LeavesGang s (execVtbl i f s) :=
  State.issue_leavesGang _ _ _ _ _ fun _ _ => by dsimp only; split <;> simp

theorem execLd_leavesGang (i : Issue) (f : Fields) (s : State) : LeavesGang s (execLd i f s) :=
  State.issue_leavesGang _ _ _ _ _ fun _ _ => by simp

theorem execSt_leavesGang (i : Issue) (f : Fields) (s : State) : LeavesGang s (execSt i f s) :=
  State.issue_leavesGang _ _ _ _ _ fun _ _ => by simp

theorem execLdg_leavesGang (i : Issue) (f : Fields) (s : State) : LeavesGang s (execLdg i f s) := by
  refine State.issue_leavesGang _ _ _ _ _ fun m t => ?_
  dsimp only
  split
  · simp
  · refine State.devAccess_gang _ _ _ _ _ _ _ fun pa t => ?_
    repeat' split
    all_goals simp

theorem execStg_leavesGang (i : Issue) (f : Fields) (s : State) : LeavesGang s (execStg i f s) :=
  State.issue_leavesGang _ _ _ _ _ fun _ _ => by simp

theorem execLoadReturn_leavesGang (c : Fin 96) (k : Nat) (s : State) : LeavesGang s (execLoadReturn c k s) := by
  unfold execLoadReturn
  dsimp only
  repeat' split
  all_goals simp -implicitDefEqProofs

theorem execLdesc_leavesGang (i : Issue) (f : Fields) (s : State) : LeavesGang s (execLdesc i f s) :=
  State.issue_leavesGang _ _ _ _ _ fun _ _ => by simp

theorem execLdescDecide_leavesGang (c : Fin 96) (n : Fin 16) (s : State) : LeavesGang s (execLdescDecide c n s) := by
  unfold execLdescDecide
  split
  · split <;> rename_i h <;> simp [State.gang_of_fst h]
  · simp

theorem execLxfer_leavesGang (i : Issue) (f : Fields) (s : State) : LeavesGang s (execLxfer i f s) := by
  refine State.issue_leavesGang _ _ _ _ _ fun m t => ?_
  dsimp only
  repeat' split
  all_goals simp

theorem execLxferStart_leavesGang (c : Fin 96) (s : State) : LeavesGang s (execLxferStart c s) := by
  unfold execLxferStart
  dsimp only
  repeat' split
  all_goals simp -implicitDefEqProofs

theorem execLxferComplete_leavesGang (c : Fin 96) (k : Nat) (s : State) : LeavesGang s (execLxferComplete c k s) := by
  unfold execLxferComplete
  dsimp only
  split
  · simp
  · split
    · simp
    · split
      · split <;> rename_i h
        · simp [State.gang_of_fst h]
        · split <;> simp [State.gang_of_fst h]
      · simp

theorem execTload_leavesGang (i : Issue) (f : Fields) (s : State) : LeavesGang s (execTload i f s) :=
  State.issue_leavesGang _ _ _ _ _ fun _ _ => by simp

theorem execTloadComplete_leavesGang (c : Fin 96) (cy : Nat) (s : State) : LeavesGang s (execTloadComplete c cy s) := by
  unfold execTloadComplete
  repeat' split
  all_goals simp

theorem execIbload_leavesGang (i : Issue) (f : Fields) (s : State) : LeavesGang s (execIbload i f s) :=
  State.issue_leavesGang _ _ _ _ _ fun _ _ => by simp

theorem execIbLineArrival_leavesGang (c : Fin 96) (s : State) : LeavesGang s (execIbLineArrival c s) := by
  unfold execIbLineArrival
  dsimp only
  split
  · simp
  · split
    · split <;> rename_i h <;> simp [State.gang_of_fst h]
    · simp

theorem execFence_leavesGang (i : Issue) (f : Fields) (s : State) : LeavesGang s (execFence i f s) :=
  State.issue_leavesGang _ _ _ _ _ fun _ _ => by simp

theorem execSignal_leavesGang (i : Issue) (f : Fields) (s : State) : LeavesGang s (execSignal i f s) := by
  refine State.issue_leavesGang _ _ _ _ _ fun m t => ?_
  dsimp only
  repeat' split
  all_goals simp

theorem execCounterIncrement_leavesGang (k : Nat) (s : State) : LeavesGang s (execCounterIncrement k s) := by
  unfold execCounterIncrement
  split <;> simp

theorem execBarrive_leavesGang (i : Issue) (f : Fields) (s : State) : LeavesGang s (execBarrive i f s) :=
  State.issue_leavesGang _ _ _ _ _ fun _ _ => by simp

theorem execBarrierArrival_leavesGang (k : Nat) (s : State) : LeavesGang s (execBarrierArrival k s) := by
  unfold execBarrierArrival
  dsimp only
  repeat' split
  all_goals simp -implicitDefEqProofs

theorem execFlgset_leavesGang (i : Issue) (f : Fields) (s : State) : LeavesGang s (execFlgset i f s) := by
  refine State.issue_leavesGang _ _ _ _ _ fun m t => ?_
  repeat' split
  all_goals simp

theorem execFlagArrival_leavesGang (k : Nat) (s : State) : LeavesGang s (execFlagArrival k s) := by
  unfold execFlagArrival
  split <;> simp

theorem execFlgwait_leavesGang (i : Issue) (f : Fields) (s : State) : LeavesGang s (execFlgwait i f s) :=
  State.issue_leavesGang _ _ _ _ _ fun _ _ => rfl

theorem execCwrite_leavesGang (i : Issue) (f : Fields) (s : State) : LeavesGang s (execCwrite i f s) :=
  State.issue_leavesGang _ _ _ _ _ fun _ _ => by simp

theorem execCread_leavesGang (i : Issue) (f : Fields) (s : State) : LeavesGang s (execCread i f s) :=
  State.issue_leavesGang _ _ _ _ _ fun _ _ => by simp

theorem execCsig_leavesGang (i : Issue) (f : Fields) (s : State) : LeavesGang s (execCsig i f s) :=
  State.issue_leavesGang _ _ _ _ _ fun _ _ => by simp

theorem execBcmd_leavesGang (i : Issue) (f : Fields) (s : State) : LeavesGang s (execBcmd i f s) :=
  State.issue_leavesGang _ _ _ _ _ fun _ _ => by simp

theorem execJobClear_leavesGang (n : Fin 12) (s : State) : LeavesGang s (execJobClear n s) := by
  refine (leavesGang_next _ _).2 (State.bcmdRun_gang _ _ _ _ fun r t => (leavesGang_next _ _).1 ?_)
  dsimp only
  repeat' split
  all_goals simp

theorem execJobSend_leavesGang (n : Fin 12) (s : State) : LeavesGang s (execJobSend n s) := by
  refine (leavesGang_next _ _).2 (State.bcmdRun_gang _ _ _ _ fun r t => (leavesGang_next _ _).1 ?_)
  dsimp only
  repeat' split
  all_goals simp

theorem execJobScalars_leavesGang (n : Fin 12) (s : State) : LeavesGang s (execJobScalars n s) := by
  simp [execJobScalars]

theorem execJobOpen_leavesGang (n : Fin 12) (s : State) : LeavesGang s (execJobOpen n s) := by
  refine (leavesGang_next _ _).2 (State.bcmdRun_gang _ _ _ _ fun r t => ?_)
  dsimp only
  split
  · simp
  · split <;> rename_i h
    · have := State.gang_of_fst h
      repeat' split
      all_goals simp [this]
    · simp [State.gang_of_fst h]
    · simp [State.gang_of_fst h]

theorem execJobAbort_leavesGang (n : Fin 12) (s : State) : LeavesGang s (execJobAbort n s) := by
  simp [execJobAbort]

theorem execBlockUpdate_leavesGang (n : Fin 12) (j : Fin 16) (b : Nat) (s : State) : LeavesGang s (execBlockUpdate n j b s) := by
  unfold execBlockUpdate
  dsimp only
  split <;> simp

theorem execJobComplete_leavesGang (n : Fin 12) (j : Fin 16) (s : State) : LeavesGang s (execJobComplete n j s) := by
  unfold execJobComplete
  dsimp only
  split <;> simp

theorem execBlockOverrun_leavesGang (c : Fin 96) (s : State) : LeavesGang s (execBlockOverrun c s) := by
  unfold execBlockOverrun
  dsimp only
  repeat' split
  all_goals simp -implicitDefEqProofs

theorem execArrayRemap_leavesGang (c : Fin 96) (s : State) : LeavesGang s (execArrayRemap c s) := by
  simp [execArrayRemap]

theorem execPartitionChange_leavesGang (p : Fin 8) (s : State) : LeavesGang s (execPartitionChange p s) := by
  unfold execPartitionChange
  dsimp only
  repeat' split
  all_goals simp -implicitDefEqProofs

theorem execDomainConfigChange_leavesGang (p : Fin 8) (s : State) : LeavesGang s (execDomainConfigChange p s) := by
  simp [execDomainConfigChange]

theorem execBarrierConfigChange_leavesGang (b : Fin 192) (s : State) : LeavesGang s (execBarrierConfigChange b s) := by
  unfold execBarrierConfigChange
  dsimp only
  repeat' split
  all_goals simp -implicitDefEqProofs

theorem execSlwinChange_leavesGang (k : Fin 16) (s : State) : LeavesGang s (execSlwinChange k s) := by
  simp [execSlwinChange]

theorem execWaitEvaluation_leavesGang (s : State) : LeavesGang s (execWaitEvaluation s) :=
  (leavesGang_next _ _).2 (State.foldl_gang _ _ _ fun _ _ => State.eachMember_gang _ _ _ fun _ _ => rfl)

theorem execBarrierRelease_leavesGang (b : Fin 192) (s : State) : LeavesGang s (execBarrierRelease b s) := by
  unfold execBarrierRelease
  split <;> simp

theorem execDeadlockDetector_leavesGang (s : State) : LeavesGang s (execDeadlockDetector s) :=
  (leavesGang_next _ _).2 (State.foldl_gang _ _ _ fun _ _ => rfl)

theorem execDeadlock_leavesGang (p : Fin 8) (s : State) : LeavesGang s (execDeadlock p s) := by
  unfold execDeadlock
  split
  · simp
  · simp -implicitDefEqProofs

theorem execGovernorDecision_leavesGang (s : State) : LeavesGang s (execGovernorDecision s) := by
  unfold execGovernorDecision
  split <;> simp

theorem execTableSwap_leavesGang (s : State) : LeavesGang s (execTableSwap s) := by
  simp [execTableSwap]

theorem execWatchEvaluation_leavesGang (s : State) : LeavesGang s (execWatchEvaluation s) := by
  simp [execWatchEvaluation]

theorem execTickMessage_leavesGang (txt : List Nat) (s : State) : LeavesGang s (execTickMessage txt s) := by
  simp [execTickMessage]

theorem execLaunchSampling_leavesGang (s : State) : LeavesGang s (execLaunchSampling s) := by
  simp [execLaunchSampling]

theorem execIssueDecision_leavesGang (s : State) : LeavesGang s (execIssueDecision s) := by
  simp [execIssueDecision]

theorem execTickLate_leavesGang (p : Fin 8) (s : State) : LeavesGang s (execTickLate p s) := by
  unfold execTickLate
  dsimp only
  split <;> simp

theorem execCoreIdle_leavesGang (c : Fin 96) (s : State) : LeavesGang s (execCoreIdle c s) := by
  have h (t : State) : (t.eachMember c fun m s => s.modCore m fun k =>
      { k with st := .idle, exiting := false, launch := none, view := none }).gang = t.gang :=
    State.eachMember_gang _ _ _ fun _ _ => rfl
  unfold execCoreIdle
  dsimp only
  split
  · split <;> simp [h]
  · simp

theorem execLinkTick_leavesGang (k : Nat) (rx : Int) (s : State) : LeavesGang s (execLinkTick k rx s) := by
  unfold execLinkTick
  dsimp only
  repeat' split
  all_goals simp

theorem execTimeLock_leavesGang (s : State) : LeavesGang s (execTimeLock s) := by
  unfold execTimeLock
  dsimp only
  split <;> simp

theorem execStepFrame_leavesGang (f : Nat) (len : Nat) (s : State) : LeavesGang s (execStepFrame f len s) := by
  unfold execStepFrame
  repeat' split
  all_goals simp

theorem execHoldover_leavesGang (s : State) : LeavesGang s (execHoldover s) := by
  unfold execHoldover
  split <;> simp

theorem execTickRefEdge_leavesGang (off : Int) (s : State) : LeavesGang s (execTickRefEdge off s) := by
  unfold execTickRefEdge
  split <;> simp

theorem execRefLost_leavesGang (s : State) : LeavesGang s (execRefLost s) := by
  unfold execRefLost
  split <;> simp

theorem execFlitReceive_leavesGang (p : Fin 12) (b : List Byte) (bad : BitVec 8) (corr : List (Nat × Nat)) (s : State) :
    LeavesGang s (execFlitReceive p b bad corr s) := by
  unfold execFlitReceive
  split
  · simp
  · extract_lets b₁ s₁ refuse hdr body s₂ v s₃ s₄ m
    have h₁ : s₁.gang = s.gang := State.foldl_gang _ _ _ fun t l => by simp
    have h₂ : s₂.gang = s.gang := (State.modPort_gang _ _ _).trans h₁
    have h₃ : s₃.gang = s.gang := (State.ite_gang _ _ _).trans (by simp [h₂])
    split
    · simp [refuse, h₁]
    · split
      · split
        · simp [refuse, h₂]
        · simp [s₄, h₃]
      · split <;> simp [h₂]
      · simp [h₂]

theorem execFlitTransmit_leavesGang (p : Fin 12) (t : Nat) (s : State) : LeavesGang s (execFlitTransmit p t s) := by
  unfold execFlitTransmit
  split
  · simp
  · extract_lets q s₁ e
    split
    · simp [s₁]
    · split
      · simp
      · extract_lets r body f s₂
        exact (leavesGang_next _ _).2 ((State.sendFlit_gang _ _ _ _ _ _ _).trans
          ((State.count64_gang _ _ _).trans (State.modPort_gang _ _ _)))

theorem execReplayTimeout_leavesGang (p : Fin 12) (s : State) : LeavesGang s (execReplayTimeout p s) := by
  simp [execReplayTimeout]

theorem execRetrainLimit_leavesGang (p : Fin 12) (s : State) : LeavesGang s (execRetrainLimit p s) := by
  simp [execRetrainLimit]

theorem execRxIdleTimeout_leavesGang (p : Fin 12) (s : State) : LeavesGang s (execRxIdleTimeout p s) := by
  simp [execRxIdleTimeout]

theorem execLinkLoss_leavesGang (p : Fin 12) (s : State) : LeavesGang s (execLinkLoss p s) := by
  unfold execLinkLoss
  split <;> simp

theorem execCreditStuck_leavesGang (p : Fin 12) (s : State) : LeavesGang s (execCreditStuck p s) := by
  unfold execCreditStuck
  dsimp only
  split <;> simp

theorem execSignalDetect_leavesGang (p : Fin 12) (s : State) : LeavesGang s (execSignalDetect p s) := by
  simp [execSignalDetect]

theorem execTrainTimeout_leavesGang (p : Fin 12) (s : State) : LeavesGang s (execTrainTimeout p s) := by
  simp [execTrainTimeout]

theorem execTrainRetry_leavesGang (p : Fin 12) (s : State) : LeavesGang s (execTrainRetry p s) := by
  simp [execTrainRetry]

theorem execHello_leavesGang (p : Fin 12) (node : BitVec 12) (port : BitVec 4) (s : State) : LeavesGang s (execHello p node port s) := by
  unfold execHello
  repeat' split
  all_goals simp

theorem execCtrlReset_leavesGang (k : Nat) (s : State) : LeavesGang s (execCtrlReset k s) := by
  simp [execCtrlReset]

theorem execTransit_leavesGang (k : Nat) (s : State) : LeavesGang s (execTransit k s) := by
  simp [execTransit]

theorem execChWrite_leavesGang (k : Nat) (s : State) : LeavesGang s (execChWrite k s) := by
  simp [execChWrite]

theorem execWritePerformed_leavesGang (k : Nat) (s : State) : LeavesGang s (execWritePerformed k s) := by
  simp [execWritePerformed]

theorem execWriteRefused_leavesGang (k : Nat) (s : State) : LeavesGang s (execWriteRefused k s) := by
  simp [execWriteRefused]

theorem execChRead_leavesGang (k : Nat) (s : State) : LeavesGang s (execChRead k s) := by
  refine (leavesGang_next _ _).2 (State.takeMsg_gang _ _ _ _ fun x t => State.serveAt_gang _ _ _ _ _ _ _ fun _ _ u => ?_)
  simp

theorem execReadData_leavesGang (k : Nat) (s : State) : LeavesGang s (execReadData k s) := by
  simp [execReadData]

theorem execReadRefused_leavesGang (k : Nat) (s : State) : LeavesGang s (execReadRefused k s) := by
  simp [execReadRefused]

theorem execSignalIncrement_leavesGang (k : Nat) (s : State) : LeavesGang s (execSignalIncrement k s) := by
  refine (leavesGang_next _ _).2 (State.takeMsg_gang _ _ _ _ fun x t => ?_)
  dsimp only
  repeat' split
  all_goals simp

theorem execSignalRefused_leavesGang (k : Nat) (s : State) : LeavesGang s (execSignalRefused k s) := by
  simp [execSignalRefused]

theorem execPodBarrierArrival_leavesGang (k : Nat) (s : State) : LeavesGang s (execPodBarrierArrival k s) := by
  simp [execPodBarrierArrival]

theorem execPodReleaseDecision_leavesGang (n : Fin 64) (s : State) : LeavesGang s (execPodReleaseDecision n s) := by
  unfold execPodReleaseDecision
  dsimp only
  split <;> simp

theorem execPodBarrierRelease_leavesGang (k : Nat) (s : State) : LeavesGang s (execPodBarrierRelease k s) := by
  simp [execPodBarrierRelease]

theorem execPodReleaseApply_leavesGang (n : Fin 64) (s : State) : LeavesGang s (execPodReleaseApply n s) := by
  unfold execPodReleaseApply
  dsimp only
  split <;> simp

theorem execRedContrib_leavesGang (k : Nat) (s : State) : LeavesGang s (execRedContrib k s) := by
  refine (leavesGang_next _ _).2 (State.takeMsg_gang _ _ _ _ fun x t => ?_)
  dsimp only
  repeat' split
  all_goals simp

theorem execRedContribAccepted_leavesGang (k : Nat) (s : State) : LeavesGang s (execRedContribAccepted k s) := by
  simp [execRedContribAccepted]

theorem execRedContribRefused_leavesGang (k : Nat) (s : State) : LeavesGang s (execRedContribRefused k s) := by
  simp [execRedContribRefused]

theorem execParamBcast_leavesGang (k : Nat) (s : State) : LeavesGang s (execParamBcast k s) := by
  simp [execParamBcast]

theorem execDomainNotice_leavesGang (k : Nat) (s : State) : LeavesGang s (execDomainNotice k s) := by
  refine (leavesGang_next _ _).2 (State.takeMsg_gang _ _ _ _ fun x t => ?_)
  dsimp only
  repeat' split
  all_goals simp

theorem execResponseTimeout_leavesGang (tag : Nat) (s : State) : LeavesGang s (execResponseTimeout tag s) := by
  unfold execResponseTimeout
  repeat' split
  all_goals simp

theorem execCxlMemRead_leavesGang (hpa : Nat) (te : Option (Fin 8)) (hold : Bool) (s : State) :
    LeavesGang s (execCxlMemRead hpa te hold s) := by
  unfold execCxlMemRead
  split
  · simp
  · split
    · simp
    · extract_lets te r b k r' a r''
      split
      · simp
      · split
        · exact (leavesGang_next _ _).2 ((State.emit_gang _ _).trans (State.readLine_gang _ _))
        · split
          · simp
          · split
            · split
              · simp
              · exact (leavesGang_next _ _).2 ((State.emit_gang _ _).trans
                  ((State.setHold_gang _ _ _).trans ((State.hbmReadRaw_gang _ _).trans (State.touchAll_gang _))))
            · exact (leavesGang_next _ _).2 ((State.emit_gang _ _).trans
                ((State.devRead_gang _ _ _).trans (State.windowUse_gang _ _ _ _)))

theorem execBisnpResponse_leavesGang (dpa : Nat) (data : Option (Vector Byte 64)) (s : State) :
    LeavesGang s (execBisnpResponse dpa data s) := by
  simp [execBisnpResponse]

theorem execHostReadResponse_leavesGang (h : Nat) (bytes : List Byte) (poison : Bool) (s : State) :
    LeavesGang s (execHostReadResponse h bytes poison s) := by
  unfold execHostReadResponse
  split <;> simp

theorem execHdmCommit_leavesGang (base : BitVec 36) (size : BitVec 36) (skip : BitVec 36) (s : State) :
    LeavesGang s (execHdmCommit base size skip s) := by
  unfold execHdmCommit
  repeat' split
  all_goals simp

theorem execClearingRead_leavesGang (r : Fin 10) (off : Nat) (len : Nat) (s : State) : LeavesGang s (execClearingRead r off len s) := by
  simp [execClearingRead]

theorem execLatchedRead_leavesGang (r : Fin 10) (off : Nat) (s : State) : LeavesGang s (execLatchedRead r off s) := by
  simp [execLatchedRead]

theorem execInvalComplete_leavesGang (p : Fin 8) (s : State) : LeavesGang s (execInvalComplete p s) := by
  simp [execInvalComplete]

theorem execHdata_leavesGang (r : Fin 10) (s : State) : LeavesGang s (execHdata r s) := by
  simp [execHdata]

theorem execHbmScrubDone_leavesGang (s : State) : LeavesGang s (execHbmScrubDone s) := by
  unfold execHbmScrubDone
  repeat' split
  all_goals simp

theorem execHogsheadUpdate_leavesGang (p : Nat) (vin : Nat) (iin : Nat) (s : State) : LeavesGang s (execHogsheadUpdate p vin iin s) := by
  unfold execHogsheadUpdate
  split <;> simp

theorem execWearCap_leavesGang (s : State) : LeavesGang s (execWearCap s) := by
  simp [execWearCap]

theorem execWearWrite_leavesGang (s : State) : LeavesGang s (execWearWrite s) := by
  simp [execWearWrite]

theorem execThermalSample_leavesGang (tj : Vector Int 8) (ts : Vector Int 12) (v : Vector Nat 2) (s : State) :
    LeavesGang s (execThermalSample tj ts v s) := by
  unfold execThermalSample
  split
  · simp
  · simp -implicitDefEqProofs

theorem execPsusEffStep_leavesGang (s : State) : LeavesGang s (execPsusEffStep s) := by
  simp [execPsusEffStep]

theorem execThermalTrip_leavesGang (s : State) : LeavesGang s (execThermalTrip s) := by
  unfold execThermalTrip
  split <;> simp

theorem execVinLow_leavesGang (s : State) : LeavesGang s (execVinLow s) := by
  simp [execVinLow]

theorem execOvervoltage_leavesGang (s : State) : LeavesGang s (execOvervoltage s) := by
  simp [execOvervoltage]

theorem execOvercurrent_leavesGang (s : State) : LeavesGang s (execOvercurrent s) := by
  simp [execOvercurrent]

theorem execPowerFailure_leavesGang (s : State) : LeavesGang s (execPowerFailure s) := by
  simp [execPowerFailure]

theorem execSoftStart_leavesGang (s : State) : LeavesGang s (execSoftStart s) := by
  simp [execSoftStart]

theorem execBootRom_leavesGang (s : State) : LeavesGang s (execBootRom s) := by
  unfold execBootRom
  split
  · simp
  · dsimp only
    repeat' split
    all_goals simp

theorem execSfwPhase_leavesGang (s : State) : LeavesGang s (execSfwPhase s) := by
  unfold execSfwPhase
  split
  · simp
  · dsimp only
    repeat' split
    all_goals simp

theorem execComputeRails_leavesGang (s : State) : LeavesGang s (execComputeRails s) := by
  simp [execComputeRails]

theorem execHbmTraining_leavesGang (s : State) : LeavesGang s (execHbmTraining s) := by
  unfold execHbmTraining
  split <;> simp -implicitDefEqProofs

theorem execFirstTick_leavesGang (s : State) : LeavesGang s (execFirstTick s) := by
  unfold execFirstTick
  dsimp only
  repeat' split
  all_goals simp

theorem execPwrEnRise_leavesGang (s : State) : LeavesGang s (execPwrEnRise s) := by
  simp [execPwrEnRise]

theorem execCoreResetEntry_leavesGang (s : State) : LeavesGang s (execCoreResetEntry s) := by
  unfold execCoreResetEntry
  dsimp only
  repeat' split
  all_goals simp -implicitDefEqProofs

theorem execComputeScrubDone_leavesGang (s : State) : LeavesGang s (execComputeScrubDone s) := by
  simp [execComputeScrubDone]

theorem execHbmScrubRead_leavesGang (n : Fin 12) (x : Option Symbols) (s : State) : LeavesGang s (execHbmScrubRead n x s) := by
  unfold execHbmScrubRead
  repeat' split
  all_goals simp

theorem execLocalPatrolScrub_leavesGang (c : Fin 96) (off : BitVec 24) (f : Found) (s : State) :
    LeavesGang s (execLocalPatrolScrub c off f s) := by
  simp [execLocalPatrolScrub]

theorem execSoftPpr_leavesGang (n : Fin 12) (row : List (BitVec 37)) (e : RowEnd) (s : State) : LeavesGang s (execSoftPpr n row e s) := by
  unfold execSoftPpr
  split
  · simp
  · dsimp only
    repeat' split
    all_goals simp

theorem execErrorRecord_leavesGang (k : Nat) (f : Option HwFault) (s : State) : LeavesGang s (execErrorRecord k f s) := by
  unfold execErrorRecord
  split
  · simp
  · cases f <;> (dsimp only; split <;> (try split) <;> simp)

theorem execMctpDelivery_leavesGang (ack : Bool) (s : State) : LeavesGang s (execMctpDelivery ack s) := by
  simp [execMctpDelivery]

theorem execMctpRetry_leavesGang (ack : Bool) (s : State) : LeavesGang s (execMctpRetry ack s) := by
  unfold execMctpRetry
  split <;> simp

theorem execHistoryWrite_leavesGang (s : State) : LeavesGang s (execHistoryWrite s) := by
  simp [execHistoryWrite]

theorem execCertIssue_leavesGang (s : State) : LeavesGang s (execCertIssue s) := by
  unfold execCertIssue
  split <;> simp

theorem execCertSigned_leavesGang (s : State) : LeavesGang s (execCertSigned s) := by
  unfold execCertSigned
  split <;> simp

theorem execGetCertificate_leavesGang (doe : Bool) (s : State) : LeavesGang s (execGetCertificate doe s) := by
  simp [execGetCertificate]

theorem execSpdmChallenge_leavesGang (doe : Bool) (nonce : List Byte) (s : State) : LeavesGang s (execSpdmChallenge doe nonce s) := by
  simp [execSpdmChallenge]

theorem execGetMeasurements_leavesGang (doe : Bool) (s : State) : LeavesGang s (execGetMeasurements doe s) :=
  State.spdm_leavesGang _ _ _ fun _ => State.spdmOut_gang _ _ _ _

theorem execKeyExchange_leavesGang (doe : Bool) (exch : List Byte) (s : State) : LeavesGang s (execKeyExchange doe exch s) := by
  simp [execKeyExchange]

theorem execFirmwareUpdate_leavesGang (u : FwUpdate) (s : State) : LeavesGang s (execFirmwareUpdate u s) := by
  unfold execFirmwareUpdate
  repeat' split
  all_goals simp

theorem execIdeKm_leavesGang (id : Nat) (stream : Fin 5) (key : List Byte) (s : State) : LeavesGang s (execIdeKm id stream key s) := by
  simp [execIdeKm]

theorem execIdeFailure_leavesGang (stream : Fin 5) (s : State) : LeavesGang s (execIdeFailure stream s) := by
  simp [execIdeFailure]

theorem execTspLock_leavesGang (p : Fin 8) (te : List (BitVec 23 × BitVec 16)) (s : State) : LeavesGang s (execTspLock p te s) := by
  unfold execTspLock
  split
  · simp
  · exact (leavesGang_next _ _).2 ((State.setReg_gang _ _ _).trans (State.foldl_gang _ _ _ fun t _ => State.setReg64_gang t _ _))

theorem execTspUnlock_leavesGang (p : Fin 8) (s : State) : LeavesGang s (execTspUnlock p s) := by
  unfold execTspUnlock
  split <;> simp

theorem execEntdaa_leavesGang (a : BitVec 7) (s : State) : LeavesGang s (execEntdaa a s) := by
  simp [execEntdaa]

theorem execSetdasa_leavesGang (static : BitVec 7) (a : BitVec 7) (s : State) : LeavesGang s (execSetdasa static a s) := by
  simp [execSetdasa]

theorem execIfHelp_leavesGang (s : State) : LeavesGang s (execIfHelp s) :=
  State.ifendi_leavesGang _ _ _ fun _ => State.foldl_gang _ _ _ fun _ _ => rfl

theorem execIfVer_leavesGang (s : State) : LeavesGang s (execIfVer s) :=
  State.ifendi_leavesGang _ _ _ fun t => by simp only [State.say_gang]

theorem execIfLogin_leavesGang (s : State) : LeavesGang s (execIfLogin s) := by
  simp [execIfLogin]

theorem execIfUnlock_leavesGang (sig : Option (List Byte)) (s : State) : LeavesGang s (execIfUnlock sig s) := by
  unfold execIfUnlock
  split <;> simp

theorem execUnlockTimeout_leavesGang (s : State) : LeavesGang s (execUnlockTimeout s) := by
  simp [execUnlockTimeout]

theorem execLockoutExpiry_leavesGang (s : State) : LeavesGang s (execLockoutExpiry s) := by
  simp [execLockoutExpiry]

theorem execIfLock_leavesGang (s : State) : LeavesGang s (execIfLock s) :=
  State.ifendi_leavesGang _ _ _ fun _ => rfl

theorem execIfStatus_leavesGang (s : State) : LeavesGang s (execIfStatus s) :=
  State.ifendi_leavesGang _ _ _ fun _ => State.foldl_gang _ _ _ fun _ _ => rfl

theorem execIfLog_leavesGang (n : Nat) (s : State) : LeavesGang s (execIfLog n s) :=
  State.ifendi_leavesGang _ _ _ fun _ => State.foldl_gang _ _ _ fun _ _ => rfl

theorem execIfRd_leavesGang (a : Nat) (n : Nat) (s : State) : LeavesGang s (execIfRd a n s) := by
  simp [execIfRd]

theorem execIfRdc_leavesGang (a : Nat) (s : State) : LeavesGang s (execIfRdc a s) := by
  simp [execIfRdc]

theorem execIfDump_leavesGang (a : Nat) (n : Nat) (s : State) : LeavesGang s (execIfDump a n s) := by
  simp [execIfDump]

theorem execIfHalt_leavesGang (c : Fin 96) (s : State) : LeavesGang s (execIfHalt c s) := by
  simp [execIfHalt]

theorem execIfGo_leavesGang (c : Fin 96) (s : State) : LeavesGang s (execIfGo c s) := by
  simp [execIfGo]

theorem execIfStep_leavesGang (c : Fin 96) (n : Nat) (s : State) : LeavesGang s (execIfStep c n s) :=
  State.ifendi_leavesGang _ _ _ fun t => by
    split
    · rfl
    · split
      · rfl
      · rw [State.eachMember_gang]
        · exact State.observed_gang _ _
        · exact fun _ _ => rfl

theorem execIfTraceOn_leavesGang (c : Fin 96) (s : State) : LeavesGang s (execIfTraceOn c s) := by
  simp [execIfTraceOn]

theorem execIfTraceOff_leavesGang (s : State) : LeavesGang s (execIfTraceOff s) :=
  State.ifendi_leavesGang _ _ _ fun _ => rfl

theorem execIfTraceShow_leavesGang (n : Option Nat) (s : State) : LeavesGang s (execIfTraceShow n s) :=
  State.ifendi_leavesGang _ _ _ fun _ => State.foldl_gang _ _ _ fun t i => by split <;> rfl

theorem execTrainConverged_leavesGang (p : Fin 12) (s : State) : LeavesGang s (execTrainConverged p s) := by
  simp [execTrainConverged]

theorem execAlignmentLock_leavesGang (p : Fin 12) (fail : Option AlignFail) (polinv : BitVec 8) (rev : Bool) (s : State) :
    LeavesGang s (execAlignmentLock p fail polinv rev s) := by
  unfold execAlignmentLock
  repeat' split
  all_goals simp

theorem execCxlLinkTrained_leavesGang (w : Fin 4) (r : Fin 6) (flit : Bool) (s : State) : LeavesGang s (execCxlLinkTrained w r flit s) := by
  simp [execCxlLinkTrained]

theorem execCxlLinkDown_leavesGang (s : State) : LeavesGang s (execCxlLinkDown s) := by
  simp [execCxlLinkDown]

theorem execPerstRise_leavesGang (s : State) : LeavesGang s (execPerstRise s) := by
  simp [execPerstRise]

theorem execHostWriteCompletion_leavesGang (c : Fin 96) (k : Nat) (s : State) : LeavesGang s (execHostWriteCompletion c k s) := by
  unfold execHostWriteCompletion
  dsimp only
  split
  · split <;> simp
  · simp

theorem execHostSnoop_leavesGang (h : Nat) (s : State) : LeavesGang s (execHostSnoop h s) := by
  simp [execHostSnoop]

theorem execVinRestored_leavesGang (s : State) : LeavesGang s (execVinRestored s) := by
  simp [execVinRestored]

theorem execMailboxResult_leavesGang (s : State) : LeavesGang s (execMailboxResult s) := by
  unfold execMailboxResult
  split <;> simp

theorem execIfendiRomRecovery_leavesGang (s : State) : LeavesGang s (execIfendiRomRecovery s) := by
  simp [execIfendiRomRecovery]

theorem execMalformedCommand_leavesGang (long : Bool) (s : State) : LeavesGang s (execMalformedCommand long s) :=
  State.ifendi_leavesGang _ _ _ fun _ => State.say_gang _ _

theorem execGetVersion_leavesGang (doe : Bool) (s : State) : LeavesGang s (execGetVersion doe s) :=
  State.spdm_leavesGang _ _ _ fun _ => State.spdmOut_gang _ _ _ _

theorem execGetCapabilities_leavesGang (doe : Bool) (s : State) : LeavesGang s (execGetCapabilities doe s) :=
  State.spdm_leavesGang _ _ _ fun _ => State.spdmOut_gang _ _ _ _

theorem execNegotiateAlgorithms_leavesGang (doe : Bool) (s : State) : LeavesGang s (execNegotiateAlgorithms doe s) :=
  State.spdm_leavesGang _ _ _ fun _ => State.spdmOut_gang _ _ _ _

theorem execGetDigests_leavesGang (doe : Bool) (s : State) : LeavesGang s (execGetDigests doe s) := by
  simp [execGetDigests]

theorem execSpdmFinish_leavesGang (doe : Bool) (id : Nat) (mac : Bool) (s : State) : LeavesGang s (execSpdmFinish doe id mac s) :=
  State.spdm_leavesGang _ _ _ fun t => by split <;> simp

theorem execEndSession_leavesGang (doe : Bool) (id : Nat) (s : State) : LeavesGang s (execEndSession doe id s) := by
  simp [execEndSession]

theorem execBr_leavesGang (i : Issue) (f : Fields) (s : State) : LeavesGang s (execBr i f s) :=
  State.issue_leavesGang _ _ _ _ _ fun _ _ => rfl

theorem execJal_leavesGang (i : Issue) (f : Fields) (s : State) : LeavesGang s (execJal i f s) :=
  State.issue_leavesGang _ _ _ _ _ fun _ _ => rfl

theorem execJr_leavesGang (i : Issue) (f : Fields) (s : State) : LeavesGang s (execJr i f s) :=
  State.issue_leavesGang _ _ _ _ _ fun _ _ => by simp

theorem execFrame_leavesGang (i : Issue) (f : Fields) (s : State) : LeavesGang s (execFrame i f s) :=
  State.issue_leavesGang _ _ _ _ _ fun _ _ => rfl

theorem execExit_leavesGang (i : Issue) (f : Fields) (s : State) : LeavesGang s (execExit i f s) :=
  State.issue_leavesGang _ _ _ _ _ fun _ _ => rfl

theorem execSrd_leavesGang (i : Issue) (f : Fields) (s : State) : LeavesGang s (execSrd i f s) :=
  State.issue_leavesGang _ _ _ _ _ fun _ _ => rfl

theorem execIllegalEncoding_leavesGang (c : Fin 96) (cy : Nat) (w0 : Word64) (w1 : Word64) (w2 : Word64) (w3 : Word64) (s : State) :
    LeavesGang s (execIllegalEncoding c cy w0 w1 w2 w3 s) := by
  unfold execIllegalEncoding
  repeat' split
  all_goals simp

theorem execWload_leavesGang (i : Issue) (f : Fields) (s : State) : LeavesGang s (execWload i f s) :=
  State.issue_leavesGang _ _ _ _ _ fun _ _ => by simp

theorem execMma_leavesGang (i : Issue) (f : Fields) (s : State) : LeavesGang s (execMma i f s) :=
  State.issue_leavesGang _ _ _ _ _ fun _ _ => by simp

theorem execMdrain_leavesGang (i : Issue) (f : Fields) (s : State) : LeavesGang s (execMdrain i f s) :=
  State.issue_leavesGang _ _ _ _ _ fun _ _ => by simp

theorem execWloadExecute_leavesGang (c : Fin 96) (a : Fin 4) (s : State) : LeavesGang s (execWloadExecute c a s) := by
  unfold execWloadExecute
  dsimp only
  repeat' split
  all_goals simp -implicitDefEqProofs

theorem execMmaExecute_leavesGang (c : Fin 96) (a : Fin 4) (s : State) : LeavesGang s (execMmaExecute c a s) := by
  unfold execMmaExecute
  dsimp only
  repeat' split
  all_goals simp -implicitDefEqProofs

theorem execMdrainExecute_leavesGang (c : Fin 96) (a : Fin 4) (ups : List Upset) (s : State) :
    LeavesGang s (execMdrainExecute c a ups s) := by
  unfold execMdrainExecute
  dsimp only
  split
  · simp
  · split
    · simp
    · split
      · simp
      · split <;> rename_i h <;> simp [State.gang_of_fst h]

theorem execCsumReplay_leavesGang (c : Fin 96) (a : Fin 4) (fails : List Upset) (s : State) :
    LeavesGang s (execCsumReplay c a fails s) := by
  unfold execCsumReplay
  dsimp only
  repeat' split
  all_goals simp -implicitDefEqProofs

end Sys2Proof.Machine
end

section
/-!
# Operations that write the gang map

SUPPORT. The gang map changes by the commit of a staged map (R25), a failed core that leaves its gang (R13, log entry 71), a cluster held
in reset, whose gangs split (R360), and the loss of the volatile state in a SYSTEM RESET, in S3 or with the power. Each keeps a legal map
legal; so does a register write, which can start the last three.
-/
namespace Sys2Proof.Machine

/-- A legal gang map (R12): `State.gangsOk` of the map alone. -/
def legalGangs (g : Vector (Fin 96) 96) : Prop := ∀ c : Fin 96, g[g[c]] = g[c] ∧ (g[c]).val / 12 = c.val / 12 ∧ g[c] ≤ c

theorem State.gangsOk_iff (s : State) : s.gangsOk ↔ legalGangs s.gang := Iff.rfl

theorem State.gangsOk.of_gang {s t : State} (h : s.gangsOk) (e : t.gang = s.gang) : t.gangsOk := by
  rw [State.gangsOk_iff, e]
  exact h

theorem State.gangsOk_ite {p : Prop} [Decidable p] {s t : State} (hs : s.gangsOk) (ht : t.gangsOk) : (if p then s else t).gangsOk := by
  split
  · exact hs
  · exact ht

theorem State.gangsOk.foldl {α : Type} {s : State} (h : s.gangsOk) (l : List α) (g : State → α → State)
    (hg : ∀ t a, t.gangsOk → (g t a).gangsOk) : (l.foldl g s).gangsOk := by
  induction l generalizing s with
  | nil => exact h
  | cons a l ih => exact ih (hg s a h)

theorem State.gangsOk.withBarPend {s : State} (h : s.gangsOk) (l : List Nat) : { s with barPend := l }.gangsOk := h

theorem State.gangsOk.withFlights {s : State} (h : s.gangsOk) (l : List Flight) : { s with flights := l }.gangsOk := h

theorem State.gangsOk.withCoreRst {s : State} (h : s.gangsOk) (r : Option RStage) (l : List Flight) :
    { s with coreRst := r, flights := l }.gangsOk := h

theorem State.gangsOk.withPower {s : State} (h : s.gangsOk) (p : Power) : { s with power := p }.gangsOk := h

theorem State.gangsOk.withGangPend {s : State} (h : s.gangsOk) (l : List (Nat × Bool)) : { s with gangPend := l }.gangsOk := h

theorem State.gangsOk.withCycle {s : State} (h : s.gangsOk) (n : Nat) : { s with cycle := n }.gangsOk := h

theorem State.gangsOk.withSec {s : State} (h : s.gangsOk) (x : Security) : { s with sec := x }.gangsOk := h

theorem State.gangsOk.withPhase {s : State} (h : s.gangsOk) (p : Phase) : { s with phase := p }.gangsOk := h

theorem State.gangsOk.withPerst {s : State} (h : s.gangsOk) (b : Bool) : { s with perst := b }.gangsOk := h

theorem State.gangsOk.withRst {s : State} (h : s.gangsOk) (r : Option RStage) : { s with coreRst := r }.gangsOk := h

theorem State.gangsOk.withPsPend {s : State} (h : s.gangsOk) (p : Option Nat) : { s with psPend := p }.gangsOk := h

theorem State.gangsOk.withRstPsPend {s : State} (h : s.gangsOk) (r : Option RStage) (p : Option Nat) :
    { s with coreRst := r, psPend := p }.gangsOk := h

theorem State.gangsOk.withCyclePend {s : State} (h : s.gangsOk) (n : Nat) (l : List (Nat × Bool)) :
    { s with cycle := n, gangPend := l }.gangsOk := h

theorem State.gangsOk.withFreeCtr {s : State} (h : s.gangsOk) (n : Nat) : { s with freeCtr := n }.gangsOk := h

theorem State.gangsOk.withBarCap {s : State} (h : s.gangsOk) (l : List (Nat × Word32)) : { s with barCap := l }.gangsOk := h

theorem State.gangsOk.withVfs {s : State} (h : s.gangsOk) (n : Nat) : { s with vfs := n }.gangsOk := h

theorem State.gangsOk.withLock {s : State} (h : s.gangsOk) (b : Bool) (n : Nat) : { s with lockLost := b, lockRun := n }.gangsOk := h

theorem State.gangsOk.withWinDue {s : State} (h : s.gangsOk) (l : List Nat) : { s with winDue := l }.gangsOk := h

theorem State.gangsOk.withFrame {s : State} (h : s.gangsOk) (cy clk : Nat) (b : Bool) (st : Option (Nat × Nat)) (l : List Nat) :
    { s with cycle := cy, clock := clk, logMsi := b, step := st, winDue := l }.gangsOk := h

theorem legalGangs_ofFn (f : Fin 96 → Fin 96) :
    legalGangs (Vector.ofFn f) ↔ ∀ c, f (f c) = f c ∧ (f c).val / 12 = c.val / 12 ∧ f c ≤ c := by
  simp [legalGangs]

/-- The cores of a cluster each lead themselves: the map stays legal. -/
theorem legalGangs_split (g : Vector (Fin 96) 96) (k : Nat) (h : legalGangs g) :
    legalGangs (Vector.ofFn fun c => if c.val / 12 = k then c else g[c]) := by
  refine (legalGangs_ofFn _).2 fun c => ?_
  obtain ⟨hl, hk, hc⟩ := h c
  by_cases hck : c.val / 12 = k
  · simp only [if_pos hck, le_refl, and_self]
  · simp only [if_neg hck, hk, hl, hc, and_self]

/-- Core c leaves its gang, and the members it led lead themselves (log entry 71): the map stays legal. -/
theorem legalGangs_leave (g : Vector (Fin 96) 96) (c : Fin 96) (h : legalGangs g) :
    legalGangs (Vector.ofFn fun d => if d = c ∨ g[d] = c then d else g[d]) := by
  refine (legalGangs_ofFn _).2 fun d => ?_
  obtain ⟨hl, hk, hd⟩ := h d
  by_cases hdc : d = c ∨ g[d] = c
  · simp only [if_pos hdc, le_refl, and_self]
  · obtain ⟨hne, hgc⟩ := not_or.1 hdc
    simp only [hne, hgc, or_self, if_false, hl, hk, hd, and_self]

/-- The members of cluster k are led by those that `ld` names, in the cluster's order: the map stays legal. -/
theorem legalGangs_map (g : Vector (Fin 96) 96) (k : Nat) (ld : Nat → Nat) (hle : ∀ j, j < 12 → ld j ≤ j)
    (hld : ∀ j, j < 12 → ld (ld j) = ld j) (h : legalGangs g) :
    legalGangs (Vector.ofFn fun c => if c.val / 12 = k then coreOf (12 * k + ld (c.val % 12)) else g[c]) := by
  refine (legalGangs_ofFn _).2 fun c => ?_
  obtain ⟨hl, hk, hc⟩ := h c
  by_cases hck : c.val / 12 = k
  · have hj : ld (c.val % 12) ≤ c.val % 12 := hle _ (Nat.mod_lt _ (by decide))
    have hv : (coreOf (12 * k + ld (c.val % 12))).val = 12 * k + ld (c.val % 12) := by
      rw [coreOf, dif_pos (by omega)]
    have hdiv : (12 * k + ld (c.val % 12)) / 12 = k := by omega
    have hmod : (12 * k + ld (c.val % 12)) % 12 = ld (c.val % 12) := by omega
    simp only [hv, hdiv, hmod, if_true, hld _ (Nat.mod_lt _ (by decide : 0 < 12)), hck, Fin.le_def, true_and]
    omega
  · simp only [if_neg hck, hk, hl, hc, and_self]

theorem State.splitCluster_gangsOk {s : State} (h : s.gangsOk) (k : Nat) : (s.splitCluster k).gangsOk := legalGangs_split s.gang k h

theorem State.leaveGang_gangsOk {s : State} (h : s.gangsOk) (c : Fin 96) : (s.leaveGang c).gangsOk := legalGangs_leave s.gang c h

theorem State.mapOk_leader {s : State} {k : Nat} {split : Bool} (h : s.mapOk k split = true) (j : Nat) (hj : j < 12) :
    s.stagedLeader k split j ≤ j ∧ s.stagedLeader k split (s.stagedLeader k split j) = s.stagedLeader k split j := by
  have hall := List.all_eq_true.1 h j (List.mem_range.2 hj)
  simp only [Bool.and_eq_true, decide_eq_true_eq] at hall
  exact hall.1.1

/-- A staged map that meets the conditions of R25 is legal. -/
theorem State.applyMap_gangsOk {s : State} (h : s.gangsOk) {k : Nat} {split : Bool} (hk : s.mapOk k split = true) :
    (s.applyMap k split).gangsOk :=
  legalGangs_map s.gang k _ (fun j hj => (State.mapOk_leader hk j hj).1) (fun j hj => (State.mapOk_leader hk j hj).2) h

theorem State.gangsOk_of_reset {s : State} (h : s.gang = State.reset.gang) : s.gangsOk := by
  rw [State.gangsOk_iff, h]
  exact State.reset.gangsOk_of_single State.reset_gang

theorem State.loseVolatile_gangsOk (s : State) : s.loseVolatile.gangsOk := State.gangsOk_of_reset rfl

theorem State.sysResetNow_gangsOk (s : State) (mask : Nat) : (s.sysResetNow mask).gangsOk := State.loseVolatile_gangsOk _

theorem State.powerOff_gangsOk (s : State) (p : Phase) : (s.powerOff p).gangsOk := State.gangsOk_of_reset rfl

theorem State.toS3_gangsOk {s : State} (h : s.gangsOk) : s.toS3.gangsOk := by
  unfold State.toS3
  refine State.gangsOk_ite h ?_
  exact (State.loseVolatile_gangsOk (s.toPhase .s3)).of_gang (by simp -implicitDefEqProofs)

theorem State.psRequest_gangsOk {s : State} (h : s.gangsOk) (t : Nat) : (s.psRequest t).gangsOk := by
  have hmap : legalGangs s.gang := h
  have hS3 : legalGangs s.toS3.gang := State.toS3_gangsOk h
  unfold State.psRequest
  dsimp only
  repeat' split
  all_goals simp [State.gangsOk_iff, hmap, hS3]

theorem State.sysReset_gangsOk {s : State} (h : s.gangsOk) (mask : Nat) : (s.sysReset mask).gangsOk := by
  unfold State.sysReset
  exact State.gangsOk_ite h (State.gangsOk_ite h (s.sysResetNow_gangsOk mask))

/-- A write of any register: R12's map moves with a SYSTEM RESET and with S3 alone, and both leave every core its own gang. -/
theorem State.apply_gangsOk {s : State} (h : s.gangsOk) (o : Nat) (new act : Word32) : (s.apply o new act).gangsOk := by
  unfold State.apply
  split
  · exact State.gangsOk_ite h (h.of_gang (State.applyCore_gang _ _ _ _ _))
  · have hset : (s.setReg o new).gangsOk := h.of_gang (State.setReg_gang _ _ _)
    refine State.gangsOk_ite ?low (State.gangsOk_ite ?die (State.gangsOk_ite ?cluster
      (State.gangsOk_ite ?rst (State.gangsOk_ite ?psreq ?rest))))
    case low =>
      split
      · exact hset.withBarPend _
      · exact h.of_gang (State.writeSlwin_gang _ _ _)
      · exact h.of_gang (State.setReg_gang _ _ _)
      · exact hset
    case die =>
      extract_lets +onlyGivenNames d
      split
      · exact hset.withBarPend _
      · exact hset
    case cluster => exact State.gangsOk_ite (State.gangsOk_ite ((h.of_gang (State.setBit_gang _ _ _ _)).withGangPend _) h) hset
    case rst =>
      extract_lets s₁
      have h₁ : s₁.gangsOk := State.gangsOk_ite (h.of_gang (State.requestCore_gang _ _)) h
      exact State.gangsOk_ite (State.sysReset_gangsOk h₁ _) h₁
    case psreq =>
      have hp (v : Word32) : (s.setReg o v).gangsOk := h.of_gang (State.setReg_gang _ _ _)
      exact State.gangsOk_ite (State.psRequest_gangsOk (hp _) _) (hp _)
    case rest =>
      refine State.gangsOk_ite (h.of_gang (State.mailbox_gang _ _ _)) ?_
      refine State.gangsOk_ite (h.of_gang (State.limitsWrite_gang _ _ _)) ?_
      refine State.gangsOk_ite (h.of_gang (State.reserveWrite_gang _ _)) ?_
      refine State.gangsOk_ite (h.of_gang (State.setReg_gang _ _ _)) ?_
      refine State.gangsOk_ite (h.of_gang (State.alert_gang _ _)) ?_
      refine State.gangsOk_ite (h.of_gang (State.writeErrCtrl_gang _ _)) ?_
      refine State.gangsOk_ite (h.of_gang (State.writeInjArr_gang _ _)) ?_
      refine State.gangsOk_ite (State.gangsOk_ite (h.of_gang (State.scrubGo_gang _ _)) (h.of_gang (State.setReg_gang _ _ _))) ?_
      refine State.gangsOk_ite (h.of_gang (State.setReg_gang _ _ _)) ?_
      refine State.gangsOk_ite (h.of_gang (State.writeTimeCtrl_gang _ _)) ?_
      refine State.gangsOk_ite (h.of_gang (State.setReg_gang _ _ _)) ?_
      refine State.gangsOk_ite (h.of_gang (State.applyPart_gang _ _ _ _ _)) ?_
      refine State.gangsOk_ite ?mc (State.gangsOk_ite ?ch (State.gangsOk_ite (h.of_gang (State.applyChc_gang _ _ _ _)) ?halt))
      case mc =>
        refine State.gangsOk_ite (h.of_gang (State.writeInj_gang _ _ _)) (State.gangsOk_ite (h.of_gang (State.setReg_gang _ _ _)) ?_)
        split
        · exact State.gangsOk_ite h hset
        · exact State.gangsOk_ite h hset
        · exact hset
      case ch => exact State.gangsOk_ite (h.of_gang (State.writeChCtrl_gang _ _ _ _)) hset
      case halt =>
        split
        · exact h.of_gang (State.writeHalt_gang _ _ _)
        · exact hset

theorem State.aliasWrite_gangsOk {s : State} (h : s.gangsOk) (r : Fin 10) (w o : Nat) (v : Word32) (d : RegDesc) :
    (s.aliasWrite r w o v d).gangsOk := by
  have hd : (s.disturb r o).gangsOk := h.of_gang (State.disturb_gang _ _ _)
  unfold State.aliasWrite
  extract_lets s₁ m old x s₂ t s₃
  have h₂ : s₂.gangsOk := State.gangsOk_ite hd (State.apply_gangsOk hd _ _ _)
  have h₃ : s₃.gangsOk := State.gangsOk_ite (h₂.of_gang (State.alert_gang _ _)) h₂
  exact State.gangsOk_ite (State.gangsOk_ite h₂ (h₃.of_gang (State.regPut_gang _ _ _))) h₂

theorem State.baseWrite_gangsOk {s : State} (h : s.gangsOk) (r : Fin 10) (o : Nat) (v : Word32) (d : RegDesc) :
    (s.baseWrite r o v d).gangsOk := by
  have hd : (s.disturb r o).gangsOk := h.of_gang (State.disturb_gang _ _ _)
  unfold State.baseWrite
  extract_lets +onlyGivenNames s₁ m g pend s₂
  have h₂ : s₂.gangsOk := State.gangsOk_ite hd (State.apply_gangsOk hd _ _ _)
  exact State.gangsOk_ite (h₂.of_gang rfl) h₂

theorem State.guardWrite_gangsOk {s : State} (h : s.gangsOk) (r : Fin 10) (o : Nat) (v : Word32) : (s.guardWrite r o v).gangsOk := by
  have he (l : List (Nat × (Nat × Word32))) : { s with guards := l }.gangsOk := h.of_gang rfl
  unfold State.guardWrite
  split
  · exact h.of_gang (State.guardFail_gang _ _ _)
  · refine State.gangsOk_ite ((he _).of_gang (State.guardFail_gang _ _ _)) ?_
    split
    · exact he _
    · exact State.apply_gangsOk (he _) _ _ _

theorem State.regWrite_gangsOk {s : State} (h : s.gangsOk) (r : Fin 10) (off : Nat) (v : Word32) : (s.regWrite r off v).gangsOk := by
  have ht (o : Nat) : (s.hostTouch r o).gangsOk := h.of_gang (State.hostTouch_gang _ _ _)
  unfold State.regWrite
  refine State.gangsOk_ite h (State.gangsOk_ite (h.of_gang (State.setBit_gang _ _ _ _))
    (State.gangsOk_ite (State.guardWrite_gangsOk (ht _) _ _ _) ?_))
  split
  · exact State.gangsOk_ite ((ht _).of_gang (State.disturb_gang _ _ _)) (ht _)
  · exact State.gangsOk_ite (State.baseWrite_gangsOk (ht _) _ _ _ _)
      (State.gangsOk_ite (State.aliasWrite_gangsOk (ht _) _ _ _ _ _) (ht _))

theorem State.guarded_gangsOk {s : State} (h : s.gangsOk) (r : Fin 10) (o : Nat) (v : Word32) : (s.guarded r o v).gangsOk :=
  State.regWrite_gangsOk (State.regWrite_gangsOk h _ _ _) _ _ _

theorem State.writeReg_gangsOk {s : State} (h : s.gangsOk) (r : Fin 10) (off len v : Nat) : (s.writeReg r off len v).gangsOk :=
  State.gangsOk_ite h (State.gangsOk_ite (h.of_gang rfl) (h.foldl _ _ fun _ _ ht => State.regWrite_gangsOk ht _ _ _))

theorem State.markFailed_gangsOk {s : State} (h : s.gangsOk) (c : Fin 96) : (s.markFailed c).gangsOk := by
  unfold State.markFailed
  extract_lets s₁ s₂ s₃ s₄ s₅
  have h₁ : s₁.gangsOk := State.gangsOk_ite (h.of_gang (State.setFld_gang _ _ _ _ _)) h
  have h₂ : s₂.gangsOk := (State.leaveGang_gangsOk h₁ c).of_gang (State.modCore_gang _ _ _)
  have h₃ : s₃.gangsOk := h₂.of_gang ((State.errsum_gang _ _ _).trans (State.setBit_gang _ _ _ _))
  have h₄ : s₄.gangsOk := h₃.of_gang (State.setFld_gang _ _ _ _ _)
  have h₅ : s₅.gangsOk := h₄.of_gang
    ((State.histSet_gang _ _ _).trans ((State.alert_gang _ _).trans (State.setBit_gang _ _ _ _)))
  exact h₅.of_gang (State.record_gang s₅ _ _ _ _ _ _ _ _)

theorem State.releaseCores_gangsOk {s : State} (h : s.gangsOk) (l : List (Fin 96)) : (s.releaseCores l).gangsOk := by
  unfold State.releaseCores
  extract_lets wait cs s₁ s₂
  have h₁ : s₁.gangsOk := h.of_gang (State.eachCore_gang _ _ _)
  have h₂ : s₂.gangsOk := h₁.foldl _ State.remap fun _ _ ht => ht.of_gang (State.remap_gang _ _)
  refine h₂.foldl _ State.markFailed fun _ c ht => ?_
  exact State.markFailed_gangsOk ht c

theorem State.request_gangsOk {s : State} (h : s.gangsOk) (r : Option (Fin 10)) (cmd arg tag : Nat) :
    (s.request r cmd arg tag).gangsOk := by
  unfold State.request
  cases r with
  | some r => exact State.guarded_gangsOk (State.regWrite_gangsOk h _ _ _) _ _ _
  | none => exact State.gangsOk_ite (h.of_gang (State.pldmRequest_gang _ _ _ _)) h

theorem State.splitClusters_gangsOk {s : State} (h : s.gangsOk) (l : List Nat) :
    (l.foldl (fun s k => (s.splitCluster k).clearUcb (rUCB_cl_IDENT k)) s).gangsOk :=
  h.foldl _ _ fun _ k ht => (State.splitCluster_gangsOk ht k).of_gang (State.clearUcb_gang _ _)

theorem State.clearBarriers_gangsOk {s : State} (h : s.gangsOk) (l : List Nat) : (l.foldl State.clearBarrier s).gangsOk :=
  h.foldl _ _ fun _ _ ht => ht.of_gang (State.clearBarrier_gang _ _)

theorem State.holdAll_gangsOk {s : State} (h : s.gangsOk) : s.holdAll.gangsOk := by
  unfold State.holdAll
  extract_lets s₁ s₂ s₃ s₄ s₅ s₆
  have h₁ : s₁.gangsOk := h.of_gang (State.resetCores_gang _ _)
  have h₂ : s₂.gangsOk := State.splitClusters_gangsOk h₁ _
  have h₃ : s₃.gangsOk := h₂.of_gang ((State.clearUcb_gang _ _).trans (State.clearUcb_gang s₂ _))
  have h₄ : s₄.gangsOk := h₃.of_gang (State.clearUcb_gang s₃ _)
  have h₅ : s₅.gangsOk := State.clearBarriers_gangsOk h₄ _
  have h₆ : s₆.gangsOk := h₅.foldl _ _ fun _ _ ht => ht.of_gang (State.modPart_gang _ _ _)
  exact h₆.withCoreRst _ _

theorem State.holdPart_gangsOk {s : State} (h : s.gangsOk) (p : Nat) : (s.holdPart p).gangsOk := by
  unfold State.holdPart
  extract_lets cl s₁ s₂ s₃ s₄ s₅ mine s₆
  have h₁ : s₁.gangsOk := h.of_gang (State.resetCores_gang _ _)
  have h₂ : s₂.gangsOk := State.splitClusters_gangsOk h₁ _
  have h₃ : s₃.gangsOk := State.clearBarriers_gangsOk h₂ _
  have h₄ : s₄.gangsOk := h₃.of_gang ((State.setReg_gang _ _ _).trans (State.setReg_gang s₃ _ _))
  have h₅ : s₅.gangsOk := h₄.foldl _ _ fun _ _ ht => ht.of_gang (State.setFld_gang _ _ _ _ _)
  have h₆ : s₆.gangsOk := h₅.withFlights _
  exact h₆.of_gang (State.modPart_gang _ _ _)

theorem State.tickResets_gangsOk {s : State} (h : s.gangsOk) : s.tickResets.gangsOk := by
  unfold State.tickResets
  extract_lets s₁ t w s₂
  have h₁ : s₁.gangsOk := State.gangsOk_ite (State.holdAll_gangsOk h) h
  have ht : t.gangsOk := h₁.of_gang ((State.setBit_gang _ _ _ _).trans (State.setBit_gang s₁ _ _ _))
  have h₂ : s₂.gangsOk := State.gangsOk_ite (ht.withPower _) h₁
  exact h₂.foldl _ _ fun _ p ht => State.gangsOk_ite (State.holdPart_gangsOk ht p) ht

theorem State.barWrite_gangsOk {s : State} (h : s.gangsOk) (fn : Fin 9) (o len v : Nat) : (s.barWrite fn o len v).gangsOk := by
  unfold State.barWrite
  split
  · exact State.writeReg_gangsOk h _ _ _ _
  · exact State.gangsOk_ite h (h.foldl _ _ fun _ _ ht => ht.of_gang (State.msixWrite_gang _ _ _ _))

theorem State.writeLine_gangsOk {s : State} (h : s.gangsOk) (o : Nat) (b : List (Option Byte)) : (s.writeLine o b).gangsOk :=
  h.foldl _ _ fun _ _ ht => by
    split
    · exact State.writeReg_gangsOk ht _ _ _ _
    · exact ht

theorem State.ifendi_gangsOk {s : State} (h : s.gangsOk) (lvl : Nat) (act : State → State) (hact : ∀ t, t.gangsOk → (act t).gangsOk) :
    (s.ifendi lvl act).gangsOk :=
  State.gangsOk_ite h (State.gangsOk_ite (h.of_gang (State.say_gang _ _))
    (State.gangsOk_ite (h.of_gang (State.say_gang _ _)) (hact s h)))

end Sys2Proof.Machine
end

section
/-!
# O59: every step keeps a legal gang map legal (R12)

A step executes the command at the front of the queue. A command either leaves the gang map (`LeavesGang.keepsLegal`) or writes it by
the operations of the section above.
-/
namespace Sys2Proof.Machine

/-- What a command that keeps a legal gang map legal answers. -/
def KeepsLegal (s : State) (o : Host.Outcome State Fault Refusal) : Prop := s.gangsOk → ∀ t, o = .next t → t.gangsOk

theorem keepsLegal_next {s t : State} (ht : s.gangsOk → t.gangsOk) : KeepsLegal s (.next t) := by
  rintro h u ⟨⟩
  exact ht h

theorem KeepsLegal.ite {s : State} {p : Prop} [Decidable p] {x y : Host.Outcome State Fault Refusal} (hx : KeepsLegal s x)
    (hy : KeepsLegal s y) : KeepsLegal s (if p then x else y) := by
  split
  · exact hx
  · exact hy

theorem LeavesGang.keepsLegal {s : State} {o : Host.Outcome State Fault Refusal} (ho : LeavesGang s o) : KeepsLegal s o :=
  fun h t ht => h.of_gang (ho t ht)

theorem keepsLegal_self (s : State) : KeepsLegal s (.next s) := keepsLegal_next id

/-- A command of the monitor (R417) keeps a legal map where its work does. -/
theorem State.ifendi_keepsLegal (s : State) (lvl : Nat) (act : State → State) (hact : ∀ t, t.gangsOk → (act t).gangsOk) :
    KeepsLegal s (.next (s.ifendi lvl act)) := keepsLegal_next fun h => State.ifendi_gangsOk h lvl act hact

theorem execNvWritePulseEnd_keepsLegal (s : State) : KeepsLegal s (execNvWritePulseEnd s) := by
  unfold execNvWritePulseEnd
  refine .ite (keepsLegal_self s) ?_
  split
  · exact keepsLegal_next fun h => h.of_gang rfl
  · refine keepsLegal_next fun h => State.gangsOk_ite (h.of_gang rfl) ?_
    exact (State.sysResetNow_gangsOk _ _).of_gang (State.setBit_gang _ _ _ _)

theorem execHoldUpExpiry_keepsLegal (s : State) : KeepsLegal s (execHoldUpExpiry s) :=
  keepsLegal_next fun h => State.gangsOk_ite (s.powerOff_gangsOk .off) h

theorem execIfPs_keepsLegal (t : Fin 4) (s : State) : KeepsLegal s (execIfPs t s) :=
  s.ifendi_keepsLegal _ _ fun _ h => (State.guarded_gangsOk h _ _ _).of_gang (State.say_gang _ _)

theorem execIfResetSys_keepsLegal (s : State) : KeepsLegal s (execIfResetSys s) :=
  s.ifendi_keepsLegal _ _ fun _ h => (State.guarded_gangsOk h _ _ _).of_gang (State.say_gang _ _)

theorem execIfResetCore_keepsLegal (s : State) : KeepsLegal s (execIfResetCore s) :=
  s.ifendi_keepsLegal _ _ fun _ h => (State.guarded_gangsOk h _ _ _).of_gang (State.say_gang _ _)

theorem execIfWrg_keepsLegal (a : Nat) (v : Word32) (s : State) : KeepsLegal s (execIfWrg a v s) := by
  refine s.ifendi_keepsLegal _ _ fun t h => ?_
  have hsay (x : String) : (t.say x).gangsOk := h.of_gang (State.say_gang _ _)
  split
  · refine State.gangsOk_ite (hsay _) (State.gangsOk_ite ?_ ?_)
    · exact (State.guarded_gangsOk h _ _ _).of_gang (State.say_gang _ _)
    · exact (State.guarded_gangsOk h _ _ _).of_gang (State.say_gang _ _)
  · exact hsay _

theorem execIfWr_keepsLegal (a : Nat) (v : Word32) (s : State) : KeepsLegal s (execIfWr a v s) := by
  refine s.ifendi_keepsLegal _ _ fun t h => ?_
  have hsay (x : String) : (t.say x).gangsOk := h.of_gang (State.say_gang _ _)
  refine State.gangsOk_ite (hsay _) ?_
  split
  · exact hsay _
  · exact (State.writeReg_gangsOk h _ _ _ _).of_gang (State.say_gang _ _)
  · exact h.of_gang ((State.say_gang _ _).trans (State.devWrite_gang _ _ _ _))

theorem execActivateFirmware_keepsLegal (i : Fin 2) (s : State) : KeepsLegal s (execActivateFirmware i s) :=
  .ite (keepsLegal_self s) (.ite (keepsLegal_next fun h => State.sysReset_gangsOk ((h.of_gang (s.pldmOut_gang _ _)).withSec _) _)
    (keepsLegal_next fun h => h.of_gang (State.pldmOut_gang _ _ _)))

theorem execClusterScrubDone_keepsLegal (p k : Fin 8) (s : State) : KeepsLegal s (execClusterScrubDone p k s) := by
  unfold execClusterScrubDone
  refine .ite (keepsLegal_self s) ?_
  extract_lets cs s₁ s₂
  refine keepsLegal_next fun h => ?_
  have h₁ : s₁.gangsOk := h.of_gang (State.modPart_gang _ _ _)
  have h₂ : s₂.gangsOk := h₁.of_gang (State.setBit_gang _ _ _ _)
  exact State.gangsOk_ite (State.releaseCores_gangsOk (h₂.of_gang (State.scrubCores_gang _ _)) _) h₂

theorem execCoreResetRelease_keepsLegal (s : State) : KeepsLegal s (execCoreResetRelease s) := by
  unfold execCoreResetRelease
  extract_lets s₁ s₂ s₃
  refine keepsLegal_next fun h => ?_
  have h₁ : s₁.gangsOk := h.withCycle _
  have h₂ : s₂.gangsOk := State.releaseCores_gangsOk h₁ _
  have h₃ : s₃.gangsOk := State.gangsOk_ite (h₂.withRst _) h₁
  refine State.gangsOk.of_gang (h₃.foldl _ _ fun t p ht => ?_) (State.endRip_gang _)
  exact State.gangsOk_ite ((State.releaseCores_gangsOk ht _).of_gang (State.modPart_gang _ _ _)) ht

theorem execPwrEnFall_keepsLegal (s : State) : KeepsLegal s (execPwrEnFall s) := by
  refine keepsLegal_next fun h => ?_
  split
  · exact h.of_gang rfl
  · exact State.toS3_gangsOk (h.of_gang rfl)
  · exact State.toS3_gangsOk (h.of_gang rfl)
  · exact h.of_gang (State.setFld_gang _ _ _ _ _)
  · exact h.of_gang rfl

theorem execWatchdog_keepsLegal (s : State) : KeepsLegal s (execWatchdog s) := keepsLegal_next fun h => State.sysReset_gangsOk h _

theorem execHotReset_keepsLegal (s : State) : KeepsLegal s (execHotReset s) :=
  keepsLegal_next fun h => State.gangsOk_ite h (State.sysReset_gangsOk (h.of_gang s.linkDown_gang) _)

theorem execPerstFall_keepsLegal (s : State) : KeepsLegal s (execPerstFall s) :=
  keepsLegal_next fun h => State.sysReset_gangsOk ((h.withPerst _).of_gang (State.linkDown_gang _)) _

theorem execTrimLoad_keepsLegal (crc : Option (Fin 256)) (n : BitVec 8) (s : State) : KeepsLegal s (execTrimLoad crc n s) := by
  have hk (h : s.gangsOk) : (s.mendOptions.setFld rTRIM_STATUS 15 8 n.toNat).gangsOk :=
    h.of_gang ((State.setFld_gang _ _ _ _ _).trans (State.mendOptions_gang _))
  unfold execTrimLoad
  refine .ite (keepsLegal_self s) ?_
  extract_lets s₁ bad s₂ s₃ t k
  clear_value bad
  split
  · refine keepsLegal_next fun h => ?_
    have h₂ : s₂.gangsOk := (hk h).foldl _ _ fun _ _ ht => ht.of_gang (State.setReg_gang _ _ _)
    have h₃ : s₃.gangsOk :=
      h₂.of_gang ((State.setFld_gang _ _ _ _ _).trans ((State.setFld_gang _ _ _ _ _).trans (State.setBit_gang s₂ _ _ _)))
    exact State.gangsOk.withPhase (h₃.of_gang s₃.withCdi0_gang) _
  · extract_lets s₄ s₅ u
    refine .ite (keepsLegal_next fun h => ?_) (keepsLegal_next fun h => ?_)
    all_goals have h₄ : s₄.gangsOk := (hk h).of_gang ((State.setFld_gang _ _ _ _ _).trans (State.setFld_gang s₁ _ _ _ _))
    · have h₅ : s₅.gangsOk := h₄.of_gang ((State.setBit_gang _ _ _ _).trans (State.setBit_gang s₄ _ _ _))
      exact State.gangsOk.withPhase (h₅.of_gang s₅.withCdi0_gang) _
    · exact State.sysReset_gangsOk (h₄.withPhase _) _

theorem execBulkCharged_keepsLegal (s : State) : KeepsLegal s (execBulkCharged s) :=
  .ite (keepsLegal_self s) (keepsLegal_next fun _ => (s.powerOff_gangsOk .boot).foldl _ _ fun _ _ ht =>
    ht.of_gang ((State.histSet_gang _ _ _).trans (State.histAdd_gang _ _ _)))

theorem execS2ExitComplete_keepsLegal (s : State) : KeepsLegal s (execS2ExitComplete s) := by
  unfold execS2ExitComplete
  refine .ite (keepsLegal_self s) ?_
  extract_lets s₁ s₂ s₃
  refine keepsLegal_next fun h => ?_
  have h₁ : s₁.gangsOk := (h.withPsPend _).foldl _ _ fun _ _ ht => ht.of_gang (State.setBit_gang _ _ _ _)
  have h₂ : s₂.gangsOk := h₁.of_gang (State.eachCore_gang _ _ _)
  have h₃ : s₃.gangsOk := State.gangsOk_ite (State.releaseCores_gangsOk (h₂.of_gang (State.scrubCores_gang _ _)) _) (h₂.withRst _)
  exact h₃.of_gang ((State.setFld_gang _ _ _ _ _).trans (State.setFld_gang s₃ _ _ _ _))

theorem execS2EntryComplete_keepsLegal (s : State) : KeepsLegal s (execS2EntryComplete s) := by
  unfold execS2EntryComplete
  refine .ite (keepsLegal_self s) ?_
  extract_lets old s₁ s₂ s₃ s₄ s₅
  refine keepsLegal_next fun h => ?_
  have h₁ : s₁.gangsOk := State.holdAll_gangsOk h
  have h₂ : s₂.gangsOk := h₁.withRstPsPend _ _
  have h₃ : s₃.gangsOk := h₂.of_gang (State.eachCore_gang _ _ _)
  have h₄ : s₄.gangsOk := h₃.foldl _ _ fun _ _ ht => State.gangsOk_ite ht (ht.of_gang (State.dropLink_gang _ _))
  have h₅ : s₅.gangsOk := h₄.foldl _ _ fun _ _ ht => ht.of_gang (State.setBit_gang _ _ _ _)
  exact h₅.of_gang ((State.setFld_gang _ _ _ _ _).trans (State.setFld_gang s₅ _ _ _ _))

theorem execConfigRequest_keepsLegal (q : ConfigReq) (s : State) : KeepsLegal s (execConfigRequest q s) := by
  have hemit (x : Output) : KeepsLegal s (.next (s.emit x)) := keepsLegal_next fun h => h.of_gang (s.emit_gang x)
  unfold execConfigRequest
  refine .ite (keepsLegal_self s) (.ite (hemit _) ?_)
  cases q with
  | read fn off => exact .ite (hemit _) (keepsLegal_next fun h => h.of_gang rfl)
  | write fn off v =>
    exact keepsLegal_next fun h => State.gangsOk_ite (h.of_gang (s.emit_gang _))
      (h.of_gang ((State.emit_gang _ _).trans (State.configWrite_gang _ _ _ _)))
  | cap fn c => exact keepsLegal_next fun h => State.gangsOk_ite (h.of_gang (s.emit_gang _)) (h.of_gang (s.emit_gang _))
  | cdat n => exact hemit _
  | barRead fn o len =>
    exact .ite (hemit _) (keepsLegal_next fun h => h.of_gang ((State.emit_gang _ _).trans (State.barRead_gang _ _ _ _)))
  | barWrite fn o len v =>
    exact keepsLegal_next fun h => State.gangsOk_ite (h.of_gang (s.emit_gang _))
      ((State.barWrite_gangsOk h _ _ _ _).of_gang (State.emit_gang _ _))
  | vfs n =>
    refine keepsLegal_next fun h => State.gangsOk.of_gang ?_ (State.emit_gang _ _)
    exact State.gangsOk.withVfs (h.foldl _ _ fun _ _ ht => ht.of_gang (State.vfReset_gang _ _)) _
  | flr fn =>
    refine .ite (hemit _) (keepsLegal_next fun h => State.gangsOk.of_gang ?_ (State.emit_gang _ _))
    exact State.gangsOk_ite h (h.of_gang (s.vfReset_gang _))

theorem execCxlMemWrite_keepsLegal (hpa : Nat) (bytes : Vector (Option Byte) 64) (poison : Bool) (te : Option (Fin 8)) (hold : Bool)
    (s : State) : KeepsLegal s (execCxlMemWrite hpa bytes poison te hold s) := by
  unfold execCxlMemWrite
  refine .ite (keepsLegal_self s) ?_
  split
  · exact keepsLegal_next fun h => h.of_gang (s.emit_gang _)
  · extract_lets b w s₁ te₁ k a
    have hs (h : s.gangsOk) : s₁.gangsOk := State.gangsOk_ite (h.of_gang (State.count_gang _ _ _)) h
    have hout (t : State) (ht : s₁.gangsOk → t.gangsOk) (x : Output) : KeepsLegal s (.next (t.emit x)) :=
      keepsLegal_next fun h => (ht (hs h)).of_gang (State.emit_gang _ _)
    refine .ite (hout _ (fun h => h.of_gang (State.count_gang _ _ _)) _) (.ite ?line (.ite ?s2 (.ite ?hbm ?win)))
    case line => exact hout _ (fun h => State.gangsOk_ite h (State.writeLine_gangsOk h _ _)) _
    case s2 => exact hout _ (fun h => h.of_gang (State.cxlRec_gang _)) _
    case hbm =>
      refine .ite (hout _ (fun h => h.of_gang ?_) _) (hout _ (fun h => h.of_gang ?_) _)
      · exact (State.setHold_gang _ _ _).trans (State.touchAll_gang _)
      · exact (State.setHold_gang _ _ _).trans ((State.hbmWriteRaw_gang _ _).trans (State.touchAll_gang _))
    case win => exact hout _ (fun h => h.of_gang ((State.devWriteL_gang _ _).trans (State.windowUse_gang _ _ _ _))) _

theorem execGangMapCommit_keepsLegal (k : Fin 8) (s : State) : KeepsLegal s (execGangMapCommit k s) := by
  unfold execGangMapCommit
  split
  · exact keepsLegal_self s
  · refine .ite (keepsLegal_self s) ?_
    extract_lets s₁ s₂
    refine keepsLegal_next fun h => ?_
    have h₁ : s₁.gangsOk := (h.withCyclePend _ _).of_gang (State.windowDone_gang _ _)
    have h₂ : s₂.gangsOk := h₁.of_gang (State.setBit_gang _ _ _ _)
    split
    · exact (State.applyMap_gangsOk h₂ ‹_›).of_gang (State.setBit_gang _ _ _ _)
    · exact h₂.of_gang (State.setBit_gang _ _ _ _)

theorem execCoreFailed_keepsLegal (c : Fin 96) (s : State) : KeepsLegal s (execCoreFailed c s) :=
  keepsLegal_next fun h => State.gangsOk_ite ((State.markFailed_gangsOk (h.withCycle _) c).of_gang (State.windowDone_gang _ _)) h

theorem execCapture_keepsLegal (s : State) : KeepsLegal s (execCapture s) := by
  unfold execCapture
  refine .ite (keepsLegal_self s) ?_
  extract_lets s₁ s₂ s₃ s₄ s₅ s₆ s₇ caps s₈ t s₉ s₁₀ s₁₁
  refine keepsLegal_next fun h => ?_
  have h₁ : s₁.gangsOk := h.withCycle _
  have h₂ : s₂.gangsOk := h₁.of_gang (State.eachCore_gang _ _ _)
  have h₃ : s₃.gangsOk := h₂.of_gang (State.slips_gang _)
  have h₄ : s₄.gangsOk := State.gangsOk_ite (h₃.foldl _ _ fun _ _ ht => ht.of_gang (State.stopPart_gang _ _ _ _ _)) h₃
  have h₅ : s₅.gangsOk := h₄.foldl _ _ fun _ _ ht => ht.of_gang (State.modCore_gang _ _ _)
  have h₇ : s₇.gangsOk := (h₅.withFreeCtr _).of_gang (State.windows_gang _)
  have h₈ : s₈.gangsOk := h₇.withBarCap _
  have ht : t.gangsOk := h₈.of_gang ((State.setReg_gang _ _ _).trans (State.setBit_gang s₈ _ _ _))
  have h₉ : s₉.gangsOk := State.gangsOk_ite (ht.withLock _ _) h₈
  have h₁₀ : s₁₀.gangsOk := State.gangsOk_ite (h₉.of_gang (State.alert_gang _ _)) h₉
  have h₁₁ : s₁₁.gangsOk := h₁₀.withWinDue _
  exact State.gangsOk_ite (State.toS3_gangsOk h₁₁) (h₁₁.of_gang (State.powerState_gang _))

theorem execTick_keepsLegal (s : State) : KeepsLegal s (execTick s) := by
  unfold execTick
  refine .ite (keepsLegal_self s) ?_
  extract_lets f t s₁ s₂ s₃ s₄ s₅ s₆
  refine keepsLegal_next fun h => ?_
  have ht : t.gangsOk := h.of_gang (State.setReg64_gang _ _ _)
  have h₁ : s₁.gangsOk := ht.withFrame _ _ _ _ _
  have h₂ : s₂.gangsOk := h₁.foldl _ _ fun _ _ ht => ht.of_gang (State.modCore_gang _ _ _)
  have h₃ : s₃.gangsOk := State.tickResets_gangsOk h₂
  have h₄ : s₄.gangsOk := h₃.of_gang (State.eachCore_gang _ _ _)
  have h₅ : s₅.gangsOk := h₄.foldl _ _ fun _ _ ht => ht.of_gang (State.startBlock_gang _ _)
  have h₆ : s₆.gangsOk := h₅.foldl _ _ fun _ _ ht => ht.of_gang (State.portFrame_gang _ _)
  exact h₆.foldl _ _ fun _ _ ht => ht.of_gang (State.modPart_gang _ _ _)

/-- Every command keeps a legal gang map legal (R12). -/
theorem exec_keepsLegal (i : Instr) (s : State) : KeepsLegal s (exec i s) := by
  cases i with
  | nop _ _ | add _ _ | sub _ _ | mul _ _ | mulh _ _ | mulhu _ _ | div _ _ | divu _ _ | rem _ _ | remu _ _ | and _ _ | or _ _
  | xor _ _ | shl _ _ | shr _ _ | sra _ _ | slt _ _ | sltu _ _ | seq _ _ | min _ _ | max _ _ | addi _ _ | subi _ _ | muli _ _
  | mulhi _ _ | mulhui _ _ | divi _ _ | divui _ _ | remi _ _ | remui _ _ | andi _ _ | ori _ _ | xori _ _ | shli _ _ | shri _ _
  | srai _ _ | slti _ _ | sltui _ _ | seqi _ _ | mini _ _ | maxi _ _ | sel _ _ | li _ _ | lih _ _ | fadd _ _ | fsub _ _
  | fmul _ _ | ffma _ _ | fmin _ _ | fmax _ _ | fcmp _ _ | fcvt _ _ | scntrd _ _ | swr _ _ | vadd _ _ | vsub _ _ | vmul _ _
  | vfma _ _ | vfms _ _ | vmax _ _ | vmin _ _ | vabs _ _ | vneg _ _ | vcpsgn _ _ | vmov _ _ | vcmp _ _ | vsel _ _ | viadd _ _
  | visub _ _ | vimul _ _ | vimax _ _ | vimin _ _ | vand _ _ | vor _ _ | vxor _ _ | vandn _ _ | vnot _ _ | vshl _ _ | vshr _ _
  | vicmp _ _ | viota _ _ | pand _ _ | por _ _ | pxor _ _ | pandn _ _ | pnot _ _ | vcvt _ _ | vrsum _ _ | vrssq _ _ | vrmax _ _
  | vrmin _ _ | vrargmax _ _ | vbcast _ _ | vbcasts _ _ | vshift _ _ | vrot _ _ | vgather _ _ | vcput _ _ | vcget _ _
  | pack24 _ _ | vexp2 _ _ | vexp _ _ | vlog2 _ _ | vlog _ _ | vrcp _ _ | vrsqrt _ _ | vsqrt _ _ | vsin _ _ | vcos _ _
  | vtanh _ _ | vsig _ _ | verf _ _ | vsoftp _ _ | vdiv _ _ | vrstat _ _ | scfg _ _ | flgclr _ _ =>
    exact (State.issueCore_leavesGang _ _ _ _ _).keepsLegal
  | portEnable _ _ | portDisable _ _ | retrain _ _ | nodeid _ _ | rstsend _ _ | commit _ _ | splitall _ _ | timeCtrl _ _
  | slwin _ _ _ | injectArm _ _ _ | injarr _ _ | partCfg _ _ _ | partReset _ _ | dbgHaltWrite _ _ _ | sysrst _ | corerst _
  | psreqS0 _ | psreqS1 _ | psreqS2 _ | psreqS3 _ | scrubGo _ _ =>
    exact keepsLegal_next fun h => State.guarded_gangsOk h _ _ _
  | slotConfig _ _ _ _ | scntInc _ _ _ _ | inval _ _ | ringEnable _ _ _ _ | logen _ | logc _ _ =>
    exact keepsLegal_next fun h => State.regWrite_gangsOk h _ _ _
  | registerWrite _ _ _ _ =>
    exact keepsLegal_next fun h => State.writeReg_gangsOk h _ _ _ _
  | mbSetSus _ _ _ | mbSetPeak _ _ _ | mbSetReserve _ _ _ | mbRelease _ _ _ =>
    exact keepsLegal_next fun h => State.request_gangsOk h _ _ _ _
  | br x f => exact (execBr_leavesGang x f s).keepsLegal
  | jal x f => exact (execJal_leavesGang x f s).keepsLegal
  | jr x f => exact (execJr_leavesGang x f s).keepsLegal
  | frame x f => exact (execFrame_leavesGang x f s).keepsLegal
  | exit x f => exact (execExit_leavesGang x f s).keepsLegal
  | srd x f => exact (execSrd_leavesGang x f s).keepsLegal
  | illegalEncoding c cy w0 w1 w2 w3 => exact (execIllegalEncoding_leavesGang c cy w0 w1 w2 w3 s).keepsLegal
  | wload x f => exact (execWload_leavesGang x f s).keepsLegal
  | mma x f => exact (execMma_leavesGang x f s).keepsLegal
  | mdrain x f => exact (execMdrain_leavesGang x f s).keepsLegal
  | wloadExecute c a => exact (execWloadExecute_leavesGang c a s).keepsLegal
  | mmaExecute c a => exact (execMmaExecute_leavesGang c a s).keepsLegal
  | mdrainExecute c a ups => exact (execMdrainExecute_leavesGang c a ups s).keepsLegal
  | csumReplay c a fails => exact (execCsumReplay_leavesGang c a fails s).keepsLegal
  | pany x f => exact (execPany_leavesGang x f s).keepsLegal
  | pcount x f => exact (execPcount_leavesGang x f s).keepsLegal
  | vmovs x f => exact (execVmovs_leavesGang x f s).keepsLegal
  | vscan x f => exact (execVscan_leavesGang x f s).keepsLegal
  | vmscan x f => exact (execVmscan_leavesGang x f s).keepsLegal
  | vascan x f => exact (execVascan_leavesGang x f s).keepsLegal
  | vtbl x f => exact (execVtbl_leavesGang x f s).keepsLegal
  | ld x f => exact (execLd_leavesGang x f s).keepsLegal
  | st x f => exact (execSt_leavesGang x f s).keepsLegal
  | ldg x f => exact (execLdg_leavesGang x f s).keepsLegal
  | stg x f => exact (execStg_leavesGang x f s).keepsLegal
  | loadReturn c k => exact (execLoadReturn_leavesGang c k s).keepsLegal
  | ldesc x f => exact (execLdesc_leavesGang x f s).keepsLegal
  | ldescDecide c n => exact (execLdescDecide_leavesGang c n s).keepsLegal
  | lxfer x f => exact (execLxfer_leavesGang x f s).keepsLegal
  | lxferStart c => exact (execLxferStart_leavesGang c s).keepsLegal
  | lxferComplete c k => exact (execLxferComplete_leavesGang c k s).keepsLegal
  | tload x f => exact (execTload_leavesGang x f s).keepsLegal
  | tloadComplete c cy => exact (execTloadComplete_leavesGang c cy s).keepsLegal
  | ibload x f => exact (execIbload_leavesGang x f s).keepsLegal
  | ibLineArrival c => exact (execIbLineArrival_leavesGang c s).keepsLegal
  | fence x f => exact (execFence_leavesGang x f s).keepsLegal
  | signal x f => exact (execSignal_leavesGang x f s).keepsLegal
  | counterIncrement k => exact (execCounterIncrement_leavesGang k s).keepsLegal
  | barrive x f => exact (execBarrive_leavesGang x f s).keepsLegal
  | barrierArrival k => exact (execBarrierArrival_leavesGang k s).keepsLegal
  | flgset x f => exact (execFlgset_leavesGang x f s).keepsLegal
  | flagArrival k => exact (execFlagArrival_leavesGang k s).keepsLegal
  | flgwait x f => exact (execFlgwait_leavesGang x f s).keepsLegal
  | cwrite x f => exact (execCwrite_leavesGang x f s).keepsLegal
  | cread x f => exact (execCread_leavesGang x f s).keepsLegal
  | csig x f => exact (execCsig_leavesGang x f s).keepsLegal
  | bcmd x f => exact (execBcmd_leavesGang x f s).keepsLegal
  | jobClear n => exact (execJobClear_leavesGang n s).keepsLegal
  | jobSend n => exact (execJobSend_leavesGang n s).keepsLegal
  | jobScalars n => exact (execJobScalars_leavesGang n s).keepsLegal
  | jobOpen n => exact (execJobOpen_leavesGang n s).keepsLegal
  | jobAbort n => exact (execJobAbort_leavesGang n s).keepsLegal
  | blockUpdate n j b => exact (execBlockUpdate_leavesGang n j b s).keepsLegal
  | jobComplete n j => exact (execJobComplete_leavesGang n j s).keepsLegal
  | tick => exact execTick_keepsLegal s
  | capture => exact execCapture_keepsLegal s
  | blockOverrun c => exact (execBlockOverrun_leavesGang c s).keepsLegal
  | arrayRemap c => exact (execArrayRemap_leavesGang c s).keepsLegal
  | coreFailed c => exact execCoreFailed_keepsLegal c s
  | gangMapCommit k => exact execGangMapCommit_keepsLegal k s
  | partitionChange p => exact (execPartitionChange_leavesGang p s).keepsLegal
  | domainConfigChange p => exact (execDomainConfigChange_leavesGang p s).keepsLegal
  | barrierConfigChange b => exact (execBarrierConfigChange_leavesGang b s).keepsLegal
  | slwinChange k => exact (execSlwinChange_leavesGang k s).keepsLegal
  | waitEvaluation => exact (execWaitEvaluation_leavesGang s).keepsLegal
  | barrierRelease b => exact (execBarrierRelease_leavesGang b s).keepsLegal
  | deadlockDetector => exact (execDeadlockDetector_leavesGang s).keepsLegal
  | deadlock p => exact (execDeadlock_leavesGang p s).keepsLegal
  | governorDecision => exact (execGovernorDecision_leavesGang s).keepsLegal
  | tableSwap => exact (execTableSwap_leavesGang s).keepsLegal
  | watchEvaluation => exact (execWatchEvaluation_leavesGang s).keepsLegal
  | tickMessage txt => exact (execTickMessage_leavesGang txt s).keepsLegal
  | launchSampling => exact (execLaunchSampling_leavesGang s).keepsLegal
  | issueDecision => exact (execIssueDecision_leavesGang s).keepsLegal
  | tickLate p => exact (execTickLate_leavesGang p s).keepsLegal
  | coreIdle c => exact (execCoreIdle_leavesGang c s).keepsLegal
  | linkTick k rx => exact (execLinkTick_leavesGang k rx s).keepsLegal
  | timeLock => exact (execTimeLock_leavesGang s).keepsLegal
  | stepFrame f len => exact (execStepFrame_leavesGang f len s).keepsLegal
  | holdover => exact (execHoldover_leavesGang s).keepsLegal
  | tickRefEdge off => exact (execTickRefEdge_leavesGang off s).keepsLegal
  | refLost => exact (execRefLost_leavesGang s).keepsLegal
  | flitReceive p b bad corr => exact (execFlitReceive_leavesGang p b bad corr s).keepsLegal
  | flitTransmit p t => exact (execFlitTransmit_leavesGang p t s).keepsLegal
  | replayTimeout p => exact (execReplayTimeout_leavesGang p s).keepsLegal
  | retrainLimit p => exact (execRetrainLimit_leavesGang p s).keepsLegal
  | rxIdleTimeout p => exact (execRxIdleTimeout_leavesGang p s).keepsLegal
  | linkLoss p => exact (execLinkLoss_leavesGang p s).keepsLegal
  | creditStuck p => exact (execCreditStuck_leavesGang p s).keepsLegal
  | signalDetect p => exact (execSignalDetect_leavesGang p s).keepsLegal
  | trainTimeout p => exact (execTrainTimeout_leavesGang p s).keepsLegal
  | trainRetry p => exact (execTrainRetry_leavesGang p s).keepsLegal
  | hello p node port => exact (execHello_leavesGang p node port s).keepsLegal
  | ctrlReset k => exact (execCtrlReset_leavesGang k s).keepsLegal
  | transit k => exact (execTransit_leavesGang k s).keepsLegal
  | chWrite k => exact (execChWrite_leavesGang k s).keepsLegal
  | writePerformed k => exact (execWritePerformed_leavesGang k s).keepsLegal
  | writeRefused k => exact (execWriteRefused_leavesGang k s).keepsLegal
  | chRead k => exact (execChRead_leavesGang k s).keepsLegal
  | readData k => exact (execReadData_leavesGang k s).keepsLegal
  | readRefused k => exact (execReadRefused_leavesGang k s).keepsLegal
  | signalIncrement k => exact (execSignalIncrement_leavesGang k s).keepsLegal
  | signalRefused k => exact (execSignalRefused_leavesGang k s).keepsLegal
  | podBarrierArrival k => exact (execPodBarrierArrival_leavesGang k s).keepsLegal
  | podReleaseDecision n => exact (execPodReleaseDecision_leavesGang n s).keepsLegal
  | podBarrierRelease k => exact (execPodBarrierRelease_leavesGang k s).keepsLegal
  | podReleaseApply n => exact (execPodReleaseApply_leavesGang n s).keepsLegal
  | redContrib k => exact (execRedContrib_leavesGang k s).keepsLegal
  | redContribAccepted k => exact (execRedContribAccepted_leavesGang k s).keepsLegal
  | redContribRefused k => exact (execRedContribRefused_leavesGang k s).keepsLegal
  | paramBcast k => exact (execParamBcast_leavesGang k s).keepsLegal
  | domainNotice k => exact (execDomainNotice_leavesGang k s).keepsLegal
  | responseTimeout tag => exact (execResponseTimeout_leavesGang tag s).keepsLegal
  | cxlMemRead hpa te hold => exact (execCxlMemRead_leavesGang hpa te hold s).keepsLegal
  | cxlMemWrite hpa bytes poison te hold => exact execCxlMemWrite_keepsLegal hpa bytes poison te hold s
  | bisnpResponse dpa data => exact (execBisnpResponse_leavesGang dpa data s).keepsLegal
  | hostReadResponse h bytes poison => exact (execHostReadResponse_leavesGang h bytes poison s).keepsLegal
  | configRequest q => exact execConfigRequest_keepsLegal q s
  | hdmCommit base size skip => exact (execHdmCommit_leavesGang base size skip s).keepsLegal
  | clearingRead r off len => exact (execClearingRead_leavesGang r off len s).keepsLegal
  | latchedRead r off => exact (execLatchedRead_leavesGang r off s).keepsLegal
  | invalComplete p => exact (execInvalComplete_leavesGang p s).keepsLegal
  | hdata r => exact (execHdata_leavesGang r s).keepsLegal
  | s2EntryComplete => exact execS2EntryComplete_keepsLegal s
  | s2ExitComplete => exact execS2ExitComplete_keepsLegal s
  | hbmScrubDone => exact (execHbmScrubDone_leavesGang s).keepsLegal
  | hogsheadUpdate p vin iin => exact (execHogsheadUpdate_leavesGang p vin iin s).keepsLegal
  | wearCap => exact (execWearCap_leavesGang s).keepsLegal
  | wearWrite => exact (execWearWrite_leavesGang s).keepsLegal
  | thermalSample tj ts v => exact (execThermalSample_leavesGang tj ts v s).keepsLegal
  | psusEffStep => exact (execPsusEffStep_leavesGang s).keepsLegal
  | thermalTrip => exact (execThermalTrip_leavesGang s).keepsLegal
  | vinLow => exact (execVinLow_leavesGang s).keepsLegal
  | overvoltage => exact (execOvervoltage_leavesGang s).keepsLegal
  | overcurrent => exact (execOvercurrent_leavesGang s).keepsLegal
  | powerFailure => exact (execPowerFailure_leavesGang s).keepsLegal
  | softStart => exact (execSoftStart_leavesGang s).keepsLegal
  | bulkCharged => exact execBulkCharged_keepsLegal s
  | bootRom => exact (execBootRom_leavesGang s).keepsLegal
  | trimLoad crc n => exact execTrimLoad_keepsLegal crc n s
  | sfwPhase => exact (execSfwPhase_leavesGang s).keepsLegal
  | computeRails => exact (execComputeRails_leavesGang s).keepsLegal
  | hbmTraining => exact (execHbmTraining_leavesGang s).keepsLegal
  | firstTick => exact (execFirstTick_leavesGang s).keepsLegal
  | perstFall => exact execPerstFall_keepsLegal s
  | hotReset => exact execHotReset_keepsLegal s
  | watchdog => exact execWatchdog_keepsLegal s
  | pwrEnRise => exact (execPwrEnRise_leavesGang s).keepsLegal
  | pwrEnFall => exact execPwrEnFall_keepsLegal s
  | coreResetEntry => exact (execCoreResetEntry_leavesGang s).keepsLegal
  | computeScrubDone => exact (execComputeScrubDone_leavesGang s).keepsLegal
  | coreResetRelease => exact execCoreResetRelease_keepsLegal s
  | clusterScrubDone p k => exact execClusterScrubDone_keepsLegal p k s
  | hbmScrubRead n x => exact (execHbmScrubRead_leavesGang n x s).keepsLegal
  | localPatrolScrub c off f => exact (execLocalPatrolScrub_leavesGang c off f s).keepsLegal
  | softPpr n row e => exact (execSoftPpr_leavesGang n row e s).keepsLegal
  | errorRecord k f => exact (execErrorRecord_leavesGang k f s).keepsLegal
  | mctpDelivery ack => exact (execMctpDelivery_leavesGang ack s).keepsLegal
  | mctpRetry ack => exact (execMctpRetry_leavesGang ack s).keepsLegal
  | historyWrite => exact (execHistoryWrite_leavesGang s).keepsLegal
  | certIssue => exact (execCertIssue_leavesGang s).keepsLegal
  | certSigned => exact (execCertSigned_leavesGang s).keepsLegal
  | getCertificate doe => exact (execGetCertificate_leavesGang doe s).keepsLegal
  | spdmChallenge doe nonce => exact (execSpdmChallenge_leavesGang doe nonce s).keepsLegal
  | getMeasurements doe => exact (execGetMeasurements_leavesGang doe s).keepsLegal
  | keyExchange doe exch => exact (execKeyExchange_leavesGang doe exch s).keepsLegal
  | firmwareUpdate u => exact (execFirmwareUpdate_leavesGang u s).keepsLegal
  | activateFirmware x => exact execActivateFirmware_keepsLegal x s
  | ideKm id stream key => exact (execIdeKm_leavesGang id stream key s).keepsLegal
  | ideFailure stream => exact (execIdeFailure_leavesGang stream s).keepsLegal
  | tspLock p te => exact (execTspLock_leavesGang p te s).keepsLegal
  | tspUnlock p => exact (execTspUnlock_leavesGang p s).keepsLegal
  | entdaa a => exact (execEntdaa_leavesGang a s).keepsLegal
  | setdasa static a => exact (execSetdasa_leavesGang static a s).keepsLegal
  | ifHelp => exact (execIfHelp_leavesGang s).keepsLegal
  | ifVer => exact (execIfVer_leavesGang s).keepsLegal
  | ifLogin => exact (execIfLogin_leavesGang s).keepsLegal
  | ifUnlock sig => exact (execIfUnlock_leavesGang sig s).keepsLegal
  | unlockTimeout => exact (execUnlockTimeout_leavesGang s).keepsLegal
  | lockoutExpiry => exact (execLockoutExpiry_leavesGang s).keepsLegal
  | ifLock => exact (execIfLock_leavesGang s).keepsLegal
  | ifStatus => exact (execIfStatus_leavesGang s).keepsLegal
  | ifLog n => exact (execIfLog_leavesGang n s).keepsLegal
  | ifRd a n => exact (execIfRd_leavesGang a n s).keepsLegal
  | ifRdc a => exact (execIfRdc_leavesGang a s).keepsLegal
  | ifWr a v => exact execIfWr_keepsLegal a v s
  | ifWrg a v => exact execIfWrg_keepsLegal a v s
  | ifDump a n => exact (execIfDump_leavesGang a n s).keepsLegal
  | ifHalt c => exact (execIfHalt_leavesGang c s).keepsLegal
  | ifGo c => exact (execIfGo_leavesGang c s).keepsLegal
  | ifStep c n => exact (execIfStep_leavesGang c n s).keepsLegal
  | ifTraceOn c => exact (execIfTraceOn_leavesGang c s).keepsLegal
  | ifTraceOff => exact (execIfTraceOff_leavesGang s).keepsLegal
  | ifTraceShow n => exact (execIfTraceShow_leavesGang n s).keepsLegal
  | ifResetCore => exact execIfResetCore_keepsLegal s
  | ifResetSys => exact execIfResetSys_keepsLegal s
  | ifPs t => exact execIfPs_keepsLegal t s
  | trainConverged p => exact (execTrainConverged_leavesGang p s).keepsLegal
  | alignmentLock p fail polinv rev => exact (execAlignmentLock_leavesGang p fail polinv rev s).keepsLegal
  | cxlLinkTrained w r flit => exact (execCxlLinkTrained_leavesGang w r flit s).keepsLegal
  | cxlLinkDown => exact (execCxlLinkDown_leavesGang s).keepsLegal
  | perstRise => exact (execPerstRise_leavesGang s).keepsLegal
  | hostWriteCompletion c k => exact (execHostWriteCompletion_leavesGang c k s).keepsLegal
  | hostSnoop h => exact (execHostSnoop_leavesGang h s).keepsLegal
  | vinRestored => exact (execVinRestored_leavesGang s).keepsLegal
  | holdUpExpiry => exact execHoldUpExpiry_keepsLegal s
  | mailboxResult => exact (execMailboxResult_leavesGang s).keepsLegal
  | nvWritePulseEnd => exact execNvWritePulseEnd_keepsLegal s
  | ifendiRomRecovery => exact (execIfendiRomRecovery_leavesGang s).keepsLegal
  | malformedCommand long => exact (execMalformedCommand_leavesGang long s).keepsLegal
  | getVersion doe => exact (execGetVersion_leavesGang doe s).keepsLegal
  | getCapabilities doe => exact (execGetCapabilities_leavesGang doe s).keepsLegal
  | negotiateAlgorithms doe => exact (execNegotiateAlgorithms_leavesGang doe s).keepsLegal
  | getDigests doe => exact (execGetDigests_leavesGang doe s).keepsLegal
  | spdmFinish doe id mac => exact (execSpdmFinish_leavesGang doe id mac s).keepsLegal
  | endSession doe id => exact (execEndSession_leavesGang doe id s).keepsLegal

/-- Settles O59: the front command of the queue is executed, and it keeps a legal map (`exec_keepsLegal`). -/
theorem gangsStayLegal : Obligations.GangsStayLegal := by
  intro s t h ht
  unfold step at ht
  split at ht
  · cases ht
    exact h
  next c rest _ => exact exec_keepsLegal c { s with pending := rest } (h.of_gang rfl) t ht

end Sys2Proof.Machine
end

section
/-!
# Fields of registers, and what shared operations leave

SUPPORT. A field read after a write of the same field, of a disjoint field of the register, and of another register; what the error
summaries, the history, the records and the list of what the window has due leave unchanged.
-/
namespace Sys2Proof.Machine

/-! ## Fields of a register -/

theorem testBit_bitsOf (hi lo v i : Nat) : (bitsOf hi lo v).testBit i = (decide (i < hi + 1 - lo) && v.testBit (i + lo)) := by
  rw [bitsOf, Nat.testBit_mod_two_pow, Nat.testBit_div_two_pow]

theorem getLsbD_setBits (hi lo v : Nat) (w : Word32) (hhi : hi < 32) (i : Nat) :
    (setBits hi lo v w).getLsbD i = if lo ≤ i ∧ i ≤ hi then v.testBit (i - lo) else w.getLsbD i := by
  by_cases hi32 : i < 32
  · simp only [setBits, BitVec.getLsbD_or, BitVec.getLsbD_and, BitVec.getLsbD_not, BitVec.getLsbD_ofNat, Nat.testBit_mul_two_pow,
      Nat.testBit_two_pow_sub_one, Nat.testBit_mod_two_pow, hi32, decide_true, Bool.true_and]
    by_cases h1 : lo ≤ i <;> by_cases h2 : i ≤ hi
    · have : i - lo < hi + 1 - lo := by omega
      simp [h1, h2, this]
    · have : ¬i - lo < hi + 1 - lo := by omega
      simp [h2, this]
    · simp [h1]
    · simp [h1]
  · have : ¬i ≤ hi := by omega
    simp [this, BitVec.getLsbD_of_ge _ _ (Nat.le_of_not_lt hi32)]

theorem bitsOf_setBits_same (hi lo v : Nat) (w : Word32) (hhi : hi < 32) :
    bitsOf hi lo (setBits hi lo v w).toNat = v % 2 ^ (hi + 1 - lo) := by
  refine Nat.eq_of_testBit_eq fun i => ?_
  rw [testBit_bitsOf, Nat.testBit_mod_two_pow, BitVec.testBit_toNat, getLsbD_setBits _ _ _ _ hhi]
  by_cases h : i < hi + 1 - lo
  · have : i + lo ≤ hi := by omega
    simp [this]
  · simp [h]

/-- A field that shares no bit with the one written. -/
theorem bitsOf_setBits_disjoint (hi lo v h l : Nat) (w : Word32) (hhi : hi < 32) (hd : h < lo ∨ hi < l) :
    bitsOf h l (setBits hi lo v w).toNat = bitsOf h l w.toNat := by
  refine Nat.eq_of_testBit_eq fun i => ?_
  rw [testBit_bitsOf, testBit_bitsOf, BitVec.testBit_toNat, BitVec.testBit_toNat, getLsbD_setBits _ _ _ _ hhi]
  by_cases hi' : i < h + 1 - l
  · have : ¬(lo ≤ i + l ∧ i + l ≤ hi) := by omega
    rw [if_neg this]
  · simp [hi']

theorem bitsOf_lt (hi lo v : Nat) : bitsOf hi lo v < 2 ^ (hi + 1 - lo) := Nat.mod_lt _ (Nat.two_pow_pos _)

theorem State.setFld_fld_same (s : State) (o hi lo v : Nat) (hhi : hi < 32) : (s.setFld o hi lo v).fld o hi lo = v % 2 ^ (hi + 1 - lo) := by
  rw [State.fld, State.setFld, State.setReg_reg, if_pos rfl, bitsOf_setBits_same _ _ _ _ hhi]

theorem State.setFld_fld_disjoint (s : State) (o hi lo v h l : Nat) (hhi : hi < 32) (hd : h < lo ∨ hi < l) :
    (s.setFld o hi lo v).fld o h l = s.fld o h l := by
  rw [State.fld, State.setFld, State.setReg_reg, if_pos rfl, bitsOf_setBits_disjoint _ _ _ _ _ _ hhi hd, State.fld]

theorem State.setFld_reg_other (s : State) (o o' hi lo v : Nat) (h : o' ≠ o) : (s.setFld o hi lo v).reg o' = s.reg o' := by
  rw [State.setFld, State.setReg_reg, if_neg h]

theorem State.setFld_fld_other (s : State) (o o' hi lo v h l : Nat) (ho : o' ≠ o) : (s.setFld o hi lo v).fld o' h l = s.fld o' h l := by
  rw [State.fld, State.setFld_reg_other _ _ _ _ _ _ ho, State.fld]

theorem State.setBit_bit_same (s : State) (o b : Nat) (v : Bool) (hb : b < 32) : (s.setBit o b v).bit o b = v := by
  rw [State.bit, State.setBit, State.setFld_fld_same _ _ _ _ _ hb]
  cases v <;> simp

theorem State.setBit_fld_disjoint (s : State) (o b : Nat) (v : Bool) (h l : Nat) (hb : b < 32) (hd : h < b ∨ b < l) :
    (s.setBit o b v).fld o h l = s.fld o h l := State.setFld_fld_disjoint _ _ _ _ _ _ _ hb hd

theorem State.setBit_fld_other (s : State) (o o' b : Nat) (v : Bool) (h l : Nat) (ho : o' ≠ o) :
    (s.setBit o b v).fld o' h l = s.fld o' h l := State.setFld_fld_other _ _ _ _ _ _ _ _ ho

theorem Core.setFld_fld_same (k : Core) (o hi lo v : Nat) (hhi : hi < 32) : (k.setFld o hi lo v).fld o hi lo = v % 2 ^ (hi + 1 - lo) := by
  rw [Core.fld, Core.setFld, Core.setReg_reg, if_pos rfl, bitsOf_setBits_same _ _ _ _ hhi]

theorem Core.setFld_fld_disjoint (k : Core) (o hi lo v h l : Nat) (hhi : hi < 32) (hd : h < lo ∨ hi < l) :
    (k.setFld o hi lo v).fld o h l = k.fld o h l := by
  rw [Core.fld, Core.setFld, Core.setReg_reg, if_pos rfl, bitsOf_setBits_disjoint _ _ _ _ _ _ hhi hd, Core.fld]

theorem Core.setFld_fld_other (k : Core) (o o' hi lo v h l : Nat) (ho : o' ≠ o) : (k.setFld o hi lo v).fld o' h l = k.fld o' h l := by
  rw [Core.fld, Core.setFld, Core.setReg_reg, if_neg ho, Core.fld]

/-! ## What the summaries, the history and the records leave -/

@[simp] theorem State.setFld_core (s : State) (o hi lo v : Nat) (d : Fin 96) : (s.setFld o hi lo v).core d = s.core d := rfl
@[simp] theorem State.setBit_core (s : State) (o b : Nat) (v : Bool) (d : Fin 96) : (s.setBit o b v).core d = s.core d := rfl
@[simp] theorem State.histSet_core (s : State) (k v : Nat) (d : Fin 96) : (s.histSet k v).core d = s.core d := rfl
@[simp] theorem State.histSet_fld (s : State) (k v o h l : Nat) : (s.histSet k v).fld o h l = s.fld o h l := rfl
@[simp] theorem State.windowDone_core (s : State) (n : Nat) (d : Fin 96) : (s.windowDone n).core d = s.core d := rfl
@[simp] theorem State.windowDone_fld (s : State) (n o h l : Nat) : (s.windowDone n).fld o h l = s.fld o h l := rfl
@[simp] theorem State.windowDone_errPend (s : State) (n : Nat) : (s.windowDone n).errPend = s.errPend := rfl
@[simp] theorem State.modCore_fld (s : State) (c : Fin 96) (g : Core → Core) (o h l : Nat) :
    (s.modCore c g).fld o h l = s.fld o h l := rfl
@[simp] theorem State.setCore_fld (s : State) (c : Fin 96) (k : Core) (o h l : Nat) : (s.setCore c k).fld o h l = s.fld o h l := rfl

@[simp] theorem State.record_core (s : State) (cls unit op action addr subkind synd : Nat) (inj : Bool) (d : Fin 96) :
    (s.record cls unit op action addr subkind synd inj).core d = s.core d := rfl

@[simp] theorem State.record_fld (s : State) (cls unit op action addr subkind synd : Nat) (inj : Bool) (o h l : Nat) :
    (s.record cls unit op action addr subkind synd inj).fld o h l = s.fld o h l := rfl

@[simp] theorem State.record_errPend_length (s : State) (cls unit op action addr subkind synd : Nat) (inj : Bool) :
    (s.record cls unit op action addr subkind synd inj).errPend.length = s.errPend.length + 1 := List.length_append

@[simp] theorem State.errsum_errPend (s : State) (c : Fin 96) (b : Nat) : (s.errsum c b).errPend = s.errPend := rfl

theorem State.errsum_core (s : State) (c d : Fin 96) (b : Nat) :
    (s.errsum c b).core d = if d = c then (s.core c).setFld kUCB_core_ERRSUM b b 1 else s.core d :=
  s.modCore_core c d (fun k => k.setFld kUCB_core_ERRSUM b b 1)

theorem State.errsumArr_core (s : State) (c d : Fin 96) (ph b : Nat) :
    (s.errsumArr c ph b).core d =
      if d = c then ((s.core c).setFld (kUCB_arr_ERRSUM ph) b b 1).setFld kUCB_core_ERRSUM b b 1 else s.core d := by
  rw [State.errsumArr, State.errsum_core, State.modCore_core, State.modCore_core, if_pos rfl]
  split <;> rfl

/-- The register is none of the error summaries above a core. -/
def notErrsum (o : Nat) : Prop := o ≠ rUCB_mod_ERRSUM ∧ ∀ n, o ≠ rUCB_cl_ERRSUM n ∧ o ≠ rUCB_die_ERRSUM n

theorem State.errsum_fld (s : State) (c : Fin 96) (b o h l : Nat) (ho : notErrsum o) : (s.errsum c b).fld o h l = s.fld o h l := by
  obtain ⟨hmod, hn⟩ := ho
  rw [State.errsum, State.errsumMod, State.setBit_fld_other _ _ _ _ _ _ _ hmod, State.setBit_fld_other _ _ _ _ _ _ _ (hn _).2,
    State.setBit_fld_other _ _ _ _ _ _ _ (hn _).1, State.modCore_fld]

theorem State.errsumArr_fld (s : State) (c : Fin 96) (ph b o h l : Nat) (ho : notErrsum o) :
    (s.errsumArr c ph b).fld o h l = s.fld o h l := by
  rw [State.errsumArr, State.errsum_fld _ _ _ _ _ _ ho, State.modCore_fld]

theorem notErrsum_AVSUM : notErrsum rAVSUM := by
  simp only [notErrsum, rAVSUM, rUCB_mod_ERRSUM, rUCB_cl_ERRSUM, rUCB_die_ERRSUM]
  refine ⟨by omega, fun n => ⟨by omega, by omega⟩⟩

theorem notErrsum_AVAIL (n : Nat) (hn : n < 3) : notErrsum (rAVAIL n) := by
  simp only [notErrsum, rAVAIL, rUCB_mod_ERRSUM, rUCB_cl_ERRSUM, rUCB_die_ERRSUM]
  refine ⟨by omega, fun n => ⟨by omega, by omega⟩⟩

end Sys2Proof.Machine
end

section
/-!
# O32: array remap, failed cores and gang-map commits (R13, R23, R25)

Each command at its turn of the window (R14): what its operation does to the core, the summary registers and the records.
-/
namespace Sys2Proof.Machine

/-! ## The spare of a core's arrays (R23) -/

theorem Core.setFld_physOf_same (k : Core) (a v : Nat) (ha : a < 4) :
    (k.setFld kUCB_core_ARRMAP (4 * a + 2) (4 * a) v).physOf a = v % 8 := by
  rw [Core.physOf, Core.setFld_fld_same _ _ _ _ _ (by omega), show 4 * a + 2 + 1 - 4 * a = 3 by omega]
  rfl

theorem Core.setFld_physOf_disjoint (k : Core) (a hi lo v : Nat) (hhi : hi < 32) (hd : 4 * a + 2 < lo ∨ hi < 4 * a) :
    (k.setFld kUCB_core_ARRMAP hi lo v).physOf a = k.physOf a := Core.setFld_fld_disjoint _ _ _ _ _ _ _ hhi hd

/-- The logical arrays below n that the physical array ph serves are mapped to sp. -/
def Core.remapTo (k : Core) (ph sp n : Nat) : Core :=
  (List.range n).foldl (fun (k : Core) a => if k.physOf a = ph then k.setFld kUCB_core_ARRMAP (4 * a + 2) (4 * a) sp else k) k

theorem Core.remapTo_physOf (k : Core) (ph sp n a : Nat) (hn : n ≤ 4) (ha : a < 4) :
    (k.remapTo ph sp n).physOf a = if a < n ∧ k.physOf a = ph then sp % 8 else k.physOf a := by
  induction n generalizing a with
  | zero => simp [Core.remapTo]
  | succ n ih =>
    have hself : (k.remapTo ph sp n).physOf n = k.physOf n := by
      rw [ih n (by omega) (by omega), if_neg (fun h => absurd h.1 (lt_irrefl n))]
    rw [Core.remapTo, List.range_succ, List.foldl_append, List.foldl_cons, List.foldl_nil, ← Core.remapTo, hself]
    by_cases han : a = n
    · subst han
      by_cases hp : k.physOf a = ph
      · rw [if_pos hp, Core.setFld_physOf_same _ _ _ ha, if_pos ⟨Nat.lt_succ_self a, hp⟩]
      · rw [if_neg hp, if_neg (fun h => hp h.2), hself]
    · have hlt : a < n + 1 ↔ a < n := by omega
      simp only [hlt]
      rw [← ih a (by omega) ha]
      split
      · exact Core.setFld_physOf_disjoint _ _ _ _ _ (by omega) (by omega)
      · rfl

/-- The core whose array ph has retired: the spare serves the logical arrays of ph, and ARRMAP names no spare and lists ph. -/
def Core.remapped (k : Core) (ph : Nat) : Core :=
  ((((k.remapTo ph (k.fld kUCB_core_ARRMAP 18 16) 4).setFld kUCB_core_ARRMAP 18 16 7).setFld kUCB_core_ARRMAP (20 + ph) (20 + ph) 1).setFld
    kUCB_core_ARRMAP 28 28 0)

theorem Core.remapped_physOf (k : Core) (ph a : Nat) (hph : ph < 5) (ha : a < 4) :
    (k.remapped ph).physOf a = if k.physOf a = ph then k.fld kUCB_core_ARRMAP 18 16 else k.physOf a := by
  have hsp : k.fld kUCB_core_ARRMAP 18 16 < 8 := bitsOf_lt 18 16 _
  rw [Core.remapped, Core.setFld_physOf_disjoint _ _ _ _ _ (by omega) (by omega),
    Core.setFld_physOf_disjoint _ _ _ _ _ (by omega) (by omega),
    Core.setFld_physOf_disjoint _ _ _ _ _ (by omega) (by omega), Core.remapTo_physOf _ _ _ _ _ (le_refl 4) ha, Nat.mod_eq_of_lt hsp]
  simp only [ha, true_and]

theorem Core.remapped_spare (k : Core) (ph : Nat) (hph : ph < 5) : (k.remapped ph).fld kUCB_core_ARRMAP 18 16 = 7 := by
  rw [Core.remapped, Core.setFld_fld_disjoint _ _ _ _ _ _ _ (by omega) (by omega),
    Core.setFld_fld_disjoint _ _ _ _ _ _ _ (by omega) (by omega), Core.setFld_fld_same _ _ _ _ _ (by omega)]
  rfl

theorem Core.remapped_retired (k : Core) (ph : Nat) (hph : ph < 5) :
    (k.remapped ph).fld kUCB_core_ARRMAP (20 + ph) (20 + ph) = 1 := by
  rw [Core.remapped, Core.setFld_fld_disjoint _ _ _ _ _ _ _ (by omega) (by omega), Core.setFld_fld_same _ _ _ _ _ (by omega),
    show 20 + ph + 1 - (20 + ph) = 1 by omega]
  rfl

/-- The core whose remap has been noted in its error summaries. -/
def Core.remapNoted (k : Core) (ph : Nat) : Core :=
  ({ k.remapped ph with retire := none }.setFld (kUCB_arr_ERRSUM ph) eRETIRE eRETIRE 1).setFld kUCB_core_ERRSUM eRETIRE eRETIRE 1

/-- What a remap does after the core's own part: the count and the note of the spare where another array retires, and the record. -/
def State.remapRecord (s : State) (c : Fin 96) (ph sp : Nat) : State :=
  let s := if ph = sp then s else (s.setFld rAVSUM 6 0 (s.fld rAVSUM 6 0 + 1)).histSet (hkArray c.val sp) (8 + ph)
  let s := s.histSet (hkArray c.val ph) 2
  s.record 16 (s.unitArray c ph) 0 10 0 7 ((s.core c).reg kUCB_core_ARRMAP).toNat false

theorem State.remap_of_retire (s : State) (c : Fin 96) (ph fr : Nat) (h : (s.core c).retire = some (ph, fr)) :
    s.remap c = ((s.setCore c { (s.core c).remapped ph with retire := none }).errsumArr c ph eRETIRE).remapRecord c ph
      ((s.core c).fld kUCB_core_ARRMAP 18 16) := by
  unfold State.remap
  dsimp only
  rw [h]
  rfl

theorem State.remapRecord_core (s : State) (c d : Fin 96) (ph sp : Nat) : (s.remapRecord c ph sp).core d = s.core d := by
  unfold State.remapRecord
  dsimp only
  split <;> rfl

theorem State.remapRecord_errPend_length (s : State) (c : Fin 96) (ph sp : Nat) :
    (s.remapRecord c ph sp).errPend.length = s.errPend.length + 1 := by
  unfold State.remapRecord
  dsimp only
  split <;> simp

theorem State.remapRecord_count (s : State) (c : Fin 96) (ph sp : Nat) :
    (s.remapRecord c ph sp).fld rAVSUM 6 0 = (s.fld rAVSUM 6 0 + if sp = ph then 0 else 1) % 128 := by
  unfold State.remapRecord
  simp only [State.record_fld, State.histSet_fld]
  by_cases h : ph = sp
  · rw [if_pos h, if_pos h.symm, Nat.add_zero]
    exact (Nat.mod_eq_of_lt (bitsOf_lt 6 0 _)).symm
  · rw [if_neg h, if_neg (Ne.symm h), State.histSet_fld, State.setFld_fld_same _ _ _ _ _ (by omega)]
    rfl

theorem State.remap_core (s : State) (c d : Fin 96) (ph fr : Nat) (h : (s.core c).retire = some (ph, fr)) :
    (s.remap c).core d = if d = c then (s.core c).remapNoted ph else s.core d := by
  rw [s.remap_of_retire c ph fr h, State.remapRecord_core, State.errsumArr_core, State.setCore_core, State.setCore_core, if_pos rfl]
  split <;> rfl

theorem State.remap_count (s : State) (c : Fin 96) (ph fr : Nat) (h : (s.core c).retire = some (ph, fr)) :
    (s.remap c).fld rAVSUM 6 0 = (s.fld rAVSUM 6 0 + if (s.core c).fld kUCB_core_ARRMAP 18 16 = ph then 0 else 1) % 128 := by
  rw [s.remap_of_retire c ph fr h, State.remapRecord_count, State.errsumArr_fld _ _ _ _ _ _ _ notErrsum_AVSUM, State.setCore_fld]

theorem State.remap_errPend_length (s : State) (c : Fin 96) (ph fr : Nat) (h : (s.core c).retire = some (ph, fr)) :
    (s.remap c).errPend.length = s.errPend.length + 1 := by
  rw [s.remap_of_retire c ph fr h, State.remapRecord_errPend_length]
  rfl

theorem Core.withRetire_fld (k : Core) (r : Option (Nat × Nat)) (o h l : Nat) : { k with retire := r }.fld o h l = k.fld o h l := rfl

theorem Core.remapNoted_fld_ARRMAP (k : Core) (ph h l : Nat) :
    (k.remapNoted ph).fld kUCB_core_ARRMAP h l = (k.remapped ph).fld kUCB_core_ARRMAP h l := by
  have ha : kUCB_core_ARRMAP ≠ kUCB_arr_ERRSUM ph := by
    simp only [kUCB_core_ARRMAP, kUCB_arr_ERRSUM]
    omega
  rw [Core.remapNoted, Core.setFld_fld_other _ _ _ _ _ _ _ _ (by decide), Core.setFld_fld_other _ _ _ _ _ _ _ _ ha,
    Core.withRetire_fld]

theorem Core.remapNoted_physOf (k : Core) (ph a : Nat) : (k.remapNoted ph).physOf a = (k.remapped ph).physOf a :=
  k.remapNoted_fld_ARRMAP ph _ _

theorem Core.remapNoted_noted (k : Core) (ph : Nat) : (k.remapNoted ph).fld (kUCB_arr_ERRSUM ph) 8 8 = 1 := by
  have ha : kUCB_arr_ERRSUM ph ≠ kUCB_core_ERRSUM := by
    simp only [kUCB_core_ERRSUM, kUCB_arr_ERRSUM]
    omega
  rw [Core.remapNoted, Core.setFld_fld_other _ _ _ _ _ _ _ _ ha]
  exact Core.setFld_fld_same _ _ 8 8 1 (by omega)

/-- The remap of an array at a tick window (R23). -/
theorem execArrayRemap_remaps (s : State) (c : Fin 96) (ph fr : Nat) (hidle : (s.core c).st = .idle)
    (hret : (s.core c).retire = some (ph, fr)) (hph : ph < 5) :
    ∃ t, exec (.arrayRemap c) s = .next t ∧ (t.core c).retire = none
      ∧ (∀ a, a < 4 → (t.core c).physOf a =
          if (s.core c).physOf a = ph then (s.core c).fld (kUCB_core_ARRMAP) 18 16 else (s.core c).physOf a)
      ∧ (t.core c).fld (kUCB_core_ARRMAP) 18 16 = 7 ∧ (t.core c).fld (kUCB_core_ARRMAP) (20 + ph) (20 + ph) = 1
      ∧ (t.core c).fld (kUCB_arr_ERRSUM ph) 8 8 = 1
      ∧ t.fld (rAVSUM) 6 0 = (s.fld (rAVSUM) 6 0 + (if (s.core c).fld (kUCB_core_ARRMAP) 18 16 = ph then 0 else 1)) % 128
      ∧ t.errPend.length = s.errPend.length + 1 ∧ t.gang = s.gang ∧ ∀ d, d ≠ c → t.core d = s.core d := by
  have hret' : ({ s with cycle := s.winCy 1281 }.core c).retire = some (ph, fr) := hret
  have hcore (d : Fin 96) := State.remap_core { s with cycle := s.winCy 1281 } c d ph fr hret'
  have hc : ({ s with cycle := s.winCy 1281 }.remap c).core c = (s.core c).remapNoted ph := (hcore c).trans (if_pos rfl)
  refine ⟨({ s with cycle := s.winCy 1281 }.remap c).windowDone c.val, ?_, ?_⟩
  · show execArrayRemap c s = _
    rw [execArrayRemap, if_pos hidle]
  · rw [State.windowDone_core, hc]
    refine ⟨rfl, fun a ha => ?_, ?_, ?_, Core.remapNoted_noted _ _, ?_, ?_, ?_, fun d hd => ?_⟩
    · rw [Core.remapNoted_physOf, Core.remapped_physOf _ _ _ hph ha]
    · rw [Core.remapNoted_fld_ARRMAP, Core.remapped_spare _ _ hph]
    · rw [Core.remapNoted_fld_ARRMAP, Core.remapped_retired _ _ hph]
    · rw [State.windowDone_fld]
      exact State.remap_count _ c ph fr hret'
    · rw [State.windowDone_errPend]
      exact State.remap_errPend_length _ c ph fr hret'
    · rw [State.windowDone_gang, State.remap_gang]
    · rw [State.windowDone_core]
      exact (hcore d).trans (if_neg hd)

/-! ## A failed core (R13, log entry 71) -/

@[simp] theorem State.alert_core (s : State) (on : Bool) (d : Fin 96) : (s.alert on).core d = s.core d := rfl

@[simp] theorem State.alert_errPend (s : State) (on : Bool) : (s.alert on).errPend = s.errPend := rfl

theorem State.alert_fld (s : State) (on : Bool) (o h l : Nat) (ho : o ≠ rERR_STATUS) : (s.alert on).fld o h l = s.fld o h l :=
  State.setBit_fld_other s _ _ _ _ _ _ ho

/-- A new gang map leaves the cores, the registers and the records. -/
theorem State.withGang_core (s : State) (g : Vector (Fin 96) 96) (d : Fin 96) : { s with gang := g }.core d = s.core d := by
  simp only [State.core]

theorem State.withGang_fld (s : State) (g : Vector (Fin 96) 96) (o h l : Nat) : { s with gang := g }.fld o h l = s.fld o h l := by
  simp only [State.fld, State.reg]

@[simp] theorem State.leaveGang_core (s : State) (c d : Fin 96) : (s.leaveGang c).core d = s.core d := s.withGang_core _ d

@[simp] theorem State.leaveGang_fld (s : State) (c : Fin 96) (o h l : Nat) : (s.leaveGang c).fld o h l = s.fld o h l :=
  s.withGang_fld _ o h l

theorem State.leaveGang_leader (s : State) (c d : Fin 96) : (s.leaveGang c).gang[d] = if d = c ∨ s.gang[d] = c then d else s.gang[d] := by
  simp [State.leaveGang]

/-- A core on its spare no longer counts among the spares in use. -/
def State.dropSpare (s : State) (c : Fin 96) : State :=
  if (s.core c).onSpare then s.setFld rAVSUM 6 0 (s.fld rAVSUM 6 0 - 1) else s

/-- The core has failed: it has left its gang and is no longer available. -/
def State.failCore (s : State) (c : Fin 96) : State :=
  let s := (s.leaveGang c).modCore c (fun k => { k with st := .failed, failPend := false })
  (s.setBit (rAVAIL (c.val / 32)) (c.val % 32) false).errsum c eRETIRE

/-- The failed core counts among the cores failed, and the count is marked changed. -/
def State.countFailed (s : State) : State := (s.setFld rAVSUM 14 8 (s.fld rAVSUM 14 8 + 1)).setBit rAVSUM 16 true

/-- The alert, the note in the history and the record of a failed core. -/
def State.reportFailed (s : State) (c : Fin 96) : State :=
  let s := (s.alert true).histSet (hkCore c.val) 1
  s.record 16 (s.unitCore c) 0 10 0 7 (s.reg rAVSUM).toNat false

theorem State.markFailed_eq (s : State) (c : Fin 96) : s.markFailed c = (((s.dropSpare c).failCore c).countFailed).reportFailed c := rfl

theorem State.dropSpare_core (s : State) (c d : Fin 96) : (s.dropSpare c).core d = s.core d := by
  unfold State.dropSpare
  split <;> rfl

theorem State.dropSpare_errPend (s : State) (c : Fin 96) : (s.dropSpare c).errPend = s.errPend := by
  unfold State.dropSpare
  split <;> rfl

theorem State.dropSpare_gang (s : State) (c : Fin 96) : (s.dropSpare c).gang = s.gang := by
  unfold State.dropSpare
  split <;> rfl

theorem State.dropSpare_failed (s : State) (c : Fin 96) : (s.dropSpare c).fld rAVSUM 14 8 = s.fld rAVSUM 14 8 := by
  unfold State.dropSpare
  split
  · exact State.setFld_fld_disjoint _ _ _ _ _ _ _ (by omega) (by omega)
  · rfl

theorem State.failCore_core (s : State) (c d : Fin 96) :
    (s.failCore c).core d =
      if d = c then { s.core c with st := .failed, failPend := false }.setFld kUCB_core_ERRSUM eRETIRE eRETIRE 1 else s.core d := by
  rw [State.failCore, State.errsum_core, State.setBit_core, State.setBit_core, State.modCore_core, State.modCore_core, if_pos rfl,
    State.leaveGang_core, State.leaveGang_core]
  by_cases h : d = c
  · rw [if_pos h, if_pos h]
  · rw [if_neg h, if_neg h, if_neg h]

theorem State.failCore_gang (s : State) (c : Fin 96) : (s.failCore c).gang = (s.leaveGang c).gang := by simp [State.failCore]

theorem State.failCore_errPend (s : State) (c : Fin 96) : (s.failCore c).errPend = s.errPend := by
  simp [State.failCore, State.leaveGang]

theorem State.failCore_failed (s : State) (c : Fin 96) : (s.failCore c).fld rAVSUM 14 8 = s.fld rAVSUM 14 8 := by
  have ha : rAVSUM ≠ rAVAIL (c.val / 32) := by
    simp only [rAVSUM, rAVAIL]
    omega
  rw [State.failCore, State.errsum_fld _ _ _ _ _ _ notErrsum_AVSUM, State.setBit_fld_other _ _ _ _ _ _ _ ha, State.modCore_fld,
    State.leaveGang_fld]

theorem State.failCore_unavailable (s : State) (c : Fin 96) : (s.failCore c).bit (rAVAIL (c.val / 32)) (c.val % 32) = false := by
  rw [State.bit, State.failCore, State.errsum_fld _ _ _ _ _ _ (notErrsum_AVAIL _ (by omega))]
  exact State.setBit_bit_same _ _ _ false (by omega)

theorem State.countFailed_failed (s : State) : s.countFailed.fld rAVSUM 14 8 = (s.fld rAVSUM 14 8 + 1) % 128 := by
  rw [State.countFailed, State.setBit_fld_disjoint _ _ _ _ _ _ (by omega) (by omega), State.setFld_fld_same _ _ _ _ _ (by omega)]
  rfl

theorem State.countFailed_changed (s : State) : s.countFailed.bit rAVSUM 16 = true := State.setBit_bit_same _ _ _ _ (by omega)

theorem State.countFailed_fld (s : State) (o h l : Nat) (ho : o ≠ rAVSUM) : s.countFailed.fld o h l = s.fld o h l := by
  rw [State.countFailed, State.setBit_fld_other _ _ _ _ _ _ _ ho, State.setFld_fld_other _ _ _ _ _ _ _ _ ho]

theorem State.countFailed_core (s : State) (d : Fin 96) : s.countFailed.core d = s.core d := by simp [State.countFailed]

theorem State.countFailed_gang (s : State) : s.countFailed.gang = s.gang := by simp [State.countFailed]

theorem State.countFailed_errPend (s : State) : s.countFailed.errPend = s.errPend := by simp [State.countFailed]

theorem State.reportFailed_core (s : State) (c d : Fin 96) : (s.reportFailed c).core d = s.core d := by simp [State.reportFailed]

theorem State.reportFailed_gang (s : State) (c : Fin 96) : (s.reportFailed c).gang = s.gang := by simp [State.reportFailed]

theorem State.reportFailed_fld (s : State) (c : Fin 96) (o h l : Nat) (ho : o ≠ rERR_STATUS) :
    (s.reportFailed c).fld o h l = s.fld o h l := by
  rw [State.reportFailed, State.record_fld, State.histSet_fld, State.alert_fld _ _ _ _ _ ho]

theorem State.reportFailed_errPend_length (s : State) (c : Fin 96) : (s.reportFailed c).errPend.length = s.errPend.length + 1 := by
  rw [State.reportFailed, State.record_errPend_length]
  rfl

theorem State.markFailed_core (s : State) (c d : Fin 96) :
    (s.markFailed c).core d =
      if d = c then { s.core c with st := .failed, failPend := false }.setFld kUCB_core_ERRSUM eRETIRE eRETIRE 1 else s.core d := by
  rw [State.markFailed_eq, State.reportFailed_core, State.countFailed_core, State.failCore_core, State.dropSpare_core, State.dropSpare_core]

theorem State.markFailed_leader (s : State) (c d : Fin 96) :
    (s.markFailed c).gang[d] = if d = c ∨ s.gang[d] = c then d else s.gang[d] := by
  simp only [State.markFailed_eq, State.reportFailed_gang, State.countFailed_gang, State.failCore_gang, State.leaveGang_leader,
    State.dropSpare_gang]

theorem State.markFailed_unavailable (s : State) (c : Fin 96) : (s.markFailed c).bit (rAVAIL (c.val / 32)) (c.val % 32) = false := by
  have hs : rAVAIL (c.val / 32) ≠ rAVSUM := by
    simp only [rAVSUM, rAVAIL]
    omega
  have he : rAVAIL (c.val / 32) ≠ rERR_STATUS := by
    simp only [rERR_STATUS, rAVAIL]
    omega
  rw [State.markFailed_eq, State.bit, State.reportFailed_fld _ _ _ _ _ he, State.countFailed_fld _ _ _ _ hs]
  exact State.failCore_unavailable _ c

theorem State.markFailed_changed (s : State) (c : Fin 96) : (s.markFailed c).bit rAVSUM 16 = true := by
  rw [State.markFailed_eq, State.bit, State.reportFailed_fld _ _ _ _ _ (by decide)]
  exact State.countFailed_changed _

theorem State.markFailed_failed (s : State) (c : Fin 96) : (s.markFailed c).fld rAVSUM 14 8 = (s.fld rAVSUM 14 8 + 1) % 128 := by
  rw [State.markFailed_eq, State.reportFailed_fld _ _ _ _ _ (by decide), State.countFailed_failed, State.failCore_failed,
    State.dropSpare_failed]

theorem State.markFailed_errPend_length (s : State) (c : Fin 96) : (s.markFailed c).errPend.length = s.errPend.length + 1 := by
  rw [State.markFailed_eq, State.reportFailed_errPend_length, State.countFailed_errPend, State.failCore_errPend, State.dropSpare_errPend]

theorem State.windowDone_bit (s : State) (n o b : Nat) : (s.windowDone n).bit o b = s.bit o b := by
  rw [State.bit, State.windowDone_fld, State.bit]

theorem State.withCycle_core (s : State) (n : Nat) (d : Fin 96) : { s with cycle := n }.core d = s.core d := rfl

theorem State.withCycle_fld (s : State) (n o h l : Nat) : { s with cycle := n }.fld o h l = s.fld o h l := rfl

theorem State.windowAt_of_due (s : State) (n : Nat) (h : ∀ d, d ∈ s.winDue → n ≤ d) : s.windowAt n = true := by
  simpa [State.windowAt] using h

/-- A core marked failed, at a tick window that has no array to remap (R13, R14). -/
theorem execCoreFailed_fails (s : State) (c : Fin 96) (hidle : (s.core c).st = .idle) (hfail : (s.core c).failPend = true)
    (hdue : ∀ d, d ∈ s.winDue → 100 ≤ d) :
    ∃ t, exec (.coreFailed c) s = .next t ∧ (t.core c).st = .failed ∧ t.bit (rAVAIL (c.val / 32)) (c.val % 32) = false
      ∧ t.bit (rAVSUM) 16 = true ∧ t.fld (rAVSUM) 14 8 = (s.fld (rAVSUM) 14 8 + 1) % 128
      ∧ (∀ d : Fin 96, t.gang[d] = if d = c ∨ s.gang[d] = c then d else s.gang[d])
      ∧ t.errPend.length = s.errPend.length + 1 ∧ ∀ d, d ≠ c → t.core d = s.core d := by
  have hexec : exec (.coreFailed c) s = .next (({ s with cycle := s.winCy 1281 }.markFailed c).windowDone (100 + c.val)) := by
    show execCoreFailed c s = _
    rw [execCoreFailed, if_pos ⟨hidle, hfail, s.windowAt_of_due 100 hdue⟩]
  refine ⟨_, hexec, ?_⟩
  refine ⟨?_, ?_, ?_, ?_, fun d => ?_, ?_, fun d hd => ?_⟩
  · rw [State.windowDone_core, State.markFailed_core, if_pos rfl, Core.setFld_st]
  · rw [State.windowDone_bit, State.markFailed_unavailable]
  · rw [State.windowDone_bit, State.markFailed_changed]
  · rw [State.windowDone_fld, State.markFailed_failed, State.withCycle_fld]
  · rw [State.windowDone_gang, State.markFailed_leader]
  · rw [State.windowDone_errPend, State.markFailed_errPend_length]
  · rw [State.windowDone_core, State.markFailed_core, if_neg hd, State.withCycle_core]

/-! ## The commit of a gang map (R25) -/

theorem State.applyMap_leader (s : State) (k : Nat) (split : Bool) (c : Fin 96) :
    (s.applyMap k split).gang[c] = if c.val / 12 = k then coreOf (12 * k + s.stagedLeader k split (c.val % 12)) else s.gang[c] := by
  simp [State.applyMap]

theorem State.applyMap_fld (s : State) (k : Nat) (split : Bool) (o h l : Nat) : (s.applyMap k split).fld o h l = s.fld o h l :=
  s.withGang_fld _ o h l

theorem State.applyMap_cores (s : State) (k : Nat) (split : Bool) : (s.applyMap k split).cores = s.cores := by simp only [State.applyMap]

theorem State.applyMap_gangPend (s : State) (k : Nat) (split : Bool) : (s.applyMap k split).gangPend = s.gangPend := by
  simp only [State.applyMap]

theorem State.stagedLeader_congr (s t : State) (k : Nat) (split : Bool)
    (h : ∀ hi lo, t.fld (rGANGMAP0 k) hi lo = s.fld (rGANGMAP0 k) hi lo)
    (h' : ∀ hi lo, t.fld (rGANGMAP1 k) hi lo = s.fld (rGANGMAP1 k) hi lo) : t.stagedLeader k split = s.stagedLeader k split := by
  funext j
  simp only [State.stagedLeader, h, h']

/-- The conditions of a staged map rest on the map staged, the map in force and the cores. -/
theorem State.mapOk_congr (s t : State) (k : Nat) (split : Bool) (hl : t.stagedLeader k split = s.stagedLeader k split)
    (hg : t.gang = s.gang) (hc : ∀ d, t.core d = s.core d) : t.mapOk k split = s.mapOk k split := by
  simp only [State.mapOk, hl, hg, hc]

/-- The state in which a commit is decided: it is no longer pending. -/
def State.commitTaken (s : State) (k : Fin 8) : State :=
  let s := { s with cycle := s.winCy 1281, gangPend := mapErase s.gangPend k.val }.windowDone (200 + k.val)
  s.setBit (rUCB_cl_GANGSTAT k.val) 24 false

theorem State.commitTaken_stagedLeader (s : State) (k : Fin 8) (split : Bool) :
    (s.commitTaken k).stagedLeader k.val split = s.stagedLeader k.val split := by
  refine State.stagedLeader_congr _ _ _ _ (fun hi lo => ?_) (fun hi lo => ?_)
  · refine State.setBit_fld_other _ _ _ _ _ _ _ ?_
    simp only [rGANGMAP0, rUCB_cl_GANGSTAT]
    omega
  · refine State.setBit_fld_other _ _ _ _ _ _ _ ?_
    simp only [rGANGMAP1, rUCB_cl_GANGSTAT]
    omega

theorem State.commitTaken_gang (s : State) (k : Fin 8) : (s.commitTaken k).gang = s.gang := by simp [State.commitTaken]

theorem State.commitTaken_core (s : State) (k : Fin 8) (d : Fin 96) : (s.commitTaken k).core d = s.core d := by
  rw [State.commitTaken, State.setBit_core, State.windowDone_core]
  rfl

theorem State.commitTaken_cores (s : State) (k : Fin 8) : (s.commitTaken k).cores = s.cores := by
  rw [State.commitTaken, State.setBit_cores]
  rfl

theorem State.commitTaken_mapOk (s : State) (k : Fin 8) (split : Bool) : (s.commitTaken k).mapOk k.val split = s.mapOk k.val split :=
  State.mapOk_congr _ _ _ _ (s.commitTaken_stagedLeader k split) (s.commitTaken_gang k) (s.commitTaken_core k)

theorem State.commitTaken_gangPend (s : State) (k : Fin 8) : mapFind (s.commitTaken k).gangPend k.val = none := by
  show mapFind (mapErase s.gangPend k.val) k.val = none
  rw [mapFind_mapErase, if_pos rfl]

theorem State.commitTaken_pending (s : State) (k : Fin 8) : (s.commitTaken k).bit (rUCB_cl_GANGSTAT k.val) 24 = false :=
  State.setBit_bit_same _ _ _ _ (by omega)

/-- The commit of a gang map, at a tick window that has no array and no failed core due (R25, R14). -/
theorem execGangMapCommit_decides (s : State) (k : Fin 8) (split : Bool) (hpend : mapFind s.gangPend k.val = some split)
    (hdue : ∀ d, d ∈ s.winDue → 200 ≤ d) :
    ∃ t, exec (.gangMapCommit k) s = .next t ∧ mapFind t.gangPend k.val = none ∧ t.bit (rUCB_cl_GANGSTAT k.val) 24 = false
      ∧ t.bit (rUCB_cl_GANGSTAT k.val) 25 = !(s.mapOk k.val split) ∧ t.cores = s.cores
      ∧ ∀ c : Fin 96, t.gang[c] = if s.mapOk k.val split = true ∧ c.val / 12 = k.val
          then coreOf (12 * k.val + s.stagedLeader k.val split (c.val % 12)) else s.gang[c] := by
  have hexec : exec (.gangMapCommit k) s = .next (if s.mapOk k.val split then
      ((s.commitTaken k).applyMap k.val split).setBit (rUCB_cl_GANGSTAT k.val) 25 false
      else (s.commitTaken k).setBit (rUCB_cl_GANGSTAT k.val) 25 true) := by
    rw [← s.commitTaken_mapOk k split]
    show execGangMapCommit k s = _
    rw [execGangMapCommit, hpend]
    dsimp only
    rw [if_neg (by simp [s.windowAt_of_due 200 hdue])]
    rfl
  refine ⟨_, hexec, ?_⟩
  have h24 (t : State) (v : Bool) :
      (t.setBit (rUCB_cl_GANGSTAT k.val) 25 v).bit (rUCB_cl_GANGSTAT k.val) 24 = t.bit (rUCB_cl_GANGSTAT k.val) 24 := by
    rw [State.bit, State.setBit_fld_disjoint _ _ _ _ _ _ (by omega) (by omega), State.bit]
  by_cases hok : s.mapOk k.val split = true
  · rw [if_pos hok]
    refine ⟨?_, ?_, ?_, ?_, fun c => ?_⟩
    · rw [State.setBit_gangPend, State.applyMap_gangPend, s.commitTaken_gangPend k]
    · rw [h24, State.bit, State.applyMap_fld, ← State.bit, s.commitTaken_pending k]
    · rw [State.setBit_bit_same _ _ _ _ (by omega), hok, Bool.not_true]
    · rw [State.setBit_cores, State.applyMap_cores, s.commitTaken_cores k]
    · simp only [State.setBit_gang, State.applyMap_leader, s.commitTaken_stagedLeader k split, hok, true_and, s.commitTaken_gang k]
  · rw [if_neg hok]
    refine ⟨?_, ?_, ?_, ?_, fun c => ?_⟩
    · rw [State.setBit_gangPend, s.commitTaken_gangPend k]
    · rw [h24, s.commitTaken_pending k]
    · rw [State.setBit_bit_same _ _ _ _ (by omega), Bool.eq_false_iff.2 hok, Bool.not_false]
    · rw [State.setBit_cores, s.commitTaken_cores k]
    · simp only [State.setBit_gang, s.commitTaken_gang k, hok, false_and, if_false, Bool.false_eq_true]

/-- Settles O32: a remap, a failed core and the commit of a gang map, each by what its command does at its turn of the window. -/
theorem unitsAndGangs : Obligations.UnitsAndGangs :=
  ⟨execArrayRemap_remaps, execCoreFailed_fails, execGangMapCommit_decides⟩

end Sys2Proof.Machine
end
section
/-!
# Cores, partitions and ports after operations in turn

SUPPORT. What is read of a core, a partition or a port after an operation on each core of a list, on each gang of a list, or on each
partition. A gang's turn is seen from the state that the gangs before it left, in which its own cores are as they were.
-/
namespace Sys2Proof.Machine

theorem State.eachCore_withCores (s : State) (l : List (Fin 96)) (hl : l.Nodup) (g : Core → Core) :
    s.eachCore l g = s.withCores (fun d => if d ∈ l then g (s.core d) else s.core d) := State.foldl_modCore (fun _ => g) l hl s

@[simp] theorem State.withCores_regs (s : State) (h : Fin 96 → Core) : (s.withCores h).regs = s.regs := by simp only [State.withCores]
@[simp] theorem State.withCores_gang (s : State) (h : Fin 96 → Core) : (s.withCores h).gang = s.gang := by simp only [State.withCores]
@[simp] theorem State.withCores_parts (s : State) (h : Fin 96 → Core) : (s.withCores h).parts = s.parts := by simp only [State.withCores]
@[simp] theorem State.withCores_rounds (s : State) (h : Fin 96 → Core) : (s.withCores h).rounds = s.rounds := by simp only [State.withCores]
@[simp] theorem State.withCores_barNow (s : State) (h : Fin 96 → Core) (b : Nat) : (s.withCores h).barNow b = s.barNow b := by
  simp only [State.barNow, State.withCores]
@[simp] theorem State.withCores_reg (s : State) (h : Fin 96 → Core) (o : Nat) : (s.withCores h).reg o = s.reg o := by
  simp only [State.reg, State.withCores_regs]
@[simp] theorem State.withCores_part (s : State) (h : Fin 96 → Core) (p : Nat) : (s.withCores h).part p = s.part p := by
  simp only [State.part, State.withCores_parts]

theorem allCores_nodup : allCores.Nodup := List.nodup_finRange 96

@[simp] theorem mem_allCores (c : Fin 96) : c ∈ allCores := List.mem_finRange c

theorem State.foldl_modCore_all (s : State) (g : Fin 96 → Core → Core) :
    allCores.foldl (fun s c => s.modCore c (g c)) s = s.withCores (fun d => g d (s.core d)) := by
  simp only [State.foldl_modCore g allCores allCores_nodup, mem_allCores, if_true]

theorem State.eachCore_all (s : State) (g : Core → Core) : s.eachCore allCores g = s.withCores (fun d => g (s.core d)) :=
  s.foldl_modCore_all fun _ => g

theorem State.leaders_nodup (s : State) : s.leaders.Nodup := allCores_nodup.filter _

theorem State.mem_leaders (s : State) (c : Fin 96) : c ∈ s.leaders ↔ s.gang[c] = c := by simp [State.leaders]

theorem State.mem_coresOf (s : State) (p : Nat) (c : Fin 96) : c ∈ s.coresOf p ↔ s.inPart p c = true := by simp [State.coresOf]

theorem State.coresOf_nodup (s : State) (p : Nat) : (s.coresOf p).Nodup := allCores_nodup.filter _

theorem State.members_of_gang {s t : State} (h : t.gang = s.gang) (c : Fin 96) : t.members c = s.members c := by
  rw [State.members, State.members, h]

theorem State.leader_mem_members (s : State) (c : Fin 96) : c ∈ s.members c := (s.mem_members c c).2 rfl

theorem State.mem_members_of_leader {s : State} {c : Fin 96} (h : s.gang[c] = c) (m : Fin 96) : m ∈ s.members c ↔ s.gang[m] = c := by
  rw [State.mem_members, h]

/-- No core is a member of the gangs of two leaders. -/
theorem State.leader_unique {s : State} {c d m : Fin 96} (hc : s.gang[c] = c) (hd : s.gang[d] = d) (hm : m ∈ s.members c)
    (hm' : m ∈ s.members d) : d = c :=
  ((s.mem_members_of_leader hd m).1 hm').symm.trans ((s.mem_members_of_leader hc m).1 hm)

/-! ## Folds -/

theorem foldl_keeps {α : Type} {P : State → Prop} {g : State → α → State} {l : List α} (hg : ∀ t a, a ∈ l → P t → P (g t a)) {s : State}
    (h : P s) : P (l.foldl g s) := by
  induction l generalizing s with
  | nil => exact h
  | cons a l ih => exact ih (fun t b hb => hg t b (List.mem_cons_of_mem _ hb)) (hg s a List.mem_cons_self h)

/-- A fold reaches P where the operation of one element does, from any state that the elements before it can leave, and each keeps P. -/
theorem foldl_reaches {α : Type} {P R : State → Prop} {g : State → α → State} {l : List α} {a : α} (ha : a ∈ l)
    (hR : ∀ t b, b ∈ l → R t → R (g t b)) (hP : ∀ t b, b ∈ l → P t → P (g t b)) (hgo : ∀ t, R t → P (g t a)) {s : State} (h : R s) :
    P (l.foldl g s) := by
  obtain ⟨l₁, l₂, rfl⟩ := List.append_of_mem ha
  rw [List.foldl_append, List.foldl_cons]
  refine foldl_keeps (fun t b hb => hP t b (by simp [hb])) (hgo _ (foldl_keeps (fun t b hb => hR t b (by simp [hb])) h))

/-- The turn of one element in a fold: the state `t` that it finds shows `v` as it was, and the end shows what the element makes of it. -/
theorem foldl_at {α β : Type} {g : State → α → State} {l : List α} (hl : l.Nodup) {R : State → Prop} (hR : ∀ t b, b ∈ l → R t → R (g t b))
    (v : State → β) {a : α} (ha : a ∈ l) (hv : ∀ t b, b ∈ l → b ≠ a → R t → v (g t b) = v t) {s : State} (h : R s) :
    ∃ t, R t ∧ v t = v s ∧ v (l.foldl g s) = v (g t a) := by
  obtain ⟨l₁, l₂, rfl⟩ := List.append_of_mem ha
  rw [List.nodup_middle, List.nodup_cons, List.mem_append, not_or] at hl
  obtain ⟨⟨h₁, h₂⟩, -⟩ := hl
  have hkeep : ∀ l : List α, (∀ b, b ∈ l → b ∈ l₁ ++ a :: l₂) → a ∉ l → ∀ t, R t → R (l.foldl g t) ∧ v (l.foldl g t) = v t :=
    fun l hl hal t ht => foldl_keeps (P := fun u => R u ∧ v u = v t)
      (fun u b hb hu => ⟨hR u b (hl b hb) hu.1, (hv u b (hl b hb) (fun e => hal (e ▸ hb)) hu.1).trans hu.2⟩) ⟨ht, rfl⟩
  obtain ⟨ht, hvt⟩ := hkeep l₁ (fun b hb => by simp [hb]) h₁ s h
  refine ⟨l₁.foldl g s, ht, hvt, ?_⟩
  rw [List.foldl_append, List.foldl_cons]
  exact (hkeep l₂ (fun b hb => by simp [hb]) h₂ _ (hR _ a ha ht)).2

/-- An operation on the gang of a core: it leaves the gang map and the cores of every other gang. -/
def GangOp (g : State → Fin 96 → State) : Prop :=
  ∀ s c, (g s c).gang = s.gang ∧ ∀ m, m ∉ s.members c → (g s c).core m = s.core m

theorem GangOp.foldl_gang {g : State → Fin 96 → State} (hg : GangOp g) (l : List (Fin 96)) (s : State) : (l.foldl g s).gang = s.gang :=
  State.foldl_gang _ _ _ fun t c => (hg t c).1

theorem GangOp.foldl_core_other {g : State → Fin 96 → State} (hg : GangOp g) (l : List (Fin 96)) (s : State) (m : Fin 96)
    (h : ∀ c, c ∈ l → m ∉ s.members c) : (l.foldl g s).core m = s.core m := by
  induction l generalizing s with
  | nil => rfl
  | cons c l ih =>
    obtain ⟨hgang, hcore⟩ := hg s c
    rw [List.foldl_cons, ih, hcore m (h c List.mem_cons_self)]
    intro d hd
    rw [State.members_of_gang hgang]
    exact h d (List.mem_cons_of_mem _ hd)

/-- A gang's turn among operations on distinct gangs: the state `t` that it finds has its own cores as they were, what it does to them
stands at the end, and `t` has what every turn keeps. -/
theorem GangOp.foldl_turn {g : State → Fin 96 → State} (hg : GangOp g) {l : List (Fin 96)} (hl : l.Nodup) {s : State}
    (hlead : ∀ c, c ∈ l → s.gang[c] = c) {R : State → Prop} (hR : ∀ t c, c ∈ l → R t → R (g t c)) (h : R s) {c : Fin 96} (hc : c ∈ l) :
    ∃ t, R t ∧ t.gang = s.gang ∧ (∀ m, m ∈ s.members c → t.core m = s.core m)
      ∧ ∀ m, m ∈ s.members c → (l.foldl g s).core m = (g t c).core m := by
  have hother : ∀ t d, d ∈ l → d ≠ c → R t ∧ t.gang = s.gang →
      (fun m : { m // m ∈ s.members c } => (g t d).core m) = fun m : { m // m ∈ s.members c } => t.core m := by
    rintro t d hd hdc ⟨-, hgang⟩
    funext ⟨m, hm⟩
    refine (hg t d).2 m fun hmd => hdc ?_
    rw [State.members_of_gang hgang] at hmd
    exact State.leader_unique (hlead c hc) (hlead d hd) hm hmd
  obtain ⟨t, ⟨hRt, hgang⟩, hfound, hend⟩ := foldl_at hl (R := fun t => R t ∧ t.gang = s.gang)
    (fun t d hd ht => ⟨hR t d hd ht.1, ((hg t d).1).trans ht.2⟩)
    (fun t => fun m : { m // m ∈ s.members c } => t.core m) hc hother ⟨h, rfl⟩
  exact ⟨t, hRt, hgang, fun m hm => congrFun hfound ⟨m, hm⟩, fun m hm => congrFun hend ⟨m, hm⟩⟩

/-! ## Partitions and ports -/

theorem partIx_of_lt {p : Nat} (h : p < 8) : partIx p = ⟨p, h⟩ := dif_pos h

theorem State.modPart_part_same (s : State) (p : Nat) (g : Part → Part) : (s.modPart p g).part p = g (s.part p) := by
  simp [State.part, State.modPart]

theorem State.modPart_part_other (s : State) {p q : Nat} (g : Part → Part) (hp : p < 8) (hq : q < 8) (h : q ≠ p) :
    (s.modPart p g).part q = s.part q := by
  have hne : (partIx p).val ≠ (partIx q).val := by
    rw [partIx_of_lt hp, partIx_of_lt hq]
    exact fun e => h e.symm
  simp [State.part, State.modPart, Vector.getElem_set_ne, hne]

/-- What an operation on a partition leaves of every partition where it leaves it of its own. -/
theorem State.modPart_part_keeps {α : Type} (f : Part → α) (s : State) (p q : Nat) (g : Part → Part) (hg : f (g (s.part p)) = f (s.part p)) :
    f ((s.modPart p g).part q) = f (s.part q) := by
  by_cases h : partIx q = partIx p
  · have e (t : State) : t.part q = t.part p := by simp only [State.part, h]
    rw [e, e, State.modPart_part_same, hg]
  · have hne : (partIx p).val ≠ (partIx q).val := fun e => h (Fin.ext e.symm)
    simp [State.part, State.modPart, Vector.getElem_set_ne, hne]

@[simp] theorem State.modPart_core (s : State) (p : Nat) (g : Part → Part) (c : Fin 96) : (s.modPart p g).core c = s.core c := rfl

theorem State.modPort_port_same (s : State) {p : Nat} (g : Port → Port) (hp : p < 12) : (s.modPort p g).port p = g (s.port p) := by
  simp [State.port, State.modPort, hp]

@[simp] theorem State.modPort_core (s : State) (p : Nat) (g : Port → Port) (c : Fin 96) : (s.modPort p g).core c = s.core c := by
  unfold State.modPort; split <;> rfl
@[simp] theorem State.modPort_cores (s : State) (p : Nat) (g : Port → Port) : (s.modPort p g).cores = s.cores := by
  unfold State.modPort; split <;> rfl

/-! ## The partition of a core, from the registers -/

/-- The states agree on PARTn.STATUS of every partition, and so on what lies in which. -/
def State.samePlan (s t : State) : Prop := ∀ p, p < 8 → t.reg (rPART_STATUS p) = s.reg (rPART_STATUS p)

theorem State.samePlan_refl (s : State) : s.samePlan s := fun _ _ => rfl

theorem State.samePlan.trans {s t u : State} (h : s.samePlan t) (h' : t.samePlan u) : s.samePlan u := fun p hp => (h' p hp).trans (h p hp)

theorem State.samePlan_of_regs {s t : State} (h : t.regs = s.regs) : s.samePlan t := fun p _ => by rw [State.reg, State.reg, h]

theorem State.samePlan.inPart {s t : State} (h : s.samePlan t) {p : Nat} (hp : p < 8) (c : Fin 96) : t.inPart p c = s.inPart p c := by
  rw [State.inPart, State.inPart, State.clusters, State.clusters, State.fld, State.fld, h p hp]

theorem State.samePlan.partOf {s t : State} (h : s.samePlan t) (c : Fin 96) : t.partOf c = s.partOf c := by
  unfold State.partOf
  refine List.find?_congr fun p hp => ?_
  exact h.inPart (List.mem_range.1 hp) c

theorem State.samePlan.coresOf {s t : State} (h : s.samePlan t) {p : Nat} (hp : p < 8) : t.coresOf p = s.coresOf p := by
  unfold State.coresOf
  exact List.filter_congr fun c _ => h.inPart hp c

theorem State.partOf_lt {s : State} {c : Fin 96} {p : Nat} (h : s.partOf c = some p) : p < 8 := List.mem_range.1 (List.mem_of_find?_eq_some h)

theorem State.partOf_inPart {s : State} {c : Fin 96} {p : Nat} (h : s.partOf c = some p) : s.inPart p c = true :=
  List.find?_some (p := fun p => s.inPart p c) h

end Sys2Proof.Machine
end
section
/-!
# O34: waits of ended blocks and barrier releases (R29, R184, R193)

The waits of the gangs differ in `waitFailed` alone from what they found, so that each gang's turn judges the capture. A release writes one
register, the round, and the outstanding and seen counts of the cores.
-/
namespace Sys2Proof.Machine

/-! ## Waits -/

/-- The turn of one gang at the evaluation of waits. -/
def State.judgeWait (s : State) (c : Fin 96) : State :=
  s.eachMember c (fun m t => t.modCore m (fun k => { k with waitFailed := !((s.members c).all s.waitHolds) }))

theorem execWaitEvaluation_eq (s : State) :
    execWaitEvaluation s = .next (s.between.foldl State.judgeWait { s with cycle := s.winCy 1282 }) := rfl

/-- The cores with other outcomes of their waits. -/
def State.withWaits (s : State) (h : Fin 96 → Bool) : State := s.withCores (fun m => { s.core m with waitFailed := h m })

theorem State.withWaits_core (s : State) (h : Fin 96 → Bool) (m : Fin 96) :
    (s.withWaits h).core m = { s.core m with waitFailed := h m } := by
  rw [State.withWaits, State.withCores_core]

theorem State.withWaits_self (s : State) : s.withWaits (fun m => (s.core m).waitFailed) = s := State.withCores_self s

theorem State.withWaits_members (s : State) (h : Fin 96 → Bool) (c : Fin 96) : (s.withWaits h).members c = s.members c :=
  State.withCores_members s _ c

/-- The outcomes of waits are no part of what a wait is judged by. -/
theorem State.withWaits_waitHolds (s : State) (h : Fin 96 → Bool) : (s.withWaits h).waitHolds = s.waitHolds := by
  funext c
  have hgang : (s.withWaits h).gang = s.gang := State.withCores_gang _ _
  unfold State.waitHolds
  simp only [State.withWaits_core, hgang, Core.reg64, Core.reg, Core.bo]
  rfl

theorem State.judgeWait_core (s : State) (c m : Fin 96) :
    (s.judgeWait c).core m =
      if m ∈ s.members c then { s.core m with waitFailed := !((s.members c).all s.waitHolds) } else s.core m :=
  s.eachMember_const c m _

theorem judgeWait_gangOp : GangOp State.judgeWait :=
  fun s c => ⟨State.eachMember_gang _ _ _ fun _ _ => rfl, fun m hm => by rw [State.judgeWait_core, if_neg hm]⟩

theorem State.judgeWait_withWaits (s : State) (h : Fin 96 → Bool) (c : Fin 96) : ∃ h', (s.withWaits h).judgeWait c = s.withWaits h' := by
  refine ⟨fun m => if m ∈ s.members c then !((s.members c).all s.waitHolds) else h m, ?_⟩
  rw [State.judgeWait, State.eachMember_modCore, State.withWaits_members, State.withWaits_waitHolds]
  simp only [State.withWaits, State.withCores_withCores, State.withCores_core]
  congr 1
  funext m
  split <;> rfl

theorem execWaitEvaluation_judges (s : State) :
    ∃ t, exec .waitEvaluation s = .next t
      ∧ (∀ c m, c ∈ s.between → m ∈ s.members c → (t.core m).waitFailed = !((s.members c).all s.waitHolds)
          ∧ { t.core m with waitFailed := (s.core m).waitFailed } = s.core m)
      ∧ (∀ m, (∀ c, c ∈ s.between → m ∉ s.members c) → t.core m = s.core m) ∧ { t with cores := s.cores, cycle := s.cycle } = s := by
  obtain ⟨u, hu⟩ : ∃ u : State, u = { s with cycle := s.winCy 1282 } := ⟨_, rfl⟩
  have hbetween : ∀ c, c ∈ s.between → u.gang[c] = c := fun c hc => by
    rw [hu]
    exact (s.mem_leaders c).1 (List.mem_of_mem_filter hc)
  have hnodup : s.between.Nodup := s.leaders_nodup.filter _
  have hcore : ∀ m, u.core m = s.core m := fun m => by rw [hu]; rfl
  have hmem : ∀ c, u.members c = s.members c := fun c => by rw [hu]; rfl
  have hholds : u.waitHolds = s.waitHolds := by rw [hu]; rfl
  have hturn : ∀ t c, c ∈ s.between → (∃ h, t = u.withWaits h) → ∃ h, t.judgeWait c = u.withWaits h := by
    rintro t c - ⟨h, rfl⟩
    exact u.judgeWait_withWaits h c
  have hstart : ∃ h, u = u.withWaits h := ⟨_, u.withWaits_self.symm⟩
  refine ⟨s.between.foldl State.judgeWait u, hu ▸ execWaitEvaluation_eq s, fun c m hc hm => ?_, fun m hm => ?_, ?_⟩
  · obtain ⟨t, ⟨h, rfl⟩, -, -, hend⟩ :=
      judgeWait_gangOp.foldl_turn hnodup hbetween hturn hstart hc
    rw [hend m (by rwa [hmem]), State.judgeWait_core, State.withWaits_members, State.withWaits_waitHolds, State.withWaits_core,
      hmem, hholds, hcore, if_pos hm]
    exact ⟨rfl, rfl⟩
  · rw [judgeWait_gangOp.foldl_core_other _ _ m (fun c hc => by rw [hmem]; exact hm c hc), hcore]
  · obtain ⟨h, e⟩ := foldl_keeps (P := fun t => ∃ h, t = u.withWaits h) hturn hstart
    rw [e, hu]
    rfl

/-! ## The release of a barrier's round -/

theorem barStatReg_ne_status (b p : Nat) (hb : b < 192) (hp : p < 8) : rPART_STATUS p ≠ barStatReg b := by
  simp only [barStatReg, rDIE_BARSTAT, rGLB_BARSTAT, rPART_STATUS]
  split <;> omega

/-- The barrier's BARSTAT after a release: the lookahead as the count, no lookahead, and one round more. -/
def State.statReleased (s : State) (b : Nat) : Word32 :=
  BitVec.ofNat 32 (s.fld (barStatReg b) 14 8 + 2 ^ 16 * ((s.fld (barStatReg b) 31 16 + 1) % 65536))

/-- The release as the barrier itself takes it: BARSTAT and the round. -/
def State.roundCounted (s : State) (b : Nat) : State :=
  { s.setReg (barStatReg b) (s.statReleased b) with rounds := mapPut 0 s.rounds b (mapGet 0 s.rounds b + 1) }

theorem State.roundCounted_reg (s : State) (b o : Nat) :
    (s.roundCounted b).reg o = if o = barStatReg b then s.statReleased b else s.reg o := s.setReg_reg (barStatReg b) o (s.statReleased b)

theorem State.roundCounted_round (s : State) (b : Nat) : mapGet 0 (s.roundCounted b).rounds b = mapGet 0 s.rounds b + 1 :=
  (mapGet_mapPut 0 s.rounds b b (mapGet 0 s.rounds b + 1)).trans (if_pos rfl)

theorem State.roundCounted_core (s : State) (b : Nat) (c : Fin 96) : (s.roundCounted b).core c = s.core c := rfl

theorem State.roundCounted_barNow (s : State) (b : Nat) : (s.roundCounted b).barNow b = s.barNow b := rfl

theorem State.roundCounted_samePlan (s : State) (b : Nat) (hb : b < 192) : s.samePlan (s.roundCounted b) := fun p hp => by
  rw [State.roundCounted_reg, if_neg (barStatReg_ne_status b p hb hp)]

theorem State.participants_congr {s t : State} (b : Nat) (hplan : s.samePlan t) (hgang : t.gang = s.gang) (hbar : t.barNow b = s.barNow b) :
    t.participants b = s.participants b := by
  simp only [State.participants, State.leaders, hgang, hplan.partOf, hbar]

/-- What a release does to the outstanding count of a core that takes part. -/
def Core.leftRound (k : Core) (key : Nat) : Core := { k with bout := mapPut 0 k.bout key (mapGet 0 k.bout key - 1) }

/-- What a release does to a core that lies with the barrier: it has seen the round r. -/
def Core.sawRound (k : Core) (key r : Nat) : Core := { k with bseen := mapPut 0 k.bseen key r }

/-- A core after a release of barrier b. -/
def State.coreReleased (s : State) (b : Nat) (c : Fin 96) : Core :=
  let key := barKey (decide (128 ≤ b)) (b % 64)
  let k := if c ∈ s.participants b then (s.core c).leftRound key else s.core c
  if s.inPart (bitsOf 10 8 (s.barNow b).toNat) c = true ∧ (128 ≤ b ∨ c.val / 48 = b / 64) then
    k.sawRound key (mapGet 0 s.rounds b + 1) else k

theorem State.releaseRound_eq (s : State) (b : Nat) (hb : b < 192) :
    s.releaseRound b = (s.roundCounted b).withCores (s.coreReleased b) := by
  obtain ⟨u, hu⟩ : ∃ u, u = s.roundCounted b := ⟨_, rfl⟩
  obtain ⟨key, hkey⟩ : ∃ key, key = barKey (decide (128 ≤ b)) (b % 64) := ⟨_, rfl⟩
  obtain ⟨v, hv⟩ : ∃ v : State, v = u.eachCore (u.participants b) (fun k => k.leftRound key) := ⟨_, rfl⟩
  have hrel : s.releaseRound b = v.eachCore ((v.coresOf (bitsOf 10 8 (v.barNow b).toNat)).filter
      (fun c => decide (128 ≤ b) || decide (c.val / 48 = b / 64))) (fun k => k.sawRound key (mapGet 0 v.rounds b)) := by
    rw [hv, hu, hkey]
    rfl
  have hnodup : (u.participants b).Nodup := u.leaders_nodup.filter _
  rw [State.eachCore_withCores _ _ hnodup] at hv
  have hplan : s.samePlan u := hu ▸ s.roundCounted_samePlan b hb
  have hvplan : s.samePlan v := hplan.trans (State.samePlan_of_regs (by rw [hv, State.withCores_regs]))
  have hbar : v.barNow b = s.barNow b := by rw [hv, State.withCores_barNow, hu, State.roundCounted_barNow]
  have hround : mapGet 0 v.rounds b = mapGet 0 s.rounds b + 1 := by rw [hv, State.withCores_rounds, hu, State.roundCounted_round]
  have hparts : u.participants b = s.participants b := State.participants_congr b hplan (by rw [hu]; rfl) (by rw [hu, State.roundCounted_barNow])
  rw [hrel, State.eachCore_withCores _ _ ((v.coresOf_nodup _).filter _), hround, hbar, hvplan.coresOf (bitsOf_lt 10 8 _), hv,
    State.withCores_withCores, ← hu, hparts]
  congr 1
  funext c
  simp only [State.withCores_core, State.coreReleased, ← hkey, List.mem_filter, State.mem_coresOf, Bool.or_eq_true, decide_eq_true_eq, hu,
    State.roundCounted_core]

theorem execBarrierRelease_eq (s : State) (b : Fin 192) (hdone : s.roundDone b.val = true) (hpod : (s.barNow b.val).getLsbD 16 = false) :
    execBarrierRelease b s = .next ({ s with cycle := s.winCy 1282, barCap := mapErase s.barCap b.val }.releaseRound b.val) := by
  rw [execBarrierRelease, if_pos ⟨hdone, hpod⟩]

section
variable (s : State) (b : Nat) (hb : b < 192)
include hb

theorem State.releaseRound_core (c : Fin 96) : (s.releaseRound b).core c = s.coreReleased b c := by
  rw [State.releaseRound_eq s b hb, State.withCores_core]

theorem State.releaseRound_reg (o : Nat) : (s.releaseRound b).reg o = if o = barStatReg b then s.statReleased b else s.reg o := by
  rw [State.releaseRound_eq s b hb, State.withCores_reg, State.roundCounted_reg]

theorem State.releaseRound_round : mapGet 0 (s.releaseRound b).rounds b = mapGet 0 s.rounds b + 1 := by
  rw [State.releaseRound_eq s b hb, State.withCores_rounds, State.roundCounted_round]

theorem State.releaseRound_stat : (s.releaseRound b).reg (barStatReg b) = s.statReleased b := by
  rw [State.releaseRound_reg s b hb, if_pos rfl]

theorem State.releaseRound_cur : (s.releaseRound b).fld (barStatReg b) 6 0 = s.fld (barStatReg b) 14 8 := by
  have hlook : s.fld (barStatReg b) 14 8 < 128 := bitsOf_lt 14 8 _
  simp only [State.fld, State.releaseRound_stat s b hb, State.statReleased, BitVec.toNat_ofNat]
  simp only [State.fld, bitsOf] at hlook ⊢
  omega

theorem State.releaseRound_look : (s.releaseRound b).fld (barStatReg b) 14 8 = 0 := by
  have hlook : s.fld (barStatReg b) 14 8 < 128 := bitsOf_lt 14 8 _
  rw [State.fld, State.releaseRound_stat s b hb, State.statReleased, BitVec.toNat_ofNat, bitsOf]
  omega

theorem State.releaseRound_count :
    (s.releaseRound b).fld (barStatReg b) 31 16 = (s.fld (barStatReg b) 31 16 + 1) % 65536 := by
  have hlook : s.fld (barStatReg b) 14 8 < 128 := bitsOf_lt 14 8 _
  rw [State.fld, State.releaseRound_stat s b hb, State.statReleased, BitVec.toNat_ofNat, bitsOf]
  omega

end

/-- The cores agree in all but their outstanding and seen counts. -/
def Core.roundsEq (k j : Core) : Prop := { j with bout := k.bout, bseen := k.bseen } = k

theorem Core.roundsEq_refl (k : Core) : k.roundsEq k := rfl

theorem Core.roundsEq.leftRound {k j : Core} (h : k.roundsEq j) (key : Nat) : k.roundsEq (j.leftRound key) := h

theorem Core.roundsEq.sawRound {k j : Core} (h : k.roundsEq j) (key r : Nat) : k.roundsEq (j.sawRound key r) := h

theorem State.coreReleased_roundsEq (s : State) (b : Nat) (c : Fin 96) : (s.core c).roundsEq (s.coreReleased b c) := by
  have hrefl := (s.core c).roundsEq_refl
  rw [State.coreReleased]
  split <;> split
  · exact (hrefl.leftRound _).sawRound _ _
  · exact hrefl.sawRound _ _
  · exact hrefl.leftRound _
  · exact hrefl

theorem State.coreReleased_bo (s : State) (b : Nat) (c : Fin 96) :
    (s.coreReleased b c).bo (decide (128 ≤ b)) (b % 64) =
      if c ∈ s.participants b then (s.core c).bo (decide (128 ≤ b)) (b % 64) - 1 else (s.core c).bo (decide (128 ≤ b)) (b % 64) := by
  have hsaw (k : Core) (key r : Nat) (mb : Bool) (n : Nat) : (k.sawRound key r).bo mb n = k.bo mb n := rfl
  have hleft (k : Core) (mb : Bool) (n : Nat) : (k.leftRound (barKey mb n)).bo mb n = k.bo mb n - 1 :=
    (mapGet_mapPut 0 k.bout _ _ _).trans (if_pos rfl)
  rw [State.coreReleased]
  split <;> split <;> simp only [hsaw, hleft]

theorem State.coreReleased_seen (s : State) (b : Nat) (c : Fin 96) :
    mapGet 0 (s.coreReleased b c).bseen (barKey (decide (128 ≤ b)) (b % 64)) =
      if s.inPart (bitsOf 10 8 (s.barNow b).toNat) c = true ∧ (128 ≤ b ∨ c.val / 48 = b / 64) then mapGet 0 s.rounds b + 1
      else mapGet 0 (s.core c).bseen (barKey (decide (128 ≤ b)) (b % 64)) := by
  have hleft (k : Core) (key : Nat) : (k.leftRound key).bseen = k.bseen := rfl
  have hsaw (k : Core) (key r : Nat) : mapGet 0 (k.sawRound key r).bseen key = r := (mapGet_mapPut 0 k.bseen _ _ _).trans (if_pos rfl)
  rw [State.coreReleased]
  split <;> split <;> simp only [hsaw, hleft]

/-- The release of a barrier's round (R193). -/
theorem execBarrierRelease_releases (s : State) (b : Fin 192) (hdone : s.roundDone b.val = true)
    (hpod : (s.barNow b.val).getLsbD 16 = false) :
    ∃ t, exec (.barrierRelease b) s = .next t ∧ mapGet 0 t.rounds b.val = mapGet 0 s.rounds b.val + 1
      ∧ t.fld (barStatReg b.val) 6 0 = s.fld (barStatReg b.val) 14 8 ∧ t.fld (barStatReg b.val) 14 8 = 0
      ∧ t.fld (barStatReg b.val) 31 16 = (s.fld (barStatReg b.val) 31 16 + 1) % 65536
      ∧ (∀ c, c ∈ s.participants b.val → (t.core c).bo (decide (128 ≤ b.val)) (b.val % 64) =
          (s.core c).bo (decide (128 ≤ b.val)) (b.val % 64) - 1)
      ∧ (∀ c, c ∉ s.participants b.val → (t.core c).bo (decide (128 ≤ b.val)) (b.val % 64) = (s.core c).bo (decide (128 ≤ b.val)) (b.val % 64))
      ∧ (∀ c, mapGet 0 (t.core c).bseen (barKey (decide (128 ≤ b.val)) (b.val % 64)) =
          if s.inPart (bitsOf 10 8 (s.barNow b.val).toNat) c = true ∧ (128 ≤ b.val ∨ c.val / 48 = b.val / 64)
            then mapGet 0 s.rounds b.val + 1 else mapGet 0 (s.core c).bseen (barKey (decide (128 ≤ b.val)) (b.val % 64)))
      ∧ (∀ c, { t.core c with bout := (s.core c).bout, bseen := (s.core c).bseen } = s.core c)
      ∧ ∀ o, o ≠ barStatReg b.val → t.reg o = s.reg o := by
  obtain ⟨u, hu⟩ : ∃ u : State, u = { s with cycle := s.winCy 1282, barCap := mapErase s.barCap b.val } := ⟨_, rfl⟩
  have hpart : u.participants b.val = s.participants b.val := by rw [hu]; rfl
  have hround : mapGet 0 u.rounds b.val = mapGet 0 s.rounds b.val := by rw [hu]
  have hbar : u.barNow b.val = s.barNow b.val := by rw [hu]; rfl
  have hin (p : Nat) (c : Fin 96) : u.inPart p c = s.inPart p c := by rw [hu]; rfl
  have hcore (c : Fin 96) : u.core c = s.core c := by rw [hu]; rfl
  have hfld (o h l : Nat) : u.fld o h l = s.fld o h l := by rw [hu]; rfl
  refine ⟨u.releaseRound b.val, by rw [hu]; exact execBarrierRelease_eq s b hdone hpod, ?_⟩
  refine ⟨?_, ?_, u.releaseRound_look _ b.isLt, ?_, fun c hc => ?_, fun c hc => ?_, fun c => ?_, fun c => ?_, fun o ho => ?_⟩
  · rw [u.releaseRound_round _ b.isLt, hround]
  · rw [u.releaseRound_cur _ b.isLt, hfld]
  · rw [u.releaseRound_count _ b.isLt, hfld]
  · rw [u.releaseRound_core _ b.isLt, State.coreReleased_bo, hpart, if_pos hc, hcore]
  · rw [u.releaseRound_core _ b.isLt, State.coreReleased_bo, hpart, if_neg hc, hcore]
  · rw [u.releaseRound_core _ b.isLt, State.coreReleased_seen, hbar, hround, hin, hcore]
  · rw [u.releaseRound_core _ b.isLt, ← hcore]
    exact u.coreReleased_roundsEq _ c
  · rw [u.releaseRound_reg _ b.isLt, if_neg ho, hu]
    rfl

/-- Settles O34: each gang's turn at the waits, and what a release does to the barrier, the registers and the cores. -/
theorem waitsAndReleases : Obligations.WaitsAndReleases := ⟨execWaitEvaluation_judges, execBarrierRelease_releases⟩

end Sys2Proof.Machine
end
section
/-!
# O46: pod time (R40 to R43, R289)

A link tick notes its exchange at its port and measures from it, each in fields of its own; locking, stepping and holdover write
TIME.STATUS and TIME.HOPS. The steer is a free value, so that nothing is said of TIME.TRIM.
-/
namespace Sys2Proof.Machine

/-! ## Registers that a write leaves -/

theorem State.setReg_fld_other (s : State) (o o' : Nat) (v : Word32) (h l : Nat) (ho : o' ≠ o) : (s.setReg o v).fld o' h l = s.fld o' h l := by
  rw [State.fld, State.setReg_reg, if_neg ho, State.fld]

theorem State.setReg_bit_other (s : State) (o o' b : Nat) (v : Word32) (ho : o' ≠ o) : (s.setReg o v).bit o' b = s.bit o' b := by
  rw [State.bit, State.setReg_fld_other _ _ _ _ _ _ ho, State.bit]

theorem State.setBit_bit_other (s : State) (o b b' : Nat) (v : Bool) (hb : b < 32) (hne : b' ≠ b) : (s.setBit o b v).bit o b' = s.bit o b' := by
  rw [State.bit, State.setBit_fld_disjoint _ _ _ _ _ _ hb (Nat.lt_or_gt_of_ne hne), State.bit]

/-! ## Link ticks -/

section
variable (s : State) (p : Nat)

theorem State.slaveHops_inbox : (s.slaveHops p).inbox = s.inbox := by unfold State.slaveHops; split <;> rfl
theorem State.slaveHops_cores : (s.slaveHops p).cores = s.cores := by unfold State.slaveHops; split <;> rfl
theorem State.slaveHops_port (q : Nat) : (s.slaveHops p).port q = s.port q := by unfold State.slaveHops; split <;> rfl

theorem State.slaveHops_reg (o : Nat) (ho : o ≠ rTIME_HOPS) : (s.slaveHops p).reg o = s.reg o := by
  unfold State.slaveHops
  split
  · rw [State.setReg_reg, if_neg ho]
  · rfl

theorem State.slaveHops_fld (o h l : Nat) (ho : o ≠ rTIME_HOPS) : (s.slaveHops p).fld o h l = s.fld o h l := by
  rw [State.fld, State.slaveHops_reg s p o ho, State.fld]

end

/-- The samples of port p with one more, of the last 256. -/
def State.moreSamples (s : State) (p : Nat) (e : Int × Int) : List (Int × Int) :=
  ((s.port p).samples ++ [e]).drop ((s.port p).samples.length - 255)

/-- Port p with one more sample, and the mean of their delays in CH.DELAY. -/
def State.sampled (s : State) (p : Nat) (e : Int × Int) : State :=
  (s.modPort p (fun q => { q with samples := s.moreSamples p e })).setFld (rCH_DELAY p) 23 0
    (meanInt ((s.moreSamples p e).map Prod.fst) % 2 ^ 24).toNat

/-- What a measurement on the upstream port writes: LINKDLY, OFFSET, a free steer, and the count towards the lock. -/
def State.steered (s : State) (md : Nat) (mo o : Int) : State :=
  let s := (s.setFld (rTIME_LINKDLY) 23 0 md).setReg (rTIME_OFFSET) (BitVec.ofInt 32 mo)
  let st : Int := (Config.freeNat s.freeCtr % 10001 : Nat) - 5000
  let s := { s.setFld (rTIME_TRIM) 15 0 (st % 65536).toNat with freeCtr := s.freeCtr + 1 }
  { s.measured o with lockLost := s.lockLost || decide (o.natAbs > 10000) }

theorem State.tickMeasure_eq (s : State) (p : Nat) (e : Int × Int) :
    s.tickMeasure p e.1 e.2 =
      if (s.sampled p e).isUpstream p then
        (s.sampled p e).steered (meanInt ((s.moreSamples p e).map Prod.fst) % 2 ^ 24).toNat
          (meanInt ((s.moreSamples p e).map Prod.snd)) e.2
      else s.sampled p e := rfl

theorem State.steered_inbox (s : State) (md : Nat) (mo o : Int) : (s.steered md mo o).inbox = s.inbox := rfl
theorem State.steered_cores (s : State) (md : Nat) (mo o : Int) : (s.steered md mo o).cores = s.cores := rfl
theorem State.steered_port (s : State) (md : Nat) (mo o : Int) (p : Nat) : (s.steered md mo o).port p = s.port p := rfl

theorem State.steered_reg (s : State) (md : Nat) (mo o : Int) (r : Nat) (hd : r ≠ rTIME_LINKDLY) (ho : r ≠ rTIME_OFFSET) (ht : r ≠ rTIME_TRIM) :
    (s.steered md mo o).reg r = s.reg r := by
  obtain ⟨u, hu⟩ : ∃ u, u = (s.setFld (rTIME_LINKDLY) 23 0 md).setReg (rTIME_OFFSET) (BitVec.ofInt 32 mo) := ⟨_, rfl⟩
  have htrim : (s.steered md mo o).reg r = (u.setFld (rTIME_TRIM) 15 0 (((Config.freeNat u.freeCtr % 10001 : Nat) - 5000 : Int) % 65536).toNat).reg r := by
    rw [hu]
    rfl
  rw [htrim, State.setFld_reg_other _ _ _ _ _ _ ht, hu, State.setReg_reg, if_neg ho, State.setFld_reg_other _ _ _ _ _ _ hd]

section
variable (s : State) (p : Nat) (e : Int × Int)

theorem State.sampled_inbox : (s.sampled p e).inbox = s.inbox := by
  unfold State.sampled State.modPort; split <;> rfl
theorem State.sampled_cores : (s.sampled p e).cores = s.cores := by rw [State.sampled, State.setFld_cores, State.modPort_cores]

theorem State.sampled_port (hp : p < 12) : (s.sampled p e).port p = { s.port p with samples := s.moreSamples p e } :=
  s.modPort_port_same (fun q => { q with samples := s.moreSamples p e }) hp

theorem State.sampled_delay : (s.sampled p e).fld (rCH_DELAY p) 23 0 = (meanInt ((s.moreSamples p e).map Prod.fst) % 2 ^ 24).toNat := by
  rw [State.sampled, State.setFld_fld_same _ _ _ _ _ (by decide)]
  omega

end

section
variable (s : State) (p : Nat) (e : Int × Int)

theorem State.tickMeasure_inbox : (s.tickMeasure p e.1 e.2).inbox = s.inbox := by
  rw [State.tickMeasure_eq]; split <;> simp only [State.steered_inbox, State.sampled_inbox]
theorem State.tickMeasure_cores : (s.tickMeasure p e.1 e.2).cores = s.cores := by
  rw [State.tickMeasure_eq]; split <;> simp only [State.steered_cores, State.sampled_cores]

theorem State.tickMeasure_port (hp : p < 12) :
    (s.tickMeasure p e.1 e.2).port p = { s.port p with samples := s.moreSamples p e } := by
  rw [State.tickMeasure_eq]; split <;> simp only [State.steered_port, State.sampled_port s p _ hp]

theorem State.tickMeasure_samples (hp : p < 12) : ((s.tickMeasure p e.1 e.2).port p).samples = s.moreSamples p e := by
  rw [State.tickMeasure_port s p e hp]

theorem chDelay_off (p o : Nat) (ho : o < 0x200010) : rCH_DELAY p ≠ o := by
  unfold rCH_DELAY
  omega

theorem State.tickMeasure_delay :
    (s.tickMeasure p e.1 e.2).fld (rCH_DELAY p) 23 0 = (meanInt ((s.moreSamples p e).map Prod.fst) % 2 ^ 24).toNat := by
  rw [State.tickMeasure_eq, ← State.sampled_delay s p e]
  split
  · rw [State.fld, State.steered_reg _ _ _ _ _ (chDelay_off p _ (by decide)) (chDelay_off p _ (by decide)) (chDelay_off p _ (by decide)),
      State.fld]
  · rfl

end

/-- Link tick x, that arrived at `rx`, as its port p notes it. -/
def State.linkNoted (s : State) (k p : Nat) (rx : Int) (m : Msg) : State :=
  { s with inbox := s.inbox.eraseIdx k }.modPort p (fun q =>
    { q with tickIn := (q.tickIn ++ [(m.f4 16 8, rx, m.f4 24 4)]).drop (q.tickIn.length - 31), hops := m.f3 4 0 })

/-- What port p measures from the echo of a link tick, where both frames are found. -/
def State.linkMeasured (s : State) (p rxt : Nat) (tx : Option (Nat × Nat)) (rx : Option (Nat × Int × Nat)) : State :=
  match tx, rx with
  | some (_, tx), some (_, rxm, txt) =>
    let e := exchange rxt tx rxm txt
    s.tickMeasure p e.1 e.2
  | _, _ => s

theorem execLinkTick_eq (s : State) (k p : Nat) (rx : Int) (x : InMsg) (hx : s.inbox[k]? = some x) (hport : x.port = some p)
    (htick : x.msg.isLinkTick = true) :
    execLinkTick k rx s =
      .next (((s.linkNoted k p rx x.msg).linkMeasured p (leNat ((x.msg.data.drop 4).take 4))
        ((s.port p).tickTx.find? (fun e => e.1 % 2 ^ 32 = leNat (x.msg.data.take 4)))
        ((s.port p).tickIn.find? (fun e => e.1 % 2 ^ 32 = leNat (x.msg.data.take 4)))).slaveHops p) := by
  unfold execLinkTick
  rw [hx]
  dsimp only
  rw [hport]
  dsimp only
  rw [if_pos htick]
  rfl

section
variable (s : State) (k p : Nat) (rx : Int) (m : Msg)

theorem State.linkNoted_inbox : (s.linkNoted k p rx m).inbox = s.inbox.eraseIdx k := by
  unfold State.linkNoted State.modPort; split <;> rfl
theorem State.linkNoted_cores : (s.linkNoted k p rx m).cores = s.cores := by rw [State.linkNoted, State.modPort_cores]

theorem State.linkNoted_port (hp : p < 12) : (s.linkNoted k p rx m).port p =
    { s.port p with tickIn := ((s.port p).tickIn ++ [(m.f4 16 8, rx, m.f4 24 4)]).drop ((s.port p).tickIn.length - 31), hops := m.f3 4 0 } :=
  State.modPort_port_same { s with inbox := s.inbox.eraseIdx k } _ hp

end

section
variable (s : State) (p rxt : Nat) (tx : Option (Nat × Nat)) (rx : Option (Nat × Int × Nat))

theorem State.linkMeasured_inbox : (s.linkMeasured p rxt tx rx).inbox = s.inbox := by
  unfold State.linkMeasured; split <;> simp only [State.tickMeasure_inbox]
theorem State.linkMeasured_cores : (s.linkMeasured p rxt tx rx).cores = s.cores := by
  unfold State.linkMeasured; split <;> simp only [State.tickMeasure_cores]

theorem State.linkMeasured_port (hp : p < 12) :
    ∃ l, (s.linkMeasured p rxt tx rx).port p = { s.port p with samples := l } := by
  unfold State.linkMeasured
  split
  · exact ⟨_, s.tickMeasure_port p _ hp⟩
  · exact ⟨_, rfl⟩

end

theorem drop_append_last {α : Type} (l : List α) (a : α) (n : Nat) (h : n ≤ l.length) : ((l ++ [a]).drop n).getLast? = some a := by
  rw [List.drop_append_of_le_length h, List.getLast?_concat]

theorem execLinkTick_measures (s : State) (k p : Nat) (rx : Int) (x : InMsg) (hx : s.inbox[k]? = some x) (hport : x.port = some p)
    (hp : p < 12) (htick : x.msg.isLinkTick = true) :
    ∃ t, exec (.linkTick k rx) s = .next t ∧ t.inbox = s.inbox.eraseIdx k ∧ (t.port p).hops = x.msg.f3 4 0
      ∧ (t.port p).tickIn.getLast? = some (x.msg.f4 16 8, rx, x.msg.f4 24 4) ∧ t.cores = s.cores
      ∧ ∀ a b c d e, (s.port p).tickTx.find? (fun e => e.1 % 2 ^ 32 = leNat (x.msg.data.take 4)) = some (a, b) →
        (s.port p).tickIn.find? (fun e => e.1 % 2 ^ 32 = leNat (x.msg.data.take 4)) = some (c, d, e) →
        (t.port p).samples = ((s.port p).samples ++ [exchange (leNat ((x.msg.data.drop 4).take 4)) b d e]).drop
            ((s.port p).samples.length - 255)
          ∧ t.fld (rCH_DELAY p) 23 0 = (meanInt ((t.port p).samples.map Prod.fst) % 2 ^ 24).toNat := by
  refine ⟨_, execLinkTick_eq s k p rx x hx hport htick, ?_⟩
  obtain ⟨u, hu⟩ : ∃ u, u = s.linkNoted k p rx x.msg := ⟨_, rfl⟩
  have hnoted := s.linkNoted_port k p rx x.msg hp
  rw [State.slaveHops_inbox, State.linkMeasured_inbox, State.linkNoted_inbox, State.slaveHops_cores, State.linkMeasured_cores,
    State.linkNoted_cores, State.slaveHops_port, ← hu]
  rw [← hu] at hnoted
  refine ⟨rfl, ?_, ?_, rfl, fun a b c d e htx hrx => ?_⟩
  · obtain ⟨l, hl⟩ := u.linkMeasured_port p (leNat ((x.msg.data.drop 4).take 4)) _ _ hp
    rw [hl, hnoted]
  · obtain ⟨l, hl⟩ := u.linkMeasured_port p (leNat ((x.msg.data.drop 4).take 4)) _ _ hp
    rw [hl, hnoted]
    exact drop_append_last _ _ _ (by omega)
  · rw [htx, hrx]
    have hmore : u.moreSamples p (exchange (leNat ((x.msg.data.drop 4).take 4)) b d e) =
        ((s.port p).samples ++ [exchange (leNat ((x.msg.data.drop 4).take 4)) b d e]).drop ((s.port p).samples.length - 255) := by
      rw [State.moreSamples, hnoted]
    have hmeasured : u.linkMeasured p (leNat ((x.msg.data.drop 4).take 4)) (some (a, b)) (some (c, d, e)) =
        u.tickMeasure p (exchange (leNat ((x.msg.data.drop 4).take 4)) b d e).1 (exchange (leNat ((x.msg.data.drop 4).take 4)) b d e).2 := rfl
    have hdelay : rCH_DELAY p ≠ rTIME_HOPS := chDelay_off p _ (by decide)
    rw [hmeasured, State.slaveHops_fld _ _ _ _ _ hdelay, State.tickMeasure_delay, State.tickMeasure_samples _ _ _ hp, hmore]
    exact ⟨rfl, rfl⟩

/-! ## Locking and stepping -/

theorem execTimeLock_locks (s : State) (hrole : s.fld (rTIME_CTRL) 1 0 = 2 ∨ s.fld (rTIME_CTRL) 1 0 = 3) (hrun : 256 ≤ s.lockRun) :
    ∃ t, exec .timeLock s = .next t ∧ t.bit (rTIME_STATUS) 0 = true ∧ t.bit (rTIME_STATUS) 1 = false ∧ t.cores = s.cores := by
  refine ⟨_, if_pos ⟨hrole, hrun⟩, ?_, ?_, ?_⟩
  · rw [State.bit, State.slaveHops_fld _ _ _ _ _ (by decide), ← State.bit, State.setBit_bit_other _ _ _ _ _ (by decide) (by decide),
      State.setBit_bit_same _ _ _ _ (by decide)]
  · rw [State.bit, State.slaveHops_fld _ _ _ _ _ (by decide), ← State.bit, State.setBit_bit_same _ _ _ _ (by decide)]
  · rw [State.slaveHops_cores, State.setBit_cores, State.setBit_cores]

theorem State.upstreamFrame_of_lastTick {s : State} {f g : Nat} {rx : Int} {txt : Nat}
    (hlast : (s.port (s.fld (rTIME_CTRL) 7 4)).tickIn.getLast? = some (g, rx, txt)) (hf : f = g + 1 ∨ f = g + 2) :
    s.upstreamFrame f = true := by
  have hne : (s.port (s.fld (rTIME_CTRL) 7 4)).tickIn ≠ [] := fun h => by simp [h] at hlast
  simp [State.upstreamFrame, Port.lastTick, hlast, hne, hf]

/-- No core runs, a failed one being left out. -/
def State.steppable (s : State) : Bool := allCores.all (fun c => (s.core c).st.movable || (s.core c).st = .off)

theorem State.steppable_of_idle {s : State} (h : ∀ c, (s.core c).st = .idle ∨ (s.core c).st = .failed ∨ (s.core c).st = .off) :
    s.steppable = true := by
  refine List.all_eq_true.2 fun c _ => ?_
  rcases h c with h | h | h <;> simp [h, CoreSt.movable]

theorem State.not_steppable_of_running {s : State} (h : ∃ c, (s.core c).st = .running) : s.steppable = false := by
  obtain ⟨c, hc⟩ := h
  refine List.all_eq_false.2 ⟨c, mem_allCores c, ?_⟩
  simp [hc, CoreSt.movable]

/-- What a slave that may not step does: it stays unlocked and writes a record. -/
def State.stepRefused (s : State) : State := ((s.setBit (rTIME_STATUS) 0 false).setReg (rTIME_HOPS) 31).timeRec

theorem execStepFrame_eq (s : State) (f len : Nat) (hrole : s.fld (rTIME_CTRL) 1 0 = 2) (hphase : s.phase = .run) (hlo : 650 ≤ len)
    (hhi : len ≤ 1950) (hup : s.upstreamFrame f = true) :
    execStepFrame f len s = if s.bit (rTIME_CTRL) 8 = true ∧ s.steppable = true then
      .next { s.setBit (rTIME_STATUS) 3 true with step := some (f, len) } else .next s.stepRefused := by
  have hcond : ¬ (s.fld (rTIME_CTRL) 1 0 ≠ 2 ∨ s.phase ≠ .run ∨ len < 650 ∨ 1950 < len ∨ s.upstreamFrame f = false) := by
    rw [hrole, hphase, hup]
    simp only [ne_eq, not_true_eq_false, false_or, reduceCtorEq, or_false, not_or]
    omega
  exact if_neg hcond

theorem execStepFrame_steps (s : State) (f len g : Nat) (rx : Int) (txt : Nat) (hrole : s.fld (rTIME_CTRL) 1 0 = 2) (hphase : s.phase = .run)
    (hlo : 650 ≤ len) (hhi : len ≤ 1950) (hlast : (s.port (s.fld (rTIME_CTRL) 7 4)).tickIn.getLast? = some (g, rx, txt))
    (hf : f = g + 1 ∨ f = g + 2) :
    (s.bit (rTIME_CTRL) 8 = true → (∀ c, (s.core c).st = .idle ∨ (s.core c).st = .failed ∨ (s.core c).st = .off) →
      ∃ t, exec (.stepFrame f len) s = .next t ∧ t.step = some (f, len) ∧ t.bit (rTIME_STATUS) 3 = true ∧ t.cores = s.cores)
    ∧ (s.bit (rTIME_CTRL) 8 = false ∨ (∃ c, (s.core c).st = .running) →
      ∃ t, exec (.stepFrame f len) s = .next t ∧ t.step = s.step ∧ t.bit (rTIME_STATUS) 0 = false ∧ t.reg (rTIME_HOPS) = 31
        ∧ t.errPend.length = s.errPend.length + 1 ∧ t.cores = s.cores) := by
  have heq : exec (.stepFrame f len) s = _ :=
    execStepFrame_eq s f len hrole hphase hlo hhi (State.upstreamFrame_of_lastTick hlast hf)
  constructor
  · intro hallow hidle
    refine ⟨_, heq.trans (if_pos ⟨hallow, State.steppable_of_idle hidle⟩), rfl, ?_, rfl⟩
    exact s.setBit_bit_same _ _ _ (by decide)
  · intro hno
    have hcond : ¬ (s.bit (rTIME_CTRL) 8 = true ∧ s.steppable = true) := by
      rcases hno with h | h
      · simp [h]
      · simp [State.not_steppable_of_running h]
    refine ⟨_, heq.trans (if_neg hcond), rfl, ?_, ?_, State.record_errPend_length _ _ _ _ _ _ _ _ _, rfl⟩
    · have hbit : s.stepRefused.bit (rTIME_STATUS) 0 = ((s.setBit (rTIME_STATUS) 0 false).setReg (rTIME_HOPS) 31).bit (rTIME_STATUS) 0 := rfl
      rw [hbit, State.setReg_bit_other _ _ _ _ _ (by decide), State.setBit_bit_same _ _ _ _ (by decide)]
    · have hreg : s.stepRefused.reg (rTIME_HOPS) = ((s.setBit (rTIME_STATUS) 0 false).setReg (rTIME_HOPS) 31).reg (rTIME_HOPS) := rfl
      rw [hreg, State.setReg_reg, if_pos rfl]

/-! ## Holdover and the reference -/

/-- The time source is lost: holdover, and no frame counted. -/
def State.sourceLost (s : State) : State := { s.setBit (rTIME_STATUS) 1 true with lockRun := 0 }

theorem State.sourceLost_reg (s : State) (o : Nat) : s.sourceLost.reg o = (s.setBit (rTIME_STATUS) 1 true).reg o := rfl

theorem State.sourceLost_isMaster (s : State) : s.sourceLost.isMaster = s.isMaster := by
  rw [State.isMaster, State.isMaster, State.fld, State.sourceLost_reg, ← State.fld, State.setBit_fld_other _ _ _ _ _ _ _ (by decide)]

theorem State.sourceLost_holdover (s : State) : s.sourceLost.bit (rTIME_STATUS) 1 = true := by
  rw [State.bit, State.fld, State.sourceLost_reg, ← State.fld, ← State.bit, State.setBit_bit_same _ _ _ _ (by decide)]

theorem State.enterHoldover_eq (s : State) :
    s.enterHoldover = if s.isMaster then s.sourceLost else (s.sourceLost.setBit (rTIME_STATUS) 0 false).setReg (rTIME_HOPS) 31 := by
  rw [← s.sourceLost_isMaster]
  rfl

theorem State.enterHoldover_lockRun (s : State) : s.enterHoldover.lockRun = 0 := by
  rw [State.enterHoldover_eq]; split <;> rfl

theorem State.enterHoldover_holdover (s : State) : s.enterHoldover.bit (rTIME_STATUS) 1 = true := by
  rw [State.enterHoldover_eq, ← s.sourceLost_holdover]
  split
  · rfl
  · rw [State.setReg_bit_other _ _ _ _ _ (by decide), State.setBit_bit_other _ _ _ _ _ (by decide) (by decide)]

theorem State.not_isMaster_of_slave {s : State} (h : s.fld (rTIME_CTRL) 1 0 = 2) : s.isMaster = false := by simp [State.isMaster, h]

theorem State.isMaster_of_external {s : State} (h : s.fld (rTIME_CTRL) 1 0 = 3) : s.isMaster = true := by simp [State.isMaster, h]

theorem execHoldover_loses (s : State) (hrole : s.fld (rTIME_CTRL) 1 0 = 2) (hdown : s.portUp (s.fld (rTIME_CTRL) 7 4) = false) :
    ∃ t, exec .holdover s = .next t ∧ t.bit (rTIME_STATUS) 1 = true ∧ t.bit (rTIME_STATUS) 0 = false ∧ t.reg (rTIME_HOPS) = 31
      ∧ t.lockRun = 0 := by
  refine ⟨s.enterHoldover, if_pos ⟨hrole, hdown⟩, s.enterHoldover_holdover, ?_, ?_, s.enterHoldover_lockRun⟩
  · rw [State.enterHoldover_eq, State.not_isMaster_of_slave hrole, if_neg Bool.false_ne_true, State.setReg_bit_other _ _ _ _ _ (by decide),
      State.setBit_bit_same _ _ _ _ (by decide)]
  · rw [State.enterHoldover_eq, State.not_isMaster_of_slave hrole, if_neg Bool.false_ne_true, State.setReg_reg, if_pos rfl]

theorem execRefLost_loses (s : State) (hrole : s.fld (rTIME_CTRL) 1 0 = 3) :
    ∃ t, exec .refLost s = .next t ∧ t.bit (rTIME_STATUS) 2 = true ∧ t.bit (rTIME_STATUS) 1 = true ∧ t.lockRun = 0 := by
  obtain ⟨u, hu⟩ : ∃ u, u = s.setBit (rTIME_STATUS) 2 true := ⟨_, rfl⟩
  have hmaster : u.isMaster = true :=
    State.isMaster_of_external (by rw [hu, State.setBit_fld_other _ _ _ _ _ _ _ (by decide), hrole])
  refine ⟨u.enterHoldover, by rw [hu]; exact if_pos hrole, ?_, u.enterHoldover_holdover, u.enterHoldover_lockRun⟩
  rw [State.enterHoldover_eq, if_pos hmaster, State.bit, State.fld, State.sourceLost_reg, ← State.fld, ← State.bit,
    State.setBit_bit_other _ _ _ _ _ (by decide) (by decide), hu, State.setBit_bit_same _ _ _ _ (by decide)]

/-- The count of consecutive frames after an offset `o` is measured. -/
def State.lockCount (s : State) (o : Int) : Nat :=
  if 5000 < o.natAbs then 0 else if s.frame = s.lockFrame ∧ s.lockRun ≠ 0 then s.lockRun
  else if s.frame = s.lockFrame + 1 then s.lockRun + 1 else 1

theorem execTickRefEdge_counts (s : State) (off : Int) (hrole : s.fld (rTIME_CTRL) 1 0 = 3) :
    ∃ t, exec (.tickRefEdge off) s = .next t ∧ t.lockRun = s.lockCount off ∧ ∀ o, o ≠ rTIME_TRIM → t.reg o = s.reg o := by
  obtain ⟨v, hv⟩ : ∃ v, v = (((Config.freeNat s.freeCtr % 10001 : Nat) - 5000 : Int) % 65536).toNat := ⟨_, rfl⟩
  obtain ⟨u, hu⟩ : ∃ u, u = s.setFld (rTIME_TRIM) 15 0 v := ⟨_, rfl⟩
  have hreg (o : Nat) (ho : o ≠ rTIME_TRIM) : u.reg o = s.reg o := by rw [hu, State.setFld_reg_other _ _ _ _ _ _ ho]
  have hframe : u.frame = s.frame := by
    rw [State.frame, State.frame, State.reg64, State.reg64, hreg _ (by decide), hreg _ (by decide)]
  refine ⟨{ u.measured off with freeCtr := s.freeCtr + 1 }, by rw [hu, hv]; exact if_pos hrole, ?_, hreg⟩
  have hrun : ({ u.measured off with freeCtr := s.freeCtr + 1 } : State).lockRun = u.lockCount off := rfl
  rw [hrun, State.lockCount, hframe, hu]
  rfl

theorem execTickRefEdge_locks (s : State) (off : Int) (hrole : s.fld (rTIME_CTRL) 1 0 = 3) :
    ∃ t, exec (.tickRefEdge off) s = .next t
      ∧ (5000 < off.natAbs → t.lockRun = 0) ∧ (off.natAbs ≤ 5000 → s.frame = s.lockFrame + 1 → t.lockRun = s.lockRun + 1)
      ∧ (off.natAbs ≤ 5000 → s.frame = s.lockFrame → s.lockRun ≠ 0 → t.lockRun = s.lockRun)
      ∧ (off.natAbs ≤ 5000 → s.frame ≠ s.lockFrame → s.frame ≠ s.lockFrame + 1 → t.lockRun = 1)
      ∧ ∀ o, o ≠ rTIME_TRIM → t.reg o = s.reg o := by
  obtain ⟨t, ht, hrun, hreg⟩ := execTickRefEdge_counts s off hrole
  rw [State.lockCount] at hrun
  refine ⟨t, ht, fun hoff => ?_, fun hoff hnext => ?_, fun hoff hsame hrun0 => ?_, fun hoff hsame hnext => ?_, hreg⟩
  · rw [hrun, if_pos hoff]
  · rw [hrun, if_neg (by omega), if_neg (by omega), if_pos hnext]
  · rw [hrun, if_neg (by omega), if_pos ⟨hsame, hrun0⟩]
  · rw [hrun, if_neg (by omega), if_neg (fun h => hsame h.1), if_neg hnext]

/-- Settles O46: what each operation of pod time writes, from the lemma of each. -/
theorem podTime : Obligations.PodTime := fun s =>
  ⟨fun k p rx x hx hport hp htick => execLinkTick_measures s k p rx x hx hport hp htick, execTimeLock_locks s,
    fun f len g rx txt hrole hphase hlo hhi hlast hf => execStepFrame_steps s f len g rx txt hrole hphase hlo hhi hlast hf,
    execHoldover_loses s, execTickRefEdge_locks s, execRefLost_loses s⟩

end Sys2Proof.Machine
end
section
/-!
# O47: domain notices and pod barriers (R38, R194, R290, R291)

A message that is next for this module is taken off the inbox and performed; what this module sends reaches ports, the inbox and the
records alone; a release applied is the release of the module barrier's round.
-/
namespace Sys2Proof.Machine

/-! ## Taking and sending a message -/

/-- The state without message k of the inbox. -/
def State.without (s : State) (k : Nat) : State := { s with inbox := s.inbox.eraseIdx k }

theorem State.takeMsg_of_next {s : State} {k : Nat} {x : InMsg} {p : InMsg → Bool} {body : InMsg → State → State} (h : s.nextMsg k x)
    (hp : p x = true) : s.takeMsg k p body = body x (s.without k) := by
  obtain ⟨hx, hahead⟩ := h
  have hnone : (s.inbox.take k).any (fun y => y.ahead x) = false := by simpa using hahead
  rw [State.takeMsg, hx]
  simp only [hp, hnone, Bool.not_false, Bool.and_self, if_true]
  rfl

theorem InMsg.is_of {x : InMsg} {typ sub : Nat} (htransit : x.transit = false) (htyp : x.msg.typ = typ) (hsub : x.msg.sub = sub) :
    x.is typ sub = true := by simp [InMsg.is, htransit, htyp, hsub]

/-- The states differ at most in what a message sent can touch: ports, inbox, records and the count of those dropped. -/
structure State.SentFrom (s t : State) : Prop where
  cores : t.cores = s.cores
  gang : t.gang = s.gang
  parts : t.parts = s.parts
  podRel : t.podRel = s.podRel
  rounds : t.rounds = s.rounds
  cycle : t.cycle = s.cycle
  step : t.step = s.step
  reg : ∀ o, o ≠ rCHC_TDROP → t.reg o = s.reg o

namespace State.SentFrom

theorem refl (s : State) : s.SentFrom s := ⟨rfl, rfl, rfl, rfl, rfl, rfl, rfl, fun _ _ => rfl⟩

theorem trans {s t u : State} (h : s.SentFrom t) (h' : t.SentFrom u) : s.SentFrom u :=
  ⟨h'.cores.trans h.cores, h'.gang.trans h.gang, h'.parts.trans h.parts, h'.podRel.trans h.podRel, h'.rounds.trans h.rounds,
    h'.cycle.trans h.cycle, h'.step.trans h.step, fun o ho => (h'.reg o ho).trans (h.reg o ho)⟩

end State.SentFrom

theorem State.modPort_sentFrom (s : State) (p : Nat) (g : Port → Port) : s.SentFrom (s.modPort p g) := by
  unfold State.modPort
  split <;> exact ⟨rfl, rfl, rfl, rfl, rfl, rfl, rfl, fun _ _ => rfl⟩

theorem State.tdrop_sentFrom (s : State) : s.SentFrom s.tdrop :=
  ⟨rfl, rfl, rfl, rfl, rfl, rfl, rfl, fun o ho => (s.setReg_reg _ o _).trans (if_neg ho)⟩

theorem State.toPort_sentFrom (s : State) (p src : Nat) (m : Msg) : s.SentFrom (s.toPort p src m) := by
  unfold State.toPort State.toPortOn
  split
  · exact s.modPort_sentFrom _ _
  · exact s.tdrop_sentFrom

theorem State.deliver_sentFrom (s : State) (port : Option Nat) (transit : Bool) (m : Msg) : s.SentFrom (s.deliver port transit m) :=
  ⟨rfl, rfl, rfl, rfl, rfl, rfl, rfl, fun _ _ => rfl⟩

theorem foldl_sentFrom {α : Type} {g : State → α → State} (hg : ∀ (t : State) a, t.SentFrom (g t a)) (l : List α) (s : State) :
    s.SentFrom (l.foldl g s) :=
  foldl_keeps (P := s.SentFrom) (fun t a _ h => h.trans (hg t a)) (.refl s)

theorem State.chSend_sentFrom (s : State) (m : Msg) : s.SentFrom (s.chSend m) := by
  unfold State.chSend
  dsimp only
  split
  · have hports := foldl_sentFrom (fun t p => t.toPort_sentFrom p 12 m) (s.mcPorts m.dst) s
    split
    · exact hports.trans (State.deliver_sentFrom _ _ _ _)
    · exact hports
  · split
    · exact s.deliver_sentFrom _ _ _
    · split
      · exact s.tdrop_sentFrom
      · exact s.toPort_sentFrom _ _ _

/-! ## Domain notices -/

theorem execDomainNotice_asks (s : State) (k q : Nat) (x : InMsg) (hnext : s.nextMsg k x) (htransit : x.transit = false)
    (htyp : x.msg.typ = 7) (hsub : x.msg.sub = 1)
    (hq : (List.range 8).find? (fun q => (s.part q).domNow.getLsbD 17 && s.domId q = x.msg.dom) = some q) (hsrc : x.msg.src ≠ s.node)
    (hmods : 1 < s.fld (rCHC_DOMCFG q) 20 8) (hnew : (s.part q).notices.contains (x.msg.f4 16 8, x.msg.src) = false) :
    ∃ t, exec (.domainNotice k) s = .next t ∧ t.inbox = s.inbox.eraseIdx k ∧ (x.msg.f4 16 8, x.msg.src) ∈ (t.part q).notices
      ∧ (t.part q).restReq = (s.part q).restReq ++ (if x.msg.f3 1 0 = 0 then [] else
          [(x.msg.f4 16 8 + (s.part q).lag, decide (x.msg.f3 1 1 = 1))]) ∧ t.cores = s.cores ∧ t.regs = s.regs := by
  obtain ⟨u, hu⟩ : ∃ u, u = s.without k := ⟨_, rfl⟩
  have hpart : u.part q = s.part q := by rw [hu]; rfl
  have hcond : ¬ (x.msg.src = u.node ∨ (u.part q).notices.contains (x.msg.f4 16 8, x.msg.src) = true ∨ u.fld (rCHC_DOMCFG q) 20 8 ≤ 1) := by
    rw [hpart, hnew, show u.node = s.node by rw [hu]; rfl, show u.fld (rCHC_DOMCFG q) 20 8 = s.fld (rCHC_DOMCFG q) 20 8 by rw [hu]; rfl]
    simp only [hsrc, Bool.false_eq_true, false_or, not_le]
    exact hmods
  have hfind : (List.range 8).find? (fun q => (u.part q).domNow.getLsbD 17 && u.domId q = x.msg.dom) = some q := by rw [hu]; exact hq
  obtain ⟨g, hg⟩ : ∃ g : Part → Part, g = fun r =>
      { r with notices := r.notices.filter (fun n => u.frame < n.1 + 32) ++ [(x.msg.f4 16 8, x.msg.src)],
               restReq := r.restReq ++ (if x.msg.f3 1 0 = 0 then [] else [(x.msg.f4 16 8 + r.lag, decide (x.msg.f3 1 1 = 1))]) } := ⟨_, rfl⟩
  have hexec : exec (.domainNotice k) s = .next (u.modPart q g) := by
    show execDomainNotice k s = _
    rw [execDomainNotice, State.takeMsg_of_next hnext (InMsg.is_of htransit htyp hsub), ← hu]
    dsimp only
    rw [hfind]
    dsimp only
    rw [if_neg hcond, hg]
  refine ⟨u.modPart q g, hexec, by rw [hu]; rfl, ?_, ?_, by rw [hu]; rfl, by rw [hu]; rfl⟩
  · rw [State.modPart_part_same, hg]
    exact List.mem_append_right _ (List.mem_singleton.2 rfl)
  · rw [State.modPart_part_same, hg, hpart]

/-! ## Arrivals and releases at a module -/

theorem State.takeBarrier_of_next {s : State} {k sub : Nat} {x : InMsg} {g : Nat → Nat → Msg → State → State} (h : s.nextMsg k x)
    (htransit : x.transit = false) (htyp : x.msg.typ = 4) (hsub : x.msg.sub = sub) (hpod : s.isPod (x.msg.f3 5 0) = true)
    (hdom : s.domId (s.barPart (x.msg.f3 5 0)) = x.msg.dom) :
    s.takeBarrier k sub g = g (x.msg.f3 5 0) (x.msg.f3 31 16) x.msg ((s.without k).touch (s.barPart (x.msg.f3 5 0))) := by
  rw [State.takeBarrier, State.takeMsg_of_next h (InMsg.is_of htransit htyp hsub)]
  exact if_pos ⟨hpod, hdom⟩

theorem execPodBarrierArrival_counts (s : State) (k : Nat) (x : InMsg) (hnext : s.nextMsg k x) (htransit : x.transit = false)
    (htyp : x.msg.typ = 4) (hsub : x.msg.sub = 0) (hpod : s.isPod (x.msg.f3 5 0) = true)
    (hdom : s.domId (s.barPart (x.msg.f3 5 0)) = x.msg.dom) (hhome : s.fld (rGLB_BARPOD (x.msg.f3 5 0)) 11 0 = s.node)
    (hround : x.msg.f3 31 16 = mapGet 0 s.rounds (128 + x.msg.f3 5 0) % 65536) :
    ∃ t, exec (.podBarrierArrival k) s = .next t ∧ t.inbox = s.inbox.eraseIdx k
      ∧ t.fld (rGLB_BARPCUR (x.msg.f3 5 0)) 12 0 = (s.fld (rGLB_BARPCUR (x.msg.f3 5 0)) 12 0 + 1) % 2 ^ 13
      ∧ t.fld (rGLB_BARPCUR (x.msg.f3 5 0)) 28 16 = s.fld (rGLB_BARPCUR (x.msg.f3 5 0)) 28 16 := by
  obtain ⟨n, hn⟩ : ∃ n, n = x.msg.f3 5 0 := ⟨_, rfl⟩
  rw [← hn] at hpod hdom hhome hround ⊢
  obtain ⟨u, hu⟩ : ∃ u, u = (s.without k).touch (s.barPart n) := ⟨_, rfl⟩
  have hexec : exec (.podBarrierArrival k) s = .next (u.setFld (rGLB_BARPCUR n) 12 0 (u.fld (rGLB_BARPCUR n) 12 0 + 1)) := by
    show execPodBarrierArrival k s = _
    rw [execPodBarrierArrival, State.takeBarrier_of_next hnext htransit htyp hsub (by rwa [← hn]) (by rwa [← hn]), ← hn, ← hu]
    have hhome' : u.fld (rGLB_BARPOD n) 11 0 = u.node := by rw [hu]; exact hhome
    have hround' : x.msg.f3 31 16 = mapGet 0 u.rounds (128 + n) % 65536 := by rw [hu]; exact hround
    rw [if_pos hhome', State.podArrive]
    exact congrArg _ (if_pos hround')
  have hfld (h l : Nat) : u.fld (rGLB_BARPCUR n) h l = s.fld (rGLB_BARPCUR n) h l := by rw [hu]; rfl
  refine ⟨_, hexec, by rw [State.setFld_inbox, hu]; rfl, ?_, ?_⟩
  · rw [State.setFld_fld_same _ _ _ _ _ (by decide), hfld]
  · rw [State.setFld_fld_disjoint _ _ _ _ _ _ _ (by decide) (by decide), hfld]

theorem State.holdRelease_early {s : State} {n f round : Nat} (h : s.frame < f) :
    s.holdRelease n f round = { s with podRel := s.podRel ++ [(n, f, round)] } := by
  have hlate : (decide (f < s.frame) || (decide (f = s.frame) && decide (s.cycle ≥ s.winCy 1280))) = false := by
    simp [Nat.not_lt.2 (Nat.le_of_lt h), Nat.ne_of_gt h]
  rw [State.holdRelease, hlate]
  rfl

theorem execPodBarrierRelease_holds (s : State) (k : Nat) (x : InMsg) (hnext : s.nextMsg k x) (htransit : x.transit = false)
    (htyp : x.msg.typ = 4) (hsub : x.msg.sub = 1) (hpod : s.isPod (x.msg.f3 5 0) = true)
    (hdom : s.domId (s.barPart (x.msg.f3 5 0)) = x.msg.dom)
    (hnew : ∀ e, e ∈ s.podRel → e.1 = x.msg.f3 5 0 → e.2.2 ≠ x.msg.f3 31 16) (hearly : s.frame < x.msg.f4 16 8) :
    ∃ t, exec (.podBarrierRelease k) s = .next t ∧ t.inbox = s.inbox.eraseIdx k
      ∧ t.podRel = s.podRel ++ [(x.msg.f3 5 0, x.msg.f4 16 8, x.msg.f3 31 16)] ∧ t.regs = s.regs := by
  obtain ⟨u, hu⟩ : ∃ u, u = (s.without k).touch (s.barPart (x.msg.f3 5 0)) := ⟨_, rfl⟩
  have hrel : u.podRel = s.podRel := by rw [hu]; rfl
  have hnone : u.podRel.any (fun e => e.1 = x.msg.f3 5 0 && e.2.2 = x.msg.f3 31 16) = false := by
    rw [hrel]
    simpa using hnew
  have hframe : u.frame < x.msg.f4 16 8 := by rw [hu]; exact hearly
  have hexec : exec (.podBarrierRelease k) s = .next (u.holdRelease (x.msg.f3 5 0) (x.msg.f4 16 8) (x.msg.f3 31 16)) := by
    show execPodBarrierRelease k s = _
    rw [execPodBarrierRelease, State.takeBarrier_of_next hnext htransit htyp hsub hpod hdom, ← hu, hnone]
    rfl
  rw [State.holdRelease_early hframe] at hexec
  exact ⟨_, hexec, by rw [hu]; rfl, by rw [← hrel], by rw [hu]; rfl⟩

/-! ## The release at the home, and its frame -/

theorem execPodReleaseDecision_releases (s : State) (n : Fin 64) (hpod : s.isPod n.val = true)
    (hhome : s.fld (rGLB_BARPOD n.val) 11 0 = s.node) (hmods : s.fld (rGLB_BARPOD n.val) 28 16 ≠ 0)
    (hfull : s.fld (rGLB_BARPOD n.val) 28 16 ≤ s.fld (rGLB_BARPCUR n.val) 12 0)
    (hnew : ∀ e, e ∈ s.podRel → e.1 = n.val → e.2.2 ≠ mapGet 0 s.rounds (128 + n.val) % 65536) :
    ∃ t, exec (.podReleaseDecision n) s = .next t ∧ t.podRel = s.podRel ++
      [(n.val, s.frame + s.fld (rGLB_BARPOD n.val) 15 12, mapGet 0 s.rounds (128 + n.val) % 65536)] ∧ t.cores = s.cores := by
  have hnone : s.podRel.any (fun e => e.1 = n.val && e.2.2 = mapGet 0 s.rounds (128 + n.val) % 65536) = false := by simpa using hnew
  refine ⟨_, if_pos ⟨hpod, hhome, hmods, hfull, hnone⟩, ?_, ?_⟩
  · exact (State.chSend_sentFrom _ _).podRel
  · exact (State.chSend_sentFrom _ _).cores

/-- The state in which a release of pod barrier n that is held as `e` releases its round. -/
def State.podReleasing (s : State) (n : Nat) (e : Nat × Nat × Nat) : State :=
  { s with cycle := s.winCy 1282, podRel := s.podRel.erase e, barCap := mapErase s.barCap (128 + n) }

theorem State.releaseRound_podRel (s : State) (b : Nat) (hb : b < 192) : (s.releaseRound b).podRel = s.podRel := by
  rw [State.releaseRound_eq s b hb, State.withCores]
  rfl

theorem State.podNext_reg (s : State) (n o : Nat) (ho : o ≠ rGLB_BARPCUR n) : (s.podNext n).reg o = s.reg o := by
  unfold State.podNext
  split
  · rw [State.setReg_reg, if_neg ho]
  · rfl
theorem State.podNext_rounds (s : State) (n : Nat) : (s.podNext n).rounds = s.rounds := by unfold State.podNext; split <;> rfl
theorem State.podNext_podRel (s : State) (n : Nat) : (s.podNext n).podRel = s.podRel := by unfold State.podNext; split <;> rfl

theorem barStatReg_ne_pcur (b n : Nat) (hb : 128 ≤ b) (hn : n < 64) : barStatReg b ≠ rGLB_BARPCUR n := by
  simp only [barStatReg, rDIE_BARSTAT, rGLB_BARSTAT, rGLB_BARPCUR]
  split <;> omega

theorem execPodReleaseApply_releases (s : State) (n : Fin 64) (e : Nat × Nat × Nat) (he : e ∈ s.podRel) (hn : e.1 = n.val)
    (hround : e.2.2 = mapGet 0 s.rounds (128 + n.val) % 65536) (hdue : e.2.1 ≤ s.frame) :
    ∃ t, exec (.podReleaseApply n) s = .next t ∧ mapGet 0 t.rounds (128 + n.val) = mapGet 0 s.rounds (128 + n.val) + 1
      ∧ t.fld (barStatReg (128 + n.val)) 6 0 = s.fld (barStatReg (128 + n.val)) 14 8
      ∧ t.podRel.length + 1 = s.podRel.length := by
  have hb : 128 + n.val < 192 := by omega
  obtain ⟨d, hd⟩ : ∃ d, s.podRel.find?
      (fun e => e.1 = n.val && e.2.2 = mapGet 0 s.rounds (128 + n.val) % 65536 && decide (e.2.1 ≤ s.frame)) = some d :=
    Option.isSome_iff_exists.1 (List.find?_isSome.2 ⟨e, he, by simp [hn, hround, hdue]⟩)
  obtain ⟨u, hu⟩ : ∃ u, u = s.podReleasing n.val d := ⟨_, rfl⟩
  have hexec : exec (.podReleaseApply n) s = .next ((u.releaseRound (128 + n.val)).podNext n.val) := by
    show execPodReleaseApply n s = _
    unfold execPodReleaseApply
    dsimp only
    rw [hd, hu]
    rfl
  refine ⟨_, hexec, ?_, ?_, ?_⟩
  · rw [State.podNext_rounds, State.releaseRound_round u _ hb, hu]
    rfl
  · rw [State.fld, State.podNext_reg _ _ _ (barStatReg_ne_pcur _ _ (by omega) n.isLt), ← State.fld, State.releaseRound_cur u _ hb, hu]
    rfl
  · have hmem : d ∈ s.podRel := List.mem_of_find?_eq_some hd
    have hpos : 0 < s.podRel.length := List.length_pos_of_mem hmem
    have herase : u.podRel = s.podRel.erase d := by rw [hu]; rfl
    rw [State.podNext_podRel, State.releaseRound_podRel u _ hb, herase, List.length_erase_of_mem hmem]
    omega

/-- Settles O47: the notice, the arrival and the release as messages, the home's decision, and the release in its frame. -/
theorem podBarriers : Obligations.PodBarriers := by
  refine fun s => ⟨execDomainNotice_asks s, ?_, execPodReleaseDecision_releases s, execPodReleaseApply_releases s⟩
  rintro k n x hnext htransit htyp rfl hpod hdom
  exact ⟨fun hsub hhome hround => execPodBarrierArrival_counts s k x hnext htransit htyp hsub hpod hdom hhome hround,
    fun hsub hnew hearly => execPodBarrierRelease_holds s k x hnext htransit htyp hsub hpod hdom hnew hearly⟩

end Sys2Proof.Machine
end
section
/-!
# O26: table loads, table swaps and instruction-buffer loads (R46, R148, R149, R151, R216)

TLOAD and IBLOAD are bodies of an issue that each work in one member's core, and draw from one counter of the state besides. A line
arrives in the buffer, and a line of device memory is translated and read without a change of the memory.
-/
namespace Sys2Proof.Machine

/-! ## Bytes and masks -/

theorem leBytes_leNat (l : List Byte) : leBytes l.length (leNat l) = l := by
  induction l with
  | nil => rfl
  | cons b l ih =>
    have hdiv : (b.toNat + 256 * leNat l) / 256 = leNat l := by omega
    have hlow : BitVec.ofNat 8 (b.toNat + 256 * leNat l) = b := by
      refine BitVec.eq_of_toNat_eq ?_
      rw [BitVec.toNat_ofNat]
      omega
    rw [List.length_cons, leNat, leBytes, hdiv, hlow, ih]

theorem maskSet_getLsbD {w : Nat} (m : BitVec w) (b i : Nat) (v : Bool) (hb : b < w) :
    (maskSet m b v).getLsbD i = if i = b then v else m.getLsbD i := by
  have hbit : (BitVec.ofNat w (2 ^ b)).getLsbD i = decide (i = b) := by
    rw [BitVec.getLsbD_ofNat, Nat.testBit_two_pow]
    by_cases h : b = i
    · simp [← h, hb]
    · simp [h, Ne.symm h]
  unfold maskSet
  generalize BitVec.ofNat w (2 ^ b) = p at hbit ⊢
  by_cases h : i = b
  · subst h
    cases v <;> simp [hbit, hb]
  · cases v
    · simp only [Bool.false_eq_true, if_false, BitVec.getLsbD_and, BitVec.getLsbD_not, hbit, h, decide_false, Bool.not_false, Bool.and_true]
      by_cases hi : i < w
      · simp [hi]
      · simp [hi, BitVec.getLsbD_of_ge m i (by omega)]
    · simp [hbit, h]

theorem foldl_maskSet_false {α : Type} (g : α → Nat) (l : List α) (hg : ∀ a, a ∈ l → g a < 64) (v : BitVec 64) (i : Nat)
    (h : v.getLsbD i = false ∨ ∃ a, a ∈ l ∧ g a = i) : (l.foldl (fun v a => maskSet v (g a) false) v).getLsbD i = false := by
  induction l generalizing v with
  | nil =>
    rcases h with h | ⟨a, ha, -⟩
    · exact h
    · simp at ha
  | cons a l ih =>
    refine ih (fun x hx => hg x (List.mem_cons_of_mem _ hx)) _ ?_
    rw [maskSet_getLsbD _ _ _ _ (hg a List.mem_cons_self)]
    by_cases hi : i = g a
    · exact .inl (if_pos hi)
    · rw [if_neg hi]
      rcases h with h | ⟨x, hx, hxi⟩
      · exact .inl h
      · rcases List.mem_cons.1 hx with rfl | hx
        · exact absurd hxi.symm hi
        · exact .inr ⟨x, hx, hxi⟩

/-! ## Bodies that work in one member's core -/

/-- An operation on a core that leaves every other core. -/
def CoreOp (g : Fin 96 → State → State) : Prop := ∀ s m d, d ≠ m → (g m s).core d = s.core d

/-- The turn of core m among operations on distinct cores: the state that it finds has m as it was, and what every turn keeps. -/
theorem CoreOp.foldl_turn {g : Fin 96 → State → State} (hg : CoreOp g) {l : List (Fin 96)} (hl : l.Nodup) {R : State → Prop}
    (hR : ∀ t m, R t → R (g m t)) {s : State} (h : R s) {m : Fin 96} (hm : m ∈ l) :
    ∃ t, R t ∧ t.core m = s.core m ∧ (l.foldl (fun s m => g m s) s).core m = (g m t).core m := by
  exact foldl_at hl (fun t b _ => hR t b) (fun t => t.core m) hm (fun t b _ hne _ => hg t b m (Ne.symm hne)) h

theorem CoreOp.foldl_out {g : Fin 96 → State → State} (hg : CoreOp g) {l : List (Fin 96)} (s : State) {d : Fin 96} (hd : d ∉ l) :
    (l.foldl (fun s m => g m s) s).core d = s.core d :=
  foldl_keeps (P := fun u => u.core d = s.core d) (fun u m hm hu => (hg u m d fun e => hd (e ▸ hm)).trans hu) rfl

/-- What an issue may change outside the cores, where its bodies draw free values. -/
def State.freeEq (s t : State) : Prop := s.looseEq { t with freeCtr := s.freeCtr }

/-- What an issue may change outside the cores, where its bodies draw identifiers. -/
def State.idEq (s t : State) : Prop := s.looseEq { t with nextId := s.nextId }

/-- A relation that what an issue may change outside the cores keeps, as its bodies do. -/
structure Looser (R : State → State → Prop) : Prop where
  loose : ∀ {s t : State}, s.looseEq t → R s t
  trans : ∀ {s t u : State}, R s t → R t u → R s u
  gang : ∀ {s t : State}, R s t → t.gang = s.gang

theorem freeEq_looser : Looser State.freeEq where
  loose h := by
    refine ⟨?_, h.2⟩
    have h₁ := h.1
    rw [← h₁]
  trans h h' := by
    refine ⟨?_, fun o ho => (h'.2 o ho).trans (h.2 o ho)⟩
    have h₁ := h.1
    have h₂ := h'.1
    rw [← h₁]
    rw [← h₂]
  gang h := by rw [← h.1]

theorem idEq_looser : Looser State.idEq where
  loose h := by
    refine ⟨?_, h.2⟩
    have h₁ := h.1
    rw [← h₁]
  trans h h' := by
    refine ⟨?_, fun o ho => (h'.2 o ho).trans (h.2 o ho)⟩
    have h₁ := h.1
    have h₂ := h'.1
    rw [← h₁]
    rw [← h₂]
  gang h := by rw [← h.1]

/-- Operations in turn on distinct cores are those that do the same to each core as it first stands. -/
theorem CoreOp.foldl_congr {g g' : Fin 96 → State → State} (hg : CoreOp g') {s : State} {l : List (Fin 96)} (hl : l.Nodup)
    (h : ∀ m, m ∈ l → ∀ u : State, u.core m = s.core m → g m u = g' m u) {t : State} (ht : ∀ m, m ∈ l → t.core m = s.core m) :
    l.foldl (fun s m => g m s) t = l.foldl (fun s m => g' m s) t := by
  induction l generalizing t with
  | nil => rfl
  | cons m l ih =>
    obtain ⟨hm, hl⟩ := List.nodup_cons.1 hl
    rw [List.foldl_cons, List.foldl_cons, h m List.mem_cons_self t (ht m List.mem_cons_self)]
    refine ih hl (fun d hd => h d (List.mem_cons_of_mem _ hd)) fun d hd => ?_
    rw [hg t m d (fun e => hm (e ▸ hd)), ht d (List.mem_cons_of_mem _ hd)]

/-- An issue whose bodies each work in their member's core and draw from the counters: the frame, and each member's core as its body makes
it of the core that the bundle opened. -/
theorem State.issue_bodies (s : State) (op : Nat) (i : Issue) (f : Fields) (body g : Fin 96 → State → State) (h : s.ready op i f)
    (hbody : ∀ m, m ∈ s.members i.core → ∀ u : State, u.core m = s.openedCore op i m → body m u = g m u)
    (hg : CoreOp g) {R : State → State → Prop} (hR : Looser R) (hgR : ∀ t m, R t (g m t)) :
    ∃ t, s.issue op i f body = .next t ∧ R s t ∧ (∀ c, c ∉ s.members i.core → t.core c = s.core c)
      ∧ ∀ m, m ∈ s.members i.core → ∃ u, u.core m = s.openedCore op i m ∧ ((g m u).core m).sameBundle (t.core m) := by
  obtain ⟨o, ho⟩ : ∃ o, o = s.opened op i := ⟨_, rfl⟩
  have hopened : s.looseEq o := ho ▸ s.opened_loose op i
  have hmem : o.members i.core = s.members i.core := State.looseEq_members hopened i.core
  have hcore : ∀ m, m ∈ s.members i.core → o.core m = s.openedCore op i m := fun m hm => by rw [ho, State.opened_core _ _ _ _ hm]
  obtain ⟨v, hv⟩ : ∃ v, v = o.eachMember i.core body := ⟨_, rfl⟩
  have hvg : v = (o.members i.core).foldl (fun s m => g m s) o := by
    rw [hv]
    refine hg.foldl_congr (o.members_nodup i.core) (fun m hm u hu => ?_) fun _ _ => rfl
    rw [hmem] at hm
    exact hbody m hm u (hu.trans (hcore m hm))
  have hbodies : R o v := by
    rw [hvg]
    exact foldl_keeps (P := R o) (fun t m _ ht => hR.trans ht (hgR t m)) (hR.loose (State.looseEq_refl o))
  have hvmem : v.members i.core = s.members i.core := (State.members_of_gang (hR.gang hbodies) i.core).trans hmem
  refine ⟨v.issueEnd i, ?_, ?_, fun c hc => ?_, fun m hm => ?_⟩
  · rw [hv, ho]
    exact s.issue_ready op i f body h
  · exact hR.trans (hR.loose hopened) (hR.trans hbodies (hR.loose (v.issueEnd_loose i)))
  · rw [State.issueEnd_out _ _ _ (by rw [hvmem]; exact hc), hvg, hg.foldl_out o (by rw [hmem]; exact hc), ho,
      State.opened_out _ _ _ _ hc]
  · obtain ⟨u, -, hu, hend⟩ := hg.foldl_turn (s := o) (o.members_nodup i.core) (R := fun _ => True) (fun _ _ _ => trivial) trivial (hmem ▸ hm)
    refine ⟨u, hu.trans (hcore m hm), ?_⟩
    rw [← hend, ← hvg]
    exact v.issueEnd_core i m

/-! ## TLOAD -/

theorem Core.rs_eq (k : Core) (r : BitVec 5) : k.rs r = k.rd.scalar r := rfl

theorem State.openedCore_rs (s : State) (op : Nat) (i : Issue) (m : Fin 96) (r : BitVec 5) :
    (s.openedCore op i m).rs r = (s.operands i m).scalar r := by rw [Core.rs_eq, State.openedCore_rd]

theorem State.ownRead_core (s : State) (m : Fin 96) (a w : Nat) (d : Fin 96) : (s.ownRead m a w).1.core d = s.core d := by
  unfold State.ownRead
  dsimp only
  split <;> rfl

theorem State.ownRead_freeEq (s : State) (m : Fin 96) (a w : Nat) : s.freeEq (s.ownRead m a w).1 := by
  unfold State.ownRead
  dsimp only
  split <;> exact ⟨rfl, fun _ _ => rfl⟩

/-- A read of own memory that no running transfer writes. -/
theorem State.ownRead_settled (s : State) (m : Fin 96) (a w : Nat) (h : ∀ x, x ∈ (s.core m).xfers → x.running = false) :
    (s.ownRead m a w).2 = (leNat ((s.core m).lmRead a w), (s.core m).lmPoison a w) := by
  have hnone : ((s.core m).xfers.filter (·.running)).map (fun x => (s.xferRun m x none).1.core m) = [] := by
    rw [List.map_eq_nil_iff, List.filter_eq_nil_iff]
    intro x hx
    simp [h x hx]
  unfold State.ownRead
  dsimp only
  rw [if_pos hnone]

/-- The entry that TLOAD makes of what it read. -/
def tloadEntry (f : Fields) (k : Core) (opw : Nat) (r : Nat × Bool) : TLoad :=
  { slot := f.dst.toNat, table := { image := leBytes tableBytes r.1, poison := r.2 }, block := k.blockNo, opw := opw }

theorem tloadEntry_image (f : Fields) (k : Core) (opw : Nat) (r : Nat × Bool) :
    (tloadEntry f k opw r).table.image = leBytes tableBytes r.1 := rfl

theorem tloadEntry_poison (f : Fields) (k : Core) (opw : Nat) (r : Nat × Bool) : (tloadEntry f k opw r).table.poison = r.2 := rfl

/-- TLOAD for member m, where nothing faults. -/
def State.tloadTake (f : Fields) (m : Fin 96) (s : State) : State :=
  let r := s.ownRead m ((s.core m).rs f.a).toNat tableBytes
  r.1.modCore m (fun k => { k with tloads := k.tloads ++ [tloadEntry f (s.core m) (s.opOf m 0xCA) r.2] })

theorem tloadTake_coreOp (f : Fields) : CoreOp (State.tloadTake f) := fun s m d hd => by
  rw [State.tloadTake, State.modCore_core, if_neg hd, State.ownRead_core]

theorem State.tloadTake_freeEq (f : Fields) (s : State) (m : Fin 96) : s.freeEq (s.tloadTake f m) :=
  freeEq_looser.trans (s.ownRead_freeEq m _ _) (freeEq_looser.loose (State.modCore_loose _ _ _))

theorem State.tloadTake_core (f : Fields) (s : State) (m : Fin 96) :
    (s.tloadTake f m).core m = { s.core m with tloads := (s.core m).tloads ++
      [tloadEntry f (s.core m) (s.opOf m 0xCA) (s.ownRead m ((s.core m).rs f.a).toNat tableBytes).2] } := by
  rw [State.tloadTake, State.modCore_core, if_pos rfl, State.ownRead_core]

theorem Core.sameBundle.withTloads {k k' : Core} (h : k.sameBundle k') (l : List TLoad) :
    Core.sameBundle { k with tloads := l } { k' with tloads := l } := by
  unfold Core.sameBundle at h ⊢
  exact congrArg (fun k : Core => { k with tloads := l }) h

theorem Core.sameBundle.tloads_eq {k k' : Core} (h : k.sameBundle k') : k'.tloads = k.tloads := by rw [← h]

theorem Core.sameBundle.blockNo_eq {k k' : Core} (h : k.sameBundle k') : k'.blockNo = k.blockNo := by rw [← h]

theorem Core.sameBundle.xfers_eq {k k' : Core} (h : k.sameBundle k') : k'.xfers = k.xfers := by rw [← h]

theorem Core.sameBundle.lmRead_eq {k k' : Core} (h : k.sameBundle k') (a n : Nat) : k'.lmRead a n = k.lmRead a n := by
  rw [← h]
  rfl

theorem Core.sameBundle.lmPoison_eq {k k' : Core} (h : k.sameBundle k') (a n : Nat) : k'.lmPoison a n = k.lmPoison a n := by
  rw [← h]
  rfl

/-- A core that took one table load more differs in that from what it was. -/
theorem Core.sameBundle_append_tload {k o t : Core} {e : TLoad} (ho : k.sameBundle o)
    (ht : Core.sameBundle { o with tloads := o.tloads ++ [e] } t) :
    t.tloads = k.tloads ++ [e] ∧ k.sameBundle { t with tloads := k.tloads } := by
  have htt : t.tloads = o.tloads ++ [e] := ht.tloads_eq
  refine ⟨by rw [htt, ho.tloads_eq], Core.sameBundle_trans ho ?_⟩
  rw [← ho.tloads_eq]
  exact ht.withTloads o.tloads

theorem execTload_loads (s : State) (i : Issue) (f : Fields) (h : s.ready 0xCA i f)
    (hin : ∀ m, m ∈ s.members i.core → ((s.operands i m).scalar f.a).toNat % 64 = 0
      ∧ ((s.operands i m).scalar f.a).toNat + tableBytes ≤ lmEnd) :
    ∃ t, exec (.tload i f) s = .next t ∧ s.issueFrame { t with freeCtr := s.freeCtr } i ∧ ∀ m, m ∈ s.members i.core →
      (∃ e, (t.core m).tloads = (s.core m).tloads ++ [e] ∧ e.slot = f.dst.toNat ∧ e.block = (s.core m).blockNo
        ∧ ((∀ x, x ∈ (s.core m).xfers → x.running = false) →
          e.table.image = (s.core m).lmRead ((s.operands i m).scalar f.a).toNat tableBytes
          ∧ e.table.poison = (s.core m).lmPoison ((s.operands i m).scalar f.a).toNat tableBytes))
      ∧ (s.core m).sameBundle { t.core m with tloads := (s.core m).tloads } := by
  have hbody : ∀ m, m ∈ s.members i.core → ∀ u : State, u.core m = s.openedCore 0xCA i m →
      (if ((u.core m).rs f.a).toNat ≥ lmEnd ∨ ((u.core m).rs f.a).toNat + tableBytes > lmEnd then u.layFault m 2 0 (u.opOf m 0xCA)
      else if ((u.core m).rs f.a).toNat % 64 ≠ 0 then u.tblFault m 3 f.dst.toNat (u.opOf m 0xCA)
      else u.tloadTake f m) = u.tloadTake f m := by
    intro m hm u hu
    obtain ⟨halign, hend⟩ := hin m hm
    have hrs : (u.core m).rs f.a = (s.operands i m).scalar f.a := by rw [hu, State.openedCore_rs]
    have hpos : 0 < tableBytes := by decide
    rw [hrs, if_neg (by omega), if_neg (by omega)]
  obtain ⟨t, ht, hframe, hout, hturn⟩ :=
    s.issue_bodies 0xCA i f _ (fun m u => u.tloadTake f m) h hbody (tloadTake_coreOp f) freeEq_looser (State.tloadTake_freeEq f)
  refine ⟨t, ht, ⟨hframe.1, hframe.2, hout⟩, fun m hm => ?_⟩
  obtain ⟨u, hu, hsame⟩ := hturn m hm
  have hopen : (s.core m).sameBundle (u.core m) := by rw [hu]; exact s.openedCore_same 0xCA i m
  rw [State.tloadTake_core] at hsame
  obtain ⟨htl, hrest⟩ := Core.sameBundle_append_tload hopen hsame
  refine ⟨⟨_, htl, rfl, hopen.blockNo_eq, fun hidle => ?_⟩, hrest⟩
  have hrs : (u.core m).rs f.a = (s.operands i m).scalar f.a := by rw [hu, State.openedCore_rs]
  have hread := u.ownRead_settled m ((u.core m).rs f.a).toNat tableBytes (by rwa [hopen.xfers_eq])
  have hlen : ((s.core m).lmRead ((s.operands i m).scalar f.a).toNat tableBytes).length = tableBytes := by
    simp [Core.lmRead, Store.getN]
  have himage := leBytes_leNat ((s.core m).lmRead ((s.operands i m).scalar f.a).toNat tableBytes)
  rw [hlen] at himage
  rw [tloadEntry_image, tloadEntry_poison, hread, hrs, hopen.lmRead_eq, hopen.lmPoison_eq]
  dsimp only
  exact ⟨himage, Eq.refl _⟩

/-! ## IBLOAD -/

/-- The lines that IBLOAD names, in order. -/
def ibLines (f : Fields) (uid a opw : Nat) : List IbLoad :=
  (List.range (f.m 11 6 + 1)).map (fun j => { uid := uid, line := (f.m 5 0 + j) % 64, dev := f.mb 12, addr := a + 1024 * j, opw := opw })

/-- A core with these lines invalid and under way. -/
def Core.ibTake (k : Core) (ls : List IbLoad) : Core :=
  { k with ibValid := ls.foldl (fun (v : BitVec 64) (l : IbLoad) => maskSet v l.line false) k.ibValid, ibLoads := k.ibLoads ++ ls }

/-- The buffer of core m takes the lines that IBLOAD names. -/
def State.ibLoad (f : Fields) (m : Fin 96) (s : State) : State :=
  { s with nextId := s.nextId + 1 }.modCore m (fun k => k.ibTake (ibLines f s.nextId ((s.core m).rs f.a).toNat (s.opOf m 0xCB)))

/-- IBLOAD for member m, where nothing faults: the leader's buffer takes the lines. -/
def State.ibTake (f : Fields) (lead m : Fin 96) (s : State) : State := if m ≠ lead then s else s.ibLoad f m

theorem ibTake_coreOp (f : Fields) (lead : Fin 96) : CoreOp (State.ibTake f lead) := fun s m d hd => by
  unfold State.ibTake
  split
  · rfl
  · rw [State.ibLoad, State.modCore_core, if_neg hd]
    rfl

theorem State.ibTake_idEq (f : Fields) (lead : Fin 96) (s : State) (m : Fin 96) : s.idEq (s.ibTake f lead m) := by
  unfold State.ibTake
  split
  · exact idEq_looser.loose (State.looseEq_refl s)
  · exact ⟨rfl, fun _ _ => rfl⟩

theorem State.ibTake_core_lead (f : Fields) (lead : Fin 96) (s : State) : (s.ibTake f lead lead).core lead =
    (s.core lead).ibTake (ibLines f s.nextId ((s.core lead).rs f.a).toNat (s.opOf lead 0xCB)) := by
  rw [State.ibTake, if_neg (not_not.2 rfl), State.ibLoad, State.modCore_core, if_pos rfl]
  rfl

/-- The cores differ in the bundle in progress and the buffer's lines. -/
theorem Core.sameBundle.withIb {k k' : Core} (h : k.sameBundle k') (v : BitVec 64) (l : List IbLoad) :
    Core.sameBundle { k with ibValid := v, ibLoads := l } { k' with ibValid := v, ibLoads := l } := by
  unfold Core.sameBundle at h ⊢
  exact congrArg (fun k : Core => { k with ibValid := v, ibLoads := l }) h

theorem Core.sameBundle.ibValid_eq {k k' : Core} (h : k.sameBundle k') : k'.ibValid = k.ibValid := by rw [← h]

theorem Core.sameBundle.ibLoads_eq {k k' : Core} (h : k.sameBundle k') : k'.ibLoads = k.ibLoads := by rw [← h]

theorem mem_ibLines {f : Fields} {uid a opw j : Nat} (hj : j ≤ f.m 11 6) :
    { uid := uid, line := (f.m 5 0 + j) % 64, dev := f.mb 12, addr := a + 1024 * j, opw := opw } ∈ ibLines f uid a opw :=
  List.mem_map.2 ⟨j, List.mem_range.2 (by omega), rfl⟩

theorem ibLines_line_lt {f : Fields} {uid a opw : Nat} : ∀ l, l ∈ ibLines f uid a opw → l.line < 64 := fun l hl => by
  obtain ⟨j, -, rfl⟩ := List.mem_map.1 hl
  exact Nat.mod_lt _ (by decide)

/-- A core whose buffer takes lines differs in that from what it was. -/
theorem Core.sameBundle_ibTake {k o t : Core} {ls : List IbLoad} (ho : k.sameBundle o) (ht : (o.ibTake ls).sameBundle t) :
    t.ibValid = ls.foldl (fun (v : BitVec 64) (l : IbLoad) => maskSet v l.line false) k.ibValid ∧ t.ibLoads = k.ibLoads ++ ls
      ∧ k.sameBundle { t with ibValid := k.ibValid, ibLoads := k.ibLoads } := by
  refine ⟨?_, ?_, Core.sameBundle_trans ho ?_⟩
  · rw [← ho.ibValid_eq]
    exact ht.ibValid_eq
  · rw [← ho.ibLoads_eq]
    exact ht.ibLoads_eq
  · rw [← ho.ibValid_eq, ← ho.ibLoads_eq]
    exact ht.withIb o.ibValid o.ibLoads

theorem execIbload_loads (s : State) (i : Issue) (f : Fields) (h : s.ready 0xCB i f)
    (halign : ((s.operands i i.core).scalar f.a).toNat % 64 = 0)
    (hend : f.mb 12 = false → ((s.operands i i.core).scalar f.a).toNat + 1024 * (f.m 11 6 + 1) ≤ lmEnd) :
    ∃ t, exec (.ibload i f) s = .next t ∧ s.slotFrame t i
      ∧ (∀ j, j ≤ f.m 11 6 → (t.core i.core).ibValid.getLsbD ((f.m 5 0 + j) % 64) = false
        ∧ ∃ l, l ∈ (t.core i.core).ibLoads ∧ l.line = (f.m 5 0 + j) % 64 ∧ l.dev = f.mb 12
          ∧ l.addr = ((s.operands i i.core).scalar f.a).toNat + 1024 * j)
      ∧ (s.core i.core).sameBundle { t.core i.core with ibValid := (s.core i.core).ibValid, ibLoads := (s.core i.core).ibLoads }
      ∧ ∀ m, m ∈ s.members i.core → m ≠ i.core → (s.core m).sameBundle (t.core m) := by
  have hbody : ∀ m, m ∈ s.members i.core → ∀ u : State, u.core m = s.openedCore 0xCB i m →
      (if m ≠ i.core then u
      else if ((u.core m).rs f.a).toNat % 64 ≠ 0 then u.seqFault m 5 3 (u.opOf m 0xCB)
      else if (!f.mb 12 && decide (((u.core m).rs f.a).toNat + 1024 * (f.m 11 6 + 1) > lmEnd)) = true then u.layFault m 2 0 (u.opOf m 0xCB)
      else u.ibLoad f m) = u.ibTake f i.core m := by
    intro m hm u hu
    by_cases hlead : m = i.core
    · subst hlead
      have hrs : (u.core i.core).rs f.a = (s.operands i i.core).scalar f.a := by rw [hu, State.openedCore_rs]
      have hfits : ¬ (!f.mb 12 && decide (((s.operands i i.core).scalar f.a).toNat + 1024 * (f.m 11 6 + 1) > lmEnd)) = true := by
        simpa using hend
      rw [hrs, if_neg (not_not.2 rfl), if_neg (not_not.2 halign), if_neg hfits, State.ibTake, if_neg (not_not.2 rfl)]
    · rw [if_pos hlead, State.ibTake, if_pos hlead]
  obtain ⟨t, ht, hframe, hout, hturn⟩ :=
    s.issue_bodies 0xCB i f _ (fun m u => u.ibTake f i.core m) h hbody (ibTake_coreOp f i.core) idEq_looser (State.ibTake_idEq f i.core)
  obtain ⟨u, hu, hsame⟩ := hturn i.core (s.leader_mem_members i.core)
  have hopen : (s.core i.core).sameBundle (u.core i.core) := by rw [hu]; exact s.openedCore_same 0xCB i i.core
  rw [State.ibTake_core_lead, hu, State.openedCore_rs, ← hu] at hsame
  obtain ⟨hvalid, hloads, hrest⟩ := Core.sameBundle_ibTake hopen hsame
  refine ⟨t, ht, ⟨hframe.1, hframe.2, hout⟩, fun j hj => ⟨?_, ?_⟩, hrest, fun m hm hne => ?_⟩
  · rw [hvalid]
    exact foldl_maskSet_false IbLoad.line _ ibLines_line_lt _ _ (.inr ⟨_, mem_ibLines hj, rfl⟩)
  · rw [hloads]
    exact ⟨_, List.mem_append_right _ (mem_ibLines hj), rfl, rfl, rfl⟩
  · obtain ⟨v, hv, hsame⟩ := hturn m hm
    rw [State.ibTake, if_pos hne, hv] at hsame
    exact Core.sameBundle_trans (s.openedCore_same 0xCB i m) hsame

/-! ## A table load completes, and tables swap -/

theorem execTloadComplete_completes (s : State) (c : Fin 96) (cy : Nat) (e : TLoad) (r : List TLoad) (h : (s.core c).tloads = e :: r)
    (hok : e.table.ok = true) :
    ∃ t, exec (.tloadComplete c cy) s = .next t ∧ s.onlyCore { t with cycle := s.cycle } c
      ∧ ((t.core c).tslot e.slot).shadow = some e.table ∧ ((t.core c).tslot e.slot).pend = true
      ∧ ((t.core c).tslot e.slot).active = ((s.core c).tslot e.slot).active
      ∧ { t.core c with tloads := e :: r, tslots := (s.core c).tslots } = s.core c := by
  obtain ⟨u, hu⟩ : ∃ u : TSlot, u =
      { (s.core c).tslot e.slot with shadow := some e.table, pend := true, doneAt := 1300 * s.frame + cy, block := e.block } := ⟨_, rfl⟩
  obtain ⟨v, hv⟩ : ∃ v : State, v = { s with cycle := cy } := ⟨_, rfl⟩
  have hvcore (d : Fin 96) : v.core d = s.core d := by rw [hv]; rfl
  obtain ⟨t, ht⟩ : ∃ t, t = (v.modCore c (fun k => { k with tloads := r })).modCore c
      (fun k => { k with tslots := k.tslots.set (e.slot % 8) u (Nat.mod_lt _ (by decide)) }) := ⟨_, rfl⟩
  have hexec : exec (.tloadComplete c cy) s = .next t := by
    show execTloadComplete c cy s = _
    unfold execTloadComplete
    rw [h]
    dsimp only
    rw [hok, ht, hv, hu]
    have hslot : ((State.modCore { s with cycle := cy } c (fun k => { k with tloads := r })).core c).tslot e.slot = (s.core c).tslot e.slot := by
      rw [State.modCore_core, if_pos rfl]
      rfl
    simp only [Bool.not_true, Bool.false_eq_true, if_false, hslot]
    rfl
  have hcore : t.core c = { s.core c with
      tloads := r, tslots := (s.core c).tslots.set (e.slot % 8) u (Nat.mod_lt _ (by decide)) } := by
    rw [ht, State.modCore_core, if_pos rfl, State.modCore_core, if_pos rfl, hvcore]
  have hslot : (t.core c).tslot e.slot = u := by
    rw [hcore]
    simp [Core.tslot]
  refine ⟨t, hexec, ⟨by rw [ht, hv]; rfl, fun d hd => ?_⟩, ?_, ?_, ?_, ?_⟩
  · have hother : t.core d = s.core d := by
      rw [ht, State.modCore_core, if_neg hd, State.modCore_core, if_neg hd, hvcore]
    exact hother
  · rw [hslot, hu]
  · rw [hslot, hu]
  · rw [hslot, hu]
  · rw [hcore, ← h]

/-- The core after the swap of its tables. -/
def Core.swapped (k : Core) (frame : Nat) : Core :=
  if k.tslots.toList.any (·.pend) then { k with tslots := k.tslots.mapIdx (fun i t => k.swap frame i t) } else k

theorem Core.swapped_frame (k : Core) (frame : Nat) : { k.swapped frame with tslots := k.tslots } = k := by
  unfold Core.swapped
  split <;> rfl

theorem Core.swap_settled (k : Core) (frame n : Nat) (t : TSlot) (h : t.pend = false) : k.swap frame n t = t := by
  rw [Core.swap, if_neg]
  simp [h]

theorem Core.swapped_tslots (k : Core) (frame : Nat) (n : Fin 8) : (k.swapped frame).tslots[n] = k.swap frame n.val k.tslots[n] := by
  unfold Core.swapped
  split
  · simp
  · next hnone =>
    have hmem : k.tslots[n] ∈ k.tslots.toList := by simp
    have hpend : k.tslots[n].pend = false := by
      simpa using fun hp => hnone (List.any_eq_true.2 ⟨_, hmem, hp⟩)
    rw [Core.swap_settled _ _ _ _ hpend]

theorem Core.swap_eq (k : Core) (frame : Nat) (n : Fin 8) (t : TSlot) :
    k.swap frame n.val t = if t.pend = true ∧ t.doneAt ≤ 1300 * frame + 1279 ∧ t.block ≤ k.framedNo then
      { t with active := t.shadow, shadow := t.active, pend := false, gen := min (t.gen + 1) 65535 } else t := by
  simp only [Core.swap, n.isLt, and_true]

theorem execTableSwap_swaps (s : State) : ∃ t, exec .tableSwap s = .next t ∧ { t with cores := s.cores, cycle := s.cycle } = s ∧
    ∀ c (n : Fin 8), (t.core c).tslots[n] =
      (if (s.core c).tslots[n].pend = true ∧ (s.core c).tslots[n].doneAt ≤ 1300 * s.frame + 1279
          ∧ (s.core c).tslots[n].block ≤ (s.core c).framedNo then
        { (s.core c).tslots[n] with
          active := (s.core c).tslots[n].shadow, shadow := (s.core c).tslots[n].active, pend := false,
          gen := min ((s.core c).tslots[n].gen + 1) 65535 }
      else (s.core c).tslots[n])
    ∧ { t.core c with tslots := (s.core c).tslots } = s.core c := by
  obtain ⟨u, hu⟩ : ∃ u : State, u = { s with cycle := s.winCy 1285 } := ⟨_, rfl⟩
  have hucore (d : Fin 96) : u.core d = s.core d := by rw [hu]; rfl
  have hexec : exec .tableSwap s = .next (u.withCores (fun d => (u.core d).swapped s.frame)) := by
    rw [← u.eachCore_all (fun k => k.swapped s.frame), hu]
    rfl
  refine ⟨_, hexec, by rw [hu, State.withCores], fun c n => ?_⟩
  rw [State.withCores_core, hucore, Core.swapped_tslots, Core.swap_eq, Core.swapped_frame]
  exact ⟨rfl, rfl⟩

/-! ## Reads of HBM without poison -/

/-- Every one of these addresses lies in HBM. -/
def State.inHbm (s : State) (as : List Nat) : Prop := ∀ a, a ∈ as → ∃ k, s.locate a = .hbm k

theorem State.inHbm_hostKeys {s : State} {as : List Nat} (h : s.inHbm as) : as.filterMap s.hostKeyOf = [] :=
  List.filterMap_eq_nil_iff.2 fun a ha => by
    obtain ⟨k, hk⟩ := h a ha
    simp [State.hostKeyOf, hk]

theorem State.hostAsk_inHbm {s : State} {as : List Nat} (h : s.inHbm as) : s.hostAsk as = s := by
  simp [State.hostAsk, State.inHbm_hostKeys h, lineRuns]

/-- The states hold the same in HBM, with the same placement. -/
structure State.SameHbm (s t : State) : Prop where
  hbm : t.hbm = s.hbm
  pois : t.hbmPois = s.hbmPois
  damage : t.damage = s.damage
  memLines : t.memLines = s.memLines
  hostLines : t.hostLines = s.hostLines
  slwin : t.slwinNow = s.slwinNow

theorem State.SameHbm.clean {s t : State} (h : s.SameHbm t) (hs : s.clean) : t.clean := by
  rw [State.clean, h.damage, h.memLines, h.hostLines]
  exact hs

theorem State.SameHbm.locate {s t : State} (h : s.SameHbm t) (a : Nat) : t.locate a = s.locate a := by
  rw [State.locate, State.locate, State.place, State.place, h.slwin]

/-- What decoding a sector of memory without damage leaves: the memory and the cores, the count of delivered poison apart. -/
def State.decodeStep (x : State × List (Nat × Byte)) (k : Nat) : State × List (Nat × Byte) :=
  let d := x.1.decodeSector k false
  (if mapGet false d.1.hbmPois k then d.1.count (rMC_PREAD (32 * k / 2 ^ 37)) 1 else d.1, x.2 ++ d.2)

theorem State.decodeStep_clean {t : State} (h : t.clean) (k : Nat) :
    State.decodeStep (t, []) k = (if mapGet false t.hbmPois k then t.count (rMC_PREAD (32 * k / 2 ^ 37)) 1 else t, []) := by
  rw [State.decodeStep, State.decodeSector_clean t k false h.1 h.2.1]
  rfl

theorem State.foldl_decodeStep_keeps {s : State} (h : s.clean) (l : List Nat) {t : State} (ht : s.SameHbm t) (hcores : t.cores = s.cores) :
    ∃ u, l.foldl State.decodeStep (t, []) = (u, []) ∧ s.SameHbm u ∧ u.cores = s.cores := by
  induction l generalizing t with
  | nil => exact ⟨t, rfl, ht, hcores⟩
  | cons k l ih =>
    rw [List.foldl_cons, State.decodeStep_clean (ht.clean h)]
    split
    · exact ih ⟨ht.hbm, ht.pois, ht.damage, ht.memLines, ht.hostLines, ht.slwin⟩ hcores
    · exact ih ht hcores

theorem State.foldl_decodeStep_unpoisoned {s : State} (h : s.clean) (l : List Nat) (hp : ∀ k, k ∈ l → mapGet false s.hbmPois k = false) :
    l.foldl State.decodeStep (s, []) = (s, []) := by
  induction l with
  | nil => rfl
  | cons k l ih =>
    rw [List.foldl_cons, State.decodeStep_clean h, hp k List.mem_cons_self]
    exact ih fun q hq => hp q (List.mem_cons_of_mem _ hq)

/-- The byte of HBM at a device address. -/
def State.hbmByte (s : State) (a : Nat) : Byte := match s.locate a with | .hbm k => s.hbm.get k | _ => 0

theorem State.SameHbm.hbmByte {s t : State} (h : s.SameHbm t) (a : Nat) : t.hbmByte a = s.hbmByte a := by
  rw [State.hbmByte, State.hbmByte, h.locate, h.hbm]

theorem State.SameHbm.inHbm {s t : State} (h : s.SameHbm t) {as : List Nat} (ha : s.inHbm as) : t.inHbm as := fun a hm => by
  rw [h.locate]
  exact ha a hm

theorem State.SameHbm.poisAt {s t : State} (h : s.SameHbm t) {as : List Nat} (ha : s.inHbm as) : as.any t.poisAt = as.any s.poisAt := by
  have hat (a : Nat) (hm : a ∈ as) : t.poisAt a = s.poisAt a := by
    obtain ⟨k, hk⟩ := ha a hm
    rw [State.poisAt, State.poisAt, h.locate, hk, h.pois]
  rw [Bool.eq_iff_iff, List.any_eq_true, List.any_eq_true]
  exact exists_congr fun a => and_congr_right fun hm => by rw [hat a hm]

/-- The state and the bytes of a read of HBM, as its decoding leaves them. -/
theorem State.devReadL_inHbm {s u : State} {as : List Nat} (hs : s.clean) (hin : s.inHbm as)
    (hdec : s.hbmDecode (as.filterMap s.hbmKeyOf) = (u, [])) (hu : s.SameHbm u) :
    s.devReadL as = (if as.any s.poisAt then { u with injPois := as.all (fun a => !u.poisAt a || u.injAt a) } else u,
      as.map s.hbmByte, as.any s.poisAt) := by
  unfold State.devReadL
  rw [State.snoop_clean s _ hs.2.2, hdec]
  dsimp only
  rw [State.inHbm_hostKeys (hu.inHbm hin), if_pos rfl, hu.poisAt hin]
  refine Prod.ext rfl (Prod.ext (List.map_congr_left fun a ha => ?_) rfl)
  obtain ⟨k, hk⟩ := hin a ha
  rw [hu.locate, State.hbmByte, hk, hu.hbm]
  simp [mapGet, mapFind]

theorem State.devReadL_keeps {s : State} {as : List Nat} (hs : s.clean) (hin : s.inHbm as) :
    s.SameHbm (s.devReadL as).1 ∧ (s.devReadL as).1.cores = s.cores ∧ (s.devReadL as).2 = (as.map s.hbmByte, as.any s.poisAt) := by
  obtain ⟨u, hdec, hu, hcores⟩ :=
    State.foldl_decodeStep_keeps hs (sectorsOf (as.filterMap s.hbmKeyOf)) ⟨rfl, rfl, rfl, rfl, rfl, rfl⟩ rfl
  rw [State.devReadL_inHbm hs hin hdec hu]
  refine ⟨?_, ?_, rfl⟩ <;> dsimp only <;> split
  · exact ⟨hu.hbm, hu.pois, hu.damage, hu.memLines, hu.hostLines, hu.slwin⟩
  · exact hu
  · exact hcores
  · exact hcores

theorem State.devReadL_unpoisoned {s : State} {as : List Nat} (hs : s.clean) (hin : s.inHbm as) (hp : (s.devReadL as).2.2 = false) :
    (s.devReadL as).1 = s := by
  rw [(State.devReadL_keeps hs hin).2.2] at hp
  dsimp only at hp
  have hsect : ∀ q, q ∈ sectorsOf (as.filterMap s.hbmKeyOf) → mapGet false s.hbmPois q = false := by
    intro q hq
    obtain ⟨k, hk, rfl⟩ := List.mem_map.1 (List.mem_eraseDups.1 hq)
    obtain ⟨a, ha, hak⟩ := List.mem_filterMap.1 hk
    obtain ⟨j, hj⟩ := hin a ha
    have hjk : j = k := by
      rw [State.hbmKeyOf, hj] at hak
      exact Option.some.inj hak
    have hpa : s.poisAt a = false := by simpa using List.any_eq_false.1 hp a ha
    rw [State.poisAt, hj, hjk] at hpa
    exact hpa
  rw [State.devReadL_inHbm hs hin (State.foldl_decodeStep_unpoisoned hs _ hsect) ⟨rfl, rfl, rfl, rfl, rfl, rfl⟩, hp]
  rfl

/-! ## Translation, whatever a core holds -/

theorem State.modCore_sameHbm (s : State) (c : Fin 96) (g : Core → Core) : s.SameHbm (s.modCore c g) := ⟨rfl, rfl, rfl, rfl, rfl, rfl⟩

theorem State.inHbm_range (s : State) {a n : Nat} (h : a + n ≤ hbmEnd) : s.inHbm ((List.range n).map (a + ·)) := fun x hx => by
  obtain ⟨j, hj, rfl⟩ := List.mem_map.1 hx
  have := List.mem_range.1 hj
  exact ⟨_, s.locate_hbm _ (by omega)⟩

/-- A read of HBM that delivers no poison, whatever a core holds. -/
theorem State.devRead_modCore {s : State} (c : Fin 96) (g : Core → Core) (hs : s.clean) {a n : Nat} (h : a + n ≤ hbmEnd)
    (hp : (s.devRead a n).2.2 = false) :
    (s.devRead a n).1 = s ∧ (s.modCore c g).devRead a n = (s.modCore c g, (s.devRead a n).2) := by
  have hin := s.inHbm_range h
  have hkeep := s.modCore_sameHbm c g
  have hread := (State.devReadL_keeps hs hin).2.2
  have hreadu := (State.devReadL_keeps (hkeep.clean hs) (hkeep.inHbm hin)).2.2
  have hsame : ((s.modCore c g).devRead a n).2 = (s.devRead a n).2 := by
    rw [State.devRead, State.devRead, hread, hreadu, hkeep.poisAt hin]
    exact Prod.ext (List.map_congr_left fun x _ => hkeep.hbmByte x) rfl
  refine ⟨State.devReadL_unpoisoned hs hin hp, Prod.ext ?_ hsame⟩
  exact State.devReadL_unpoisoned (hkeep.clean hs) (hkeep.inHbm hin) (by rw [← hp]; exact congrArg Prod.snd hsame)

/-- A walk that ends in an address, whatever a core holds. -/
theorem State.walk_modCore {s : State} (c : Fin 96) (g : Core → Core) (hs : s.clean) {va : Nat} {write : Bool} {fuel lv tbl a : Nat}
    (h : (s.walk va write fuel lv tbl).2 = .ok a) :
    (s.walk va write fuel lv tbl).1 = s ∧ (s.modCore c g).walk va write fuel lv tbl = (s.modCore c g, .ok a) := by
  induction fuel generalizing lv tbl with
  | zero => simp [State.walk] at h
  | succ fuel ih =>
    by_cases hend : tbl + 8 * (va / 2 ^ (39 - 9 * lv) % 512) + 8 > hbmEnd
    · simp [State.walk, hend] at h
    · cases hp : (s.devRead (tbl + 8 * (va / 2 ^ (39 - 9 * lv) % 512)) 8).2.2 with
      | true => simp [State.walk, hend, hp] at h
      | false =>
        obtain ⟨hstate, hmod⟩ := State.devRead_modCore c g hs (Nat.le_of_not_lt hend) hp
        have hleaf : (s.modCore c g).leafOk = s.leafOk := rfl
        simp only [State.walk, hend, hp, hstate, hmod, hleaf, if_false, Bool.false_eq_true] at h ⊢
        -- a branch fails, against `h`, goes on at the next level by `ih`, or ends at the leaf that `h` names
        split_ifs at h ⊢ <;> simp_all

theorem State.translate_modCore {s : State} (c : Fin 96) (g : Core → Core) (hs : s.clean) {p va a : Nat} {write : Bool}
    (h : (s.translate p va write).2 = .ok a) :
    (s.translate p va write).1 = s ∧ (s.modCore c g).translate p va write = (s.modCore c g, .ok a) := by
  have hroot : (s.modCore c g).reg64 (rPART_PTBASE p) = s.reg64 (rPART_PTBASE p) := rfl
  unfold State.translate at h ⊢
  rw [hroot]
  by_cases hva : va ≥ 2 ^ 48
  · rw [if_pos hva] at h
    exact absurd h Xlate.noConfusion
  · rw [if_neg hva] at h ⊢
    rw [if_neg hva]
    dsimp only at h ⊢
    by_cases hbase : s.reg64 (rPART_PTBASE p) % 4096 ≠ 0
    · rw [if_pos hbase] at h
      exact absurd h Xlate.noConfusion
    · rw [if_neg hbase] at h ⊢
      rw [if_neg hbase]
      exact State.walk_modCore c g hs h

theorem State.translateN_modCore {s : State} (c : Fin 96) (g : Core → Core) (hs : s.clean) {p va n : Nat} {as : List Nat} {write : Bool}
    (h : (s.translateN p va n write).2 = .ok as) : (s.modCore c g).translateN p va n write = (s.modCore c g, .ok as) := by
  have hpage {va a : Nat} (ha : (s.translate p va write).2 = .ok a) : s.translate p va write = (s, .ok a)
      ∧ (s.modCore c g).translate p va write = (s.modCore c g, .ok a) :=
    ⟨Prod.ext (State.translate_modCore c g hs ha).1 ha, (State.translate_modCore c g hs ha).2⟩
  cases hfirst : (s.translate p va write).2 with
  | fail =>
    unfold State.translateN at h
    rw [← Prod.eta (s.translate p va write), hfirst] at h
    simp at h
  | poison o =>
    unfold State.translateN at h
    rw [← Prod.eta (s.translate p va write), hfirst] at h
    simp at h
  | ok a =>
    obtain ⟨hsf, huf⟩ := hpage hfirst
    unfold State.translateN at h ⊢
    rw [hsf] at h
    rw [huf]
    dsimp only at h ⊢
    by_cases hone : min n (2 ^ 21 - va % 2 ^ 21) = n
    · rw [if_pos hone] at h ⊢
      exact congrArg _ h
    · rw [if_neg hone] at h ⊢
      cases hsecond : (s.translate p (va + min n (2 ^ 21 - va % 2 ^ 21)) write).2 with
      | fail =>
        rw [← Prod.eta (s.translate p (va + min n (2 ^ 21 - va % 2 ^ 21)) write), hsecond] at h
        simp at h
      | poison o =>
        rw [← Prod.eta (s.translate p (va + min n (2 ^ 21 - va % 2 ^ 21)) write), hsecond] at h
        simp at h
      | ok b =>
        obtain ⟨hss, hus⟩ := hpage hsecond
        rw [hss] at h
        rw [hus]
        exact congrArg _ h

/-! ## The arrival of a line -/

theorem Store.writes_putN (m : Store) (a : Nat) (b : List Byte) : m.writes (m.putN a b) a b := fun x => by
  by_cases hx : a ≤ x ∧ x < a + b.length
  · have hget := Store.get_putN_in b m a (x - a) (by omega)
    rw [Nat.add_sub_cancel' hx.1] at hget
    rw [if_pos hx, hget, List.getD_eq_getElem]
  · rw [if_neg hx, Store.get_putN_out b m a x (by omega)]

/-- The core after line l arrived with bytes b and poison p, and lines r still under way. -/
def Core.lineArrived (k : Core) (l : IbLoad) (r : List IbLoad) (b : List Byte) (p : Bool) (src : Bool × Nat) : Core :=
  ({ k with ibLoads := r } : Core).ibPut l.line b p src

theorem Core.lineArrived_effect (k : Core) (l : IbLoad) (r : List IbLoad) (b : List Byte) (p : Bool) (src : Bool × Nat)
    (hl : k.ibLoads = l :: r) (hline : l.line < 64) :
    k.ib.writes (k.lineArrived l r b p src).ib (1024 * l.line) b ∧ (k.lineArrived l r b p src).ibLoads = r
      ∧ (k.lineArrived l r b p src).ibValid.getLsbD l.line = !(r.any (fun x => x.line = l.line))
      ∧ { k.lineArrived l r b p src with
          ib := k.ib, ibValid := k.ibValid, ibPois := k.ibPois, ibSrc := k.ibSrc, ibLoads := l :: r } = k := by
  refine ⟨k.ib.writes_putN _ _, rfl, ?_, ?_⟩
  · exact (maskSet_getLsbD _ _ _ _ hline).trans (if_pos rfl)
  · rw [← hl]
    rfl

/-- The state as the arrival of line l finds it, the lines r still under way. -/
def State.lineTaken (s : State) (c : Fin 96) (r : List IbLoad) : State := s.modCore c (fun k => { k with ibLoads := r })

theorem State.lineTaken_core (s : State) (c : Fin 96) (r : List IbLoad) (d : Fin 96) :
    (s.lineTaken c r).core d = if d = c then { s.core c with ibLoads := r } else s.core d := by
  rw [State.lineTaken, State.modCore_core]

theorem execIbLineArrival_local {s : State} {c : Fin 96} {l : IbLoad} {r : List IbLoad} (hl : (s.core c).ibLoads = l :: r)
    (hdev : l.dev = false) :
    execIbLineArrival c s = .next ((s.lineTaken c r).modCore c (fun k =>
      k.ibPut l.line (k.lmRead l.addr 1024) (k.lmPoison l.addr 1024) (false, l.addr))) := by
  unfold execIbLineArrival
  rw [hl]
  dsimp only
  rw [hdev]
  rfl

theorem execIbLineArrival_device {s : State} {c : Fin 96} {l : IbLoad} {r : List IbLoad} {as : List Nat}
    (hl : (s.core c).ibLoads = l :: r) (hdev : l.dev = true) (hs : s.clean)
    (has : (s.translateN (s.core c).part l.addr 1024 false).2 = .ok as) (hin : s.inHbm as) :
    execIbLineArrival c s = .next (((s.lineTaken c r).devReadL as).1.modCore c (fun k =>
      k.ibPut l.line ((s.lineTaken c r).devReadL as).2.1 ((s.lineTaken c r).devReadL as).2.2 (true, as.headD 0))) := by
  obtain ⟨u, hu⟩ : ∃ u, u = s.lineTaken c r := ⟨_, rfl⟩
  have hpart : (u.core c).part = (s.core c).part := by
    rw [hu, State.lineTaken_core, if_pos rfl]
    rfl
  have htrans : u.translateN (u.core c).part l.addr 1024 false = (u, .ok as) := by
    rw [hpart, hu]
    exact State.translateN_modCore c _ hs has
  have hask : u.hostAsk as = u := State.hostAsk_inHbm (hu ▸ (s.modCore_sameHbm c _).inHbm hin)
  rw [← hu]
  unfold execIbLineArrival
  rw [hl]
  dsimp only
  rw [hdev, if_pos rfl]
  unfold State.lineTaken at hu
  rw [← hu, htrans]
  dsimp only
  rw [hask]

theorem execIbLineArrival_arrives (s : State) (c : Fin 96) (l : IbLoad) (r : List IbLoad) (b : List Byte) (hl : (s.core c).ibLoads = l :: r)
    (hline : l.line < 64)
    (hb : l.dev = false ∧ b = (s.core c).lmRead l.addr 1024
      ∨ l.dev = true ∧ s.clean ∧ ∃ as, (s.translateN (s.core c).part l.addr 1024 false).2 = .ok as
          ∧ (∀ a, a ∈ as → (s.hbmKeyOf a).isSome = true) ∧ b = (s.devReadL as).2.1) :
    ∃ t, exec (.ibLineArrival c) s = .next t ∧ (s.core c).ib.writes (t.core c).ib (1024 * l.line) b
      ∧ (t.core c).ibLoads = r ∧ (t.core c).ibValid.getLsbD l.line = !(r.any (fun x => x.line = l.line))
      ∧ { t.core c with ib := (s.core c).ib, ibValid := (s.core c).ibValid, ibPois := (s.core c).ibPois, ibSrc := (s.core c).ibSrc,
                        ibLoads := l :: r } = s.core c
      ∧ t.hbm = s.hbm ∧ ∀ d, d ≠ c → t.core d = s.core d := by
  -- the state before the line goes in, and what goes in with it
  have harrives : ∃ (u : State) (p : Bool) (src : Bool × Nat),
      exec (.ibLineArrival c) s = .next (u.modCore c (fun k => k.ibPut l.line b p src))
        ∧ u.cores = (s.lineTaken c r).cores ∧ u.hbm = s.hbm := by
    rcases hb with ⟨hdev, hbyte⟩ | ⟨hdev, hs, as, has, hkeys, hbyte⟩
    · refine ⟨s.lineTaken c r, (s.core c).lmPoison l.addr 1024, (false, l.addr), (execIbLineArrival_local hl hdev).trans ?_, rfl, rfl⟩
      rw [State.modCore, State.modCore, State.lineTaken_core, if_pos rfl, hbyte]
      rfl
    · have hin : s.inHbm as := fun a ha => by
        obtain ⟨k, hk⟩ := Option.isSome_iff_exists.1 (hkeys a ha)
        cases hloc : s.locate a <;> simp_all [State.hbmKeyOf]
      have hkeep : s.SameHbm (s.lineTaken c r) := s.modCore_sameHbm c _
      obtain ⟨hsame, hcores, hread⟩ := State.devReadL_keeps (s := s.lineTaken c r) (hkeep.clean hs) (hkeep.inHbm hin)
      have hbytes : ((s.lineTaken c r).devReadL as).2.1 = (s.devReadL as).2.1 := by
        rw [hread, (State.devReadL_keeps hs hin).2.2]
        exact List.map_congr_left fun a _ => hkeep.hbmByte a
      refine ⟨_, ((s.lineTaken c r).devReadL as).2.2, (true, as.headD 0), (execIbLineArrival_device hl hdev hs has hin).trans ?_, hcores, hsame.hbm.trans rfl⟩
      rw [hbytes, hbyte]
  obtain ⟨u, p, src, hexec, hcores, hhbm⟩ := harrives
  have hcore (d : Fin 96) : u.core d = (s.lineTaken c r).core d := by rw [State.core, hcores, State.core]
  refine ⟨_, hexec, ?_⟩
  rw [State.modCore_core, if_pos rfl, hcore, State.lineTaken_core, if_pos rfl]
  obtain ⟨hwrites, hloads, hvalid, hrest⟩ := (s.core c).lineArrived_effect l r b p src hl hline
  refine ⟨hwrites, hloads, hvalid, hrest, hhbm, fun d hd => ?_⟩
  rw [State.modCore_core, if_neg hd, hcore, State.lineTaken_core, if_neg hd]

/-- Settles O26: the bodies of TLOAD and IBLOAD, a table load's completion, a line's arrival, and the swap. -/
theorem tablesAndBuffer : Obligations.TablesAndBuffer :=
  ⟨⟨fun s i f => ⟨execTload_loads s i f, execIbload_loads s i f⟩, execTloadComplete_completes, execIbLineArrival_arrives⟩,
    execTableSwap_swaps⟩

end Sys2Proof.Machine
end
section
/-!
# O36: issue decisions, late notices, idle gangs and tick messages (R35, R37, R38, R152, R214, R290, R315, R423)

The decision writes cores alone, gang by gang, and each partition then takes its next frame; a partition's turn at the tick message writes
that partition and what a message touches.
-/
namespace Sys2Proof.Machine

/-! ## One gang's decision -/

/-- The states differ in cores alone. -/
def State.coresOnly (s t : State) : Prop := { t with cores := s.cores } = s

theorem State.coresOnly_refl (s : State) : s.coresOnly s := rfl

theorem State.coresOnly.trans {s t u : State} (h : s.coresOnly t) (h' : t.coresOnly u) : s.coresOnly u := by
  unfold State.coresOnly at h h' ⊢
  rw [← h]
  rw [← h']

theorem State.eachMember_coresOnly (s : State) (c : Fin 96) (g : Fin 96 → Core → Core) :
    s.coresOnly (s.eachMember c (fun m s => s.modCore m (g m))) := by
  rw [State.eachMember_modCore, State.coresOnly, State.withCores]

theorem State.coresOnly.regs {s t : State} (h : s.coresOnly t) : t.regs = s.regs := by
  unfold State.coresOnly at h
  rw [← h]
theorem State.coresOnly.gang {s t : State} (h : s.coresOnly t) : t.gang = s.gang := by
  unfold State.coresOnly at h
  rw [← h]
theorem State.coresOnly.part {s t : State} (h : s.coresOnly t) (p : Nat) : t.part p = s.part p := by
  unfold State.coresOnly at h
  rw [← h]
  rfl
theorem State.coresOnly.members {s t : State} (h : s.coresOnly t) (c : Fin 96) : t.members c = s.members c := State.members_of_gang h.gang c

/-- A core after what a hold-rest frame finds missed. -/
def Core.heldCount (k : Core) (q : Part) (f : Nat) : Core := if q.holdRest f then k.countMissed f q.lag else k

/-- Whether a gang whose leader is `k`, and of which a member is deferred or not, is told to start in frame f. -/
def Core.starts (k : Core) (q : Part) (f : Nat) (defer : Bool) : Bool :=
  (!(k.active || k.late) && !k.waitFailed && (!(q.rest f) || (q.holdRest f && decide (k.behind > 0)))) && !defer && !(decide (k.steps = some 0))
    && !k.exiting

/-- A member's core after the decision `start`, its leader being `lead`. -/
def Core.decided (k lead : Core) (q : Part) (f : Nat) (start : Bool) : Core :=
  { k.noteDefer with
    start := start, catchUp := if q.holdRest f then some (start && q.rest f) else none,
    missed := (k.noteDefer.missed ++ (if !start && !lead.first && !lead.exiting && (!(q.rest f) || q.forced.contains f) then [f] else [])).filter
      (fun m => f < m + 16) }

/-- The state after the first half of a decision, in which BEHIND takes what was missed. -/
def State.counted (s : State) (p f : Nat) (c : Fin 96) : State :=
  if (s.part p).holdRest f then s.eachMember c (fun m s' => s'.modCore m (fun k => k.countMissed f (s.part p).lag)) else s

theorem State.counted_coresOnly (s : State) (p f : Nat) (c : Fin 96) : s.coresOnly (s.counted p f c) := by
  unfold State.counted
  split
  · exact s.eachMember_coresOnly c _
  · exact s.coresOnly_refl

theorem State.counted_core (s : State) (p f : Nat) (c m : Fin 96) :
    (s.counted p f c).core m = if m ∈ s.members c then (s.core m).heldCount (s.part p) f else s.core m := by
  unfold State.counted Core.heldCount
  split
  · rw [State.eachMember_core]
  · split <;> rfl

/-- What the decision on the gang that c leads tells it. -/
def State.decision (s : State) (p f : Nat) (c : Fin 96) : Bool :=
  ((s.counted p f c).core c).starts (s.part p) f (((s.counted p f c).members c).any (fun m => ((s.counted p f c).core m).deferred))

theorem State.decide1_eq (s : State) (p f : Nat) (c : Fin 96) : s.decide1 p f c =
    ((s.counted p f c).eachMember c (fun m s => s.modCore m Core.noteDefer)).eachMember c (fun m s' => s'.modCore m (fun k =>
      { k with
        start := s.decision p f c, catchUp := if (s.part p).holdRest f then some (s.decision p f c && (s.part p).rest f) else none,
        missed := (k.missed ++ (if !(s.decision p f c) && !((s.counted p f c).core c).first && !((s.counted p f c).core c).exiting
          && (!((s.part p).rest f) || (s.part p).forced.contains f) then [f] else [])).filter (fun m => f < m + 16) })) := rfl

theorem State.decide1_coresOnly (s : State) (p f : Nat) (c : Fin 96) : s.coresOnly (s.decide1 p f c) := by
  rw [State.decide1_eq]
  exact ((s.counted_coresOnly p f c).trans (State.eachMember_coresOnly _ c _)).trans (State.eachMember_coresOnly _ c _)

theorem State.decide1_core (s : State) (p f : Nat) (c m : Fin 96) : (s.decide1 p f c).core m =
    if m ∈ s.members c then ((s.core m).heldCount (s.part p) f).decided ((s.counted p f c).core c) (s.part p) f (s.decision p f c)
    else s.core m := by
  have hcounted := (s.counted_coresOnly p f c).members c
  have hnoted := (State.eachMember_coresOnly (s.counted p f c) c (fun _ => Core.noteDefer)).members c
  rw [State.decide1_eq, State.eachMember_core, State.eachMember_core, State.counted_core, hnoted, hcounted]
  split <;> rfl

theorem decide1_gangOp (p f : Nat) : GangOp (fun s c => s.decide1 p f c) := fun s c =>
  ⟨(s.decide1_coresOnly p f c).gang, fun m hm => by rw [State.decide1_core, if_neg hm]⟩

theorem Core.heldCount_deferred (k : Core) (q : Part) (f : Nat) : (k.heldCount q f).deferred = k.deferred := by
  unfold Core.heldCount; split <;> rfl

theorem State.decision_eq (s : State) (p f : Nat) (c : Fin 96) :
    s.decision p f c = ((s.core c).heldCount (s.part p) f).starts (s.part p) f ((s.members c).any (fun m => (s.core m).deferred)) := by
  rw [State.decision, State.counted_core, if_pos (s.leader_mem_members c), (s.counted_coresOnly p f c).members]
  congr 1
  rw [Bool.eq_iff_iff, List.any_eq_true, List.any_eq_true]
  refine exists_congr fun m => and_congr_right fun hm => ?_
  rw [State.counted_core, if_pos hm, Core.heldCount_deferred]

/-! ## What the decision leaves of a core -/

section
variable (k lead : Core) (q : Part) (f : Nat) (start : Bool)

theorem Core.decided_start : (k.decided lead q f start).start = start := rfl

theorem Core.decided_catchUp : (k.decided lead q f start).catchUp = if q.holdRest f then some (start && q.rest f) else none := rfl

theorem Core.noteDefer_behind : k.noteDefer.behind = k.behind := by unfold Core.noteDefer; split <;> rfl

theorem Core.noteDefer_reg (o : Nat) : k.noteDefer.reg o = if o = kTBL_DEFERS ∧ (k.deferred && !k.exiting) = true then
    BitVec.ofNat 32 (min ((k.reg (kTBL_DEFERS)).toNat + 1) 0xFFFFFFFF) else k.reg o := by
  have hset (v : Word32) : Core.reg { k.setReg (kTBL_DEFERS) v with defer := true } o = (k.setReg (kTBL_DEFERS) v).reg o := rfl
  unfold Core.noteDefer
  split
  · next h => simp only [hset, Core.setReg_reg, h, and_true]
  · next h =>
    rw [if_neg fun hc => h hc.2]
    rfl

theorem Core.decided_behind : (k.decided lead q f start).behind = k.behind := k.noteDefer_behind

theorem Core.decided_reg (o : Nat) : (k.decided lead q f start).reg o = k.noteDefer.reg o := rfl

theorem Core.heldCount_behind : (k.heldCount q f).behind = if q.holdRest f then (k.countMissed f q.lag).behind else k.behind := by
  unfold Core.heldCount; split <;> rfl

theorem Core.heldCount_reg (o : Nat) : (k.heldCount q f).reg o = k.reg o := by unfold Core.heldCount; split <;> rfl

theorem Core.heldCount_exiting : (k.heldCount q f).exiting = k.exiting := by unfold Core.heldCount; split <;> rfl

theorem Core.heldCount_starts (defer : Bool) : (k.heldCount q f).starts q f defer =
    (!k.active && !k.late && !k.waitFailed && !k.exiting && decide (k.steps ≠ some 0) && !defer
      && (!(q.rest f) || (q.holdRest f && decide (0 < (k.countMissed f q.lag).behind)))) := by
  unfold Core.heldCount Core.starts
  cases q.holdRest f <;> simp [Core.countMissed, Bool.and_assoc, Bool.and_comm, Bool.and_left_comm]

end

theorem Part.rest_of_holdRest {q : Part} {f : Nat} (h : q.holdRest f = true) : q.rest f = true := by
  obtain ⟨r, hr, hf⟩ := List.any_eq_true.1 h
  have hhit : q.restReq.any (fun r => r.1 = f) = true := List.any_eq_true.2 ⟨r, hr, by simp_all⟩
  rw [Part.rest, hhit, Bool.true_or]

/-! ## The partitions in turn -/

/-- The gangs on which a decision is due in partition p. -/
def State.toDecide (s : State) (p : Nat) : List (Fin 96) :=
  s.leaders.filter (fun c => s.inPart p c && decide ((s.core c).st = .running) && (s.core c).launch.isSome)

/-- Partition p's turn at the decision for frame f. -/
def State.decidePart (f : Nat) (s : State) (p : Nat) : State :=
  ((s.toDecide p).foldl (fun s c => s.decide1 p f c) s).modPart p (fun q =>
    { q with restNext := q.rest f, restReq := q.restReq.filter (fun r => f < r.1), forced := q.forced.filter (f < ·) })

theorem execIssueDecision_eq (s : State) :
    execIssueDecision s = .next ((List.range 8).foldl (State.decidePart (s.frame + 1)) { s with cycle := s.winCy 1296 }) := rfl

section
variable (f : Nat) (s : State) (p : Nat)

theorem State.toDecide_nodup : (s.toDecide p).Nodup := s.leaders_nodup.filter _

theorem State.toDecide_leader (c : Fin 96) (hc : c ∈ s.toDecide p) : s.gang[c] = c := (s.mem_leaders c).1 (List.mem_of_mem_filter hc)

theorem State.toDecide_inPart (c : Fin 96) (hc : c ∈ s.toDecide p) : s.inPart p c = true := by
  have h := (List.mem_filter.1 hc).2
  rw [Bool.and_eq_true, Bool.and_eq_true] at h
  exact h.1.1

theorem State.decides_coresOnly : s.coresOnly ((s.toDecide p).foldl (fun s c => s.decide1 p f c) s) :=
  foldl_keeps (P := s.coresOnly) (fun t c _ ht => ht.trans (t.decide1_coresOnly p f c)) s.coresOnly_refl

theorem State.decidePart_regs : (s.decidePart f p).regs = s.regs := (s.decides_coresOnly f p).regs
theorem State.decidePart_gang : (s.decidePart f p).gang = s.gang := (s.decides_coresOnly f p).gang

theorem State.decidePart_restNext : ((s.decidePart f p).part p).restNext = (s.part p).rest f := by
  rw [State.decidePart, State.modPart_part_same, (s.decides_coresOnly f p).part]

theorem State.decidePart_part_other {q : Nat} (hp : p < 8) (hq : q < 8) (h : q ≠ p) : (s.decidePart f p).part q = s.part q := by
  rw [State.decidePart, State.modPart_part_other _ _ hp hq h, (s.decides_coresOnly f p).part]

theorem State.decidePart_core_out {c : Fin 96} (hc : s.gang[c] = c) (hout : s.inPart p c = false) {m : Fin 96} (hm : m ∈ s.members c) :
    (s.decidePart f p).core m = s.core m := by
  rw [State.decidePart, State.modPart_core]
  refine (decide1_gangOp p f).foldl_core_other _ s m fun d hd hmd => ?_
  have hdc : d = c := State.leader_unique hc (s.toDecide_leader p d hd) hm hmd
  rw [hdc] at hd
  exact absurd (s.toDecide_inPart p c hd) (by rw [hout]; exact Bool.false_ne_true)

/-- What partition p's turn makes of a core of a gang on which a decision is due. -/
theorem State.decidePart_core {c : Fin 96} (hc : c ∈ s.toDecide p) {m : Fin 96} (hm : m ∈ s.members c) :
    ∃ lead, (s.decidePart f p).core m = ((s.core m).heldCount (s.part p) f).decided lead (s.part p) f (s.decision p f c) := by
  obtain ⟨t, ht, -, hcores, hend⟩ := (decide1_gangOp p f).foldl_turn (s.toDecide_nodup p) (s.toDecide_leader p) (R := s.coresOnly)
    (fun t c _ ht => ht.trans (t.decide1_coresOnly p f c)) s.coresOnly_refl hc
  refine ⟨(t.counted p f c).core c, ?_⟩
  have hdefer : (s.members c).any (fun m => (t.core m).deferred) = (s.members c).any (fun m => (s.core m).deferred) := by
    rw [Bool.eq_iff_iff, List.any_eq_true, List.any_eq_true]
    exact exists_congr fun m => and_congr_right fun hm => by rw [hcores m hm]
  rw [State.decidePart, State.modPart_core, hend m hm, State.decide1_core, ht.members, if_pos hm, hcores m hm, ht.part,
    State.decision_eq, ht.members, hdefer, hcores c (s.leader_mem_members c), ht.part, State.decision_eq]

end

/-- The turn of partition p at the decision for frame f, among the turns of all. -/
theorem State.decideParts_turn (s : State) (f : Nat) {c : Fin 96} {p : Nat} (hp : p < 8) (hc : s.gang[c] = c)
    (honly : ∀ q, q < 8 → s.inPart q c = true → q = p) :
    ∃ t : State, t.regs = s.regs ∧ t.gang = s.gang ∧ t.part p = s.part p ∧ (∀ m, m ∈ s.members c → t.core m = s.core m)
      ∧ ∀ m, m ∈ s.members c → ((List.range 8).foldl (State.decidePart f) s).core m = (t.decidePart f p).core m := by
  have hother : ∀ (t : State) q, q ∈ List.range 8 → q ≠ p → t.regs = s.regs ∧ t.gang = s.gang →
      (fun t => (t.part p, fun m : { m // m ∈ s.members c } => t.core m) : State → _) (t.decidePart f q) =
      (fun t => (t.part p, fun m : { m // m ∈ s.members c } => t.core m) : State → _) t := by
    rintro t q hq hqp ⟨hregs, hgang⟩
    have hq8 : q < 8 := List.mem_range.1 hq
    have hout : t.inPart q c = false := by
      rw [(State.samePlan_of_regs hregs).inPart hq8]
      exact Bool.eq_false_iff.2 fun h => hqp (honly q hq8 h)
    refine Prod.ext (t.decidePart_part_other f q hq8 hp (Ne.symm hqp)) (funext fun ⟨m, hm⟩ => ?_)
    exact t.decidePart_core_out f q (by rw [hgang]; exact hc) hout (by rwa [State.members_of_gang hgang])
  obtain ⟨t, ⟨hregs, hgang⟩, hfound, hend⟩ := foldl_at (g := State.decidePart f) List.nodup_range (R := fun t => t.regs = s.regs ∧ t.gang = s.gang)
    (fun t q _ ht => ⟨(t.decidePart_regs f q).trans ht.1, (t.decidePart_gang f q).trans ht.2⟩)
    (fun t => (t.part p, fun m : { m // m ∈ s.members c } => t.core m)) (List.mem_range.2 hp) hother ⟨rfl, rfl⟩
  exact ⟨t, hregs, hgang, congrArg Prod.fst hfound, fun m hm => congrFun (congrArg Prod.snd hfound) ⟨m, hm⟩,
    fun m hm => congrFun (congrArg Prod.snd hend) ⟨m, hm⟩⟩

theorem execIssueDecision_decides (s : State) : ∃ t, exec .issueDecision s = .next t ∧ t.regs = s.regs
    ∧ (∀ p, p < 8 → (t.part p).restNext = (s.part p).rest (s.frame + 1))
    ∧ ∀ c p m, p < 8 → s.gang[c] = c → s.inPart p c = true → (∀ q, q < 8 → s.inPart q c = true → q = p) →
      (s.core c).st = .running → (s.core c).launch.isSome = true → m ∈ s.members c →
      (t.core m).start = (!(s.core c).active && !(s.core c).late && !(s.core c).waitFailed && !(s.core c).exiting
        && decide ((s.core c).steps ≠ some 0) && !((s.members c).any (fun m => (s.core m).deferred))
        && (!((s.part p).rest (s.frame + 1)) || ((s.part p).holdRest (s.frame + 1)
          && decide (0 < ((s.core c).countMissed (s.frame + 1) (s.part p).lag).behind))))
      ∧ ((s.part p).holdRest (s.frame + 1) = true → (t.core m).catchUp = some (t.core m).start
        ∧ (t.core m).behind = ((s.core m).countMissed (s.frame + 1) (s.part p).lag).behind)
      ∧ ((s.part p).holdRest (s.frame + 1) = false → (t.core m).catchUp = none ∧ (t.core m).behind = (s.core m).behind)
      ∧ (t.core m).reg (kTBL_DEFERS) = (if (s.core m).deferred = true ∧ (s.core m).exiting = false then
          BitVec.ofNat 32 (min (((s.core m).reg (kTBL_DEFERS)).toNat + 1) 0xFFFFFFFF) else (s.core m).reg (kTBL_DEFERS)) := by
  obtain ⟨u, hu⟩ : ∃ u : State, u = { s with cycle := s.winCy 1296 } := ⟨_, rfl⟩
  have hregs : u.regs = s.regs := by rw [hu]
  have hgang : u.gang = s.gang := by rw [hu]
  have hcore (c : Fin 96) : u.core c = s.core c := by rw [hu]; rfl
  have hpart (p : Nat) : u.part p = s.part p := by rw [hu]; rfl
  have hmem (c : Fin 96) : u.members c = s.members c := State.members_of_gang hgang c
  have hin (p : Nat) (c : Fin 96) : u.inPart p c = s.inPart p c := by rw [hu]; rfl
  obtain ⟨f, hf⟩ : ∃ f, f = s.frame + 1 := ⟨_, rfl⟩
  refine ⟨(List.range 8).foldl (State.decidePart f) u, by rw [hf, hu]; exact execIssueDecision_eq s, ?_, ?_, ?_⟩
  · exact foldl_keeps (P := fun t => t.regs = s.regs) (fun t p _ ht => (t.decidePart_regs f p).trans ht) hregs
  · intro p hp
    obtain ⟨t, -, hfound, hend⟩ := foldl_at (g := State.decidePart f) List.nodup_range (R := fun _ => True) (fun _ _ _ _ => trivial)
      (fun t => t.part p) (List.mem_range.2 hp)
      (fun t q hq hqp _ => t.decidePart_part_other f q (List.mem_range.1 hq) hp (Ne.symm hqp)) (s := u) trivial
    rw [hend, State.decidePart_restNext, hfound, hpart, hf]
  · intro c p m hp hc hpc honly hrun hlaunch hm
    obtain ⟨t, htregs, htgang, htpart, htcore, hend⟩ := u.decideParts_turn f hp (by rw [hgang]; exact hc) (fun q hq h => honly q hq (by rw [← hin]; exact h))
    have htmem (c : Fin 96) : t.members c = s.members c := by rw [State.members_of_gang htgang, hmem]
    have hcm : ∀ m, m ∈ s.members c → t.core m = s.core m := fun m hm => by rw [htcore m (by rwa [hmem]), hcore]
    have hdue : c ∈ t.toDecide p := by
      refine List.mem_filter.2 ⟨(t.mem_leaders c).2 (by rw [htgang, hgang]; exact hc), ?_⟩
      rw [hcm c (s.leader_mem_members c), (State.samePlan_of_regs htregs).inPart hp, hin, hpc, hrun, hlaunch]
      rfl
    obtain ⟨lead, hdecided⟩ := t.decidePart_core f p hdue (m := m) (by rwa [htmem])
    rw [hend m (by rwa [hmem]), hdecided, Core.decided_start, Core.decided_catchUp, Core.decided_behind, Core.decided_reg,
      Core.noteDefer_reg, Core.heldCount_deferred, Core.heldCount_exiting, Core.heldCount_reg, Core.heldCount_behind,
      State.decision_eq, Core.heldCount_starts, htmem, htpart, hpart, hcm m hm, hcm c (s.leader_mem_members c), ← hf]
    have hdefer : (s.members c).any (fun m => (t.core m).deferred) = (s.members c).any (fun m => (s.core m).deferred) := by
      rw [Bool.eq_iff_iff, List.any_eq_true, List.any_eq_true]
      exact exists_congr fun m => and_congr_right fun hm => by rw [hcm m hm]
    rw [hdefer]
    refine ⟨rfl, fun hhold => ?_, fun hhold => ?_, ?_⟩
    · rw [hhold, Part.rest_of_holdRest hhold]
      exact ⟨congrArg some (Bool.and_true _), if_pos rfl⟩
    · rw [hhold]
      exact ⟨rfl, if_neg Bool.false_ne_true⟩
    · simp only [true_and, Bool.and_eq_true, Bool.not_eq_true']

/-! ## Late notices and idle gangs -/

theorem execTickLate_forces (s : State) (p : Fin 8) (f : Nat) (hf : f = s.frame + 1 - (s.part p.val).lag + (s.part p.val).lag)
    (hdom : (s.part p.val).domNow.getLsbD 17 = true) (hlag : (s.part p.val).lag ≤ s.frame + 1)
    (hfew : ((s.part p.val).notices.filter (fun n => n.1 = s.frame + 1 - (s.part p.val).lag)).length < s.fld (rCHC_DOMCFG p.val) 20 8 - 1)
    (hnew : (s.part p.val).forced.contains f = false) :
    ∃ t, exec (.tickLate p) s = .next t ∧ (t.part p.val).forced = (s.part p.val).forced ++ [f] ∧ (t.part p.val).reqHold = true
      ∧ t.bit (rTIME_STATUS) 4 = true ∧ t.errPend.length = s.errPend.length + 1 ∧ t.cores = s.cores := by
  obtain ⟨u, hu⟩ : ∃ u : State, u = { s with cycle := s.winCy 1280 } := ⟨_, rfl⟩
  obtain ⟨v, hv⟩ : ∃ v : State, v = u.modPart p.val (fun q => { q with forced := q.forced ++ [f], reqHold := true }) := ⟨_, rfl⟩
  obtain ⟨w, hw⟩ : ∃ w : State, w = v.setBit (rTIME_STATUS) 4 true := ⟨_, rfl⟩
  have hexec : exec (.tickLate p) s = .next (w.record 9 (2 ^ 18 * p.val + 2 ^ 21) 0 0 0 7 (w.reg (rTIME_STATUS)).toNat false) := by
    rw [hw, hv, hu, hf]
    exact if_pos ⟨hdom, hlag, hfew, hf ▸ hnew⟩
  have hpart : w.part p.val = { s.part p.val with forced := (s.part p.val).forced ++ [f], reqHold := true } := by
    have hwv : w.part p.val = v.part p.val := by rw [hw]; rfl
    have hus : u.part p.val = s.part p.val := by rw [hu]; rfl
    rw [hwv, hv, State.modPart_part_same, hus]
  refine ⟨_, hexec, ?_, ?_, ?_, ?_, ?_⟩
  · exact congrArg Part.forced hpart
  · exact congrArg Part.reqHold hpart
  · rw [State.bit, State.record_fld, hw, ← State.bit, State.setBit_bit_same _ _ _ _ (by decide)]
  · rw [State.record_errPend_length, hw, hv, hu]
    rfl
  · rw [hw, hv, hu]
    rfl

/-- A core that the end of its gang's last operation makes idle. -/
def Core.idled (k : Core) : Core := { k with st := .idle, exiting := false, launch := none, view := none }

/-- The state after the gang that c leads has become idle, before its launch is found complete. -/
def State.gangIdled (s : State) (c : Fin 96) : State := s.eachMember c (fun m s => s.modCore m Core.idled)

theorem State.gangIdled_core (s : State) (c m : Fin 96) : (s.gangIdled c).core m = if m ∈ s.members c then (s.core m).idled else s.core m :=
  s.eachMember_const c m Core.idled

theorem execCoreIdle_eq (s : State) (c : Fin 96) (hexit : (s.core c).exiting = true) (hrun : (s.core c).st = .running) (hlead : s.gang[c] = c)
    (hdone : ∀ m, m ∈ s.members c → s.inFlight m = false) :
    execCoreIdle c s = .next (match s.partOf c with | some p => (s.gangIdled c).noteDone p | none => s.gangIdled c) := by
  have hall : (s.members c).all (fun m => !(s.inFlight m)) = true := List.all_eq_true.2 fun m hm => by rw [hdone m hm]; rfl
  exact if_pos ⟨hexit, hrun, hlead, hall⟩

theorem State.noteDone_core (s : State) (p : Nat) (m : Fin 96) : (s.noteDone p).core m = s.core m := rfl

/-- A launch of which no core runs on is complete in this frame (R315). -/
theorem State.noteDone_launches {s : State} {p : Nat} {l : LaunchRec} (hl : l ∈ (s.part p).launches) (hopen : l.doneAt = none)
    (hcores : ∀ n, n ∈ l.cores → (s.core (coreOf n)).st = .idle ∨ (s.core (coreOf n)).st = .failed) :
    { l with doneAt := some s.frame } ∈ ((s.noteDone p).part p).launches := by
  have hall : l.cores.all (fun c => (s.core (coreOf c)).st = .idle || (s.core (coreOf c)).st = .failed) = true :=
    List.all_eq_true.2 fun n hn => by simpa using hcores n hn
  rw [State.noteDone, State.modPart_part_same]
  refine List.mem_map.2 ⟨l, hl, ?_⟩
  rw [hopen, hall]
  rfl

theorem execCoreIdle_idles (s : State) (c : Fin 96) (hexit : (s.core c).exiting = true) (hrun : (s.core c).st = .running)
    (hlead : s.gang[c] = c) (hdone : ∀ m, m ∈ s.members c → s.inFlight m = false) :
    ∃ t, exec (.coreIdle c) s = .next t ∧ { t with cores := s.cores, parts := s.parts } = s ∧ (∀ d, d ∉ s.members c → t.core d = s.core d)
      ∧ (∀ m, m ∈ s.members c → t.core m = { s.core m with st := .idle, exiting := false, launch := none, view := none })
      ∧ ∀ p l, s.partOf c = some p → l ∈ (s.part p).launches → l.doneAt = none →
        (∀ n, n ∈ l.cores → (t.core (coreOf n)).st = .idle ∨ (t.core (coreOf n)).st = .failed) →
        { l with doneAt := some s.frame } ∈ (t.part p).launches := by
  obtain ⟨u, hu⟩ : ∃ u, u = s.gangIdled c := ⟨_, rfl⟩
  have honly : s.coresOnly u := hu ▸ s.eachMember_coresOnly c _
  have hframe : u.frame = s.frame := by rw [State.frame, State.frame, State.reg64, State.reg64, State.reg, State.reg, State.reg, State.reg, honly.regs]
  have hexec := execCoreIdle_eq s c hexit hrun hlead hdone
  rw [← hu] at hexec
  have hcores : ∀ t : State, (∀ m, t.core m = u.core m) → (∀ d, d ∉ s.members c → t.core d = s.core d)
      ∧ ∀ m, m ∈ s.members c → t.core m = { s.core m with st := .idle, exiting := false, launch := none, view := none } :=
    fun t ht => ⟨fun d hd => by rw [ht, hu, State.gangIdled_core, if_neg hd], fun m hm => by rw [ht, hu, State.gangIdled_core, if_pos hm]; rfl⟩
  cases hp : s.partOf c with
  | none =>
    rw [hp] at hexec
    obtain ⟨hout, hin⟩ := hcores u fun _ => rfl
    refine ⟨u, hexec, ?_, hout, hin, fun p l hpl => absurd hpl (by simp)⟩
    rw [← honly]
  | some p =>
    rw [hp] at hexec
    obtain ⟨hout, hin⟩ := hcores (u.noteDone p) fun m => u.noteDone_core p m
    refine ⟨u.noteDone p, hexec, ?_, hout, hin, fun p' l hpl hl hopen hidle => ?_⟩
    · rw [← honly]
      rfl
    · obtain rfl : p = p' := Option.some.inj hpl
      rw [← hframe]
      exact State.noteDone_launches (by rwa [honly.part]) hopen fun n hn => by rw [← State.noteDone_core u p]; exact hidle n hn

/-! ## Tick messages -/

/-- A partition once its requests of the window have become a rest frame (R35). -/
def Part.noticed (q : Part) (frame : Nat) (halted : Bool) : Part :=
  { q with reqRest := false, reqHold := false,
           restReq := q.restReq ++ (if q.reqRest || (q.reqHold || halted) then [(frame + q.lag, q.reqHold || halted)] else []) }

/-- The state once partition p's requests have become a rest frame, before its notice leaves. -/
def State.requestsTaken (s : State) (p : Nat) : State := s.modPart p (fun _ => (s.part p).noticed s.frame (s.halted p))

theorem State.sendNotice_sentFrom (s : State) (p : Nat) : (s.requestsTaken p).SentFrom (s.sendNotice p) := by
  unfold State.sendNotice
  dsimp only
  split
  · exact State.chSend_sentFrom _ _
  · exact .refl _

theorem State.requestsTaken_part (s : State) (p : Nat) : (s.requestsTaken p).part p = (s.part p).noticed s.frame (s.halted p) :=
  s.modPart_part_same p _

theorem State.SentFrom.part {s t : State} (h : s.SentFrom t) (p : Nat) : t.part p = s.part p := by rw [State.part, State.part, h.parts]

/-- What the turns at a tick message leave of the state: cores, the cycle, and the registers but the count of dropped messages. -/
structure State.Ticking (s t : State) : Prop where
  cores : t.cores = s.cores
  cycle : t.cycle = s.cycle
  reg : ∀ o, o ≠ rCHC_TDROP → t.reg o = s.reg o

theorem State.Ticking.frame {s t : State} (h : s.Ticking t) : t.frame = s.frame := by
  rw [State.frame, State.frame, State.reg64, State.reg64, h.reg _ (by decide), h.reg _ (by decide)]

theorem status_ne_tdrop (p : Nat) (hp : p < 8) : rPART_STATUS p ≠ rCHC_TDROP := by
  unfold rPART_STATUS rCHC_TDROP
  omega

theorem State.Ticking.halted {s t : State} (h : s.Ticking t) {p : Nat} (hp : p < 8) : t.halted p = s.halted p := by
  have hplan : s.samePlan t := fun q hq => h.reg _ (status_ne_tdrop q hq)
  have hcore (c : Fin 96) : t.core c = s.core c := by rw [State.core, State.core, h.cores]
  rw [State.halted, State.halted, hplan.coresOf hp]
  simp only [hcore]

theorem State.Ticking.sendNotice {s t : State} (h : s.Ticking t) (p : Nat) : s.Ticking (t.sendNotice p) := by
  have hsent := t.sendNotice_sentFrom p
  exact ⟨hsent.cores.trans h.cores, hsent.cycle.trans h.cycle, fun o ho => (hsent.reg o ho).trans (h.reg o ho)⟩

theorem State.sendNotice_part_other (s : State) {p q : Nat} (hp : p < 8) (hq : q < 8) (h : q ≠ p) : (s.sendNotice p).part q = s.part q := by
  rw [(s.sendNotice_sentFrom p).part, State.requestsTaken, State.modPart_part_other _ _ hp hq h]

theorem State.sendNotices_part (s : State) {p : Nat} (hp : p < 8) :
    ((List.range 8).foldl State.sendNotice s).part p = (s.part p).noticed s.frame (s.halted p) := by
  obtain ⟨t, ht, hfound, hend⟩ := foldl_at (g := State.sendNotice) List.nodup_range (R := s.Ticking) (fun t q _ ht => ht.sendNotice q)
    (fun t => t.part p) (List.mem_range.2 hp)
    (fun t q hq hqp _ => t.sendNotice_part_other (List.mem_range.1 hq) hp (Ne.symm hqp)) ⟨rfl, rfl, fun _ _ => rfl⟩
  rw [hend, (t.sendNotice_sentFrom p).part, State.requestsTaken_part, hfound, ht.frame, ht.halted hp]

theorem State.sendFlit_sentFrom (s : State) (p kind seq vc first : Nat) (body : List Byte) : s.SentFrom (s.sendFlit p kind seq vc first body) := by
  unfold State.sendFlit
  dsimp only
  exact (s.modPort_sentFrom p _).trans ⟨rfl, rfl, rfl, rfl, rfl, rfl, rfl, fun _ _ => rfl⟩

theorem State.sendLinkTick_sentFrom (s : State) (p txt : Nat) : s.SentFrom (s.sendLinkTick p txt) := by
  unfold State.sendLinkTick
  dsimp only
  split
  · exact (s.sendFlit_sentFrom _ _ _ _ _ _).trans (State.modPort_sentFrom _ _ _)
  · exact .refl s

/-- The states agree in cores, partitions and the cycle. -/
def State.quietEq (s t : State) : Prop := t.cores = s.cores ∧ t.parts = s.parts ∧ t.cycle = s.cycle

theorem State.quietEq.trans {s t u : State} (h : s.quietEq t) (h' : t.quietEq u) : s.quietEq u :=
  ⟨h'.1.trans h.1, h'.2.1.trans h.2.1, h'.2.2.trans h.2.2⟩

theorem State.SentFrom.quiet {s t : State} (h : s.SentFrom t) : s.quietEq t := ⟨h.cores, h.parts, h.cycle⟩

theorem State.podArrive_quiet (s : State) (n tag : Nat) : s.quietEq (s.podArrive n tag) := by
  unfold State.podArrive
  dsimp only
  split
  · exact ⟨rfl, rfl, rfl⟩
  · split <;> exact ⟨rfl, rfl, rfl⟩

theorem State.podLocal_quiet (s : State) (n : Nat) : s.quietEq (s.podLocal n) := by
  unfold State.podLocal
  dsimp only
  split
  · split
    · exact State.podArrive_quiet _ _ _
    · exact (State.chSend_sentFrom _ _).quiet
  · exact ⟨rfl, rfl, rfl⟩

theorem foldl_quiet {α : Type} {g : State → α → State} (hg : ∀ (t : State) a, t.quietEq (g t a)) (l : List α) (s : State) :
    s.quietEq (l.foldl g s) := foldl_keeps (P := s.quietEq) (fun t a _ h => h.trans (hg t a)) ⟨rfl, rfl, rfl⟩

theorem execTickMessage_sends (s : State) (txt : List Nat) : ∃ t, exec (.tickMessage txt) s = .next t
    ∧ t.cycle = (match s.step with | some (_, len) => 1288 + len - 1300 | none => 1288) ∧ t.cores = s.cores ∧ ∀ p, p < 8 →
    (t.part p).reqRest = false ∧ (t.part p).reqHold = false ∧ (t.part p).restReq = (s.part p).restReq ++
      (if (s.part p).reqRest || (s.part p).reqHold || s.halted p then
        [(s.frame + (s.part p).lag, (s.part p).reqHold || s.halted p)] else []) := by
  obtain ⟨u, hu⟩ : ∃ u : State, u = { s with cycle := s.winCy 1288 } := ⟨_, rfl⟩
  obtain ⟨v, hv⟩ : ∃ v, v = (List.range 8).foldl State.sendNotice u := ⟨_, rfl⟩
  obtain ⟨w, hw⟩ : ∃ w, w = (List.range 12).foldl (fun s p => s.sendLinkTick p (txt.getD p 0)) v := ⟨_, rfl⟩
  have hexec : exec (.tickMessage txt) s = .next ((List.range 64).foldl State.podLocal w) := by
    rw [hw, hv, hu]
    rfl
  have hnotices : u.Ticking v := by
    rw [hv]
    exact foldl_keeps (P := u.Ticking) (fun t p _ ht => ht.sendNotice p) ⟨rfl, rfl, fun _ _ => rfl⟩
  have hlinks : v.quietEq w := by
    rw [hw]
    exact (foldl_sentFrom (fun t p => t.sendLinkTick_sentFrom p (txt.getD p 0)) (List.range 12) v).quiet
  obtain ⟨hcores, hparts, hcycle⟩ := hlinks.trans (foldl_quiet State.podLocal_quiet (List.range 64) w)
  refine ⟨_, hexec, ?_, ?_, fun p hp => ?_⟩
  · rw [hcycle, hnotices.cycle, hu]
    rfl
  · rw [hcores, hnotices.cores, hu]
  · have hpart : ((List.range 64).foldl State.podLocal w).part p = (s.part p).noticed s.frame (s.halted p) := by
      rw [State.part, hparts, ← State.part, hv, State.sendNotices_part u hp, hu]
      rfl
    rw [hpart]
    refine ⟨rfl, rfl, ?_⟩
    rw [Bool.or_assoc]
    rfl

/-- Settles O36: the decision partition by partition and gang by gang, the forced rest, the idle gang, and the tick message. -/
theorem issueDecisions : Obligations.IssueDecisions :=
  ⟨⟨execIssueDecision_decides, execTickLate_forces, execCoreIdle_idles⟩, execTickMessage_sends⟩

end Sys2Proof.Machine
end
section
/-!
# O30: the tick (R26, R27, R37, R41)

Everything that the tick does after the frame number leaves TIME.FRAME, the cycle and the decisions for the frame that begins; where
nothing stops for a reset, the cores are what the catch-up and the starts make of them.
-/
namespace Sys2Proof.Machine

theorem mapFind_mapClear {α : Type} (m : List (Nat × α)) (lo hi k : Nat) :
    mapFind (mapClear m lo hi) k = if lo ≤ k ∧ k < hi then none else mapFind m k := by
  induction m with
  | nil => simp [mapClear, mapFind]
  | cons e m ih =>
    obtain ⟨a, x⟩ := e
    have hcons : mapClear ((a, x) :: m) lo hi = if lo ≤ a ∧ a < hi then mapClear m lo hi else (a, x) :: mapClear m lo hi := by
      simp only [mapClear, List.filter_cons]
      by_cases ha : lo ≤ a ∧ a < hi
      · rw [if_pos ha, if_neg (by simp; omega)]
      · rw [if_neg ha, if_pos (by simp; omega)]
    rw [hcons]
    by_cases ha : lo ≤ a ∧ a < hi
    · rw [if_pos ha, ih]
      by_cases hk : k = a
      · rw [if_pos (hk ▸ ha), if_pos (hk ▸ ha)]
      · rw [mapFind, if_neg hk]
    · rw [if_neg ha, mapFind, mapFind, ih]
      by_cases hk : k = a
      · rw [if_pos hk, if_neg (hk ▸ ha), if_pos hk]
      · rw [if_neg hk, if_neg hk]

/-! ## What the tick leaves -/

/-- The states agree in the cycle, the step frame, the clock, the frame number, and the decisions for the frame that begins. -/
structure State.TickEq (s t : State) : Prop where
  cycle : t.cycle = s.cycle
  step : t.step = s.step
  clock : t.clock = s.clock
  low : t.reg (rTIME_FRAME) = s.reg (rTIME_FRAME)
  high : t.reg (rTIME_FRAME + 4) = s.reg (rTIME_FRAME + 4)
  restNext : ∀ p, (t.part p).restNext = (s.part p).restNext

/-- A register offset that is no half of TIME.FRAME. -/
def offFrame (o : Nat) : Prop := o ≠ rTIME_FRAME ∧ o ≠ rTIME_FRAME + 4

namespace State.TickEq

theorem refl (s : State) : s.TickEq s := ⟨rfl, rfl, rfl, rfl, rfl, fun _ => rfl⟩

theorem trans {s t u : State} (h : s.TickEq t) (h' : t.TickEq u) : s.TickEq u :=
  ⟨h'.cycle.trans h.cycle, h'.step.trans h.step, h'.clock.trans h.clock, h'.low.trans h.low, h'.high.trans h.high,
    fun p => (h'.restNext p).trans (h.restNext p)⟩

theorem of_regs {s t : State} (hcycle : t.cycle = s.cycle) (hstep : t.step = s.step) (hclock : t.clock = s.clock) (hregs : t.regs = s.regs)
    (hparts : t.parts = s.parts) : s.TickEq t :=
  ⟨hcycle, hstep, hclock, by rw [State.reg, State.reg, hregs], by rw [State.reg, State.reg, hregs], fun p => by rw [State.part, State.part, hparts]⟩

theorem frame {s t : State} (h : s.TickEq t) : t.frame = s.frame := by
  rw [State.frame, State.frame, State.reg64, State.reg64, h.low, h.high]

theorem modCore (s : State) (c : Fin 96) (g : Core → Core) : s.TickEq (s.modCore c g) := ⟨rfl, rfl, rfl, rfl, rfl, fun _ => rfl⟩

theorem setReg (s : State) {o : Nat} (v : Word32) (h : offFrame o) : s.TickEq (s.setReg o v) :=
  ⟨rfl, rfl, rfl, (s.setReg_reg o _ v).trans (if_neg (Ne.symm h.1)), (s.setReg_reg o _ v).trans (if_neg (Ne.symm h.2)), fun _ => rfl⟩

theorem setFld (s : State) {o : Nat} (h l v : Nat) (ho : offFrame o) : s.TickEq (s.setFld o h l v) := setReg s _ ho

theorem setBit (s : State) {o : Nat} (b : Nat) (v : Bool) (ho : offFrame o) : s.TickEq (s.setBit o b v) := setReg s _ ho

theorem modPart (s : State) (p : Nat) {g : Part → Part} (hg : ∀ q, (g q).restNext = q.restNext) : s.TickEq (s.modPart p g) :=
  ⟨rfl, rfl, rfl, rfl, rfl, fun q => s.modPart_part_keeps Part.restNext p q g (hg _)⟩

theorem dropAccess (s : State) (lo hi : Nat) : s.TickEq (s.dropAccess lo hi) := ⟨rfl, rfl, rfl, rfl, rfl, fun _ => rfl⟩

theorem foldl {α : Type} {g : State → α → State} {l : List α} (hg : ∀ (t : State) a, a ∈ l → t.TickEq (g t a)) (s : State) :
    s.TickEq (l.foldl g s) := foldl_keeps (P := s.TickEq) (fun t a ha h => h.trans (hg t a ha)) (refl s)

theorem eachCore (s : State) (l : List (Fin 96)) (g : Core → Core) : s.TickEq (s.eachCore l g) := foldl (fun t c _ => modCore t c g) s

end State.TickEq

/-! ## Resets at the tick -/

theorem State.resetCores_tickEq (s : State) (l : List (Fin 96)) : s.TickEq (s.resetCores l) := by
  refine State.TickEq.foldl (fun t c _ => ?_) s
  have hhalt : offFrame (rDBG_HALT (c.val / 32)) := by
    constructor <;> simp only [rDBG_HALT, rTIME_FRAME] <;> omega
  have hfree : t.TickEq { t with freeCtr := t.freeCtr + 1 } := ⟨rfl, rfl, rfl, rfl, rfl, fun _ => rfl⟩
  exact ((hfree.trans (.modCore _ c _)).trans (.setBit _ _ _ hhalt)).trans (.dropAccess _ _ _)

theorem State.clearUcb_tickEq (s : State) {base : Nat} (h : base + 0x80 ≤ rTIME_FRAME ∨ rTIME_FRAME + 4 < base) : s.TickEq (s.clearUcb base) := by
  have hkeep (o : Nat) (ho : o < base ∨ base + 0x80 ≤ o) : (s.clearUcb base).reg o = s.reg o := by
    have hfind : mapFind (mapClear s.regs base (base + 0x80)) o = mapFind s.regs o := by
      rw [mapFind_mapClear, if_neg (by omega)]
    exact congrArg (fun v : Option Word32 => v.getD (regReset o)) hfind
  exact ⟨rfl, rfl, rfl, hkeep _ (by omega), hkeep _ (by omega), fun _ => rfl⟩

/-- The gangs of cluster k, each core its own, and no staged map of it. -/
def State.splitGangs (s : State) (k : Nat) : State :=
  { s with gang := Vector.ofFn (fun c => if c.val / 12 = k then c else s.gang[c]), gangPend := s.gangPend.filter (fun e => e.1 ≠ k) }

theorem State.splitCluster_eq (s : State) (k : Nat) : s.splitCluster k =
    ((s.setReg (rGANGMAP0 k) (regReset (rGANGMAP0 k))).setReg (rGANGMAP1 k) (regReset (rGANGMAP1 k))).splitGangs k := rfl

theorem State.splitGangs_tickEq (s : State) (k : Nat) : s.TickEq (s.splitGangs k) := by
  refine .of_regs ?_ ?_ ?_ ?_ ?_ <;> simp only [State.splitGangs]

theorem State.splitCluster_tickEq (s : State) (k : Nat) : s.TickEq (s.splitCluster k) := by
  have h0 : offFrame (rGANGMAP0 k) := by constructor <;> simp only [rGANGMAP0, rTIME_FRAME] <;> omega
  have h1 : offFrame (rGANGMAP1 k) := by constructor <;> simp only [rGANGMAP1, rTIME_FRAME] <;> omega
  rw [State.splitCluster_eq]
  exact ((State.TickEq.setReg s _ h0).trans (.setReg _ _ h1)).trans (State.splitGangs_tickEq _ k)

theorem State.splitClusters_tickEq (s : State) (l : List Nat) :
    s.TickEq (l.foldl (fun s k => (s.splitCluster k).clearUcb (rUCB_cl_IDENT k)) s) :=
  State.TickEq.foldl (fun t k _ => (t.splitCluster_tickEq k).trans
    (State.clearUcb_tickEq _ (.inr (by simp only [rTIME_FRAME, rUCB_cl_IDENT]; omega)))) s

/-- Barrier b's rounds forgotten, as a reset begins with it. -/
def State.forgetRounds (s : State) (b : Nat) : State :=
  { s with rounds := mapErase s.rounds b, podRel := s.podRel.filter (fun e => e.1 + 128 ≠ b), podSent := s.podSent.filter (fun e => e.1 + 128 ≠ b) }

/-- A core without the counts of barrier b. -/
def Core.forgetBarrier (k : Core) (b : Nat) : Core :=
  let key := barKey (decide (b ≥ 128)) (b % 64)
  { k with bout := mapErase k.bout key, bseen := mapErase k.bseen key }

theorem State.clearBarrier_eq (s : State) (b : Nat) : s.clearBarrier b =
    (if b < 128 then (s.forgetRounds b).setReg (barStatReg b) 0
      else ((s.forgetRounds b).setReg (barStatReg b) 0).setReg (rGLB_BARPCUR (b % 64)) 0).eachCore
      (allCores.filter (fun c => decide (b ≥ 128) || decide (c.val / 48 = b / 64))) (fun k => k.forgetBarrier b) := rfl

theorem State.forgetRounds_tickEq (s : State) (b : Nat) : s.TickEq (s.forgetRounds b) := ⟨rfl, rfl, rfl, rfl, rfl, fun _ => rfl⟩

theorem State.clearBarrier_tickEq (s : State) {b : Nat} (hb : b < 192) : s.TickEq (s.clearBarrier b) := by
  have hstat : offFrame (barStatReg b) := by
    constructor <;> simp only [barStatReg, rDIE_BARSTAT, rGLB_BARSTAT, rTIME_FRAME] <;> split <;> omega
  have hpcur : offFrame (rGLB_BARPCUR (b % 64)) := by constructor <;> simp only [rGLB_BARPCUR, rTIME_FRAME] <;> omega
  have hclear := (s.forgetRounds_tickEq b).trans (.setReg _ 0 hstat)
  rw [State.clearBarrier_eq]
  split
  · exact hclear.trans (.eachCore _ _ _)
  · exact (hclear.trans (.setReg _ 0 hpcur)).trans (.eachCore _ _ _)

theorem State.clearBarriers_tickEq (s : State) (l : List Nat) (hl : ∀ b, b ∈ l → b < 192) : s.TickEq (l.foldl State.clearBarrier s) :=
  State.TickEq.foldl (fun t b hb => t.clearBarrier_tickEq (hl b hb)) s

/-- Partition p's cores, gangs, barriers, faults and rings as its reset clears them. -/
def State.partCleared (s : State) (p : Nat) : State :=
  let cl := (List.range 8).filter (fun k => (s.clusters p).testBit k)
  let s := s.resetCores (s.coresOf p)
  let s := cl.foldl (fun s k => (s.splitCluster k).clearUcb (rUCB_cl_IDENT k)) s
  let s := ((List.range 192).filter (fun b => bitsOf 15 15 (s.barNow b).toNat = 1 && bitsOf 10 8 (s.barNow b).toNat = p)).foldl
    State.clearBarrier s
  let s := (s.setReg (rPART_FAULT p) 0).setReg (rCHC_PFAULT p) 0
  (List.range 4).foldl (fun s r => s.setFld (rPART_RSTAT p r) 3 0 0) s

def State.withFlights (s : State) (l : List Flight) : State := { s with flights := l }

def Part.held (q : Part) : Part := { q with rst := some .held, firstFault := none, quiet := 0 }

theorem State.holdPart_eq (s : State) (p : Nat) : ∃ l, s.holdPart p = ((s.partCleared p).withFlights l).modPart p Part.held := ⟨_, rfl⟩

theorem State.partCleared_tickEq (s : State) (p : Nat) : s.TickEq (s.partCleared p) := by
  have hfault : offFrame (rPART_FAULT p) := by constructor <;> simp only [rPART_FAULT, rTIME_FRAME] <;> omega
  have hchain : offFrame (rCHC_PFAULT p) := by constructor <;> simp only [rCHC_PFAULT, rTIME_FRAME] <;> omega
  have hring (r : Nat) : offFrame (rPART_RSTAT p r) := by constructor <;> simp only [rPART_RSTAT, rTIME_FRAME] <;> omega
  unfold State.partCleared
  dsimp only
  refine (((((s.resetCores_tickEq _).trans (State.splitClusters_tickEq _ _)).trans (State.clearBarriers_tickEq _ _ fun b hb => ?_)).trans
    (.setReg _ 0 hfault)).trans (.setReg _ 0 hchain)).trans (State.TickEq.foldl (fun t r _ => .setFld t 3 0 0 (hring r)) _)
  exact List.mem_range.1 (List.mem_of_mem_filter hb)

theorem State.withFlights_tickEq (s : State) (l : List Flight) : s.TickEq (s.withFlights l) := .of_regs rfl rfl rfl rfl rfl

theorem State.holdPart_tickEq (s : State) (p : Nat) : s.TickEq (s.holdPart p) := by
  obtain ⟨l, hl⟩ := s.holdPart_eq p
  rw [hl]
  exact ((s.partCleared_tickEq p).trans (State.withFlights_tickEq _ l)).trans (.modPart _ p (g := Part.held) fun _ => rfl)

/-- The whole compute domain as its reset clears it. -/
def State.allCleared (s : State) : State :=
  let s := s.resetCores allCores
  let s := (List.range 8).foldl (fun s k => (s.splitCluster k).clearUcb (rUCB_cl_IDENT k)) s
  let s := (s.clearUcb (rUCB_die_IDENT 0)).clearUcb (rUCB_die_IDENT 1)
  let s := (s.clearUcb rUCB_mod_IDENT)
  let s := (List.range 192).foldl State.clearBarrier s
  (List.range 8).foldl (fun s p => s.modPart p (fun q => { q with firstFault := none, quiet := 0 })) s

def State.domainHeld (s : State) : State := { s with coreRst := some .held, flights := [] }

theorem State.holdAll_eq (s : State) : s.holdAll = s.allCleared.domainHeld := rfl

theorem State.unfaultedParts_tickEq (s : State) :
    s.TickEq ((List.range 8).foldl (fun s p => s.modPart p (fun q => { q with firstFault := none, quiet := 0 })) s) :=
  State.TickEq.foldl (fun t p _ => State.TickEq.modPart t p (g := fun q => { q with firstFault := none, quiet := 0 }) fun _ => rfl) s

theorem State.allCleared_tickEq (s : State) : s.TickEq s.allCleared := by
  have hdie (t : State) (d : Nat) : t.TickEq (t.clearUcb (rUCB_die_IDENT d)) :=
    t.clearUcb_tickEq (.inr (by simp only [rTIME_FRAME, rUCB_die_IDENT]; omega))
  unfold State.allCleared
  dsimp only
  exact (((((s.resetCores_tickEq _).trans (State.splitClusters_tickEq _ _)).trans ((hdie _ 0).trans (hdie _ 1))).trans
    (State.clearUcb_tickEq _ (.inl (by decide)))).trans (State.clearBarriers_tickEq _ _ fun b hb => List.mem_range.1 hb)).trans
    (State.unfaultedParts_tickEq _)

theorem State.domainHeld_tickEq (s : State) : s.TickEq s.domainHeld := .of_regs rfl rfl rfl rfl rfl

theorem State.holdAll_tickEq (s : State) : s.TickEq s.holdAll := by
  rw [State.holdAll_eq]
  exact s.allCleared_tickEq.trans (State.domainHeld_tickEq _)

def State.withPower (s : State) (w : Power) : State := { s with power := w }

theorem State.withPower_tickEq (s : State) (w : Power) : s.TickEq (s.withPower w) := .of_regs rfl rfl rfl rfl rfl

/-- What an accepted RELEASE does at the tick (R325). -/
def State.tickRelease (s : State) : State :=
  if s.power.release then
    ((s.setBit (rPWR_STATUS) 3 false).setBit (rRST_STATUS) 2 false).withPower { s.power with release := false, hot105 := 0 }
  else s

theorem State.tickResets_eq (s : State) : s.tickResets =
    (List.range 8).foldl (fun s p => if (s.part p).rst = some .stopping then s.holdPart p else s)
      (if s.coreRst = some .stopping then s.holdAll else s).tickRelease := rfl

theorem State.tickRelease_tickEq (s : State) : s.TickEq s.tickRelease := by
  unfold State.tickRelease
  split
  · exact ((State.TickEq.setBit s 3 false ⟨by decide, by decide⟩).trans (.setBit _ 2 false ⟨by decide, by decide⟩)).trans (State.withPower_tickEq _ _)
  · exact .refl s

theorem State.tickResets_tickEq (s : State) : s.TickEq s.tickResets := by
  rw [State.tickResets_eq]
  refine (State.TickEq.trans ?_ (State.tickRelease_tickEq _)).trans (State.TickEq.foldl (fun t p _ => ?_) _)
  · split
    · exact s.holdAll_tickEq
    · exact .refl s
  · split
    · exact t.holdPart_tickEq p
    · exact .refl t

/-- Where nothing stops for a reset, the tick's resets leave the cores and the gangs. -/
theorem State.tickResets_settled {s : State} (hcore : s.coreRst ≠ some .stopping) (hpart : ∀ p, p < 8 → (s.part p).rst ≠ some .stopping) :
    s.tickResets.cores = s.cores ∧ s.tickResets.gang = s.gang := by
  have hrelease : s.tickRelease.cores = s.cores ∧ s.tickRelease.gang = s.gang ∧ s.tickRelease.parts = s.parts := by
    unfold State.tickRelease
    split <;> exact ⟨rfl, rfl, rfl⟩
  obtain ⟨hcores, hgang, hparts⟩ := hrelease
  rw [State.tickResets_eq, if_neg hcore]
  have hkeep : (List.range 8).foldl (fun s p => if (s.part p).rst = some .stopping then s.holdPart p else s) s.tickRelease = s.tickRelease := by
    refine foldl_keeps (P := fun t => t = s.tickRelease) (fun t p hp ht => ?_) rfl
    have hrst : (t.part p).rst ≠ some .stopping := by
      rw [ht, State.part, hparts, ← State.part]
      exact hpart p (List.mem_range.1 hp)
    rw [if_neg hrst, ht]
  rw [hkeep]
  exact ⟨hcores, hgang⟩

/-! ## Starts -/

/-- The cores differ in the lines on their way to the buffer alone. -/
def Core.ibEq (k k' : Core) : Prop := { k' with ibLoads := k.ibLoads } = k

/-- The state with the image of a first launch on its way. -/
def State.imageAsked (s : State) (c : Fin 96) : State :=
  match (s.core c).first, (s.core c).launch with
  | true, some l => s.loadImage c l
  | _, _ => s

/-- A core whose block begins in a frame. -/
def Core.begun (k : Core) (frame : Nat) : Core :=
  { k with start := false, active := true, spill := false, wait := .none, waitFailed := false, blockFrame := BitVec.ofNat 64 frame,
           blockNo := k.blockNo + 1, blockBundles := 0, lastBc := 0, wframe := if k.first then k.wframe else k.wframe + 1, first := false }

theorem State.startBlock_eq (s : State) (c : Fin 96) : s.startBlock c =
    (s.imageAsked c).eachMember c (fun m t => t.modCore m (fun k => k.begun t.frame)) := rfl

/-- What asking for an image leaves: all but the leader's lines. -/
structure State.Asked (s : State) (c : Fin 96) (t : State) : Prop where
  tick : s.TickEq t
  gang : t.gang = s.gang
  core : ∀ m, (s.core m).ibEq (t.core m)
  other : ∀ m, m ≠ c → t.core m = s.core m

theorem State.loadImage_asked (s : State) (c : Fin 96) (l : Launch) : s.Asked c (s.loadImage c l) := by
  refine foldl_keeps (P := s.Asked c) (fun t i _ ht => ?_) ⟨.refl s, rfl, fun _ => rfl, fun _ _ => rfl⟩
  obtain ⟨e, he⟩ : ∃ e : IbLoad, e = { uid := t.nextId, line := i, dev := true, addr := l.iaddr + 1024 * i, opw := 0 } := ⟨_, rfl⟩
  have hnext (t : State) : t.TickEq { t with nextId := t.nextId + 1 } := .of_regs rfl rfl rfl rfl rfl
  rw [← he]
  refine ⟨(ht.tick.trans (hnext t)).trans (.modCore _ c _), ht.gang, fun m => ?_, fun m hm => ?_⟩
  · rw [State.modCore_core]
    split
    · next h => exact h ▸ ht.core c
    · exact ht.core m
  · rw [State.modCore_core, if_neg hm]
    exact ht.other m hm

theorem State.imageAsked_asked (s : State) (c : Fin 96) : s.Asked c (s.imageAsked c) := by
  unfold State.imageAsked
  split
  · exact s.loadImage_asked c _
  · exact ⟨.refl s, rfl, fun _ => rfl, fun _ _ => rfl⟩

theorem begin_coreOp : CoreOp (fun m t => t.modCore m (fun k => k.begun t.frame)) := fun s m d hd => by rw [State.modCore_core, if_neg hd]

theorem State.startBlock_tickEq (s : State) (c : Fin 96) : s.TickEq (s.startBlock c) := by
  rw [State.startBlock_eq]
  exact (s.imageAsked_asked c).tick.trans (.foldl (fun t m _ => .modCore t m _) _)

theorem State.startBlock_core_out (s : State) (c m : Fin 96) (hm : m ∉ s.members c) : (s.startBlock c).core m = s.core m := by
  have hasked := s.imageAsked_asked c
  have hne : m ≠ c := fun e => hm (e ▸ s.leader_mem_members c)
  rw [State.startBlock_eq, State.eachMember, begin_coreOp.foldl_out _ (by rwa [State.members_of_gang hasked.gang]), hasked.other m hne]

theorem startBlock_gangOp : GangOp State.startBlock := fun s c => ⟨s.startBlock_gang c, s.startBlock_core_out c⟩

/-- What a start makes of a member of its gang. -/
theorem State.startBlock_core (s : State) (c m : Fin 96) (hm : m ∈ s.members c) :
    ∃ k, (s.core m).ibEq k ∧ (s.startBlock c).core m = k.begun s.frame := by
  have hasked := s.imageAsked_asked c
  obtain ⟨t, ht, hfound, hend⟩ := begin_coreOp.foldl_turn (s := s.imageAsked c) ((s.imageAsked c).members_nodup c)
    (R := (s.imageAsked c).TickEq) (fun t m ht => ht.trans (.modCore t m _)) (.refl _) (m := m) (by rwa [State.members_of_gang hasked.gang])
  refine ⟨(s.imageAsked c).core m, hasked.core m, ?_⟩
  rw [State.startBlock_eq, State.eachMember, hend, State.modCore_core, if_pos rfl, hfound, ht.frame, hasked.tick.frame]

/-! ## Catch-ups -/

theorem Core.settleCatch_catchUp (k : Core) : k.settleCatch.catchUp = none := by
  unfold Core.settleCatch
  split
  · next h => exact h
  · rfl

theorem Core.settleCatch_behind (k : Core) : k.settleCatch.behind = if k.catchUp = none then k.behind else 0 := by
  unfold Core.settleCatch
  split
  · next h => rw [if_pos h]
  · next h =>
    have hsome : k.catchUp ≠ none := by rw [h]; exact Option.some_ne_none _
    rw [if_neg hsome]

/-- What the settling of a catch-up leaves of a core. -/
structure Core.Settled (k k' : Core) : Prop where
  st : k'.st = k.st
  start : k'.start = k.start
  first : k'.first = k.first
  wframe : k'.wframe = k.wframe

theorem Core.settleCatch_settled (k : Core) : k.Settled k.settleCatch := by
  unfold Core.settleCatch
  split
  · exact ⟨rfl, rfl, rfl, rfl⟩
  · next c _ => cases c <;> exact ⟨rfl, rfl, rfl, rfl⟩

/-! ## The tick -/

/-- The state once frame f has begun, before anything that the tick does in it. -/
def State.frameBegun (s : State) (f : Nat) : State :=
  { s.setReg64 (rTIME_FRAME) f with cycle := 0, clock := s.clock + 1, logMsi := false, step := none, winDue := [] }

/-- The frame that the next tick begins (R26, R41). -/
def State.nextFrame (s : State) : Nat := match s.step with | some (f, _) => f | none => s.frame + 1

/-- The cores freed of their halts (R423). -/
def State.haltsFreed (s : State) : State :=
  s.eachCore (allCores.filter (fun c => (s.core c).steps.isSome && !(s.haltBit c))) (fun k => { k with steps := none })

/-- The tick up to the starts: the frame begins, resets take effect, and catch-ups are settled. -/
def State.tickBegun (s : State) : State := (s.frameBegun s.nextFrame).haltsFreed.tickResets.eachCore allCores Core.settleCatch

/-- The gangs that start. -/
def State.starting (s : State) : List (Fin 96) := s.leaders.filter (fun c => (s.core c).start && decide ((s.core c).st = .running))

/-- The partitions take the decisions for the frame that begins. -/
def State.decisionsTaken (s : State) : State := (List.range 8).foldl (fun s p => s.modPart p (fun q => { q with restNow := q.restNext })) s

theorem execTick_eq (s : State) (h : s.phase = .run) : execTick s =
    .next ((List.range 12).foldl State.portFrame (s.tickBegun.starting.foldl State.startBlock s.tickBegun)).decisionsTaken :=
  if_neg (not_not.2 h)

theorem State.portFrame_tickEq (s : State) (p : Nat) : s.TickEq (s.portFrame p) := by
  unfold State.portFrame State.modPort
  split
  · exact .of_regs rfl rfl rfl rfl rfl
  · exact .refl s

theorem State.portFrame_core (s : State) (p : Nat) (c : Fin 96) : (s.portFrame p).core c = s.core c := State.modPort_core _ _ _ _

theorem State.decisionsTaken_tickEq (s : State) : s.TickEq s.decisionsTaken :=
  State.TickEq.foldl (fun t p _ => State.TickEq.modPart t p (g := fun q => { q with restNow := q.restNext }) fun _ => rfl) s

theorem State.decisionsTaken_core (s : State) (c : Fin 96) : s.decisionsTaken.core c = s.core c := by
  unfold State.decisionsTaken
  refine foldl_keeps (P := fun t => t.core c = s.core c) (fun t p _ ht => ?_) rfl
  rw [State.modPart_core, ht]

theorem State.decisionsTaken_restNow (s : State) {p : Nat} (hp : p < 8) : (s.decisionsTaken.part p).restNow = (s.part p).restNext := by
  obtain ⟨t, -, hfound, hend⟩ := foldl_at (g := fun s p => s.modPart p (fun q => { q with restNow := q.restNext })) List.nodup_range
    (R := fun _ => True) (fun _ _ _ _ => trivial) (fun t => t.part p) (List.mem_range.2 hp)
    (fun t q hq hqp _ => t.modPart_part_other _ (List.mem_range.1 hq) hp (Ne.symm hqp)) (s := s) trivial
  rw [State.decisionsTaken, hend, State.modPart_part_same, hfound]

theorem State.frameBegun_frame (s : State) (f : Nat) : (s.frameBegun f).frame = f % 2 ^ 64 := by
  have hreg (o : Nat) : (s.frameBegun f).reg o = (s.setReg64 (rTIME_FRAME) f).reg o := rfl
  have hne : rTIME_FRAME ≠ rTIME_FRAME + 4 := by decide
  rw [State.frame, State.reg64, hreg, hreg, State.setReg64, State.setReg_reg, if_neg hne, State.setReg_reg, if_pos rfl, State.setReg_reg, if_pos rfl,
    BitVec.toNat_ofNat, BitVec.toNat_ofNat]
  omega

theorem State.tickBegun_tickEq (s : State) : (s.frameBegun s.nextFrame).TickEq s.tickBegun :=
  ((State.TickEq.eachCore _ _ _).trans (State.tickResets_tickEq _)).trans (.eachCore _ _ _)

theorem State.starts_tickEq (s : State) (l : List (Fin 96)) : s.TickEq (l.foldl State.startBlock s) :=
  State.TickEq.foldl (fun t c _ => t.startBlock_tickEq c) s

/-- A core once it is freed of its halt and its catch-up is settled. -/
theorem State.tickBegun_core {s : State} (hcore : s.coreRst ≠ some .stopping) (hpart : ∀ p, p < 8 → (s.part p).rst ≠ some .stopping) :
    s.tickBegun.gang = s.gang ∧ ∀ c, ∃ n, s.tickBegun.core c = ({ s.core c with steps := n } : Core).settleCatch := by
  obtain ⟨u, hu⟩ : ∃ u, u = s.frameBegun s.nextFrame := ⟨_, rfl⟩
  obtain ⟨l, hl⟩ : ∃ l, l = allCores.filter (fun c => (u.core c).steps.isSome && !(u.haltBit c)) := ⟨_, rfl⟩
  have hnodup : l.Nodup := hl ▸ allCores_nodup.filter _
  have hfreed : u.haltsFreed = u.withCores (fun d => if d ∈ l then { u.core d with steps := none } else u.core d) := by
    rw [State.haltsFreed, ← hl, State.eachCore_withCores _ _ hnodup]
  obtain ⟨v, hv⟩ : ∃ v, v = u.haltsFreed := ⟨_, rfl⟩
  have hrst : v.coreRst = s.coreRst := by rw [hv, hfreed, hu, State.withCores]; rfl
  have hparts (p : Nat) : v.part p = s.part p := by rw [hv, hfreed, State.withCores_part, hu]; rfl
  obtain ⟨hcores, hgang⟩ := State.tickResets_settled (s := v) (by rwa [hrst]) (fun p hp => by rw [hparts]; exact hpart p hp)
  have hbegun : s.tickBegun = v.tickResets.withCores (fun d => (v.tickResets.core d).settleCatch) := by
    rw [State.tickBegun, ← hu, ← hv, State.eachCore_all]
  refine ⟨?_, fun c => ?_⟩
  · rw [hbegun, State.withCores_gang, hgang, hv, hfreed, State.withCores_gang, hu]
    rfl
  · have hvc : ∃ n, v.core c = { s.core c with steps := n } := by
      have hus : u.core c = s.core c := by rw [hu]; rfl
      rw [hv, hfreed, State.withCores_core, hus]
      split
      · exact ⟨_, rfl⟩
      · exact ⟨(s.core c).steps, rfl⟩
    obtain ⟨n, hn⟩ := hvc
    refine ⟨n, ?_⟩
    rw [hbegun, State.withCores_core, State.core, hcores, ← State.core, hn]

theorem State.portFrames_core (s : State) (c : Fin 96) : ((List.range 12).foldl State.portFrame s).core c = s.core c :=
  foldl_keeps (P := fun t => t.core c = s.core c) (fun t p _ ht => (t.portFrame_core p c).trans ht) rfl

/-- A start leaves the catch-up and BEHIND of every core. -/
theorem State.starts_behind (s : State) (l : List (Fin 96)) (m : Fin 96) :
    ((l.foldl State.startBlock s).core m).catchUp = (s.core m).catchUp ∧ ((l.foldl State.startBlock s).core m).behind = (s.core m).behind := by
  refine foldl_keeps (P := fun t => (t.core m).catchUp = (s.core m).catchUp ∧ (t.core m).behind = (s.core m).behind)
    (fun t c _ ht => ?_) ⟨rfl, rfl⟩
  by_cases hm : m ∈ t.members c
  · obtain ⟨k, hk, hbegun⟩ := t.startBlock_core c m hm
    have hcatch : k.catchUp = (t.core m).catchUp := by rw [← hk]
    have hbehind : k.behind = (t.core m).behind := by rw [← hk]
    rw [hbegun]
    exact ⟨hcatch.trans ht.1, hbehind.trans ht.2⟩
  · rw [State.startBlock_core_out _ _ _ hm]
    exact ht

theorem State.starting_nodup (s : State) : s.starting.Nodup := s.leaders_nodup.filter _

theorem State.starting_leader (s : State) (c : Fin 96) (hc : c ∈ s.starting) : s.gang[c] = c := (s.mem_leaders c).1 (List.mem_of_mem_filter hc)

/-- What the starts make of a member of a gang that starts. -/
theorem State.starts_core (s : State) {c m : Fin 96} (hc : c ∈ s.starting) (hm : m ∈ s.members c) :
    ∃ k, (s.core m).ibEq k ∧ (s.starting.foldl State.startBlock s).core m = k.begun s.frame := by
  obtain ⟨t, ht, hgang, hcores, hend⟩ := startBlock_gangOp.foldl_turn s.starting_nodup s.starting_leader (R := s.TickEq)
    (fun t c _ ht => ht.trans (t.startBlock_tickEq c)) (.refl s) hc
  obtain ⟨k, hk, hbegun⟩ := t.startBlock_core c m (by rwa [State.members_of_gang hgang])
  exact ⟨k, hcores m hm ▸ hk, by rw [hend m hm, hbegun, ht.frame]⟩

theorem execTick_begins (s : State) (h : s.phase = .run) : ∃ t, exec .tick s = .next t ∧ t.cycle = 0 ∧ t.step = none ∧ t.clock = s.clock + 1
    ∧ t.frame = (match s.step with | some (f, _) => f | none => s.frame + 1) % 2 ^ 64
    ∧ (∀ p, p < 8 → (t.part p).restNow = (s.part p).restNext)
    ∧ (s.coreRst ≠ some .stopping → (∀ p, p < 8 → (s.part p).rst ≠ some .stopping) →
      (∀ c, (t.core c).catchUp = none ∧ (t.core c).behind = if (s.core c).catchUp = none then (s.core c).behind else 0)
      ∧ ∀ c m, s.gang[c] = c → (s.core c).st = .running → (s.core c).start = true → m ∈ s.members c →
        (t.core m).active = true ∧ (t.core m).spill = false ∧ (t.core m).start = false ∧ (t.core m).wait = .none
        ∧ (t.core m).blockFrame = BitVec.ofNat 64 t.frame
        ∧ (t.core m).wframe = (if (s.core m).first then (s.core m).wframe else (s.core m).wframe + 1)) := by
  obtain ⟨u, hu⟩ : ∃ u, u = s.tickBegun := ⟨_, rfl⟩
  obtain ⟨v, hv⟩ : ∃ v, v = (List.range 12).foldl State.portFrame (u.starting.foldl State.startBlock u) := ⟨_, rfl⟩
  have hframes : u.TickEq v := by
    rw [hv]
    exact (u.starts_tickEq _).trans (.foldl (fun t p _ => t.portFrame_tickEq p) _)
  have hbegun : (s.frameBegun s.nextFrame).TickEq v := State.TickEq.trans (hu ▸ s.tickBegun_tickEq) hframes
  have hall := hbegun.trans v.decisionsTaken_tickEq
  have hcore (m : Fin 96) : v.decisionsTaken.core m = (u.starting.foldl State.startBlock u).core m := by
    rw [State.decisionsTaken_core, hv, State.portFrames_core]
  refine ⟨v.decisionsTaken, by rw [hv, hu]; exact execTick_eq s h, hall.cycle, hall.step, hall.clock, ?_, fun p hp => ?_,
    fun hrst hparts => ?_⟩
  · rw [hall.frame, State.frameBegun_frame]
    rfl
  · rw [v.decisionsTaken_restNow hp, hbegun.restNext]
    rfl
  · obtain ⟨hgang, hsettled⟩ := State.tickBegun_core hrst hparts
    rw [← hu] at hgang hsettled
    refine ⟨fun c => ?_, fun c m hc hrun hstart hm => ?_⟩
    · obtain ⟨n, hn⟩ := hsettled c
      obtain ⟨hcatch, hbehind⟩ := u.starts_behind u.starting c
      rw [hcore, hcatch, hbehind, hn]
      exact ⟨Core.settleCatch_catchUp _, Core.settleCatch_behind _⟩
    · obtain ⟨n, hn⟩ := hsettled c
      have hlead := hn ▸ Core.settleCatch_settled { s.core c with steps := n }
      have hdue : c ∈ u.starting := by
        refine List.mem_filter.2 ⟨(u.mem_leaders c).2 (by rw [hgang]; exact hc), ?_⟩
        rw [hlead.start, hlead.st]
        simp [hstart, hrun]
      obtain ⟨k, hk, hend⟩ := u.starts_core hdue (by rwa [State.members_of_gang hgang])
      obtain ⟨n', hn'⟩ := hsettled m
      have hmember := hn' ▸ Core.settleCatch_settled { s.core m with steps := n' }
      have hfirst : k.first = (s.core m).first := (by rw [← hk] : k.first = (u.core m).first).trans hmember.first
      have hwframe : k.wframe = (s.core m).wframe := (by rw [← hk] : k.wframe = (u.core m).wframe).trans hmember.wframe
      rw [hcore, hend, (hframes.trans v.decisionsTaken_tickEq).frame, ← hfirst, ← hwframe]
      exact ⟨rfl, rfl, rfl, rfl, rfl, rfl⟩

theorem execTick_idle (s : State) (h : s.phase ≠ .run) : exec .tick s = .next s := if_pos h

/-- Settles O30: outside the run phase nothing happens; in it, the frame begins, and the starts follow the decisions. -/
theorem tickStartsFrame : Obligations.TickStartsFrame := fun s => ⟨execTick_idle s, execTick_begins s⟩

end Sys2Proof.Machine
end
section
/-!
# O31: the capture, slips and block overruns (R29, R31 to R34, R41)

What a slip and a stop write is seen core by core; the capture then works in each core for itself, and SEQ.SLIPS lies outside every register
that it writes.
-/
namespace Sys2Proof.Machine

/-! ## Registers of a core -/

theorem Core.setReg64_reg_other (k : Core) (o r v : Nat) (h : r ≠ o) (h' : r ≠ o + 4) : (k.setReg64 o v).reg r = k.reg r := by
  rw [Core.setReg64, Core.setReg_reg, if_neg h', Core.setReg_reg, if_neg h]

theorem Core.setReg64_reg64_same (k : Core) (o v : Nat) (hv : v < 2 ^ 64) : (k.setReg64 o v).reg64 o = v := by
  have hne : o ≠ o + 4 := by omega
  rw [Core.reg64, Core.setReg64, Core.setReg_reg, if_neg hne, Core.setReg_reg, if_pos rfl, Core.setReg_reg, if_pos rfl,
    BitVec.toNat_ofNat, BitVec.toNat_ofNat]
  omega

theorem Core.setReg64_reg64_other (k : Core) (o r v : Nat) (h : r + 4 < o ∨ o + 4 < r) : (k.setReg64 o v).reg64 r = k.reg64 r := by
  rw [Core.reg64, Core.reg64, Core.setReg64_reg_other _ _ _ _ (by omega) (by omega), Core.setReg64_reg_other _ _ _ _ (by omega) (by omega)]

theorem Core.setFld_reg_other (k : Core) (o r h l v : Nat) (hr : r ≠ o) : (k.setFld o h l v).reg r = k.reg r := by
  rw [Core.setFld, Core.setReg_reg, if_neg hr]

/-- The core with the registers of [lo, hi) as after reset. -/
def Core.regsCleared (k : Core) (lo hi : Nat) : Core := { k with cregs := mapClear k.cregs lo hi }

theorem Core.regsCleared_reg (k : Core) (lo hi o : Nat) :
    (k.regsCleared lo hi).reg o = if lo ≤ o ∧ o < hi then regReset (0x10000000 + o) else k.reg o := by
  rw [Core.reg, Core.regsCleared, mapFind_mapClear]
  split <;> rfl

/-- The cores agree in all but registers, counts of the frame and the note of the last bundle. -/
def Core.tallyEq (k k' : Core) : Prop := { k' with cregs := k.cregs, fcount := k.fcount, lastBc := k.lastBc } = k

theorem Core.tallyEq_refl (k : Core) : k.tallyEq k := rfl

theorem Core.tallyEq.trans {k j i : Core} (h : k.tallyEq j) (h' : j.tallyEq i) : k.tallyEq i := by
  unfold Core.tallyEq at h h' ⊢
  rw [← h]
  rw [← h']

theorem Core.tallyEq.scnt {k j : Core} (h : k.tallyEq j) : j.scnt = k.scnt := by
  unfold Core.tallyEq at h
  rw [← h]
theorem Core.tallyEq.st {k j : Core} (h : k.tallyEq j) : j.st = k.st := by
  unfold Core.tallyEq at h
  rw [← h]
theorem Core.tallyEq.spill {k j : Core} (h : k.tallyEq j) : j.spill = k.spill := by
  unfold Core.tallyEq at h
  rw [← h]
theorem Core.tallyEq.hold {k j : Core} (h : k.tallyEq j) : j.hold = k.hold := by
  unfold Core.tallyEq at h
  rw [← h]

theorem Core.setReg_tallyEq (k : Core) (o : Nat) (v : Word32) : k.tallyEq (k.setReg o v) := rfl
theorem Core.setReg64_tallyEq (k : Core) (o v : Nat) : k.tallyEq (k.setReg64 o v) := (k.setReg_tallyEq _ _).trans (Core.setReg_tallyEq _ _ _)
theorem Core.setFld_tallyEq (k : Core) (o h l v : Nat) : k.tallyEq (k.setFld o h l v) := k.setReg_tallyEq _ _
theorem Core.bump_tallyEq (k : Core) (o n : Nat) : k.tallyEq (k.bump o n) := rfl

theorem foldl_tallyEq {α : Type} {g : Core → α → Core} (hg : ∀ (k : Core) a, k.tallyEq (g k a)) (l : List α) (k : Core) :
    k.tallyEq (l.foldl g k) := by
  induction l generalizing k with
  | nil => exact k.tallyEq_refl
  | cons a l ih => exact (hg k a).trans (ih _)

/-! ## The counts of the frame -/

theorem mem_mapPut {α : Type} [DecidableEq α] {d : α} {l : List (Nat × α)} {k : Nat} {v : α} {e : Nat × α} (h : e ∈ mapPut d l k v) :
    e.1 = k ∨ e ∈ l := by
  unfold mapPut at h
  split at h
  · exact .inr (mem_mapErase _ _ _ h)
  · exact (mem_mapSet _ _ _ _ h).imp (fun h => by rw [h]) id

/-- No count of the frame is one of register o. -/
def Core.noCountOf (k : Core) (o : Nat) : Prop := ∀ e, e ∈ k.fcount → e.1 ≠ o

theorem Core.bump_noCountOf {k : Core} {o : Nat} (h : k.noCountOf o) {r : Nat} (n : Nat) (hr : r ≠ o) : (k.bump r n).noCountOf o := by
  intro e he
  rcases mem_mapPut (k := r) he with he | he
  · exact fun h => hr (he.symm.trans h)
  · exact h e he

theorem foldl_noCountOf {α : Type} {g : Core → α → Core} {o : Nat} {l : List α}
    (hg : ∀ (k : Core) a, a ∈ l → k.noCountOf o → (g k a).noCountOf o) {k : Core} (h : k.noCountOf o) : (l.foldl g k).noCountOf o := by
  induction l generalizing k with
  | nil => exact h
  | cons a l ih => exact ih (fun k b hb => hg k b (List.mem_cons_of_mem _ hb)) (hg k a List.mem_cons_self h)

theorem Core.countStalls_tallyEq (k : Core) (bc : Nat) : k.tallyEq (k.countStalls bc) := by
  unfold Core.countStalls
  split <;> rfl

theorem Core.countStalls_reg (k : Core) (bc o : Nat) : (k.countStalls bc).reg o = k.reg o := by
  unfold Core.countStalls
  split <;> rfl

theorem Core.countStalls_noSlips {k : Core} (h : k.noCountOf kSEQ_SLIPS) (bc : Nat) : (k.countStalls bc).noCountOf kSEQ_SLIPS := by
  unfold Core.countStalls
  split
  · exact Core.bump_noCountOf h _ (by decide)
  · exact h

/-- The registers of the counts that timing decides. -/
def Core.timed (k : Core) : List Nat :=
  if k.st = .running then [kCNT_VSTALL, kMAT_FRZA, kMAT_FRZB, kMAT_FRZD, kLAY_BWAIT]
  else if k.mops ≠ [] ∨ k.xfers ≠ [] then [kMAT_FRZA, kMAT_FRZB, kMAT_FRZD, kLAY_BWAIT] else []

theorem Core.timing_eq (k : Core) (ctr : Nat) :
    k.timing ctr = k.timed.zipIdx.foldl (fun (k : Core) (e : Nat × Nat) => k.bump e.1 (Config.freeNat (ctr + e.2) % 5201)) k := rfl

theorem Core.timed_ne_slips (k : Core) : ∀ o, o ∈ k.timed → o ≠ kSEQ_SLIPS := by
  unfold Core.timed
  split
  · decide
  · split
    · decide
    · decide

theorem Core.timing_tallyEq (k : Core) (ctr : Nat) : k.tallyEq (k.timing ctr) := by
  rw [Core.timing_eq]
  exact foldl_tallyEq (fun k _ => k.bump_tallyEq _ _) _ _

theorem Core.timing_reg (k : Core) (ctr o : Nat) : (k.timing ctr).reg o = k.reg o := by
  rw [Core.timing_eq]
  have hfold : ∀ (l : List (Nat × Nat)) (j : Core),
      (l.foldl (fun (k : Core) (e : Nat × Nat) => k.bump e.1 (Config.freeNat (ctr + e.2) % 5201)) j).reg o = j.reg o := by
    intro l
    induction l with
    | nil => exact fun j => rfl
    | cons e l ih => exact fun j => (ih _).trans rfl
  exact hfold _ k

theorem Core.timing_noSlips {k : Core} (h : k.noCountOf kSEQ_SLIPS) (ctr : Nat) : (k.timing ctr).noCountOf kSEQ_SLIPS := by
  rw [Core.timing_eq]
  refine foldl_noCountOf (fun j e he hj => Core.bump_noCountOf hj _ ?_) h
  exact k.timed_ne_slips e.1 (List.fst_mem_of_mem_zipIdx he)

/-! ## The counters take their counts -/

theorem Core.flushOne_tallyEq (k : Core) (e : Nat × Nat) : k.tallyEq (k.flushOne e) := by
  unfold Core.flushOne
  split
  · exact k.setFld_tallyEq _ _ _ _
  · split
    · exact k.setFld_tallyEq _ _ _ _
    · split
      · exact k.setReg64_tallyEq _ _
      · exact k.setReg_tallyEq _ _

theorem Core.flushOne_fcount (k : Core) (e : Nat × Nat) : (k.flushOne e).fcount = k.fcount := by
  unfold Core.flushOne
  split
  · rfl
  · split
    · rfl
    · split <;> rfl

/-- The register before SEQ.SLIPS is no low word of a pair, of which SEQ.SLIPS would be the high word. -/
theorem wideReg_lastcy : wideReg kSEQ_LASTCY = false := by decide +kernel

theorem Core.flushOne_slips (k : Core) {e : Nat × Nat} (he : e.1 ≠ kSEQ_SLIPS) : (k.flushOne e).reg kSEQ_SLIPS = k.reg kSEQ_SLIPS := by
  unfold Core.flushOne
  split
  · exact k.setFld_reg_other _ _ _ _ _ (by decide)
  · split
    · exact k.setFld_reg_other _ _ _ _ _ (by decide)
    · split
      · next hwide =>
        refine k.setReg64_reg_other _ _ _ (Ne.symm he) fun h => ?_
        have hlast : e.1 = kSEQ_LASTCY := by
          simp only [kSEQ_SLIPS, kSEQ_LASTCY] at h ⊢
          omega
        rw [hlast, wideReg_lastcy] at hwide
        exact absurd hwide Bool.false_ne_true
      · rw [Core.setReg_reg, if_neg (Ne.symm he)]

theorem Core.flush_tallyEq (k : Core) : k.tallyEq k.flush :=
  Core.tallyEq.trans (j := { k with fcount := [] }) rfl (foldl_tallyEq (fun k e => k.flushOne_tallyEq e) _ _)

theorem Core.flush_fcount (k : Core) : k.flush.fcount = [] := by
  have hfold : ∀ (l : List (Nat × Nat)) (j : Core), (l.foldl Core.flushOne j).fcount = j.fcount := by
    intro l
    induction l with
    | nil => exact fun j => rfl
    | cons e l ih => exact fun j => (ih _).trans (j.flushOne_fcount e)
  exact hfold _ _

theorem Core.flush_slips {k : Core} (h : k.noCountOf kSEQ_SLIPS) : k.flush.reg kSEQ_SLIPS = k.reg kSEQ_SLIPS := by
  have hfold : ∀ (l : List (Nat × Nat)) (j : Core), (∀ e, e ∈ l → e.1 ≠ kSEQ_SLIPS) →
      (l.foldl Core.flushOne j).reg kSEQ_SLIPS = j.reg kSEQ_SLIPS := by
    intro l
    induction l with
    | nil => exact fun j _ => rfl
    | cons e l ih =>
      exact fun j hl => (ih _ fun d hd => hl d (List.mem_cons_of_mem _ hd)).trans (j.flushOne_slips (hl e List.mem_cons_self))
  exact hfold _ _ h

/-! ## The snapshot -/

/-- SCNT.COUNTn takes a counter's value. -/
def Core.snap (k : Core) (e : Nat × Word64) : Core := k.setReg64 (kSCNT_COUNT e.1) e.2.toNat

theorem Core.capture_eq (k : Core) : k.capture = k.scnt.foldl Core.snap (k.regsCleared (kSCNT_COUNT 0) (kSCNT_COUNT 64)) := rfl

theorem Core.capture_tallyEq (k : Core) : k.tallyEq k.capture := by
  rw [Core.capture_eq]
  exact Core.tallyEq.trans (j := k.regsCleared _ _) rfl (foldl_tallyEq (fun k _ => k.setReg64_tallyEq _ _) _ _)

theorem Core.capture_fcount (k : Core) : k.capture.fcount = k.fcount := by
  have hfold : ∀ (l : List (Nat × Word64)) (j : Core), (l.foldl Core.snap j).fcount = j.fcount := by
    intro l
    induction l with
    | nil => exact fun j => rfl
    | cons e l ih => exact fun j => (ih _).trans (j.setReg64_fcount _ _)
  exact hfold _ _

theorem Core.capture_slips (k : Core) : k.capture.reg kSEQ_SLIPS = k.reg kSEQ_SLIPS := by
  have hfold : ∀ (l : List (Nat × Word64)) (j : Core), (l.foldl Core.snap j).reg kSEQ_SLIPS = j.reg kSEQ_SLIPS := by
    intro l
    induction l with
    | nil => exact fun j => rfl
    | cons e l ih =>
      refine fun j => (ih _).trans (j.setReg64_reg_other _ _ _ ?_ ?_) <;> simp only [kSEQ_SLIPS, kSCNT_COUNT] <;> omega
  rw [Core.capture_eq, hfold, Core.regsCleared_reg, if_neg (by decide)]

theorem mapFind_none {α : Type} {l : List (Nat × α)} {a : Nat} (h : ∀ q, q ∈ l → q.1 ≠ a) : mapFind l a = none := by
  induction l with
  | nil => rfl
  | cons p r ih =>
    rw [mapFind, if_neg (Ne.symm (h p List.mem_cons_self))]
    exact ih fun q hq => h q (List.mem_cons_of_mem _ hq)

theorem Core.snaps_count {l : List (Nat × Word64)} (hl : mapAscending l = true) (j : Core) (n : Nat) :
    (l.foldl Core.snap j).reg64 (kSCNT_COUNT n) = match mapFind l n with | some v => v.toNat | none => j.reg64 (kSCNT_COUNT n) := by
  induction l generalizing j with
  | nil => rfl
  | cons e l ih =>
    obtain ⟨hasc, hless⟩ := (mapAscending_cons e l).1 hl
    rw [List.foldl_cons, ih hasc, mapFind]
    by_cases hn : n = e.1
    · have hnone : mapFind l n = none := mapFind_none fun q hq => by
        have := hless q hq
        omega
      rw [hnone, if_pos hn, hn]
      exact Core.setReg64_reg64_same _ _ _ e.2.isLt
    · rw [if_neg hn]
      cases mapFind l n with
      | some v => rfl
      | none => exact Core.setReg64_reg64_other _ _ _ _ (by simp only [kSCNT_COUNT]; omega)

theorem scntCount_reset : ∀ n : Fin 64, regReset (0x10000000 + kSCNT_COUNT n.val) = 0 ∧ regReset (0x10000000 + (kSCNT_COUNT n.val + 4)) = 0 := by
  decide +kernel

theorem Core.capture_count {k : Core} (hk : mapAscending k.scnt = true) {n : Nat} (hn : n < 64) :
    k.capture.reg64 (kSCNT_COUNT n) = k.count n := by
  have hzero : (k.regsCleared (kSCNT_COUNT 0) (kSCNT_COUNT 64)).reg64 (kSCNT_COUNT n) = 0 := by
    have hin : kSCNT_COUNT 0 ≤ kSCNT_COUNT n ∧ kSCNT_COUNT n < kSCNT_COUNT 64 := by simp only [kSCNT_COUNT]; omega
    have hin' : kSCNT_COUNT 0 ≤ kSCNT_COUNT n + 4 ∧ kSCNT_COUNT n + 4 < kSCNT_COUNT 64 := by simp only [kSCNT_COUNT]; omega
    obtain ⟨hlow, hhigh⟩ := scntCount_reset ⟨n, hn⟩
    rw [Core.reg64, Core.regsCleared_reg, if_pos hin, Core.regsCleared_reg, if_pos hin', hlow, hhigh]
    rfl
  rw [Core.capture_eq, Core.snaps_count hk, hzero, Core.count, mapGet]
  cases mapFind k.scnt n <;> rfl

/-- What the capture makes of a core, with the cycles of its block up to the capture and free values for what timing decides. -/
def Core.captured (k : Core) (bc ctr : Nat) : Core := (((k.countStalls bc).timing ctr).flush).capture

section
variable (k : Core) (bc ctr : Nat)

theorem Core.captured_tallyEq : k.tallyEq (k.captured bc ctr) :=
  (((k.countStalls_tallyEq bc).trans (Core.timing_tallyEq _ ctr)).trans (Core.flush_tallyEq _)).trans (Core.capture_tallyEq _)

theorem Core.captured_fcount : (k.captured bc ctr).fcount = [] := by rw [Core.captured, Core.capture_fcount, Core.flush_fcount]

theorem Core.flushed_scnt : ((k.countStalls bc).timing ctr).flush.scnt = k.scnt :=
  (((k.countStalls_tallyEq bc).trans (Core.timing_tallyEq _ ctr)).trans (Core.flush_tallyEq _)).scnt

theorem Core.captured_count (hk : mapAscending k.scnt = true) {n : Nat} (hn : n < 64) :
    (k.captured bc ctr).reg64 (kSCNT_COUNT n) = k.count n := by
  have hscnt := k.flushed_scnt bc ctr
  rw [Core.captured, Core.capture_count (by rwa [hscnt]) hn, Core.count, hscnt, Core.count]

theorem Core.captured_slips (hcount : k.noCountOf kSEQ_SLIPS) : (k.captured bc ctr).reg kSEQ_SLIPS = k.reg kSEQ_SLIPS := by
  rw [Core.captured, Core.capture_slips, Core.flush_slips (Core.timing_noSlips (Core.countStalls_noSlips hcount _) _),
    Core.timing_reg, Core.countStalls_reg]

end

/-! ## Windows -/

/-- A register of the core outside its windows. -/
def offWin (o : Nat) : Prop := o < kUCB_core_WIN 0 ∨ kUCB_core_WIN 8 ≤ o

/-- A core once a window has taken its snapshot `v`. -/
def Core.showWin (k : Core) (o v : Nat) : Core := k.setReg64 (kUCB_core_WIN ((o - kUCB_core_WINSEL 0) / 4)) v

/-- The core after its windows took their snapshots. -/
def Core.windowed (k : Core) (sels : List (Nat × Word32)) (v : Nat × Word32 → Nat) : Core :=
  sels.foldl (fun k e => k.showWin e.1 (v e)) (k.regsCleared (kUCB_core_WIN 0) (kUCB_core_WIN 8))

theorem State.coreWindows_eq (s : State) (c : Fin 96) : ∃ v, s.coreWindows c = s.setCore c ((s.core c).windowed
    ((s.core c).cregs.filter (fun e => kUCB_core_WINSEL 0 ≤ e.1 && e.1 < kUCB_core_WINSEL 8)) v) := ⟨_, rfl⟩

theorem Core.windowed_tallyEq (k : Core) (sels : List (Nat × Word32)) (v : Nat × Word32 → Nat) : k.tallyEq (k.windowed sels v) :=
  Core.tallyEq.trans (j := k.regsCleared _ _) rfl (foldl_tallyEq (fun k _ => k.setReg64_tallyEq _ _) _ _)

theorem Core.windowed_fcount (k : Core) (sels : List (Nat × Word32)) (v : Nat × Word32 → Nat) : (k.windowed sels v).fcount = k.fcount := by
  have hfold : ∀ (l : List (Nat × Word32)) (j : Core), (l.foldl (fun k e => k.showWin e.1 (v e)) j).fcount = j.fcount := by
    intro l
    induction l with
    | nil => exact fun j => rfl
    | cons e l ih => exact fun j => (ih _).trans (j.setReg64_fcount _ _)
  exact hfold _ _

theorem Core.windowed_reg (k : Core) {sels : List (Nat × Word32)} (v : Nat × Word32 → Nat) (hsels : ∀ e, e ∈ sels → e.1 < kUCB_core_WINSEL 8)
    {o : Nat} (ho : offWin o) : (k.windowed sels v).reg o = k.reg o := by
  have hfold : ∀ (l : List (Nat × Word32)) (j : Core), (∀ e, e ∈ l → e.1 < kUCB_core_WINSEL 8) →
      (l.foldl (fun k e => k.showWin e.1 (v e)) j).reg o = j.reg o := by
    intro l
    induction l with
    | nil => exact fun j _ => rfl
    | cons e l ih =>
      intro j hl
      have hkey := hl e List.mem_cons_self
      have hwin : o ≠ kUCB_core_WIN ((e.1 - kUCB_core_WINSEL 0) / 4) ∧ o ≠ kUCB_core_WIN ((e.1 - kUCB_core_WINSEL 0) / 4) + 4 := by
        simp only [offWin, kUCB_core_WIN, kUCB_core_WINSEL] at ho hkey ⊢
        omega
      exact (ih _ fun d hd => hl d (List.mem_cons_of_mem _ hd)).trans (j.setReg64_reg_other _ _ _ hwin.1 hwin.2)
  rw [Core.windowed, hfold _ _ hsels, Core.regsCleared_reg, if_neg]
  unfold offWin at ho
  omega

/-! ## Stops -/

/-- A core that stops in state `st`, one out of service apart. -/
def Core.stopAs (k : Core) (st : CoreSt) : Core := if k.st.inService then { k.dropQueued with st := st, active := false } else k

theorem State.stopPart_eq (s : State) (p c cause : Nat) (st : CoreSt) : s.stopPart p c cause st =
    if s.isStopped p then s else
      (s.eachCore (s.coresOf p) (fun k => k.stopAs st)).modPart p (fun q => { q with firstFault := some (c, cause) }) := rfl

theorem State.stopPart_stopping {s : State} {p : Nat} (h : s.isStopped p = false) (c cause : Nat) (st : CoreSt) : s.stopPart p c cause st =
    (s.withCores (fun d => if d ∈ s.coresOf p then (s.core d).stopAs st else s.core d)).modPart p (fun q => { q with firstFault := some (c, cause) }) := by
  rw [State.stopPart_eq, h, if_neg Bool.false_ne_true, State.eachCore_withCores _ _ (s.coresOf_nodup p)]

theorem State.isStopped_iff (s : State) (p : Nat) :
    s.isStopped p = true ↔ ∃ d, s.inPart p d = true ∧ ((s.core d).st = .stopped ∨ (s.core d).st = .frozen) := by
  simp only [State.isStopped, List.any_eq_true, State.mem_coresOf, Bool.or_eq_true, decide_eq_true_eq]

/-- The state of a core that a stop finds: stopped once it was in service, else as it was. -/
theorem State.stopPart_core (s : State) (p c cause : Nat) (d : Fin 96) :
    (s.stopPart p c cause .stopped).core d = s.core d
      ∨ s.inPart p d = true ∧ (s.core d).st.inService = true ∧ (s.stopPart p c cause .stopped).core d =
        { (s.core d).dropQueued with st := .stopped, active := false } := by
  by_cases h : s.isStopped p = true
  · rw [State.stopPart_eq, if_pos h]
    exact .inl rfl
  · rw [State.stopPart_stopping (Bool.eq_false_iff.2 h), State.modPart_core, State.withCores_core]
    split
    · next hd =>
      unfold Core.stopAs
      split
      · next hserv => exact .inr ⟨(s.mem_coresOf p d).1 hd, hserv, rfl⟩
      · exact .inl rfl
    · exact .inl rfl

/-- What the events of a capture leave of the state: its cycle and step, what lies in which partition, the gangs, and the partitions'
domains; a hold once raised stays. -/
structure State.CapEq (s t : State) : Prop where
  cycle : t.cycle = s.cycle
  power : t.power = s.power
  plan : s.samePlan t
  gang : t.gang = s.gang
  dom : ∀ q, (t.part q).domNow = (s.part q).domNow
  held : ∀ q, (s.part q).reqHold = true → (t.part q).reqHold = true

/-- The register offset is no PARTn.STATUS. -/
def offStatus (o : Nat) : Prop := ∀ p, p < 8 → rPART_STATUS p ≠ o

namespace State.CapEq

theorem refl (s : State) : s.CapEq s := ⟨rfl, rfl, s.samePlan_refl, rfl, fun _ => rfl, fun _ h => h⟩

theorem trans {s t u : State} (h : s.CapEq t) (h' : t.CapEq u) : s.CapEq u :=
  ⟨h'.cycle.trans h.cycle, h'.power.trans h.power, State.samePlan.trans h.plan h'.plan, h'.gang.trans h.gang,
    fun q => (h'.dom q).trans (h.dom q), fun q hq => h'.held q (h.held q hq)⟩

theorem of_regs {s t : State} (hcycle : t.cycle = s.cycle) (hpower : t.power = s.power) (hregs : t.regs = s.regs) (hgang : t.gang = s.gang)
    (hparts : t.parts = s.parts) : s.CapEq t :=
  ⟨hcycle, hpower, State.samePlan_of_regs hregs, hgang, fun q => by rw [State.part, State.part, hparts],
    fun q h => by rwa [State.part, hparts, ← State.part]⟩

theorem modCore (s : State) (c : Fin 96) (g : Core → Core) : s.CapEq (s.modCore c g) := of_regs rfl rfl rfl rfl rfl

theorem withCores (s : State) (g : Fin 96 → Core) : s.CapEq (s.withCores g) := by
  refine of_regs ?_ ?_ ?_ ?_ ?_ <;> simp only [State.withCores]

theorem setReg (s : State) {o : Nat} (v : Word32) (ho : offStatus o) : s.CapEq (s.setReg o v) :=
  ⟨rfl, rfl, fun p hp => by rw [State.setReg_reg, if_neg (ho p hp)], rfl, fun _ => rfl, fun _ h => h⟩

theorem setFld (s : State) {o : Nat} (h l v : Nat) (ho : offStatus o) : s.CapEq (s.setFld o h l v) := setReg s _ ho

theorem setBit (s : State) {o : Nat} (b : Nat) (v : Bool) (ho : offStatus o) : s.CapEq (s.setBit o b v) := setReg s _ ho

theorem modPart (s : State) (p : Nat) {g : Part → Part} (hdom : ∀ q, (g q).domNow = q.domNow)
    (hheld : ∀ q, q.reqHold = true → (g q).reqHold = true) : s.CapEq (s.modPart p g) := by
  refine ⟨rfl, rfl, State.samePlan_of_regs rfl, rfl, fun q => s.modPart_part_keeps Part.domNow p q g (hdom _), fun q hq => ?_⟩
  by_cases h : partIx q = partIx p
  · have hsame (t : State) : t.part q = t.part p := by simp only [State.part, h]
    rw [hsame, State.modPart_part_same]
    exact hheld _ (by rwa [← hsame])
  · have hne : (partIx p).val ≠ (partIx q).val := fun e => h (Fin.ext e.symm)
    have hother : (s.modPart p g).part q = s.part q := by simp [State.part, State.modPart, Vector.getElem_set_ne, hne]
    rwa [hother]

theorem foldl {α : Type} {g : State → α → State} {l : List α} (hg : ∀ (t : State) a, a ∈ l → t.CapEq (g t a)) (s : State) :
    s.CapEq (l.foldl g s) := foldl_keeps (P := s.CapEq) (fun t a ha h => h.trans (hg t a ha)) (refl s)

end State.CapEq

theorem State.stopPart_capEq (s : State) (p c cause : Nat) (st : CoreSt) : s.CapEq (s.stopPart p c cause st) := by
  by_cases h : s.isStopped p = true
  · rw [State.stopPart_eq, if_pos h]
    exact .refl s
  · rw [State.stopPart_stopping (Bool.eq_false_iff.2 h)]
    exact (State.CapEq.withCores s _).trans (.modPart _ p (g := fun q => { q with firstFault := some (c, cause) }) (fun _ => rfl) fun _ h => h)

/-- A partition with a core in service is stopped by its stop. -/
theorem State.stopPart_stops {s : State} {p : Nat} (hp : p < 8) {d : Fin 96} (hd : s.inPart p d = true) (hserv : (s.core d).st.inService = true)
    (c cause : Nat) : (s.stopPart p c cause .stopped).isStopped p = true := by
  by_cases h : s.isStopped p = true
  · rwa [State.stopPart_eq, if_pos h]
  · refine (State.isStopped_iff _ p).2 ⟨d, by rw [(s.stopPart_capEq p c cause _).plan.inPart hp]; exact hd, .inl ?_⟩
    rw [State.stopPart_stopping (Bool.eq_false_iff.2 h), State.modPart_core, State.withCores_core, if_pos ((s.mem_coresOf p d).2 hd), Core.stopAs,
      if_pos hserv]

/-- A stop leaves every partition that is stopped so. -/
theorem State.stopPart_keeps {s : State} {p : Nat} (hp : p < 8) (h : s.isStopped p = true) (q c cause : Nat) :
    (s.stopPart q c cause .stopped).isStopped p = true := by
  obtain ⟨d, hd, hst⟩ := (s.isStopped_iff p).1 h
  refine (State.isStopped_iff _ p).2 ⟨d, by rw [(s.stopPart_capEq q c cause _).plan.inPart hp]; exact hd, ?_⟩
  rcases s.stopPart_core q c cause d with hcore | ⟨-, -, hcore⟩
  · rwa [hcore]
  · rw [hcore]
    exact .inl rfl

/-! ## A slip -/

theorem offStatus_clErrsum (n : Nat) : offStatus (rUCB_cl_ERRSUM n) := fun p hp => by simp only [rPART_STATUS, rUCB_cl_ERRSUM]; omega
theorem offStatus_dieErrsum (n : Nat) : offStatus (rUCB_die_ERRSUM n) := fun p hp => by simp only [rPART_STATUS, rUCB_die_ERRSUM]; omega
theorem offStatus_modErrsum : offStatus rUCB_mod_ERRSUM := fun p hp => by simp only [rPART_STATUS, rUCB_mod_ERRSUM]; omega

theorem State.errsum_capEq (s : State) (c : Fin 96) (b : Nat) : s.CapEq (s.errsum c b) :=
  (((State.CapEq.modCore s c _).trans (.setBit _ b true (offStatus_clErrsum _))).trans (.setBit _ b true (offStatus_dieErrsum _))).trans
    (.setBit _ b true offStatus_modErrsum)

theorem State.record_capEq (s : State) (cls unit op action addr subkind synd : Nat) (inj : Bool) :
    s.CapEq (s.record cls unit op action addr subkind synd inj) := .of_regs rfl rfl rfl rfl rfl

theorem State.progNote_capEq (s : State) (c : Fin 96) (unit freg op addr : Nat) : s.CapEq (s.progNote c unit freg op addr) := by
  unfold State.progNote
  dsimp only
  split
  · exact s.record_capEq _ _ _ _ _ _ _ _
  · exact (s.errsum_capEq c _).trans (State.record_capEq _ _ _ _ _ _ _ _ _)

/-- The cores agree in SEQ.SLIPS, the counts of the frame, the counters and the state. -/
structure Core.SlipEq (k k' : Core) : Prop where
  slips : k'.reg kSEQ_SLIPS = k.reg kSEQ_SLIPS
  fcount : k'.fcount = k.fcount
  scnt : k'.scnt = k.scnt
  st : k'.st = k.st

theorem Core.SlipEq.refl (k : Core) : k.SlipEq k := ⟨rfl, rfl, rfl, rfl⟩

theorem Core.SlipEq.trans {k j i : Core} (h : k.SlipEq j) (h' : j.SlipEq i) : k.SlipEq i :=
  ⟨h'.slips.trans h.slips, h'.fcount.trans h.fcount, h'.scnt.trans h.scnt, h'.st.trans h.st⟩

theorem Core.setErrsum_slipEq (k : Core) (b : Nat) : k.SlipEq (k.setFld kUCB_core_ERRSUM b b 1) :=
  ⟨k.setFld_reg_other _ _ _ _ _ (by decide), rfl, rfl, rfl⟩

theorem Core.faultReg_slipEq (k : Core) (v : Nat) : k.SlipEq (k.faultReg kSEQ_FAULT v) := by
  unfold Core.faultReg
  split
  · exact .refl k
  · exact ⟨(k.setReg_reg _ _ _).trans (if_neg (by decide)), rfl, rfl, rfl⟩

theorem State.progNote_slipEq (s : State) (c d : Fin 96) (unit freg op addr : Nat) :
    (s.core d).SlipEq ((s.progNote c unit freg op addr).core d) := by
  unfold State.progNote
  dsimp only
  rw [State.record_core]
  split
  · exact .refl _
  · rw [State.errsum_core]
    split
    · next h =>
      rw [h]
      exact Core.setErrsum_slipEq _ _
    · exact .refl _

theorem State.progNote_core_other (s : State) {c d : Fin 96} (h : d ≠ c) (unit freg op addr : Nat) :
    (s.progNote c unit freg op addr).core d = s.core d := by
  unfold State.progNote
  dsimp only
  rw [State.record_core]
  split
  · rfl
  · rw [State.errsum_core, if_neg h]

/-- SEQ.SLIPS counts a slip. -/
def Core.countSlip (k : Core) : Core := k.setFld (kSEQ_SLIPS) 11 0 (min (k.fld (kSEQ_SLIPS) 11 0 + 1) 4095)

theorem Core.countSlip_fld (k : Core) : k.countSlip.fld (kSEQ_SLIPS) 11 0 = min (k.fld (kSEQ_SLIPS) 11 0 + 1) 4095 := by
  rw [Core.countSlip, Core.setFld_fld_same _ _ _ _ _ (by decide)]
  omega

/-- The slip of core m is counted. -/
def State.slipCounted (m : Fin 96) (s : State) : State := (s.modCore m Core.countSlip).errsum m eSLIP

/-- A core whose block spills into the next frame. -/
def Core.spilled (k : Core) : Core := { k with spill := true, hold := true }

/-- The stop that a strict domain makes of a slip: what is noted before it. -/
def State.slipHard (s : State) (c : Fin 96) : State :=
  (s.modCore c (fun k => k.faultReg (kSEQ_FAULT) (7 + 2 ^ 16 * k.pc))).progNote c 1 (kSEQ_FAULT) 0 0

/-- What a relaxed domain makes of a slip: the block goes on under a hold. -/
def State.slipSoft (s : State) (c : Fin 96) (p : Nat) : State :=
  (s.eachMember c (fun m s => s.modCore m Core.spilled)).modPart p (fun q => { q with reqHold := true })

theorem State.slip_eq (s : State) (c : Fin 96) (p : Nat) : s.slip c p =
    if ((s.eachMember c State.slipCounted).part p).domNow.getLsbD 16 then (s.eachMember c State.slipCounted).slipHard c
    else (s.eachMember c State.slipCounted).slipSoft c p := rfl

theorem slipCounted_coreOp : CoreOp State.slipCounted := fun s m d hd => by
  rw [State.slipCounted, State.errsum_core, if_neg hd, State.modCore_core, if_neg hd]

theorem State.slipCounted_capEq (s : State) (m : Fin 96) : s.CapEq (s.slipCounted m) :=
  (State.CapEq.modCore s m _).trans (State.errsum_capEq _ m _)

theorem State.slipCounted_core (s : State) (m : Fin 96) : (s.core m).countSlip.SlipEq ((s.slipCounted m).core m) := by
  rw [State.slipCounted, State.errsum_core, if_pos rfl, State.modCore_core, if_pos rfl]
  exact Core.setErrsum_slipEq _ _

theorem State.slipsCounted_capEq (s : State) (c : Fin 96) : s.CapEq (s.eachMember c State.slipCounted) :=
  State.CapEq.foldl (fun t m _ => t.slipCounted_capEq m) s

theorem State.slipsCounted_core (s : State) (c m : Fin 96) (hm : m ∈ s.members c) :
    (s.core m).countSlip.SlipEq ((s.eachMember c State.slipCounted).core m) := by
  obtain ⟨t, -, hfound, hend⟩ :=
    slipCounted_coreOp.foldl_turn (s.members_nodup c) (R := fun _ => True) (fun _ _ _ => trivial) (s := s) trivial hm
  rw [State.eachMember, hend, ← hfound]
  exact t.slipCounted_core m

theorem State.slipsCounted_core_out (s : State) (c m : Fin 96) (hm : m ∉ s.members c) :
    (s.eachMember c State.slipCounted).core m = s.core m := slipCounted_coreOp.foldl_out s hm

theorem State.slipHard_capEq (s : State) (c : Fin 96) : s.CapEq (s.slipHard c) := (State.CapEq.modCore s c _).trans (State.progNote_capEq _ _ _ _ _ _)

theorem State.slipHard_slipEq (s : State) (c d : Fin 96) : (s.core d).SlipEq ((s.slipHard c).core d) := by
  refine Core.SlipEq.trans ?_ (State.progNote_slipEq _ c d _ _ _ _)
  rw [State.modCore_core]
  split
  · next h =>
    rw [h]
    exact Core.faultReg_slipEq _ _
  · exact .refl _

theorem State.slipHard_core_other (s : State) {c d : Fin 96} (h : d ≠ c) : (s.slipHard c).core d = s.core d := by
  rw [State.slipHard, State.progNote_core_other _ h, State.modCore_core, if_neg h]

theorem State.slipSoft_capEq (s : State) (c : Fin 96) (p : Nat) : s.CapEq (s.slipSoft c p) :=
  (State.CapEq.foldl (fun t m _ => .modCore t m _) s).trans
    (.modPart _ p (g := fun q => { q with reqHold := true }) (fun _ => rfl) fun _ _ => rfl)

theorem State.slipSoft_core (s : State) (c m : Fin 96) (p : Nat) :
    (s.slipSoft c p).core m = if m ∈ s.members c then (s.core m).spilled else s.core m := by
  rw [State.slipSoft, State.modPart_core, State.eachMember_const]

theorem State.slipSoft_held (s : State) (c : Fin 96) (p : Nat) : ((s.slipSoft c p).part p).reqHold = true := by
  rw [State.slipSoft, State.modPart_part_same]

section
variable (s : State) (c : Fin 96) (p : Nat)

theorem State.slip_capEq : s.CapEq (s.slip c p) := by
  rw [State.slip_eq]
  split
  · exact (s.slipsCounted_capEq c).trans (State.slipHard_capEq _ c)
  · exact (s.slipsCounted_capEq c).trans (State.slipSoft_capEq _ c p)

theorem State.slip_core_out (m : Fin 96) (hm : m ∉ s.members c) : (s.slip c p).core m = s.core m := by
  have hne : m ≠ c := fun e => hm (e ▸ s.leader_mem_members c)
  have hmem : m ∉ (s.eachMember c State.slipCounted).members c := by rwa [State.members_of_gang (s.slipsCounted_capEq c).gang]
  rw [State.slip_eq]
  split
  · rw [State.slipHard_core_other _ hne, State.slipsCounted_core_out _ _ _ hm]
  · rw [State.slipSoft_core, if_neg hmem, State.slipsCounted_core_out _ _ _ hm]

theorem State.slip_core (m : Fin 96) (hm : m ∈ s.members c) : (s.core m).countSlip.SlipEq ((s.slip c p).core m) := by
  refine (s.slipsCounted_core c m hm).trans ?_
  rw [State.slip_eq]
  split
  · exact State.slipHard_slipEq _ c m
  · rw [State.slipSoft_core]
    split <;> exact ⟨rfl, rfl, rfl, rfl⟩

theorem State.slip_relaxed (h : (s.part p).domNow.getLsbD 16 = false) : ((s.slip c p).part p).reqHold = true
    ∧ ∀ m, m ∈ s.members c → ((s.slip c p).core m).spill = true ∧ ((s.slip c p).core m).hold = true := by
  have hsoft : s.slip c p = (s.eachMember c State.slipCounted).slipSoft c p := by
    rw [State.slip_eq, (s.slipsCounted_capEq c).dom, h, if_neg Bool.false_ne_true]
  rw [hsoft]
  refine ⟨State.slipSoft_held _ c p, fun m hm => ?_⟩
  rw [State.slipSoft_core, if_pos (by rwa [State.members_of_gang (s.slipsCounted_capEq c).gang])]
  exact ⟨rfl, rfl⟩

end

/-! ## The slips of a window -/

/-- The turn of one gang whose block slips. -/
def State.slipStep (s : State) (c : Fin 96) : State := match s.partOf c with | some p => s.slip c p | none => s

/-- The stop that a slip makes in a strict domain. -/
def State.strictStep (s : State) (c : Fin 96) : State :=
  match s.partOf c with
  | some p => if (s.part p).domNow.getLsbD 16 then s.stopPart p c.val 1 .stopped else s
  | none => s

/-- The gangs whose blocks slip. -/
def State.slipped (s : State) : List (Fin 96) := s.leaders.filter s.slipping

theorem State.slips_eq (s : State) : s.slips = s.slipped.foldl State.strictStep (s.slipped.foldl State.slipStep s) := rfl

theorem State.slipped_nodup (s : State) : s.slipped.Nodup := s.leaders_nodup.filter _

theorem State.slipped_leader (s : State) (c : Fin 96) (hc : c ∈ s.slipped) : s.gang[c] = c := (s.mem_leaders c).1 (List.mem_of_mem_filter hc)

theorem State.slipStep_of_part {s : State} {c : Fin 96} {p : Nat} (h : s.partOf c = some p) : s.slipStep c = s.slip c p := by
  rw [State.slipStep, h]

theorem State.slipStep_capEq (s : State) (c : Fin 96) : s.CapEq (s.slipStep c) := by
  unfold State.slipStep
  split
  · exact s.slip_capEq c _
  · exact .refl s

theorem State.slipStep_core_out (s : State) (c m : Fin 96) (hm : m ∉ s.members c) : (s.slipStep c).core m = s.core m := by
  unfold State.slipStep
  split
  · exact s.slip_core_out c _ m hm
  · rfl

theorem slipStep_gangOp : GangOp State.slipStep := fun s c => ⟨(s.slipStep_capEq c).gang, s.slipStep_core_out c⟩

/-- The cores agree in the counts of the frame, the counters and the state. -/
def Core.SameCounts (k k' : Core) : Prop := k'.fcount = k.fcount ∧ k'.scnt = k.scnt ∧ k'.st = k.st

theorem Core.SlipEq.sameCounts {k k' : Core} (h : k.countSlip.SlipEq k') : k.SameCounts k' := ⟨h.fcount, h.scnt, h.st⟩

theorem State.slipStep_sameCounts (s : State) (c d : Fin 96) : (s.core d).SameCounts ((s.slipStep c).core d) := by
  by_cases hd : d ∈ s.members c
  · unfold State.slipStep
    split
    · exact (s.slip_core c _ d hd).sameCounts
    · exact ⟨rfl, rfl, rfl⟩
  · rw [State.slipStep_core_out _ _ _ hd]
    exact ⟨rfl, rfl, rfl⟩

theorem State.slipSteps_capEq (s : State) (l : List (Fin 96)) : s.CapEq (l.foldl State.slipStep s) :=
  State.CapEq.foldl (fun t c _ => t.slipStep_capEq c) s

theorem State.slipSteps_sameCounts (s : State) (l : List (Fin 96)) (d : Fin 96) : (s.core d).SameCounts ((l.foldl State.slipStep s).core d) := by
  refine foldl_keeps (P := fun t => (s.core d).SameCounts (t.core d)) (fun t c _ ht => ?_) ⟨rfl, rfl, rfl⟩
  obtain ⟨hf, hs, hst⟩ := t.slipStep_sameCounts c d
  exact ⟨hf.trans ht.1, hs.trans ht.2.1, hst.trans ht.2.2⟩

theorem State.strictStep_capEq (s : State) (c : Fin 96) : s.CapEq (s.strictStep c) := by
  unfold State.strictStep
  split
  · split
    · exact s.stopPart_capEq _ _ _ _
    · exact .refl s
  · exact .refl s

/-- What a stop leaves of a core: registers, the counts of the frame, the counters, and whether its block spills under a hold. -/
structure Core.StopEq (k k' : Core) : Prop where
  cregs : k'.cregs = k.cregs
  fcount : k'.fcount = k.fcount
  scnt : k'.scnt = k.scnt
  spill : k'.spill = k.spill
  hold : k'.hold = k.hold

theorem Core.StopEq.trans {k j i : Core} (h : k.StopEq j) (h' : j.StopEq i) : k.StopEq i :=
  ⟨h'.cregs.trans h.cregs, h'.fcount.trans h.fcount, h'.scnt.trans h.scnt, h'.spill.trans h.spill, h'.hold.trans h.hold⟩

theorem State.stopPart_stopEq (s : State) (p c cause : Nat) (d : Fin 96) : (s.core d).StopEq ((s.stopPart p c cause .stopped).core d) := by
  rcases s.stopPart_core p c cause d with h | ⟨-, -, h⟩ <;> rw [h] <;> exact ⟨rfl, rfl, rfl, rfl, rfl⟩

theorem State.strictStep_stopEq (s : State) (c d : Fin 96) : (s.core d).StopEq ((s.strictStep c).core d) := by
  unfold State.strictStep
  split
  · split
    · exact s.stopPart_stopEq _ _ _ d
    · exact ⟨rfl, rfl, rfl, rfl, rfl⟩
  · exact ⟨rfl, rfl, rfl, rfl, rfl⟩

theorem State.strictSteps_stopEq (s : State) (l : List (Fin 96)) (d : Fin 96) : (s.core d).StopEq ((l.foldl State.strictStep s).core d) :=
  foldl_keeps (P := fun t => (s.core d).StopEq (t.core d)) (fun t c _ ht => ht.trans (t.strictStep_stopEq c d)) ⟨rfl, rfl, rfl, rfl, rfl⟩

theorem State.strictStep_keeps {s : State} {p : Nat} (hp : p < 8) (h : s.isStopped p = true) (c : Fin 96) : (s.strictStep c).isStopped p = true := by
  unfold State.strictStep
  split
  · split
    · exact State.stopPart_keeps hp h _ _ _
    · exact h
  · exact h

/-- A strict step leaves a core of partition p alone, or stops it and so its partition. -/
theorem State.strictStep_running {s : State} {p : Nat} {d : Fin 96} (hp : p < 8) (hd : s.inPart p d = true) (hrun : (s.core d).st = .running)
    (c : Fin 96) : (s.strictStep c).isStopped p = true ∨ ((s.strictStep c).core d).st = .running := by
  unfold State.strictStep
  split
  · next q _ =>
    split
    · rcases s.stopPart_core q c.val 1 d with hcore | ⟨-, -, hcore⟩
      · exact .inr (by rw [hcore, hrun])
      · refine .inl ((State.isStopped_iff _ p).2 ⟨d, ?_, .inl (by rw [hcore])⟩)
        rw [(s.stopPart_capEq q c.val 1 _).plan.inPart hp, hd]
    · exact .inr hrun
  · exact .inr hrun

/-- In a strict domain the partition of a gang whose block slips is stopped at the end. -/
theorem State.strictSteps_stop {s : State} {l : List (Fin 96)} {c : Fin 96} {p : Nat} (hc : c ∈ l) (hpart : s.partOf c = some p)
    (hstrict : (s.part p).domNow.getLsbD 16 = true) (hrun : (s.core c).st = .running) : (l.foldl State.strictStep s).isStopped p = true := by
  have hp := State.partOf_lt hpart
  refine foldl_reaches (R := fun t => s.CapEq t ∧ (t.isStopped p = true ∨ (t.core c).st = .running)) (P := fun t => t.isStopped p = true) hc
    (fun t d _ ht => ?_) (fun t d _ ht => State.strictStep_keeps hp ht d) (fun t ht => ?_) ⟨.refl s, .inr hrun⟩
  · obtain ⟨hcap, hst⟩ := ht
    refine ⟨hcap.trans (t.strictStep_capEq d), ?_⟩
    rcases hst with hst | hst
    · exact .inl (State.strictStep_keeps hp hst d)
    · exact State.strictStep_running hp (by rw [hcap.plan.inPart hp]; exact State.partOf_inPart hpart) hst d
  · obtain ⟨hcap, hst⟩ := ht
    rcases hst with hst | hst
    · exact State.strictStep_keeps hp hst c
    · have hstep : t.strictStep c = t.stopPart p c.val 1 .stopped := by
        rw [State.strictStep, hcap.plan.partOf, hpart]
        dsimp only
        rw [hcap.dom, hstrict, if_pos rfl]
      rw [hstep]
      exact State.stopPart_stops hp (by rw [hcap.plan.inPart hp]; exact State.partOf_inPart hpart) (by rw [hst]; rfl) _ _

theorem State.slips_capEq (s : State) : s.CapEq s.slips := by
  rw [State.slips_eq]
  exact (s.slipSteps_capEq _).trans (.foldl (fun t c _ => t.strictStep_capEq c) _)

theorem State.slips_counts (s : State) (d : Fin 96) : (s.slips.core d).fcount = (s.core d).fcount ∧ (s.slips.core d).scnt = (s.core d).scnt := by
  obtain ⟨hf, hs, -⟩ := s.slipSteps_sameCounts s.slipped d
  have hstop := State.strictSteps_stopEq (s.slipped.foldl State.slipStep s) s.slipped d
  rw [State.slips_eq]
  exact ⟨hstop.fcount.trans hf, hstop.scnt.trans hs⟩

/-- A gang whose block slips: each member counts it; a relaxed domain raises hold, a strict one stops the partition. -/
theorem State.slips_member {s : State} {c : Fin 96} {p : Nat} (hc : c ∈ s.slipped) (hpart : s.partOf c = some p) (hrun : (s.core c).st = .running) :
    (∀ m, m ∈ s.members c → (s.slips.core m).fld (kSEQ_SLIPS) 11 0 = min ((s.core m).fld (kSEQ_SLIPS) 11 0 + 1) 4095)
      ∧ if (s.part p).domNow.getLsbD 16 then s.slips.isStopped p = true
        else (s.slips.part p).reqHold = true ∧ ∀ m, m ∈ s.members c → (s.slips.core m).spill = true ∧ (s.slips.core m).hold = true := by
  obtain ⟨u, hu⟩ : ∃ u, u = s.slipped.foldl State.slipStep s := ⟨_, rfl⟩
  have hcap : s.CapEq u := hu ▸ s.slipSteps_capEq _
  have hstop (d : Fin 96) : (u.core d).StopEq (s.slips.core d) := by
    rw [State.slips_eq, ← hu]
    exact u.strictSteps_stopEq _ d
  obtain ⟨t, ht, hgang, hcores, hend⟩ := slipStep_gangOp.foldl_turn s.slipped_nodup s.slipped_leader (R := s.CapEq)
    (fun t d _ ht => ht.trans (t.slipStep_capEq d)) (.refl s) hc
  have hstep : t.slipStep c = t.slip c p := State.slipStep_of_part (ht.plan.partOf c ▸ hpart)
  have hmem (m : Fin 96) (hm : m ∈ s.members c) : m ∈ t.members c := by rwa [State.members_of_gang hgang]
  have hcore (m : Fin 96) (hm : m ∈ s.members c) : u.core m = (t.slip c p).core m := by rw [hu, hend m hm, hstep]
  refine ⟨fun m hm => ?_, ?_⟩
  · have hslips := (t.slip_core c p m (hmem m hm)).slips
    rw [← hcore m hm, hcores m hm] at hslips
    rw [Core.fld, Core.reg, (hstop m).cregs, ← Core.reg, hslips, ← Core.fld, Core.countSlip_fld]
  · by_cases hstrict : (s.part p).domNow.getLsbD 16 = true
    · rw [if_pos hstrict, State.slips_eq, ← hu]
      exact State.strictSteps_stop hc (by rw [hcap.plan.partOf]; exact hpart) (by rw [hcap.dom]; exact hstrict)
        (by rw [hu, (s.slipSteps_sameCounts _ c).2.2]; exact hrun)
    · rw [if_neg hstrict]
      have hrelaxed : (s.part p).domNow.getLsbD 16 = false := Bool.eq_false_iff.2 hstrict
      constructor
      · have hheld : (u.part p).reqHold = true := by
          rw [hu]
          refine foldl_reaches (R := s.CapEq) (P := fun t => (t.part p).reqHold = true) hc (fun t d _ ht => ht.trans (t.slipStep_capEq d))
            (fun t d _ ht => (t.slipStep_capEq d).held p ht) (fun t ht => ?_) (.refl s)
          rw [State.slipStep_of_part (ht.plan.partOf c ▸ hpart)]
          exact (t.slip_relaxed c p (by rw [ht.dom]; exact hrelaxed)).1
        rw [State.slips_eq, ← hu]
        exact (State.CapEq.foldl (fun t c _ => t.strictStep_capEq c) u).held p hheld
      · intro m hm
        obtain ⟨hspill, hhold⟩ := (t.slip_relaxed c p (by rw [ht.dom]; exact hrelaxed)).2 m (hmem m hm)
        rw [← hcore m hm] at hspill hhold
        exact ⟨(hstop m).spill.trans hspill, (hstop m).hold.trans hhold⟩

/-! ## The rest of the capture -/

/-- What the rest of the capture leaves of a core: its state, its spill and hold, the counts of the frame and the registers outside its
windows. -/
structure Core.RestEq (k k' : Core) : Prop where
  st : k'.st = k.st
  spill : k'.spill = k.spill
  hold : k'.hold = k.hold
  fcount : k'.fcount = k.fcount
  reg : ∀ o, offWin o → k'.reg o = k.reg o

theorem Core.RestEq.refl (k : Core) : k.RestEq k := ⟨rfl, rfl, rfl, rfl, fun _ _ => rfl⟩

theorem Core.RestEq.trans {k j i : Core} (h : k.RestEq j) (h' : j.RestEq i) : k.RestEq i :=
  ⟨h'.st.trans h.st, h'.spill.trans h.spill, h'.hold.trans h.hold, h'.fcount.trans h.fcount, fun o ho => (h'.reg o ho).trans (h.reg o ho)⟩

/-- What the rest of the capture leaves of the state. -/
structure State.RestEq (s t : State) : Prop where
  cap : s.CapEq t
  core : ∀ d, (s.core d).RestEq (t.core d)

namespace State.RestEq

theorem of_cores {s t : State} (h : s.CapEq t) (hcores : t.cores = s.cores) : s.RestEq t :=
  ⟨h, fun d => by
    rw [State.core, State.core, hcores]
    exact .refl _⟩

theorem refl (s : State) : s.RestEq s := of_cores (.refl s) rfl

theorem trans {s t u : State} (h : s.RestEq t) (h' : t.RestEq u) : s.RestEq u := ⟨h.cap.trans h'.cap, fun d => (h.core d).trans (h'.core d)⟩

theorem foldl {α : Type} {g : State → α → State} {l : List α} (hg : ∀ (t : State) a, a ∈ l → t.RestEq (g t a)) (s : State) :
    s.RestEq (l.foldl g s) := foldl_keeps (P := s.RestEq) (fun t a ha h => h.trans (hg t a ha)) (refl s)

theorem setReg (s : State) {o : Nat} (v : Word32) (ho : offStatus o) : s.RestEq (s.setReg o v) := of_cores (.setReg s v ho) rfl

theorem setReg64 (s : State) {o : Nat} (v : Nat) (ho : offStatus o) (ho' : offStatus (o + 4)) : s.RestEq (s.setReg64 o v) :=
  (setReg s _ ho).trans (setReg _ _ ho')

theorem isStopped {s t : State} (h : s.RestEq t) {p : Nat} (hp : p < 8) : t.isStopped p = s.isStopped p := by
  simp only [State.isStopped, h.cap.plan.coresOf hp, (h.core _).st]

end State.RestEq

/-! ## Windows of the units -/

theorem State.coreWindows_restEq (s : State) (c : Fin 96) : s.RestEq (s.coreWindows c) := by
  obtain ⟨v, hv⟩ := s.coreWindows_eq c
  rw [hv]
  refine ⟨.of_regs rfl rfl rfl rfl rfl, fun d => ?_⟩
  by_cases h : d = c
  · rw [h, State.setCore_core, if_pos rfl]
    have htally := (s.core c).windowed_tallyEq ((s.core c).cregs.filter (fun e => kUCB_core_WINSEL 0 ≤ e.1 && e.1 < kUCB_core_WINSEL 8)) v
    refine ⟨htally.st, htally.spill, htally.hold, Core.windowed_fcount _ _ _, fun o ho => Core.windowed_reg _ _ (fun e he => ?_) ho⟩
    have hkey := (List.mem_filter.1 he).2
    rw [Bool.and_eq_true, decide_eq_true_eq, decide_eq_true_eq] at hkey
    exact hkey.2
  · rw [State.setCore_core, if_neg h]
    exact .refl _

/-- The state with the registers of [lo, hi) as after reset. -/
def State.regsCleared (s : State) (lo hi : Nat) : State := { s with regs := mapClear s.regs lo hi }

theorem State.regsCleared_capEq (s : State) {lo hi : Nat} (h : ∀ o, lo ≤ o → o < hi → offStatus o) : s.CapEq (s.regsCleared lo hi) := by
  refine ⟨rfl, rfl, fun p hp => ?_, rfl, fun _ => rfl, fun _ h => h⟩
  have hout : ¬ (lo ≤ rPART_STATUS p ∧ rPART_STATUS p < hi) := fun hin => h _ hin.1 hin.2 p hp rfl
  simp only [State.reg, State.regsCleared, mapFind_mapClear, if_neg hout]

theorem State.unitWindows_eq (s : State) (base first n : Nat) (bar : Option Nat) : ∃ v : Nat × Word32 → Nat,
    s.unitWindows base first n bar = (s.regs.filter (fun e => base + 0x20 ≤ e.1 && e.1 < base + 0x40)).foldl
      (fun t e => t.setReg64 (base + 0x40 + 2 * (e.1 - base - 0x20)) (v e)) (s.regsCleared (base + 0x40) (base + 0x80)) := ⟨_, rfl⟩

/-- No PARTn.STATUS lies among the windows of the unit whose registers begin at `base`. -/
def offUnit (base : Nat) : Prop := ∀ o, base + 0x40 ≤ o → o < base + 0x84 → offStatus o

theorem State.unitWindows_restEq (s : State) {base : Nat} (hbase : offUnit base) (first n : Nat) (bar : Option Nat) :
    s.RestEq (s.unitWindows base first n bar) := by
  obtain ⟨v, hv⟩ := s.unitWindows_eq base first n bar
  rw [hv]
  refine (State.RestEq.of_cores (s.regsCleared_capEq fun o hlo hhi => hbase o hlo (by omega)) rfl).trans (.foldl (fun t e he => ?_) _)
  have hkey := (List.mem_filter.1 he).2
  rw [Bool.and_eq_true, decide_eq_true_eq, decide_eq_true_eq] at hkey
  exact .setReg64 _ _ (hbase _ (by omega) (by omega)) (hbase _ (by omega) (by omega))

theorem offUnit_cluster (k : Nat) : offUnit (rUCB_cl_IDENT k) := fun o hlo hhi p hp => by
  simp only [rPART_STATUS, rUCB_cl_IDENT] at hlo hhi ⊢
  omega

theorem offUnit_die (k : Nat) : offUnit (rUCB_die_IDENT k) := fun o hlo hhi p hp => by
  simp only [rPART_STATUS, rUCB_die_IDENT] at hlo hhi ⊢
  omega

theorem offUnit_module : offUnit rUCB_mod_IDENT := fun o hlo hhi p hp => by
  simp only [rPART_STATUS, rUCB_mod_IDENT] at hlo hhi ⊢
  omega

theorem State.windows_restEq (s : State) : s.RestEq s.windows :=
  ((((State.RestEq.foldl (fun t c _ => t.coreWindows_restEq c) s).trans
    (.foldl (fun t k _ => t.unitWindows_restEq (offUnit_cluster k) _ _ _) _)).trans
    (State.unitWindows_restEq _ (offUnit_die 0) _ _ _)).trans
    (State.unitWindows_restEq _ (offUnit_die 1) _ _ _)).trans
    (State.unitWindows_restEq _ offUnit_module _ _ _)

/-! ## The steps of the capture -/

/-- Cycle 1,280, with no block on hold and those still active late. -/
def State.captureBegun (s : State) : State :=
  { s with cycle := s.winCy 1280 }.eachCore allCores (fun k => { k with hold := false, late := k.active })

/-- The stops of a power failure or a fall of PWR_EN. -/
def State.powerStops (s : State) : State := if s.power.stopAll then (List.range 8).foldl (fun s p => s.stopPart p 0 0 .stopped) s else s

/-- The capture in core c. -/
def State.captureCore (c : Fin 96) (s : State) : State := s.modCore c (fun k => k.captured (k.blockCycle s.frame 1280) (s.freeCtr + 5 * c.val))

/-- The free values of the capture are spent. -/
def State.captureDrawn (s : State) : State := { s with freeCtr := s.freeCtr + 480 }

/-- The barriers with outstanding counts are noted. -/
def State.barsCaptured (s : State) : State :=
  let caps := s.barCfg.filter (fun (e : Nat × Word32) => s.reg (barStatReg e.1) ≠ 0)
  { s with barCap := caps.map (fun (e : Nat × Word32) => (e.1, s.reg (barStatReg e.1))) }

/-- A lost lock shows. -/
def State.lockShown (s : State) : State :=
  if s.lockLost then { (s.setBit (rTIME_STATUS) 0 false).setReg (rTIME_HOPS) 31 with lockLost := false, lockRun := 0 } else s

/-- The alert is set again while its conditions hold. -/
def State.alertShown (s : State) : State := if s.alertHolds then s.alert true else s

/-- What the window has to apply is noted. -/
def State.windowNoted (s : State) : State := { s with winDue := s.windowDue }

/-- The power state that the window begins with. -/
def State.powerSettled (s : State) : State := if s.power.stopAll && !s.power.failed then s.toS3 else s.powerState

/-- The capture after the slips and the stops. -/
def State.captureRest (s : State) : State := s.captureDrawn.windows.barsCaptured.lockShown.alertShown.windowNoted

theorem execCapture_run {s : State} (h : s.phase = .run) : execCapture s =
    .next (allCores.foldl (fun s c => s.captureCore c) s.captureBegun.slips.powerStops).captureRest.powerSettled := by
  unfold execCapture
  rw [if_neg (by rw [h]; exact fun e => e rfl)]
  extract_lets s₁ s₂ s₃ s₄ s₅ s₆ s₇ caps s₈ t s₉ s₁₀ s₁₁
  have h₂ : s₂ = s.captureBegun := rfl
  have h₃ : s₃ = s₂.slips := rfl
  have h₄ : s₄ = s₃.powerStops := rfl
  have h₅ : s₅ = allCores.foldl (fun s c => s.captureCore c) s₄ := rfl
  have h₇ : s₇ = s₅.captureDrawn.windows := rfl
  have h₈ : s₈ = s₇.barsCaptured := rfl
  have h₉ : s₉ = s₈.lockShown := rfl
  have h₁₀ : s₁₀ = s₉.alertShown := rfl
  have h₁₁ : s₁₁ = s₁₀.windowNoted := rfl
  have hend : s₁₁.powerSettled = (allCores.foldl (fun s c => s.captureCore c) s.captureBegun.slips.powerStops).captureRest.powerSettled := by
    rw [State.captureRest, h₁₁, h₁₀, h₉, h₈, h₇, h₅, h₄, h₃, h₂]
  exact congrArg Host.Outcome.next hend

theorem State.powerStops_of_none {s : State} (h : s.power.stopAll = false) : s.powerStops = s := by
  rw [State.powerStops, h, if_neg Bool.false_ne_true]

theorem State.powerSettled_of_none {s : State} (h : s.power.stopAll = false) : s.powerSettled = s.powerState := by
  rw [State.powerSettled, h, Bool.false_and, if_neg Bool.false_ne_true]

theorem State.lockShown_restEq (s : State) : s.RestEq s.lockShown := by
  have hshow : s.RestEq ((s.setBit (rTIME_STATUS) 0 false).setReg (rTIME_HOPS) 31) :=
    (State.RestEq.setReg s _ (by unfold offStatus; decide)).trans (.setReg _ _ (by unfold offStatus; decide))
  unfold State.lockShown
  split
  · exact hshow.trans (.of_cores (.of_regs rfl rfl rfl rfl rfl) rfl)
  · exact .refl s

theorem State.alertShown_restEq (s : State) : s.RestEq s.alertShown := by
  have hset : s.RestEq (s.setBit (rERR_STATUS) 2 true) := State.RestEq.setReg s _ (by unfold offStatus; decide)
  unfold State.alertShown
  split
  · exact hset.trans (.of_cores (.of_regs rfl rfl rfl rfl rfl) rfl)
  · exact .refl s

theorem State.captureDrawn_restEq (s : State) : s.RestEq s.captureDrawn := .of_cores (.of_regs rfl rfl rfl rfl rfl) rfl
theorem State.barsCaptured_restEq (s : State) : s.RestEq s.barsCaptured := .of_cores (.of_regs rfl rfl rfl rfl rfl) rfl
theorem State.windowNoted_restEq (s : State) : s.RestEq s.windowNoted := .of_cores (.of_regs rfl rfl rfl rfl rfl) rfl

theorem State.captureRest_restEq (s : State) : s.RestEq s.captureRest := by
  rw [State.captureRest]
  have hbars := (s.captureDrawn_restEq.trans (State.windows_restEq _)).trans (State.barsCaptured_restEq _)
  have hshown := (hbars.trans (State.lockShown_restEq _)).trans (State.alertShown_restEq _)
  exact hshown.trans (State.windowNoted_restEq _)

theorem State.powerState_restEq (s : State) : s.RestEq s.powerState := by
  unfold State.powerState
  split
  · next t _ =>
    split
    · have hset : s.RestEq ((s.setFld (rRST_STATUS) 7 6 (s.fld (rRST_STATUS) 5 4)).setFld (rRST_STATUS) 5 4 t) :=
        (State.RestEq.setReg s _ (by unfold offStatus; decide)).trans (.setReg _ _ (by unfold offStatus; decide))
      exact hset.trans (.of_cores (.of_regs rfl rfl rfl rfl rfl) rfl)
    · exact .refl s
  · exact .refl s

/-! ## The beginning of the capture and the cores' part of it -/

/-- A core as the capture begins. -/
def Core.captureBegun (k : Core) : Core := { k with hold := false, late := k.active }

theorem State.captureBegun_eq (s : State) : s.captureBegun = ({ s with cycle := s.winCy 1280 } : State).withCores (fun d => (s.core d).captureBegun) :=
  State.eachCore_all _ _

theorem State.captureBegun_core (s : State) (d : Fin 96) : s.captureBegun.core d = (s.core d).captureBegun := by
  rw [State.captureBegun_eq, State.withCores_core]

theorem captureCore_coreOp : CoreOp State.captureCore := fun s m d hd => by rw [State.captureCore, State.modCore_core, if_neg hd]

theorem State.captureCores_capEq (s : State) : s.CapEq (allCores.foldl (fun s c => s.captureCore c) s) :=
  State.CapEq.foldl (fun t c _ => .modCore t c _) s

theorem State.captureCores_core (s : State) (d : Fin 96) : ∃ bc ctr,
    (allCores.foldl (fun s c => s.captureCore c) s).core d = (s.core d).captured bc ctr := by
  obtain ⟨t, -, hfound, hend⟩ := captureCore_coreOp.foldl_turn allCores_nodup (R := fun _ => True) (fun _ _ _ => trivial) (s := s) trivial
    (mem_allCores d)
  refine ⟨(s.core d).blockCycle t.frame 1280, t.freeCtr + 5 * d.val, ?_⟩
  rw [hend, State.captureCore, State.modCore_core, if_pos rfl, hfound]

section
variable (s : State)

theorem State.captureBegun_regs : s.captureBegun.regs = s.regs := by simp only [State.captureBegun_eq, State.withCores_regs]
theorem State.captureBegun_gang : s.captureBegun.gang = s.gang := by simp only [State.captureBegun_eq, State.withCores_gang]
theorem State.captureBegun_parts : s.captureBegun.parts = s.parts := by simp only [State.captureBegun_eq, State.withCores_parts]
theorem State.captureBegun_cycle : s.captureBegun.cycle = s.winCy 1280 := by simp only [State.captureBegun_eq, State.withCores]
theorem State.captureBegun_power : s.captureBegun.power = s.power := by simp only [State.captureBegun_eq, State.withCores]
theorem State.captureBegun_part (p : Nat) : s.captureBegun.part p = s.part p := by rw [State.part, State.captureBegun_parts, ← State.part]

end

/-- The capture: what it leaves of the state after the slips, and each core as its own capture makes it. -/
theorem execCapture_next {s : State} (hphase : s.phase = .run) (hstop : s.power.stopAll = false) :
    ∃ t, exec .capture s = .next t ∧ s.captureBegun.slips.CapEq t
      ∧ ∀ d, ∃ bc ctr, ((s.captureBegun.slips.core d).captured bc ctr).RestEq (t.core d) := by
  obtain ⟨u, hu⟩ : ∃ u, u = s.captureBegun.slips := ⟨_, rfl⟩
  have hpower : u.power.stopAll = false := by rw [hu, (State.slips_capEq _).power, State.captureBegun_power, hstop]
  obtain ⟨v, hv⟩ : ∃ v, v = allCores.foldl (fun s c => s.captureCore c) u := ⟨_, rfl⟩
  have hcaptured : u.CapEq v := hv ▸ u.captureCores_capEq
  have hrest : v.RestEq v.captureRest.powerState := v.captureRest_restEq.trans (State.powerState_restEq _)
  refine ⟨v.captureRest.powerState, ?_, hu ▸ hcaptured.trans hrest.cap, fun d => ?_⟩
  · have hend : v.captureRest.power.stopAll = false := by rw [v.captureRest_restEq.cap.power, hcaptured.power, hpower]
    refine (execCapture_run hphase).trans ?_
    rw [← hu, State.powerStops_of_none hpower, ← hv, State.powerSettled_of_none hend]
  · obtain ⟨bc, ctr, hcore⟩ := u.captureCores_core d
    refine ⟨bc, ctr, ?_⟩
    rw [← hu, ← hcore, ← hv]
    exact hrest.core d

theorem offWin_slips : offWin kSEQ_SLIPS := by unfold offWin; decide

theorem offWin_count {n : Nat} (h : n < 64) : offWin (kSCNT_COUNT n) ∧ offWin (kSCNT_COUNT n + 4) := by
  simp only [offWin, kSCNT_COUNT, kUCB_core_WIN]
  omega

section
variable {s t : State}

/-- What the capture leaves of a gang's slip, with every count of the frame taken. -/
theorem State.captured_counts {d : Fin 96} {bc ctr : Nat} (h : ((s.captureBegun.slips.core d).captured bc ctr).RestEq (t.core d)) :
    (t.core d).fcount = [] ∧ (mapAscending (s.core d).scnt = true → ∀ n, n < 64 → (t.core d).reg64 (kSCNT_COUNT n) = (s.core d).count n) := by
  have hscnt : (s.captureBegun.slips.core d).scnt = (s.core d).scnt := by rw [(s.captureBegun.slips_counts d).2, State.captureBegun_core]; rfl
  refine ⟨by rw [h.fcount, Core.captured_fcount], fun hasc n hn => ?_⟩
  obtain ⟨hlow, hhigh⟩ := offWin_count hn
  have hcount := Core.captured_count (s.captureBegun.slips.core d) bc ctr (by rwa [hscnt]) hn
  rw [Core.reg64] at hcount
  rw [Core.reg64, h.reg _ hlow, h.reg _ hhigh, hcount, Core.count, hscnt, Core.count]

theorem State.captured_slips {d : Fin 96} {bc ctr : Nat} (h : ((s.captureBegun.slips.core d).captured bc ctr).RestEq (t.core d))
    (hcount : (s.core d).noCountOf kSEQ_SLIPS) : (t.core d).fld (kSEQ_SLIPS) 11 0 = (s.captureBegun.slips.core d).fld (kSEQ_SLIPS) 11 0 := by
  have hfcount : (s.captureBegun.slips.core d).fcount = (s.core d).fcount := by
    rw [(s.captureBegun.slips_counts d).1, State.captureBegun_core]
    rfl
  rw [Core.fld, h.reg _ offWin_slips, Core.captured_slips _ _ _ (by rwa [Core.noCountOf, hfcount]), ← Core.fld]

end

theorem State.isStopped_of_captured {u t : State} {p : Nat} (hp : p < 8) (hcap : u.CapEq t)
    (h : ∀ d, ∃ bc ctr, ((u.core d).captured bc ctr).RestEq (t.core d)) (hstopped : u.isStopped p = true) : t.isStopped p = true := by
  obtain ⟨d, hd, hst⟩ := (u.isStopped_iff p).1 hstopped
  obtain ⟨bc, ctr, hcore⟩ := h d
  refine (t.isStopped_iff p).2 ⟨d, by rw [hcap.plan.inPart hp, hd], ?_⟩
  rwa [hcore.st, ((u.core d).captured_tallyEq bc ctr).st]

theorem State.captureBegun_slipping {s : State} {c : Fin 96} {p : Nat} (hgang : s.gang[c] = c) (hactive : (s.core c).active = true)
    (hspill : (s.core c).spill = false) (hrun : (s.core c).st = .running) (hpart : s.partOf c = some p) (hhalt : s.halted p = false) :
    c ∈ s.captureBegun.slipped := by
  have hpart' : s.captureBegun.partOf c = some p := by
    rw [(State.samePlan_of_regs s.captureBegun_regs).partOf, hpart]
  refine List.mem_filter.2 ⟨(State.mem_leaders _ c).2 (by rw [State.captureBegun_gang, hgang]), ?_⟩
  have hhalt' : s.captureBegun.halted p = false := by
    simp only [State.halted, (State.samePlan_of_regs s.captureBegun_regs).coresOf (State.partOf_lt hpart), State.captureBegun_core] at hhalt ⊢
    exact hhalt
  simp only [State.slipping, hpart', hhalt', State.captureBegun_core, Core.captureBegun, hactive, hspill, hrun, decide_true, Bool.not_false,
    Bool.and_true]

theorem capture_captureAndSlips (s : State) (hphase : s.phase = .run) (hstop : s.power.stopAll = false) : ∃ t, exec .capture s = .next t
    ∧ t.cycle = (match s.step with | some (_, len) => 1280 + len - 1300 | none => 1280)
    ∧ (∀ c, (t.core c).fcount = [] ∧ (mapAscending (s.core c).scnt = true →
        ∀ n, n < 64 → (t.core c).reg64 (kSCNT_COUNT n) = (s.core c).count n))
    ∧ ∀ c p, s.gang[c] = c → (s.core c).active = true → (s.core c).spill = false → (s.core c).st = .running →
      s.partOf c = some p → s.halted p = false →
      (∀ m, m ∈ s.members c → (s.core m).noCountOf kSEQ_SLIPS) →
      (∀ m, m ∈ s.members c → (t.core m).fld (kSEQ_SLIPS) 11 0 = min ((s.core m).fld (kSEQ_SLIPS) 11 0 + 1) 4095)
      ∧ if (s.part p).domNow.getLsbD 16 then t.isStopped p = true
        else (t.part p).reqHold = true ∧ ∀ m, m ∈ s.members c → (t.core m).spill = true ∧ (t.core m).hold = true := by
  obtain ⟨t, ht, hcap, hcore⟩ := execCapture_next hphase hstop
  refine ⟨t, ht, ?_, fun c => ?_, fun c p hgang hactive hspill hrun hpart hhalt hcounts => ?_⟩
  · rw [hcap.cycle, (State.slips_capEq _).cycle, State.captureBegun_cycle]
    rfl
  · obtain ⟨bc, ctr, h⟩ := hcore c
    exact State.captured_counts h
  · have hmembers : s.captureBegun.members c = s.members c := State.members_of_gang s.captureBegun_gang c
    have hp := State.partOf_lt hpart
    obtain ⟨hslips, hend⟩ := State.slips_member (State.captureBegun_slipping hgang hactive hspill hrun hpart hhalt)
      (by rw [(State.samePlan_of_regs s.captureBegun_regs).partOf, hpart]) (by rw [State.captureBegun_core]; exact hrun)
    rw [hmembers, State.captureBegun_part] at hend
    refine ⟨fun m hm => ?_, ?_⟩
    · obtain ⟨bc, ctr, h⟩ := hcore m
      rw [State.captured_slips h (hcounts m hm), hslips m (by rwa [hmembers]), State.captureBegun_core]
      rfl
    · split at hend
      · next hstrict =>
        rw [if_pos hstrict]
        exact State.isStopped_of_captured hp hcap hcore hend
      · next hrelaxed =>
        rw [if_neg hrelaxed]
        refine ⟨hcap.held p hend.1, fun m hm => ?_⟩
        obtain ⟨bc, ctr, h⟩ := hcore m
        have htally := (s.captureBegun.slips.core m).captured_tallyEq bc ctr
        rw [h.spill, h.hold, htally.spill, htally.hold]
        exact hend.2 m hm

/-! ## A block overrun -/

/-- A core with the fault of a block overrun, its first one. -/
def Core.overran (k : Core) : Core := k.faultReg kSEQ_FAULT (4 + 16 * 0 + 2 ^ 16 * k.pc)

theorem Core.overran_eq {k : Core} (hrun : k.st = .running) (hreg : k.reg kSEQ_FAULT = 0) (hfaulted : k.faulted = false) :
    k.overran = { k.setReg kSEQ_FAULT (0 ||| BitVec.ofNat 32 (4 + 16 * 0 + 2 ^ 16 * k.pc)) with faulted := true } := by
  have hshut : k.shut = false := by rw [Core.shut, hrun]; rfl
  have hno : k.hasFault kSEQ_FAULT = false := by rw [Core.hasFault, hshut, Core.fld, hreg, hfaulted]; rfl
  rw [Core.overran, Core.faultReg, hno, if_neg Bool.false_ne_true, hreg, hfaulted]
  rfl

theorem Core.overran_fld {k : Core} (hrun : k.st = .running) (hreg : k.reg kSEQ_FAULT = 0) (hfaulted : k.faulted = false) :
    k.overran.fld kSEQ_FAULT 3 0 = 4 := by
  have hval : k.overran.reg kSEQ_FAULT = BitVec.ofNat 32 (4 + 16 * 0 + 2 ^ 16 * k.pc) := by
    rw [Core.overran_eq hrun hreg hfaulted]
    refine (k.setReg_reg _ _ _).trans ?_
    rw [if_pos rfl]
    exact BitVec.zero_or
  rw [Core.fld, hval, BitVec.toNat_ofNat, bitsOf]
  omega

/-- What the note of a fault leaves of the core at fault: all but its ERRSUM. -/
theorem State.progNote_core (s : State) (c : Fin 96) (unit freg op addr : Nat) : (s.progNote c unit freg op addr).core c = s.core c
    ∨ (s.progNote c unit freg op addr).core c = (s.core c).setFld kUCB_core_ERRSUM ePROG ePROG 1 := by
  unfold State.progNote
  dsimp only
  rw [State.record_core]
  split
  · exact .inl rfl
  · rw [State.errsum_core, if_pos rfl]
    exact .inr rfl

theorem State.progNote_hbm (s : State) (c : Fin 96) (unit freg op addr : Nat) : (s.progNote c unit freg op addr).hbm = s.hbm := by
  unfold State.progNote
  dsimp only
  split <;> rfl

theorem State.stopPart_hbm (s : State) (p c cause : Nat) (st : CoreSt) : (s.stopPart p c cause st).hbm = s.hbm := by
  by_cases h : s.isStopped p = true
  · rw [State.stopPart_eq, if_pos h]
  · rw [State.stopPart_stopping (Bool.eq_false_iff.2 h), State.modPart_hbm]
    simp only [State.withCores]

/-- The fault of a block overrun and its note, before the partition stops. -/
def State.overrunNoted (s : State) (c : Fin 96) : State :=
  (({ s with cycle := s.winCy 1279 } : State).modCore c Core.overran).progNote c 1 kSEQ_FAULT 0 0

section
variable (s : State) (c d : Fin 96)

theorem State.overrunNoted_capEq : ({ s with cycle := s.winCy 1279 } : State).CapEq (s.overrunNoted c) :=
  (State.CapEq.modCore _ c _).trans (State.progNote_capEq _ _ _ _ _ _)

theorem State.overrunNoted_plan : s.samePlan (s.overrunNoted c) := (s.overrunNoted_capEq c).plan

theorem State.overrunNoted_core_st : ((s.overrunNoted c).core d).st = (s.core d).st := by
  rw [State.overrunNoted, (State.progNote_slipEq _ c d _ _ _ _).st, State.modCore_core]
  split
  · next h =>
    rw [h]
    exact (Core.faultReg_slipEq _ _).st
  · rfl

theorem State.overrunNoted_isStopped {p : Nat} (hp : p < 8) : (s.overrunNoted c).isStopped p = s.isStopped p := by
  simp only [State.isStopped, (s.overrunNoted_plan c).coresOf hp, State.overrunNoted_core_st]

theorem State.overrunNoted_core : (s.overrunNoted c).core c = (s.core c).overran
    ∨ (s.overrunNoted c).core c = (s.core c).overran.setFld kUCB_core_ERRSUM ePROG ePROG 1 := by
  have hcore : (({ s with cycle := s.winCy 1279 } : State).modCore c Core.overran).core c = (s.core c).overran :=
    (State.modCore_core _ _ _ _).trans (if_pos rfl)
  rw [← hcore]
  exact State.progNote_core _ c _ _ _ _

theorem State.overrunNoted_hbm : (s.overrunNoted c).hbm = s.hbm := (State.progNote_hbm _ _ _ _ _ _).trans (State.modCore_hbm _ _ _)

end

theorem State.progFault_of_part {s : State} {c : Fin 96} {unit freg op addr p : Nat} (h : (s.progNote c unit freg op addr).partOf c = some p) :
    s.progFault c unit freg op addr = (s.progNote c unit freg op addr).stopPart p c.val unit .stopped := by
  unfold State.progFault
  dsimp only
  rw [h]

theorem State.seqFault_of_leader (s : State) {c : Fin 96} (h : s.gang[c] = c) (cause slot op : Nat) : s.seqFault c cause slot op =
    (s.modCore c (fun k => k.faultReg (kSEQ_FAULT) (cause + 16 * slot + 2 ^ 16 * k.pc))).progFault c 1 (kSEQ_FAULT) op 0 := by
  simp only [State.seqFault, State.modCore_gang, h]

theorem execBlockOverrun_eq {s : State} {c : Fin 96} {p : Nat} (hgang : s.gang[c] = c) (hactive : (s.core c).active = true)
    (hspill : (s.core c).spill = true) (hrun : (s.core c).st = .running) (hframe : (s.core c).blockFrame.toNat < s.frame)
    (hpart : s.partOf c = some p) (hhalt : s.halted p = false) :
    execBlockOverrun c s = .next ((s.overrunNoted c).stopPart p c.val 1 .stopped) := by
  obtain ⟨u, hu⟩ : ∃ u : State, u = { s with cycle := s.winCy 1279 } := ⟨_, rfl⟩
  have hug : u.gang[c] = c := by rw [hu]; exact hgang
  have hfault : u.seqFault c 4 0 0 = (s.overrunNoted c).stopPart p c.val 1 .stopped := by
    have hnoted : (u.modCore c Core.overran).progNote c 1 kSEQ_FAULT 0 0 = s.overrunNoted c := by rw [hu, State.overrunNoted]
    have hpart' : (s.overrunNoted c).partOf c = some p := by rw [(s.overrunNoted_plan c).partOf, hpart]
    rw [u.seqFault_of_leader hug]
    change (u.modCore c Core.overran).progFault c 1 kSEQ_FAULT 0 0 = _
    rw [State.progFault_of_part (by rw [hnoted, hpart']), hnoted]
  rw [← hfault, hu]
  simp only [execBlockOverrun, hpart]
  exact if_pos ⟨hgang, hactive, hspill, hrun, hframe, hhalt⟩

theorem blockOverrun_captureAndSlips (s : State) (c : Fin 96) (p : Nat) (hgang : s.gang[c] = c) (hactive : (s.core c).active = true)
    (hspill : (s.core c).spill = true) (hrun : (s.core c).st = .running) (hframe : (s.core c).blockFrame.toNat < s.frame)
    (hpart : s.partOf c = some p) (hhalt : s.halted p = false) (hgoing : s.isStopped p = false)
    (hreg : (s.core c).reg kSEQ_FAULT = 0) (hfaulted : (s.core c).faulted = false) :
    ∃ t, exec (.blockOverrun c) s = .next t ∧ t.isStopped p = true ∧ (t.core c).st = .stopped
      ∧ (t.core c).fld (kSEQ_FAULT) 3 0 = 4 ∧ (t.core c).opnd = (s.core c).opnd ∧ t.hbm = s.hbm := by
  have hp := State.partOf_lt hpart
  obtain ⟨u, hu⟩ : ∃ u, u = s.overrunNoted c := ⟨_, rfl⟩
  have hin : u.inPart p c = true := by rw [hu, (s.overrunNoted_plan c).inPart hp]; exact State.partOf_inPart hpart
  have hserv : (u.core c).st.inService = true := by rw [hu, State.overrunNoted_core_st, hrun]; rfl
  have hstopped : u.isStopped p = false := by rw [hu, s.overrunNoted_isStopped c hp, hgoing]
  have hcore : (u.stopPart p c.val 1 .stopped).core c = { (u.core c).dropQueued with st := .stopped, active := false } := by
    rw [State.stopPart_stopping hstopped, State.modPart_core, State.withCores_core, if_pos ((u.mem_coresOf p c).2 hin), Core.stopAs, if_pos hserv]
  have hfld : (u.core c).fld kSEQ_FAULT 3 0 = 4 ∧ (u.core c).opnd = (s.core c).opnd := by
    have hover := Core.overran_fld hrun hreg hfaulted
    have hopnd : (s.core c).overran.opnd = (s.core c).opnd := by rw [Core.overran_eq hrun hreg hfaulted]; rfl
    rw [hu]
    rcases s.overrunNoted_core c with h | h
    · rw [h]
      exact ⟨hover, hopnd⟩
    · rw [h, Core.fld, Core.setFld_reg_other _ _ _ _ _ _ (by decide), ← Core.fld]
      exact ⟨hover, hopnd⟩
  refine ⟨u.stopPart p c.val 1 .stopped, ?_, State.stopPart_stops hp hin hserv _ _, by rw [hcore], ?_, ?_, ?_⟩
  · rw [hu]
    exact execBlockOverrun_eq hgang hactive hspill hrun hframe hpart hhalt
  · rw [hcore]
    exact hfld.1
  · rw [hcore]
    exact hfld.2
  · rw [State.stopPart_hbm, hu, State.overrunNoted_hbm]

/-- Settles O31: core by core, what a slip writes lies outside what the capture then writes. -/
theorem captureAndSlips : Obligations.CaptureAndSlips := by
  unfold Obligations.CaptureAndSlips
  refine ⟨fun s hphase hstop => ?_, blockOverrun_captureAndSlips⟩
  obtain ⟨t, ht, hcycle, hcounts, hslips⟩ := capture_captureAndSlips s hphase hstop
  exact ⟨t, ht, hcycle, hcounts, fun c p hgang hactive hspill hrun hpart hhalt _ hmembers =>
    hslips c p hgang hactive hspill hrun hpart hhalt fun m hm => (hmembers m hm).2.2.1⟩

end Sys2Proof.Machine
end

section
/-!
# Rules of the matrix queues and banks (R77, R86, R92)

What the updates of a core's queues and banks read afterwards, and what they leave.
-/
namespace Sys2Proof.Machine

/-! ## The arrays of an instruction -/

theorem MKind.arrays_lt {kd : MKind} {f : Fields} {a : Nat} (h : a ∈ kd.arrays f) : a < 4 := by
  cases kd <;> simp only [MKind.arrays] at h <;> split at h <;> simp at h <;> omega

theorem MKind.arrays_nodup (kd : MKind) (f : Fields) : (kd.arrays f).Nodup := by
  cases kd <;> simp only [MKind.arrays] <;> split <;> simp

/-! ## Queues -/

theorem Core.setMqueue_mqueue (k : Core) {a b : Nat} (ha : a < 4) (hb : b < 4) (q : List MOp) :
    (k.setMqueue a q).mqueue b = if b = a then q else k.mqueue b := by
  simp only [Core.setMqueue, Core.mqueue, Vector.getElem_set, Nat.mod_eq_of_lt ha, Nat.mod_eq_of_lt hb, eq_comm]

/-- The queues of `l` each changed by `h`. -/
def Core.mapQueues (h : List MOp → List MOp) (l : List Nat) (k : Core) : Core :=
  l.foldl (fun (k : Core) a => k.setMqueue a (h (k.mqueue a))) k

theorem Core.mapQueues_mqueue (h : List MOp → List MOp) {l : List Nat} (hl : l.Nodup) (hlt : ∀ a, a ∈ l → a < 4) (k : Core) {b : Nat}
    (hb : b < 4) : (k.mapQueues h l).mqueue b = if b ∈ l then h (k.mqueue b) else k.mqueue b := by
  unfold Core.mapQueues
  induction l generalizing k with
  | nil => simp
  | cons a l ih =>
    obtain ⟨hal, hl⟩ := List.nodup_cons.1 hl
    rw [List.foldl_cons, ih hl (fun c hc => hlt c (List.mem_cons_of_mem _ hc)),
      Core.setMqueue_mqueue _ (hlt a List.mem_cons_self) hb]
    by_cases hba : b = a
    · subst hba
      simp [hal]
    · simp [hba]

/-- The cores agree in all but the queues of the matrix arrays. -/
def Core.mqEq (k k' : Core) : Prop := { k' with mq := k.mq } = k

namespace Core.mqEq

variable {k k' : Core} (h : k.mqEq k')
include h

theorem st : k'.st = k.st := by rw [← h]
theorem reg : k'.reg = k.reg := by
  rw [← h]
  rfl
theorem opnd : k'.opnd = k.opnd := by rw [← h]
theorem lm : k'.lm = k.lm := by rw [← h]
theorem acc : k'.acc = k.acc := by rw [← h]
theorem banks : k'.banks = k.banks := by rw [← h]
theorem wbuf : k'.wbuf = k.wbuf := by rw [← h]
theorem wsteps : k'.wsteps = k.wsteps := by rw [← h]
theorem wscale : k'.wscale = k.wscale := by rw [← h]
theorem wmeta : k'.wmeta = k.wmeta := by rw [← h]
theorem replays : k'.replays = k.replays := by rw [← h]
theorem held : k'.held = k.held := by rw [← h]

end Core.mqEq

theorem Core.mapQueues_mqEq (h : List MOp → List MOp) (l : List Nat) (k : Core) : k.mqEq (k.mapQueues h l) := by
  unfold Core.mapQueues
  induction l generalizing k with
  | nil => rfl
  | cons a l ih =>
    have h₁ : ({ (k.setMqueue a (h (k.mqueue a))).mapQueues h l with mq := (k.setMqueue a (h (k.mqueue a))).mq } : Core) = _ := ih _
    exact congrArg (fun j : Core => { j with mq := k.mq }) h₁

/-! ## The entry at the head of its queues -/

theorem Core.mhead_kind {k : Core} {a : Nat} {kd : MKind} {m : MOp} (h : k.mhead a kd = some m) : m.kind = kd := by
  unfold Core.mhead at h
  split at h
  · split at h
    · next hm => rw [← Option.some.inj h, hm.1]
    · exact absurd h (by simp)
  · exact absurd h (by simp)

theorem Core.mfree_eq (k : Core) (m : MOp) : k.mfree m = k.mapQueues (·.filter (fun x => x.uid ≠ m.uid)) (m.kind.arrays m.f) := rfl

theorem Core.mfree_mqEq (k : Core) (m : MOp) : k.mqEq (k.mfree m) := Core.mapQueues_mqEq _ _ _

theorem Core.mfree_gone (k : Core) (m : MOp) {b : Nat} (hb : b ∈ m.kind.arrays m.f) {e : MOp} (he : e ∈ (k.mfree m).mqueue b) :
    e.uid ≠ m.uid := by
  rw [Core.mfree_eq, Core.mapQueues_mqueue _ (MKind.arrays_nodup _ _) (fun _ => MKind.arrays_lt) _ (MKind.arrays_lt hb), if_pos hb,
    List.mem_filter] at he
  simpa using he.2

/-- The entry that has been freed stands in no queue of its arrays. -/
theorem Core.gone_of_mq {k t : Core} {m : MOp} (h : t.mq = (k.mfree m).mq) {b : Nat} (hb : b ∈ m.kind.arrays m.f) {e : MOp}
    (he : e ∈ t.mqueue b) : e.uid ≠ m.uid := by
  rw [Core.mqueue, h] at he
  exact k.mfree_gone m hb he

/-! ## Two updates of one core, and folds -/

theorem State.modCore_modCore (s : State) (c : Fin 96) (g g' : Core → Core) : (s.modCore c g).modCore c g' = s.modCore c (fun k => g' (g k)) := by
  have hset (k k' : Core) : (s.setCore c k).setCore c k' = s.setCore c k' := by
    unfold State.setCore
    exact congrArg (fun v => { s with cores := v }) (Vector.set_set ..)
  have hcore : (s.setCore c (g (s.core c))).core c = g (s.core c) := (State.setCore_core _ _ _ _).trans (if_pos rfl)
  unfold State.modCore
  rw [hset, hcore]

/-- A fold ends with P where the turn of one element makes P, and every turn keeps it. -/
theorem foldl_establishes {σ α : Type} {P : σ → Prop} {g : σ → α → σ} {l : List α} {a : α} (ha : a ∈ l) (hgo : ∀ t, P (g t a))
    (hP : ∀ t b, b ∈ l → P t → P (g t b)) (s : σ) : P (l.foldl g s) := by
  have hkeep : ∀ r : List α, (∀ b, b ∈ r → b ∈ l) → ∀ t, P t → P (r.foldl g t) := fun r hr => by
    induction r with
    | nil => exact fun _ ht => ht
    | cons b r ih => exact fun t ht => ih (fun d hd => hr d (List.mem_cons_of_mem _ hd)) _ (hP t b (hr b List.mem_cons_self) ht)
  obtain ⟨l₁, l₂, hl⟩ := List.append_of_mem ha
  rw [hl, List.foldl_append, List.foldl_cons]
  exact hkeep l₂ (fun b hb => by simp [hl, hb]) _ (hgo _)

end Sys2Proof.Machine
end

section
/-!
# O17: M-slot instructions enter the queues of their arrays (R86)

The body of each of the three is an `mQueue` where its operands lie in local memory; it works in one member's core, and draws an identifier.
-/
namespace Sys2Proof.Machine

/-- The entry that an M-slot instruction makes for core m. -/
def State.mEntry (s : State) (m : Fin 96) (kd : MKind) (op : Nat) (f : Fields) : MOp :=
  { kind := kd, f := f, v1 := (s.core m).rs f.a, v2 := (s.core m).rs f.b, v3 := (s.core m).rs f.c, srstep := (s.core m).rd.srstep,
    tiles := if kd = .mma ∧ f.mb 20 then (s.core m).rd.tiles else Rows.zero 1024,
    tpois := if kd = .mma ∧ f.mb 20 then (s.core m).rd.tpois else 0,
    opw := s.opOf m op, uid := s.nextId, fid := (s.core m).newFence, tag := s.chTag m }

theorem State.mQueue_eq (s : State) (m : Fin 96) (kd : MKind) (op : Nat) (f : Fields) : s.mQueue m kd op f =
    ({ s with nextId := s.nextId + 1 } : State).modCore m (Core.mapQueues (· ++ [s.mEntry m kd op f]) (kd.arrays f)) := rfl

theorem State.mQueue_core (s : State) (m : Fin 96) (kd : MKind) (op : Nat) (f : Fields) :
    (s.mQueue m kd op f).core m = (s.core m).mapQueues (· ++ [s.mEntry m kd op f]) (kd.arrays f) := by
  rw [State.mQueue_eq, State.modCore_core, if_pos rfl]
  rfl

theorem mQueue_coreOp (kd : MKind) (op : Nat) (f : Fields) : CoreOp (fun m s => s.mQueue m kd op f) := fun s m d hd => by
  dsimp only
  rw [State.mQueue_eq, State.modCore_core, if_neg hd]
  rfl

theorem State.mQueue_idEq (s : State) (m : Fin 96) (kd : MKind) (op : Nat) (f : Fields) : s.idEq (s.mQueue m kd op f) :=
  ⟨rfl, fun _ _ => rfl⟩

/-- A core that queued something differs in its queues from what it was. -/
theorem Core.sameBundle_of_mqEq {k o q t : Core} (ho : k.sameBundle o) (hq : o.mqEq q) (ht : q.sameBundle t) :
    k.sameBundle { t with mq := k.mq } := by
  unfold Core.sameBundle Core.mqEq at *
  rw [← ho]
  rw [← hq]
  rw [← ht]

theorem Core.sameBundle.mqueue_eq {k k' : Core} (h : k.sameBundle k') (a : Nat) : k'.mqueue a = k.mqueue a := by
  rw [← h]
  rfl

/-- An instruction whose body queues it for every member. -/
theorem State.queuesM_of_body {s : State} {c : Instr} {op : Nat} {i : Issue} {f : Fields} {kd : MKind} {body : Fin 96 → State → State}
    (hexec : exec c s = s.issue op i f body) (h : s.ready op i f)
    (hbody : ∀ m, m ∈ s.members i.core → ∀ u : State, u.core m = s.openedCore op i m → body m u = u.mQueue m kd op f) :
    s.queuesM c kd i f := by
  obtain ⟨t, ht, hframe, hout, hturn⟩ :=
    s.issue_bodies op i f body (fun m u => u.mQueue m kd op f) h hbody (mQueue_coreOp kd op f) idEq_looser (State.mQueue_idEq · · kd op f)
  refine ⟨t, hexec.trans ht, ⟨hframe.1, hframe.2, hout⟩, fun m hm => ?_⟩
  obtain ⟨u, hu, hsame⟩ := hturn m hm
  have hopen : (s.core m).sameBundle (u.core m) := by rw [hu]; exact s.openedCore_same op i m
  have hrd : (u.core m).rd = s.operands i m := by rw [hu, State.openedCore_rd]
  have hrs (r : BitVec 5) : (u.core m).rs r = (s.operands i m).scalar r := by rw [Core.rs_eq, hrd]
  rw [State.mQueue_core] at hsame
  refine ⟨⟨u.mEntry m kd op f, rfl, rfl, hrs _, hrs _, hrs _, congrArg Opnd.srstep hrd, fun hkd hf => ?_, fun a ha => ?_⟩,
    Core.sameBundle_of_mqEq hopen (Core.mapQueues_mqEq _ _ _) hsame⟩
  · have hread : kd = .mma ∧ f.mb 20 := ⟨hkd, hf⟩
    exact ⟨(if_pos hread).trans (congrArg Opnd.tiles hrd), (if_pos hread).trans (congrArg Opnd.tpois hrd)⟩
  · rw [hsame.mqueue_eq, Core.mapQueues_mqueue _ (MKind.arrays_nodup kd f) (fun _ => MKind.arrays_lt) _ ha, hopen.mqueue_eq]
    split
    · rfl
    · rw [List.append_nil]

/-- Settles O17: with operands in local memory the body of each instruction takes its last branch, which queues it. -/
theorem matrixQueues : Obligations.MatrixQueues := by
  unfold Obligations.MatrixQueues
  refine fun s i f => ⟨fun h hin => ?_, fun h hin => ?_, fun h hin => ?_⟩
  · exact State.queuesM_of_body (op := 0x40) rfl h fun m hm u hu => by
      rw [if_neg]
      rw [hu, hin m hm]
      exact Bool.false_ne_true
  · exact State.queuesM_of_body (op := 0x41) rfl h fun m hm u hu => by
      rw [if_neg]
      rw [hu, hin m hm]
      exact Bool.false_ne_true
  · exact State.queuesM_of_body (op := 0x42) rfl h fun m hm u hu => by
      obtain ⟨hlocal, hbushel⟩ := hin m hm
      have hrs : (u.core m).rs f.b = (s.operands i m).scalar f.b := by rw [hu, State.openedCore_rs]
      dsimp only
      rw [hrs, if_neg, if_neg]
      · rintro ⟨hdest, hbad⟩
        rw [hbushel hdest] at hbad
        exact Bool.false_ne_true hbad
      · rintro ⟨hdest, hout⟩
        have := hlocal hdest
        omega

end Sys2Proof.Machine
end

section
/-!
# Faults of a core outside its sequencer (R206, R332)

What a fault writes to the core at fault, and that its partition stops.
-/
namespace Sys2Proof.Machine

/-- The cores agree in all but registers, state and transfers: what a fault and the stop that follows write. -/
def Core.faultEq (k k' : Core) : Prop :=
  { k' with cregs := k.cregs, faulted := k.faulted, st := k.st, active := k.active, xfers := k.xfers } = k

namespace Core.faultEq

theorem refl (k : Core) : k.faultEq k := rfl

theorem trans {k j i : Core} (h : k.faultEq j) (h' : j.faultEq i) : k.faultEq i := by
  unfold Core.faultEq at *
  rw [← h]
  rw [← h']

variable {k k' : Core} (h : k.faultEq k')
include h

theorem opnd : k'.opnd = k.opnd := by rw [← h]
theorem lm : k'.lm = k.lm := by rw [← h]
theorem acc : k'.acc = k.acc := by rw [← h]
theorem banks : k'.banks = k.banks := by rw [← h]
theorem mq : k'.mq = k.mq := by rw [← h]
theorem replays : k'.replays = k.replays := by rw [← h]
theorem held : k'.held = k.held := by rw [← h]
theorem wbuf : k'.wbuf = k.wbuf := by rw [← h]
theorem wscale : k'.wscale = k.wscale := by rw [← h]
theorem wmeta : k'.wmeta = k.wmeta := by rw [← h]
theorem wsteps : k'.wsteps = k.wsteps := by rw [← h]

end Core.faultEq

theorem Core.setReg_faultEq (k : Core) (o : Nat) (v : Word32) : k.faultEq (k.setReg o v) := rfl

theorem Core.setFld_faultEq (k : Core) (o h l v : Nat) : k.faultEq (k.setFld o h l v) := rfl

theorem Core.faultReg_faultEq (k : Core) (o v : Nat) : k.faultEq (k.faultReg o v) := by
  unfold Core.faultReg
  split <;> rfl

theorem Core.stopped_faultEq (k : Core) : k.faultEq { k.dropQueued with st := .stopped, active := false } := rfl

/-- What the events of one core's fault leave: every core but for what a fault writes, memory, the free counter and the partition of each
core. -/
structure State.FaultEq (s t : State) : Prop where
  core : ∀ d, (s.core d).faultEq (t.core d)
  hbm : t.hbm = s.hbm
  freeCtr : t.freeCtr = s.freeCtr
  plan : s.samePlan t

namespace State.FaultEq

theorem refl (s : State) : s.FaultEq s := ⟨fun _ => .refl _, rfl, rfl, s.samePlan_refl⟩

theorem trans {s t u : State} (h : s.FaultEq t) (h' : t.FaultEq u) : s.FaultEq u :=
  ⟨fun d => (h.core d).trans (h'.core d), h'.hbm.trans h.hbm, h'.freeCtr.trans h.freeCtr, h.plan.trans h'.plan⟩

theorem of_cores {s t : State} (hcores : t.cores = s.cores) (hhbm : t.hbm = s.hbm) (hctr : t.freeCtr = s.freeCtr) (hplan : s.samePlan t) :
    s.FaultEq t :=
  ⟨fun d => by rw [State.core, State.core, hcores]; exact .refl _, hhbm, hctr, hplan⟩

theorem modCore (s : State) (c : Fin 96) {g : Core → Core} (hg : (s.core c).faultEq (g (s.core c))) : s.FaultEq (s.modCore c g) := by
  refine ⟨fun d => ?_, rfl, rfl, State.samePlan_of_regs rfl⟩
  rw [State.modCore_core]
  split
  · next h => rw [h]; exact hg
  · exact .refl _

theorem setReg (s : State) {o : Nat} (v : Word32) (ho : offStatus o) : s.FaultEq (s.setReg o v) :=
  of_cores rfl rfl rfl (State.CapEq.setReg s v ho).plan

theorem foldl {α : Type} {g : State → α → State} {l : List α} (hg : ∀ (t : State) a, t.FaultEq (g t a)) (s : State) :
    s.FaultEq (l.foldl g s) := foldl_keeps (P := s.FaultEq) (fun t a _ h => h.trans (hg t a)) (refl s)

end State.FaultEq

theorem State.errsum_faultEq (s : State) (c : Fin 96) (b : Nat) : s.FaultEq (s.errsum c b) :=
  (State.FaultEq.modCore s c (Core.setFld_faultEq _ _ _ _ _)).trans
    ((State.FaultEq.setReg _ _ (offStatus_clErrsum _)).trans
      ((State.FaultEq.setReg _ _ (offStatus_dieErrsum _)).trans (State.FaultEq.setReg _ _ offStatus_modErrsum)))

theorem State.errsumArr_faultEq (s : State) (c : Fin 96) (ph b : Nat) : s.FaultEq (s.errsumArr c ph b) :=
  (State.FaultEq.modCore s c (Core.setFld_faultEq _ _ _ _ _)).trans (State.errsum_faultEq _ _ _)

theorem State.record_faultEq (s : State) (cls unit op action addr subkind synd : Nat) (inj : Bool) :
    s.FaultEq (s.record cls unit op action addr subkind synd inj) := .of_cores rfl rfl rfl (State.samePlan_of_regs rfl)

theorem State.stopPart_faultEq (s : State) (p c cause : Nat) : s.FaultEq (s.stopPart p c cause .stopped) := by
  refine ⟨fun d => ?_, s.stopPart_hbm p c cause _, ?_, (s.stopPart_capEq p c cause _).plan⟩
  · rcases s.stopPart_core p c cause d with h | ⟨-, -, h⟩
    · rw [h]
      exact .refl _
    · rw [h]
      exact Core.stopped_faultEq _
  · by_cases h : s.isStopped p = true
    · rw [State.stopPart_eq, if_pos h]
    · rw [State.stopPart_stopping (Bool.eq_false_iff.2 h), State.modPart_freeCtr]
      simp only [State.withCores]

theorem State.progNote_faultEq (s : State) (c : Fin 96) (unit freg op addr : Nat) : s.FaultEq (s.progNote c unit freg op addr) := by
  unfold State.progNote
  dsimp only
  split
  · exact s.record_faultEq _ _ _ _ _ _ _ _
  · exact (s.errsum_faultEq c _).trans (State.record_faultEq _ _ _ _ _ _ _ _ _)

theorem State.progFault_faultEq (s : State) (c : Fin 96) (unit freg op addr : Nat) : s.FaultEq (s.progFault c unit freg op addr) := by
  refine (s.progNote_faultEq c unit freg op addr).trans ?_
  unfold State.progFault
  dsimp only
  split
  · exact State.stopPart_faultEq _ _ _ _
  · exact .refl _

/-! ## A first fault -/

/-- The register is no fault register of the sequencer, nor a core's error summary. -/
def offSeq (o : Nat) : Prop := o ≠ kSEQ_FAULT ∧ o ≠ kUCB_core_ERRSUM

/-- The first fault of a running core stands in its register. -/
theorem Core.faultReg_first {k : Core} {o : Nat} (ho : offSeq o) (hrun : k.st = .running) (hreg : k.reg o = 0) (v : Nat) :
    (k.faultReg o v).reg o = BitVec.ofNat 32 v := by
  have hshut : k.shut = false := by rw [Core.shut, hrun]; rfl
  have hno : k.hasFault o = false := by
    rw [Core.hasFault, hshut, Core.fld, hreg, decide_eq_false ho.1]
    rfl
  rw [Core.faultReg, hno, if_neg Bool.false_ne_true]
  refine (k.setReg_reg o o _).trans ?_
  rw [if_pos rfl, hreg]
  exact BitVec.zero_or

theorem Core.faultReg_st (k : Core) (o v : Nat) : (k.faultReg o v).st = k.st := by
  unfold Core.faultReg
  split <;> rfl

theorem State.progNote_st (s : State) (c d : Fin 96) (unit freg op addr : Nat) : ((s.progNote c unit freg op addr).core d).st = (s.core d).st :=
  (s.progNote_slipEq c d unit freg op addr).st

/-- Whether a partition is stopped depends on the states of its cores alone. -/
theorem State.isStopped_congr {s t : State} (hplan : s.samePlan t) (hst : ∀ d, (t.core d).st = (s.core d).st) {p : Nat} (hp : p < 8) :
    t.isStopped p = s.isStopped p := by
  simp only [State.isStopped, hplan.coresOf hp, hst]

/-- A running core's partition that has not stopped stops. -/
theorem State.stopPart_stopsCore {s : State} {c : Fin 96} {p : Nat} (hpart : s.partOf c = some p) (hgoing : s.isStopped p = false)
    (hrun : (s.core c).st = .running) (n cause : Nat) : (s.stopPart p n cause .stopped).isStopped p = true
      ∧ (s.stopPart p n cause .stopped).core c = { (s.core c).dropQueued with st := .stopped, active := false } := by
  have hin : s.inPart p c = true := State.partOf_inPart hpart
  have hserv : (s.core c).st.inService = true := by rw [hrun]; rfl
  refine ⟨State.stopPart_stops (State.partOf_lt hpart) hin hserv _ _, ?_⟩
  rw [State.stopPart_stopping hgoing, State.modPart_core, State.withCores_core, if_pos ((s.mem_coresOf p c).2 hin), Core.stopAs, if_pos hserv]

/-- The first fault of a running core stops its partition: the register has its cause, and the core's data stand. -/
theorem State.firstFault_stops {s : State} {c : Fin 96} {p o : Nat} (ho : offSeq o) (hpart : s.partOf c = some p)
    (hgoing : s.isStopped p = false) (hrun : (s.core c).st = .running) (hreg : (s.core c).reg o = 0) (v unit op : Nat) {t : State}
    (ht : t = (s.modCore c (fun k => k.faultReg o v)).progFault c unit o op 0) :
    t.isStopped p = true ∧ (t.core c).st = .stopped ∧ (t.core c).reg o = BitVec.ofNat 32 v ∧ s.FaultEq t := by
  have hp := State.partOf_lt hpart
  obtain ⟨u, hu⟩ : ∃ u, u = (s.modCore c (fun k => k.faultReg o v)).progNote c unit o op 0 := ⟨_, rfl⟩
  have hsu : s.FaultEq u := hu ▸ (State.FaultEq.modCore s c (Core.faultReg_faultEq _ _ _)).trans (State.progNote_faultEq _ _ _ _ _ _)
  have hst (d : Fin 96) : (u.core d).st = (s.core d).st := by
    rw [hu, State.progNote_st, State.modCore_core]
    split
    · next h => rw [h, Core.faultReg_st]
    · rfl
  have hupart : u.partOf c = some p := by rw [hsu.plan.partOf, hpart]
  have hureg : (u.core c).reg o = BitVec.ofNat 32 v := by
    have hmod : (s.modCore c (fun k => k.faultReg o v)).core c = (s.core c).faultReg o v := (State.modCore_core _ _ _ _).trans (if_pos rfl)
    have hfirst := Core.faultReg_first ho hrun hreg v
    rw [hu]
    rcases State.progNote_core (s.modCore c (fun k => k.faultReg o v)) c unit o op 0 with h | h
    · rw [h, hmod, hfirst]
    · rw [h, Core.setFld_reg_other _ _ _ _ _ _ ho.2, hmod, hfirst]
  have hstop : t = u.stopPart p c.val unit .stopped := by
    rw [hu] at hupart
    rw [ht, State.progFault_of_part hupart, ← hu]
  obtain ⟨hstopped, hcore⟩ := State.stopPart_stopsCore hupart (by rw [State.isStopped_congr hsu.plan hst hp, hgoing])
    (by rw [hst, hrun]) c.val unit
  rw [hstop]
  exact ⟨hstopped, by rw [hcore], by rw [hcore]; exact hureg, hsu.trans (State.stopPart_faultEq _ _ _ _)⟩

theorem offSeq_LAY : offSeq kLAY_FAULT := ⟨by decide, by decide⟩
theorem offSeq_MAT : offSeq kMAT_FAULT := ⟨by decide, by decide⟩

/-- A first fault of the layout engine or of an access of local memory (R161). -/
theorem State.layFault_stops {s : State} {c : Fin 96} {p : Nat} (hpart : s.partOf c = some p) (hgoing : s.isStopped p = false)
    (hrun : (s.core c).st = .running) (hreg : (s.core c).reg kLAY_FAULT = 0) (op : Nat) :
    (s.layFault c 2 0 op).isStopped p = true ∧ ((s.layFault c 2 0 op).core c).st = .stopped
      ∧ ((s.layFault c 2 0 op).core c).fld kLAY_FAULT 3 0 = 2 := by
  obtain ⟨hstop, hst, hval, -⟩ := State.firstFault_stops offSeq_LAY hpart hgoing hrun hreg (2 + 16 * 0) 4 op (t := s.layFault c 2 0 op) rfl
  refine ⟨hstop, hst, ?_⟩
  rw [Core.fld, hval]
  rfl

theorem State.layFault_faultEq (s : State) (c : Fin 96) (cause slot op : Nat) : s.FaultEq (s.layFault c cause slot op) :=
  (State.FaultEq.modCore s c (Core.faultReg_faultEq _ _ _)).trans (State.progFault_faultEq _ _ _ _ _ _)

/-- A first fault of the matrix unit, with its cause and its array (R83, R92). -/
theorem State.matFault_stops {s : State} {c : Fin 96} {p : Nat} (hpart : s.partOf c = some p) (hgoing : s.isStopped p = false)
    (hrun : (s.core c).st = .running) (hreg : (s.core c).reg kMAT_FAULT = 0) (cause a op : Nat) :
    (s.matFault c cause a op).isStopped p = true ∧ ((s.matFault c cause a op).core c).st = .stopped
      ∧ ((s.matFault c cause a op).core c).reg kMAT_FAULT = BitVec.ofNat 32 (cause + 16 * a) ∧ s.FaultEq (s.matFault c cause a op) :=
  State.firstFault_stops offSeq_MAT hpart hgoing hrun hreg (cause + 16 * a) 2 op rfl

theorem fld_cause {k : Core} {o cause a : Nat} (h : k.reg o = BitVec.ofNat 32 (cause + 16 * a)) (hc : cause < 16) :
    k.fld o 3 0 = cause := by
  rw [Core.fld, h, BitVec.toNat_ofNat, bitsOf]
  omega

end Sys2Proof.Machine
end

section
/-!
# O18: a WLOAD fills the weight-buffer half (R81, R92, R99, R101, R106, R107, R111, R161)

Each step of a panel goes to a place of its own in the buffers of its half: the places of two steps are disjoint, so that what one step's
turn writes stands at the end.
-/
namespace Sys2Proof.Machine

/-! ## Bytes written at one place of a store -/

theorem Store.getN_putN_same (m : Store) (a : Nat) (b : List Byte) : (m.putN a b).getN a b.length = b := by
  refine List.ext_getElem (by simp [Store.getN]) fun i hi hib => ?_
  simp only [Store.getN, List.getElem_map, List.getElem_range]
  exact Store.get_putN_in b m a i hib

theorem Store.getN_putN_apart (m : Store) (a a' n : Nat) (b : List Byte) (h : a + n ≤ a' ∨ a' + b.length ≤ a) :
    (m.putN a' b).getN a n = m.getN a n := by
  refine List.map_congr_left fun i hi => Store.get_putN_out b m a' (a + i) ?_
  have := List.mem_range.1 hi
  omega

/-! ## The places of a half's steps -/

/-- The place of step t of half h of array b, where an array has w bytes, a half `half` and a step `size`. -/
def stepPlace (w half size b h t : Nat) : Nat := w * b + half * h + size * t

/-- The places of two steps that both lie in the half are disjoint. -/
theorem stepPlace_apart {w half size b b' h t t' : Nat} (hw : half ≤ w) (ht : size * (t + 1) ≤ half) (ht' : size * (t' + 1) ≤ half)
    (hne : b ≠ b' ∨ t ≠ t') : stepPlace w half size b h t + size ≤ stepPlace w half size b' h t'
      ∨ stepPlace w half size b' h t' + size ≤ stepPlace w half size b h t := by
  unfold stepPlace
  rw [Nat.mul_succ] at ht ht'
  rcases Nat.lt_trichotomy b b' with hb | rfl | hb
  · have := Nat.mul_le_mul_left w hb
    rw [Nat.mul_succ] at this
    omega
  · rcases Nat.lt_or_gt_of_ne (hne.resolve_left (fun h => h rfl)) with hlt | hlt <;>
    · have := Nat.mul_le_mul_left size hlt
      rw [Nat.mul_succ] at this
      omega
  · have := Nat.mul_le_mul_left w hb
    rw [Nat.mul_succ] at this
    omega

theorem stepKey_inj {b b' h t t' : Nat} (ht : t < 256) (ht' : t' < 256) (he : stepKey b h t = stepKey b' h t') : b = b' ∧ t = t' := by
  unfold stepKey at he
  omega

/-- The bytes of metadata of a step. -/
def nibBytes (f : Fields) : Nat := 16 * colMeta f.fmt.toNat

/-- The bytes of scales of a step. -/
def sclBytes (f : Fields) : Nat := 16 * stepNb f.fmt.toNat (f.mb 25)

/-- The parts of step t of a WLOAD lie in the half. -/
structure FitsHalf (f : Fields) (t : Nat) : Prop where
  key : t < 256
  vals : stepBytes f.fmt.toNat * (t + 1) ≤ 32768
  nib : f.mb 25 = true → nibBytes f * (t + 1) ≤ 4096
  scl : sclBytes f * (t + 1) ≤ 2048

/-- Tables 4-1 and 5-1: the steps that a half holds fill none of its buffers beyond its end. -/
theorem stepsPerHalf_fit : ∀ fm, fm < 16 → ∀ s24, (s24 && decide (fm ≤ 1)) = false → stepsPerHalf fm s24 ≤ 256
    ∧ stepBytes fm * stepsPerHalf fm s24 ≤ 32768 ∧ (s24 = true → 16 * colMeta fm * stepsPerHalf fm s24 ≤ 4096)
    ∧ 16 * stepNb fm s24 * stepsPerHalf fm s24 ≤ 2048 := by decide

theorem badWload_of_legal {f : Fields} (h : illegal 0x40 f = false) : badWload f = false := by
  have hrow : opRow 0x40 = some ⟨.acc, .s, .s, .s, fAny, 0x20FFFFF⟩ := rfl
  rw [illegal, hrow] at h
  exact (Bool.or_eq_false_iff.1 h).2

/-- The steps of a WLOAD that is no illegal encoding lie in its half. -/
theorem fitsHalf_of_legal {f : Fields} (h : illegal 0x40 f = false) {j : Nat} (hj : j < mSteps f) : FitsHalf f (f.m 19 12 + j) := by
  have hbad := badWload_of_legal h
  simp only [badWload, Bool.or_eq_false_iff, decide_eq_false_iff_not] at hbad
  obtain ⟨⟨⟨⟨⟨h24, hsteps⟩, -⟩, -⟩, -⟩, -⟩ := hbad
  obtain ⟨hkey, hvals, hnib, hscl⟩ := stepsPerHalf_fit f.fmt.toNat f.fmt.isLt (f.mb 25) h24
  have ht : f.m 19 12 + j + 1 ≤ stepsPerHalf f.fmt.toNat (f.mb 25) := by
    unfold mSteps at hj
    omega
  exact ⟨by omega, (Nat.mul_le_mul_left _ ht).trans hvals, fun h => (Nat.mul_le_mul_left _ ht).trans (hnib h),
    (Nat.mul_le_mul_left _ ht).trans hscl⟩

/-! ## One step loaded -/

/-- The parts of a step have the lengths of their places. -/
structure PStep.Sized (x : PStep) (f : Fields) : Prop where
  vals : x.vals.length = stepBytes f.fmt.toNat
  nib : f.mb 25 = true → x.nib.length = nibBytes f
  scl : wScaled f = true → x.scl.length = sclBytes f

/-- Write step x.2 of a panel, x.1, into the half of array a. -/
def Core.loadStep (m : MOp) (p : Panel) (a : Nat) (k : Core) (x : PStep × Nat) : Core :=
  { k with
    wbuf := k.wbuf.putN (stepPlace 65536 32768 (stepBytes m.f.fmt.toNat) a (m.f.m 11 11) (m.f.m 19 12 + x.2)) x.1.vals
    wmeta := if m.f.mb 25 then k.wmeta.putN (stepPlace 8192 4096 (nibBytes m.f) a (m.f.m 11 11) (m.f.m 19 12 + x.2)) x.1.nib else k.wmeta
    wscale := if wScaled m.f then k.wscale.putN (stepPlace 4096 2048 (sclBytes m.f) a (m.f.m 11 11) (m.f.m 19 12 + x.2)) x.1.scl
      else k.wscale
    wsteps := mapSet k.wsteps (stepKey a (m.f.m 11 11) (m.f.m 19 12 + x.2))
      { fmt := m.f.fmt.toNat, scaled := wScaled m.f, s24 := m.f.mb 25, poison := x.1.poison, empty := p.empty, aud := p.aud.map (·.1) }
    waud := match p.aud with
      | some y => mapSet k.waud (stepKey a (m.f.m 11 11) (m.f.m 19 12 + x.2)) (y.2.getD x.2 { vals := [], nib := [], scl := [] })
      | none => mapErase k.waud (stepKey a (m.f.m 11 11) (m.f.m 19 12 + x.2)) }

theorem Core.loadPanel_eq (m : MOp) (p : Panel) (k : Core) (a : Nat) :
    k.loadPanel m p a = p.steps.zipIdx.foldl (Core.loadStep m p a) (k.bump (kMAT_SPMALF) p.malf) := rfl

/-- The half of array b holds step j of a panel, x: its record, values, metadata and scales. -/
structure Core.HoldsStep (m : MOp) (p : Panel) (b j : Nat) (x : PStep) (k : Core) : Prop where
  record : mapFind k.wsteps (stepKey b (m.f.m 11 11) (m.f.m 19 12 + j)) = some
    { fmt := m.f.fmt.toNat, scaled := wScaled m.f, s24 := m.f.mb 25, poison := x.poison, empty := p.empty, aud := p.aud.map (·.1) }
  vals : k.wbuf.getN (stepPlace 65536 32768 (stepBytes m.f.fmt.toNat) b (m.f.m 11 11) (m.f.m 19 12 + j)) x.vals.length = x.vals
  nib : m.f.mb 25 = true →
    k.wmeta.getN (stepPlace 8192 4096 (nibBytes m.f) b (m.f.m 11 11) (m.f.m 19 12 + j)) x.nib.length = x.nib
  scl : wScaled m.f = true →
    k.wscale.getN (stepPlace 4096 2048 (sclBytes m.f) b (m.f.m 11 11) (m.f.m 19 12 + j)) x.scl.length = x.scl

theorem Core.loadStep_holds (m : MOp) (p : Panel) (b j : Nat) (x : PStep) (k : Core) :
    Core.HoldsStep m p b j x (k.loadStep m p b (x, j)) where
  record := (mapFind_mapSet _ _ _ _).trans (if_pos rfl)
  vals := Store.getN_putN_same _ _ _
  nib h := by
    unfold Core.loadStep
    dsimp only
    rw [if_pos h]
    exact Store.getN_putN_same _ _ _
  scl h := by
    unfold Core.loadStep
    dsimp only
    rw [if_pos h]
    exact Store.getN_putN_same _ _ _

theorem Core.loadStep_keeps {m : MOp} {p : Panel} {b b' j j' : Nat} {x x' : PStep} {k : Core} (h : k.HoldsStep m p b j x)
    (hfit : FitsHalf m.f (m.f.m 19 12 + j)) (hfit' : FitsHalf m.f (m.f.m 19 12 + j')) (hx : x.Sized m.f) (hx' : x'.Sized m.f)
    (hne : b ≠ b' ∨ j ≠ j') : Core.HoldsStep m p b j x (k.loadStep m p b' (x', j')) := by
  have hne' : b ≠ b' ∨ m.f.m 19 12 + j ≠ m.f.m 19 12 + j' := by omega
  refine ⟨?_, ?_, fun h24 => ?_, fun hsc => ?_⟩
  · refine (mapFind_mapSet _ _ _ _).trans ((if_neg fun he => ?_).trans h.record)
    obtain ⟨hb, ht⟩ := stepKey_inj hfit.key hfit'.key he
    exact hne'.elim (fun hn => hn hb) fun hn => hn ht
  · refine (Store.getN_putN_apart _ _ _ _ _ ?_).trans h.vals
    rw [hx.vals, hx'.vals]
    exact stepPlace_apart (by decide) hfit.vals hfit'.vals hne'
  · unfold Core.loadStep
    dsimp only
    rw [if_pos h24]
    refine (Store.getN_putN_apart _ _ _ _ _ ?_).trans (h.nib h24)
    rw [hx.nib h24, hx'.nib h24]
    exact stepPlace_apart (by decide) (hfit.nib h24) (hfit'.nib h24) hne'
  · unfold Core.loadStep
    dsimp only
    rw [if_pos hsc]
    refine (Store.getN_putN_apart _ _ _ _ _ ?_).trans (h.scl hsc)
    rw [hx.scl hsc, hx'.scl hsc]
    exact stepPlace_apart (by decide) hfit.scl hfit'.scl hne'

/-! ## A panel loaded -/

/-- A panel whose steps are as many as the WLOAD's at most, with parts that fill their places. -/
structure Panel.Fits (p : Panel) (f : Fields) : Prop where
  steps : p.steps.length ≤ mSteps f
  sized : ∀ x, x ∈ p.steps → x.Sized f

theorem Core.HoldsStep.bump {m : MOp} {p : Panel} {b j : Nat} {x : PStep} {k : Core} (h : k.HoldsStep m p b j x) (o n : Nat) :
    (k.bump o n).HoldsStep m p b j x := ⟨h.record, h.vals, h.nib, h.scl⟩

section
variable {m : MOp} {p : Panel} (hlegal : illegal 0x40 m.f = false) (hp : p.Fits m.f)
include hlegal hp

theorem Panel.Fits.step {j : Nat} {x : PStep} (hx : (x, j) ∈ p.steps.zipIdx) : FitsHalf m.f (m.f.m 19 12 + j) ∧ x.Sized m.f := by
  have hget := List.mk_mem_zipIdx_iff_getElem?.1 hx
  obtain ⟨hlt, -⟩ := List.getElem?_eq_some_iff.1 hget
  exact ⟨fitsHalf_of_legal hlegal (hlt.trans_le hp.steps), hp.sized x (List.mem_of_getElem? hget)⟩

theorem Core.loadPanel_keeps {b b' j : Nat} {x : PStep} (hx : (x, j) ∈ p.steps.zipIdx) (hb : b ≠ b') {k : Core}
    (h : k.HoldsStep m p b j x) : (k.loadPanel m p b').HoldsStep m p b j x := by
  obtain ⟨hfit, hsized⟩ := hp.step hlegal hx
  rw [Core.loadPanel_eq]
  refine List.foldlRecOn _ _ (motive := Core.HoldsStep m p b j x) (h.bump _ _) fun k hk y hy => ?_
  obtain ⟨hfit', hsized'⟩ := hp.step hlegal (x := y.1) (j := y.2) hy
  exact Core.loadStep_keeps hk hfit hfit' hsized hsized' (.inl hb)

theorem Core.loadPanel_holds {b j : Nat} {x : PStep} (hx : (x, j) ∈ p.steps.zipIdx) (k : Core) : (k.loadPanel m p b).HoldsStep m p b j x := by
  obtain ⟨hfit, hsized⟩ := hp.step hlegal hx
  rw [Core.loadPanel_eq]
  refine foldl_establishes hx (Core.loadStep_holds m p b j x) (fun k y hy hk => ?_) _
  obtain ⟨hfit', hsized'⟩ := hp.step hlegal (x := y.1) (j := y.2) hy
  by_cases hj : j = y.2
  · obtain ⟨y, i⟩ := y
    subst hj
    rw [show y = x from Option.some.inj ((List.mk_mem_zipIdx_iff_getElem?.1 hy).symm.trans (List.mk_mem_zipIdx_iff_getElem?.1 hx))]
    exact Core.loadStep_holds m p b _ x k
  · exact Core.loadStep_keeps hk hfit hfit' hsized hsized' (.inr hj)

/-- Every array that a WLOAD names holds each step of the panel. -/
theorem Core.loadPanels_hold {as : List Nat} {b j : Nat} {x : PStep} (hb : b ∈ as) (hx : p.steps[j]? = some x) (k : Core) :
    (as.foldl (Core.loadPanel m p) k).HoldsStep m p b j x := by
  have hmem : (x, j) ∈ p.steps.zipIdx := List.mk_mem_zipIdx_iff_getElem?.2 hx
  refine foldl_establishes hb (fun k => Core.loadPanel_holds hlegal hp hmem k) (fun k b' _ hk => ?_) k
  by_cases hbb : b = b'
  · rw [← hbb]
    exact Core.loadPanel_holds hlegal hp hmem k
  · exact Core.loadPanel_keeps hlegal hp hmem hbb hk

end

end Sys2Proof.Machine
end

section
/-!
# O18, continued: the panels, and the WLOAD at its array
-/
namespace Sys2Proof.Machine

/-! ## The panels -/

theorem Core.lmRead_length (k : Core) (a n : Nat) : (k.lmRead a n).length = n := by simp [Core.lmRead, Store.getN]

theorem stepBytes_columns (fm : Nat) : 16 * colBytes fm = stepBytes fm := by
  unfold colBytes stepBytes
  split <;> rfl

theorem Core.panel_fits (k : Core) (m : MOp) : (k.panel m).Fits m.f := by
  unfold Core.panel
  refine ⟨by simp, fun x hx => ?_⟩
  obtain ⟨t, -, rfl⟩ := List.mem_map.1 hx
  exact ⟨k.lmRead_length _ _, fun h => (k.lmRead_length _ _).trans (if_pos h), fun h => (k.lmRead_length _ _).trans (if_pos h)⟩

theorem Core.panel_steps_length (k : Core) (m : MOp) : (k.panel m).steps.length = mSteps m.f := by simp [Core.panel]

/-- R80: the values of step j of a plain panel stand in order from the panel's address. -/
theorem Core.panel_vals {k : Core} {m : MOp} {j : Nat} {x : PStep} (h : (k.panel m).steps[j]? = some x) :
    x.vals = k.lmRead (m.v1.toNat + stepBytes m.f.fmt.toNat * j) (stepBytes m.f.fmt.toNat) := by
  unfold Core.panel at h
  dsimp only at h
  rw [List.getElem?_map] at h
  obtain ⟨t, ht, rfl⟩ := Option.map_eq_some_iff.1 h
  rw [(List.getElem?_eq_some_iff.1 ht).2.symm, List.getElem_range]

theorem length_flatMap_of_const {α β : Type} {l : List α} {g : α → List β} {n : Nat} (h : ∀ a, a ∈ l → (g a).length = n) :
    (l.flatMap g).length = l.length * n := by
  rw [List.length_flatMap, List.map_congr_left h, List.map_const', List.sum_replicate, smul_eq_mul]

/-- The metadata and scale bytes of a column, as a gathering WLOAD reads them. -/
def nibCol (f : Fields) : Nat := if f.mb 25 then colMeta f.fmt.toNat else 0
def sclCol (f : Fields) : Nat := if wScaled f then stepNb f.fmt.toNat (f.mb 25) else 0

/-- The column of a slot at step t of a gathering WLOAD: zeros in an empty one (R107). -/
def Core.slotCol (k : Core) (m : MOp) (t : Nat) (o : Option Nat) : PStep :=
  match o with
  | some x => k.colRec m x t
  | none => { vals := List.replicate (colBytes m.f.fmt.toNat) 0, nib := List.replicate (nibCol m.f) 0,
              scl := List.replicate (sclCol m.f) 0, poison := false }

theorem Core.slotCol_lengths (k : Core) (m : MOp) (t : Nat) (o : Option Nat) : (k.slotCol m t o).vals.length = colBytes m.f.fmt.toNat
    ∧ (k.slotCol m t o).nib.length = nibCol m.f ∧ (k.slotCol m t o).scl.length = sclCol m.f := by
  cases o with
  | none => exact ⟨List.length_replicate, List.length_replicate, List.length_replicate⟩
  | some x => exact ⟨k.lmRead_length _ _, k.lmRead_length _ _, k.lmRead_length _ _⟩

/-- Sixteen columns side by side fill the place of a step. -/
theorem Core.slots_sized (k : Core) (m : MOp) (t : Nat) {slots : List (Option Nat)} (hslots : slots.length = 16) (z : Bool) :
    PStep.Sized { vals := (slots.map (k.slotCol m t)).flatMap (·.vals), nib := (slots.map (k.slotCol m t)).flatMap (·.nib),
                  scl := (slots.map (k.slotCol m t)).flatMap (·.scl), poison := z } m.f := by
  have hcol (g : PStep → List Byte) (n : Nat) (hg : ∀ o, (g (k.slotCol m t o)).length = n) :
      ((slots.map (k.slotCol m t)).flatMap g).length = 16 * n := by
    rw [length_flatMap_of_const (n := n), List.length_map, hslots]
    intro y hy
    obtain ⟨o, -, rfl⟩ := List.mem_map.1 hy
    exact hg o
  refine ⟨?_, fun h => ?_, fun h => ?_⟩
  · exact (hcol PStep.vals _ fun o => (k.slotCol_lengths m t o).1).trans (stepBytes_columns _)
  · refine (hcol PStep.nib _ fun o => (k.slotCol_lengths m t o).2.1).trans ?_
    rw [nibCol, if_pos h, nibBytes]
  · refine (hcol PStep.scl _ fun o => (k.slotCol_lengths m t o).2.2).trans ?_
    rw [sclCol, if_pos h, sclBytes]

/-- A gathering WLOAD's steps: sixteen slots each, of as many steps as come before the first whose records leave local memory. -/
theorem Core.gatherPanel_steps (k : Core) (m : MOp) : ∃ (slots : List (Option Nat)) (out : Nat → Bool) (z : Nat → Bool),
    slots.length = 16 ∧ (k.gatherPanel m).1.steps = (List.range (((List.range (mSteps m.f)).find? out).getD (mSteps m.f))).map (fun t =>
      { vals := (slots.map (k.slotCol m t)).flatMap (·.vals), nib := (slots.map (k.slotCol m t)).flatMap (·.nib),
        scl := (slots.map (k.slotCol m t)).flatMap (·.scl), poison := z t }) := by
  refine ⟨_, _, _, ?_, rfl⟩
  rw [List.length_map, List.length_range]

theorem Core.gatherPanel_fits (k : Core) (m : MOp) : (k.gatherPanel m).1.Fits m.f := by
  obtain ⟨slots, out, z, hslots, hsteps⟩ := k.gatherPanel_steps m
  refine ⟨?_, fun x hx => ?_⟩
  · rw [hsteps, List.length_map, List.length_range]
    cases hstop : (List.range (mSteps m.f)).find? out with
    | none => exact le_rfl
    | some t => exact (List.mem_range.1 (List.mem_of_find?_eq_some hstop)).le
  · rw [hsteps] at hx
    obtain ⟨t, -, rfl⟩ := List.mem_map.1 hx
    exact k.slots_sized m t hslots _

/-! ## The WLOAD at its array -/

/-- The cores agree in all but the weight buffers, their records, and the counts of the frame. -/
def Core.loadEq (k k' : Core) : Prop :=
  { k' with wbuf := k.wbuf, wscale := k.wscale, wmeta := k.wmeta, wsteps := k.wsteps, waud := k.waud, fcount := k.fcount } = k

theorem Core.loadEq.trans {k j i : Core} (h : k.loadEq j) (h' : j.loadEq i) : k.loadEq i := by
  unfold Core.loadEq at *
  rw [← h]
  rw [← h']

theorem Core.loadEq.mq {k k' : Core} (h : k.loadEq k') : k'.mq = k.mq := by rw [← h]

theorem foldl_loadEq {α : Type} {g : Core → α → Core} (hg : ∀ (k : Core) a, k.loadEq (g k a)) (l : List α) (k : Core) :
    k.loadEq (l.foldl g k) :=
  List.foldlRecOn l g (motive := k.loadEq) rfl fun _ h a _ => h.trans (hg _ a)

theorem Core.bump_loadEq (k : Core) (o n : Nat) : k.loadEq (k.bump o n) := rfl

theorem Core.loadStep_loadEq (m : MOp) (p : Panel) (a : Nat) (k : Core) (x : PStep × Nat) : k.loadEq (k.loadStep m p a x) := rfl

theorem Core.loadPanel_loadEq (m : MOp) (p : Panel) (k : Core) (a : Nat) : k.loadEq (k.loadPanel m p a) := by
  rw [Core.loadPanel_eq]
  exact (k.bump_loadEq _ _).trans (foldl_loadEq (Core.loadStep_loadEq m p a) _ _)

/-- The core once a WLOAD has loaded a panel: its entry is free, and the counts are made. -/
def Core.wloaded (m : MOp) (p : Panel) (k : Core) : Core :=
  (((MKind.wload.arrays m.f).foldl (Core.loadPanel m p) (k.mfree m)).bump (kMAT_SPOOR) p.oor).bump (kMAT_AUDLOST) p.lost

theorem Core.wloaded_loadEq (m : MOp) (p : Panel) (k : Core) : (k.mfree m).loadEq (k.wloaded m p) :=
  ((foldl_loadEq (Core.loadPanel_loadEq m p) _ _).trans (Core.bump_loadEq _ _ _)).trans (Core.bump_loadEq _ _ _)

/-- The panel of a WLOAD, and whether a record of it leaves local memory. -/
def Core.wloadPanel (k : Core) (m : MOp) : Panel × Bool := if m.f.mb 9 then k.gatherPanel m else (k.panel m, false)

theorem Core.wloadPanel_fits (k : Core) (m : MOp) : (k.wloadPanel m).1.Fits m.f := by
  unfold Core.wloadPanel
  split
  · exact k.gatherPanel_fits m
  · exact k.panel_fits m

theorem Core.wloaded_holds {k : Core} {m : MOp} {p : Panel} (hlegal : illegal 0x40 m.f = false) (hp : p.Fits m.f) {b j : Nat} {x : PStep}
    (hb : b ∈ MKind.wload.arrays m.f) (hx : p.steps[j]? = some x) : (k.wloaded m p).HoldsStep m p b j x :=
  ((Core.loadPanels_hold hlegal hp hb hx (k.mfree m)).bump _ _).bump _ _

section
variable {s : State} {c : Fin 96} {a : Fin 4} {m : MOp} (hm : (s.core c).mhead a.val .wload = some m)
include hm

/-- A WLOAD whose half no run locks. -/
theorem execWloadExecute_loads (hfree : ∀ b, b ∈ MKind.wload.arrays m.f → (s.core c).halfLocked b (m.f.m 11 11) = false) :
    exec (.wloadExecute c a) s = .next (if ((s.core c).wloadPanel m).2
      then (s.modCore c (Core.wloaded m ((s.core c).wloadPanel m).1)).layFault c 2 0 m.opw
      else s.modCore c (Core.wloaded m ((s.core c).wloadPanel m).1)) := by
  have hnone : (MKind.wload.arrays m.f).find? (fun b => (s.core c).halfLocked b (m.f.m 11 11)) = none :=
    List.find?_eq_none.2 fun b hb => by rw [hfree b hb]; exact Bool.false_ne_true
  change execWloadExecute c a s = _
  unfold execWloadExecute
  simp only [hm, hnone, State.modCore_modCore]
  rfl

/-- A WLOAD whose half a run locks loads nothing. -/
theorem execWloadExecute_locked {b : Nat} (hb : b ∈ MKind.wload.arrays m.f) (hlock : (s.core c).halfLocked b (m.f.m 11 11) = true) :
    ∃ b', exec (.wloadExecute c a) s = .next ((s.modCore c (fun k => k.mfree m)).matFault c 1 b' m.opw) := by
  cases hfind : (MKind.wload.arrays m.f).find? (fun b => (s.core c).halfLocked b (m.f.m 11 11)) with
  | none => exact absurd hlock (List.find?_eq_none.1 hfind b hb)
  | some b' =>
    refine ⟨b', ?_⟩
    change execWloadExecute c a s = _
    unfold execWloadExecute
    simp only [hm, hfind]

end

/-! ## An update of one core -/

theorem State.modCore_self (s : State) (c : Fin 96) (g : Core → Core) : (s.modCore c g).core c = g (s.core c) :=
  (s.modCore_core c c g).trans (if_pos rfl)

theorem State.modCore_onlyCore (s : State) (c : Fin 96) (g : Core → Core) : s.onlyCore (s.modCore c g) c :=
  ⟨rfl, fun d hd => (s.modCore_core c d g).trans (if_neg hd)⟩

theorem State.modCore_st {s : State} {c : Fin 96} {g : Core → Core} (hg : (g (s.core c)).st = (s.core c).st) (d : Fin 96) :
    ((s.modCore c g).core d).st = (s.core d).st := by
  rw [State.modCore_core]
  split
  · next h => rw [h, hg]
  · rfl

theorem State.modCore_isStopped {s : State} {c : Fin 96} {g : Core → Core} (hg : (g (s.core c)).st = (s.core c).st) {p : Nat} (hp : p < 8) :
    (s.modCore c g).isStopped p = s.isStopped p := State.isStopped_congr (State.CapEq.modCore s c g).plan (State.modCore_st hg) hp

/-- What stops the partition at the head of a matrix queue: the entry is free, and the matrix unit faults. -/
theorem State.mfree_matFault_stops {s : State} {c : Fin 96} {p : Nat} (m : MOp) (hpart : s.partOf c = some p) (hgoing : s.isStopped p = false)
    (hrun : (s.core c).st = .running) (hreg : (s.core c).reg kMAT_FAULT = 0) (cause b op : Nat) {t : State}
    (ht : t = (s.modCore c (fun k => k.mfree m)).matFault c cause b op) :
    t.isStopped p = true ∧ (t.core c).st = .stopped ∧ (t.core c).reg kMAT_FAULT = BitVec.ofNat 32 (cause + 16 * b) ∧ t.hbm = s.hbm
      ∧ ((s.core c).mfree m).faultEq (t.core c) := by
  obtain ⟨u, hu⟩ : ∃ u, u = s.modCore c (fun k => k.mfree m) := ⟨_, rfl⟩
  have hucore : u.core c = (s.core c).mfree m := by rw [hu, State.modCore_self]
  have hq := (s.core c).mfree_mqEq m
  rw [← hu] at ht
  obtain ⟨hstop, hstopped, hval, hend⟩ := State.matFault_stops (s := u) (c := c) (p := p)
    (by rw [hu, (State.CapEq.modCore s c _).plan.partOf, hpart]) (by rw [hu, State.modCore_isStopped hq.st (State.partOf_lt hpart), hgoing])
    (by rw [hucore, hq.st, hrun]) (by rw [hucore, hq.reg, hreg]) cause b op
  rw [ht, ← hucore]
  exact ⟨hstop, hstopped, hval, by rw [hend.hbm, hu, State.modCore_hbm], hend.core c⟩

/-! ## What the WLOAD leaves -/

theorem Core.faultEq.holdsStep {k k' : Core} (h : k.faultEq k') {m : MOp} {p : Panel} {b j : Nat} {x : PStep}
    (hk : k.HoldsStep m p b j x) : k'.HoldsStep m p b j x :=
  ⟨by rw [h.wsteps]; exact hk.record, by rw [h.wbuf]; exact hk.vals, by rw [h.wmeta]; exact hk.nib, by rw [h.wscale]; exact hk.scl⟩

theorem Core.loadEq.of_mfree {k k' : Core} {m : MOp} (h : (k.mfree m).loadEq k') :
    { k' with mq := k.mq, wbuf := k.wbuf, wscale := k.wscale, wmeta := k.wmeta, wsteps := k.wsteps, waud := k.waud,
              fcount := k.fcount } = k := by
  have hq := k.mfree_mqEq m
  unfold Core.loadEq at h
  unfold Core.mqEq at hq
  rw [← hq]
  rw [← h]

theorem Core.loadEq.st_reg {k k' : Core} {m : MOp} (h : (k.mfree m).loadEq k') : k'.st = k.st ∧ k'.reg = k.reg := by
  have h := h.of_mfree
  rw [← h]
  exact ⟨rfl, rfl⟩

/-- The end `u` of an instruction at its array, with the fault of an address that lies outside local memory where it formed one (R161). -/
def State.addrEnd (u : State) (c : Fin 96) (m : MOp) (out : Bool) : State := if out then u.layFault c 2 0 m.opw else u

theorem State.addrEnd_faultEq (u : State) (c : Fin 96) (m : MOp) (out : Bool) : u.FaultEq (u.addrEnd c m out) := by
  unfold State.addrEnd
  split
  · exact u.layFault_faultEq _ _ _ _
  · exact .refl u

/-- The fault of such an address stops the core's partition, where what came before in `u` left states and registers as they were. -/
theorem State.addrEnd_stops {s u : State} {c : Fin 96} {p : Nat} (hplan : s.samePlan u) (hst : ∀ d, (u.core d).st = (s.core d).st)
    (hregs : (u.core c).reg = (s.core c).reg) (hpart : s.partOf c = some p) (hgoing : s.isStopped p = false) (hrun : (s.core c).st = .running)
    (hreg : (s.core c).reg kLAY_FAULT = 0) (m : MOp) : (u.addrEnd c m true).isStopped p = true
      ∧ ((u.addrEnd c m true).core c).st = .stopped ∧ ((u.addrEnd c m true).core c).fld kLAY_FAULT 3 0 = 2 :=
  State.layFault_stops (by rw [hplan.partOf, hpart]) (by rw [State.isStopped_congr hplan hst (State.partOf_lt hpart), hgoing])
    (by rw [hst, hrun]) (by rw [hregs, hreg]) m.opw

/-- Settles O18: the panel's steps fill places of their own in each array, and what the fault of a record writes lies elsewhere. -/
theorem wloadExecutes : Obligations.WloadExecutes := by
  unfold Obligations.WloadExecutes
  refine fun s c a m hm hlegal => ⟨fun l h hfree hl hh => ?_, fun b p hb hlock hpart hgoing hrun hreg => ?_⟩
  · have hl' : l = (s.core c).wloadPanel m := hl
    have hkind : m.kind = .wload := Core.mhead_kind hm
    have hexec := execWloadExecute_loads hm hfree
    rw [← hl'] at hexec
    obtain ⟨u, hu⟩ : ∃ u, u = s.modCore c (Core.wloaded m l.1) := ⟨_, rfl⟩
    rw [← hu] at hexec
    have hucore : u.core c = (s.core c).wloaded m l.1 := by rw [hu, State.modCore_self]
    have hload : ((s.core c).mfree m).loadEq (u.core c) := by rw [hucore]; exact (s.core c).wloaded_loadEq m l.1
    have hend := (u.addrEnd_faultEq c m l.2).core c
    refine ⟨u.addrEnd c m l.2, by rw [hexec]; unfold State.addrEnd; split <;> rfl, fun b hb => ⟨fun e he => ?_, fun j x hx => ?_⟩,
      fun hplain => ?_, fun hin => ?_, fun hout p hpart hgoing hrun hreg => ?_⟩
    · exact Core.gone_of_mq (hend.mq.trans hload.mq) (by rw [hkind]; exact hb) he
    · have hholds : (u.core c).HoldsStep m l.1 b j x := by
        rw [hucore]
        exact Core.wloaded_holds hlegal (hl' ▸ (s.core c).wloadPanel_fits m) hb hx
      obtain ⟨hrec, hvals, hnib, hscl⟩ := hend.holdsStep hholds
      rw [hh]
      refine ⟨hrec, hvals, hnib, hscl, fun hplain => Core.panel_vals (k := s.core c) ?_⟩
      rw [hl, hplain] at hx
      exact hx
    · rw [hl, hplain]
      exact (s.core c).panel_steps_length m
    · have hstay : u.addrEnd c m l.2 = u := by rw [State.addrEnd, hin]; exact if_neg Bool.false_ne_true
      rw [hstay]
      exact ⟨hu ▸ s.modCore_onlyCore c _, hload.of_mfree⟩
    · obtain ⟨hst, hregs⟩ := ((s.core c).wloaded_loadEq m l.1).st_reg
      rw [hout]
      exact State.addrEnd_stops (hu ▸ (State.CapEq.modCore s c _).plan) (hu ▸ State.modCore_st hst) (by rw [hucore, hregs]) hpart hgoing hrun
        hreg m
  · obtain ⟨b', hexec⟩ := execWloadExecute_locked hm hb hlock
    obtain ⟨hstop, hst, hval, -, hend⟩ := State.mfree_matFault_stops m hpart hgoing hrun hreg 1 b' m.opw rfl
    have hq := (s.core c).mfree_mqEq m
    exact ⟨_, hexec, hstop, hst, fld_cause hval (by decide), hend.wbuf.trans hq.wbuf, hend.wsteps.trans hq.wsteps,
      hend.wscale.trans hq.wscale, hend.wmeta.trans hq.wmeta⟩

end Sys2Proof.Machine
end

section
/-!
# Accumulator rows (R77, R85, log entry 9)

What the elements of a bank's row read after a row is written: the row itself its new elements, every row of other banks what it had.
-/
namespace Sys2Proof.Machine

/-! ## Rows of a store, and packed elements -/

theorem Rows.get_put {w : Nat} (free : Nat → Nat → BitVec w) (m : Rows w) (a b : Nat) (v : BitVec w) :
    (m.put a v).get free b = if b = a then v else m.get free b := by
  unfold Rows.get Rows.put
  by_cases hc : m.gen = 0 ∧ v = 0
  · simp only [hc, and_self, if_true, mapFind_mapErase]
    by_cases h : b = a <;> simp [h]
  · simp only [if_neg hc, mapFind_mapSet]
    by_cases h : b = a <;> simp [h]

theorem packNat_element (w : Nat) (l : List Nat) (i : Nat) : packNat w l / 2 ^ (w * i) % 2 ^ w = l.getD i 0 % 2 ^ w := by
  induction l generalizing i with
  | nil => simp [packNat]
  | cons e r ih =>
    have hpos : 0 < 2 ^ w := Nat.two_pow_pos w
    cases i with
    | zero => simp [packNat, Nat.add_mul_mod_self_left]
    | succ i =>
      have hskip : (e % 2 ^ w + 2 ^ w * packNat w r) / 2 ^ w = packNat w r := by
        rw [Nat.add_mul_div_left _ _ hpos, Nat.div_eq_of_lt (Nat.mod_lt _ hpos), Nat.zero_add]
      rw [packNat, Nat.mul_succ, Nat.add_comm (w * i) w, Nat.pow_add, ← Nat.div_div_eq_div_mul, hskip, ih, List.getD_cons_succ]

/-- An element of a register into which a number was cut, where it lies within the register. -/
theorem ofNat_element {n w i : Nat} (h : w * i + w ≤ n) (x : Nat) : (BitVec.ofNat n x).toNat / 2 ^ (w * i) % 2 ^ w = x / 2 ^ (w * i) % 2 ^ w := by
  refine Nat.eq_of_testBit_eq fun j => ?_
  simp only [BitVec.toNat_ofNat, Nat.testBit_mod_two_pow, Nat.testBit_div_two_pow]
  by_cases hj : j < w
  · have : j + w * i < n := by omega
    simp [this]
  · simp [hj]

/-! ## Banks -/

/-- The banks over which an element's row extends. -/
def bankWidth : BankFmt → Nat
  | .fp64 => 2
  | _ => 1

/-- The bits of an accumulator element. -/
def accBits (fm : BankFmt) : Nat := if fm = .fp64 then 64 else 32

/-- No bank that the formats' rows at b and b' extend over is the same. -/
def banksApart (fm : BankFmt) (b b' : Nat) : Prop := b + bankWidth fm ≤ b' ∨ b' + bankWidth fm ≤ b

theorem Core.accElts_congr {k k' : Core} (h : k'.acc = k.acc) (fm : BankFmt) (b r : Nat) : k'.accElts fm b r = k.accElts fm b r := by
  have hrow : k'.accRow = k.accRow := by
    funext b r
    rw [Core.accRow, h, Core.accRow]
  cases fm <;> simp only [Core.accElts, hrow]

/-- The cores agree in all but accumulator rows. -/
def Core.accEq (k k' : Core) : Prop := { k' with acc := k.acc } = k

theorem Core.accEq.trans {k j i : Core} (h : k.accEq j) (h' : j.accEq i) : k.accEq i := by
  unfold Core.accEq at *
  rw [← h]
  rw [← h']

theorem Core.putAcc_accEq (k : Core) (fm : BankFmt) (b r : Nat) (v : List Nat) : k.accEq (k.putAcc fm b r v) := by
  cases fm <;> rfl

theorem Core.putAcc_accRow_fp64 (k : Core) (b r b' r' : Nat) (v : List Nat) : (k.putAcc .fp64 b r v).accRow b' r' =
    if 16 * b' + r' = 16 * (b + 1) + r then BitVec.ofNat 512 (packNat 64 (v.drop 8))
    else if 16 * b' + r' = 16 * b + r then BitVec.ofNat 512 (packNat 64 (v.take 8)) else k.accRow b' r' := by
  rw [Core.accRow, Core.putAcc, Rows.get_put, Rows.get_put, ← Core.accRow]

theorem Core.putAcc_accRow_narrow (k : Core) {fm : BankFmt} (hfm : fm ≠ .fp64) (b r b' r' : Nat) (v : List Nat) :
    (k.putAcc fm b r v).accRow b' r' = if 16 * b' + r' = 16 * b + r then BitVec.ofNat 512 (packNat 32 v) else k.accRow b' r' := by
  cases fm with
  | fp64 => exact absurd rfl hfm
  | fp32 => exact Rows.get_put _ _ _ _ _
  | int32 => exact Rows.get_put _ _ _ _ _

theorem Core.accElts_fp64 (k : Core) (b r : Nat) :
    k.accElts .fp64 b r = (List.range 16).map (fun j => (k.accRow (b + j / 8) r).toNat / 2 ^ (64 * (j % 8)) % 2 ^ 64) := rfl

theorem Core.accElts_narrow (k : Core) {fm : BankFmt} (hfm : fm ≠ .fp64) (b r : Nat) :
    k.accElts fm b r = (List.range 16).map (fun j => (k.accRow b r).toNat / 2 ^ (32 * j) % 2 ^ 32) := by
  cases fm with
  | fp64 => exact absurd rfl hfm
  | fp32 => rfl
  | int32 => rfl

theorem getElem?_map_range {α : Type} (g : Nat → α) {j n : Nat} (hj : j < n) : ((List.range n).map g)[j]? = some (g j) := by
  rw [List.getElem?_map, List.getElem?_range hj]
  rfl

/-- The row that was written has its elements, each cut to the format's width. -/
theorem Core.putAcc_accElts_same (k : Core) (fm : BankFmt) (b r : Nat) (v : List Nat) {j : Nat} (hj : j < 16) :
    ((k.putAcc fm b r v).accElts fm b r)[j]? = some (v.getD j 0 % 2 ^ accBits fm) := by
  by_cases hfm : fm = .fp64
  · subst hfm
    rw [Core.accElts_fp64, getElem?_map_range _ hj, Core.putAcc_accRow_fp64, accBits, if_pos rfl]
    by_cases hlow : j < 8
    · have hbank : j / 8 = 0 := by omega
      have hcol : j % 8 = j := by omega
      rw [hbank, hcol, if_neg (by omega), if_pos (by omega), ofNat_element (by omega), packNat_element, List.getD_eq_getElem?_getD,
        List.getElem?_take, if_pos hlow, ← List.getD_eq_getElem?_getD]
    · have hbank : j / 8 = 1 := by omega
      rw [hbank, if_pos rfl, ofNat_element (by omega), packNat_element, List.getD_eq_getElem?_getD, List.getElem?_drop,
        ← List.getD_eq_getElem?_getD, show 8 + j % 8 = j by omega]
  · rw [Core.accElts_narrow _ hfm, getElem?_map_range _ hj, Core.putAcc_accRow_narrow _ hfm, if_pos rfl, ofNat_element (by omega),
      packNat_element, accBits, if_neg hfm]

/-- A row of other banks, or another row of the bank, keeps its elements. -/
theorem Core.putAcc_accElts_other (k : Core) (fm : BankFmt) {b b' r r' : Nat} (hr : r < 16) (hr' : r' < 16)
    (h : banksApart fm b b' ∨ b' = b ∧ r' ≠ r) (v : List Nat) : (k.putAcc fm b r v).accElts fm b' r' = k.accElts fm b' r' := by
  by_cases hfm : fm = .fp64
  · subst hfm
    rw [Core.accElts_fp64, Core.accElts_fp64]
    refine List.map_congr_left fun j hj => ?_
    have hj := List.mem_range.1 hj
    have hbank : j / 8 ≤ 1 := by omega
    simp only [banksApart, bankWidth] at h
    rw [Core.putAcc_accRow_fp64, if_neg (by omega), if_neg (by omega)]
  · have hwidth : bankWidth fm = 1 := by cases fm <;> first | rfl | exact absurd rfl hfm
    rw [banksApart, hwidth] at h
    rw [Core.accElts_narrow _ hfm, Core.accElts_narrow _ hfm, Core.putAcc_accRow_narrow _ hfm, if_neg (by omega)]

/-- Write the sixteen rows of a bank. -/
def Core.putRows (k : Core) (fm : BankFmt) (b : Nat) (row : Nat → List Nat) : Core :=
  (List.range 16).foldl (fun (k : Core) i => k.putAcc fm b i (row i)) k

theorem zipIdx_map_range {α : Type} (g : Nat → α) (n : Nat) : ((List.range n).map g).zipIdx = (List.range n).map (fun i => (g i, i)) := by
  refine List.ext_getElem (by simp) fun i _ _ => by simp

theorem Core.putRows_accEq (k : Core) (fm : BankFmt) (b : Nat) (row : Nat → List Nat) : k.accEq (k.putRows fm b row) :=
  List.foldlRecOn _ _ (motive := k.accEq) rfl fun j hj i _ => hj.trans (j.putAcc_accEq fm b i (row i))

theorem Core.putRows_accElts_same (k : Core) (fm : BankFmt) (b : Nat) (row : Nat → List Nat) {i j : Nat} (hi : i < 16) (hj : j < 16) :
    ((k.putRows fm b row).accElts fm b i)[j]? = some ((row i).getD j 0 % 2 ^ accBits fm) := by
  unfold Core.putRows
  refine foldl_establishes (P := fun k : Core => (k.accElts fm b i)[j]? = some ((row i).getD j 0 % 2 ^ accBits fm))
    (g := fun (k : Core) i => k.putAcc fm b i (row i)) (a := i) (List.mem_range.2 hi) (fun k => ?_) (fun k i' hi' hk => ?_) k
  · exact k.putAcc_accElts_same fm b i (row i) hj
  · by_cases h : i = i'
    · rw [← h]
      exact k.putAcc_accElts_same fm b i (row i) hj
    · rw [k.putAcc_accElts_other fm (List.mem_range.1 hi') hi (.inr ⟨rfl, h⟩)]
      exact hk

theorem Core.putRows_accElts_other (k : Core) (fm : BankFmt) {b b' : Nat} (row : Nat → List Nat) {i : Nat} (hi : i < 16)
    (h : banksApart fm b b') : (k.putRows fm b row).accElts fm b' i = k.accElts fm b' i := by
  unfold Core.putRows
  refine List.foldlRecOn _ _ (motive := fun j : Core => j.accElts fm b' i = k.accElts fm b' i) (Eq.refl _) fun j hj i' hi' => ?_
  rw [j.putAcc_accElts_other fm (List.mem_range.1 hi') hi (.inl h) (row i'), hj]

/-! ## The record of a bank -/

theorem Core.setBank_bank (k : Core) (b b' : Nat) (x : Bank) : (k.setBank b x).bank b' = if b' % 8 = b % 8 then x else k.bank b' := by
  simp only [Core.setBank, Core.bank, Vector.getElem_set, eq_comm]

end Sys2Proof.Machine
end

section
/-!
# O19: an MMA accumulates on its arrays (R77, R83, R85, R100)

The rows of a bank after an MMA, from the state that the array finds; the banks of a span lie apart, so that each array finds its own as
they were.
-/
namespace Sys2Proof.Machine

/-- The cores agree in all but accumulators, banks, and the counts of the frame. -/
def Core.mmaEq (k k' : Core) : Prop := { k' with acc := k.acc, banks := k.banks, fcount := k.fcount } = k

namespace Core.mmaEq

theorem trans {k j i : Core} (h : k.mmaEq j) (h' : j.mmaEq i) : k.mmaEq i := by
  unfold Core.mmaEq at *
  rw [← h]
  rw [← h']

variable {k k' : Core} (h : k.mmaEq k')
include h

theorem mq : k'.mq = k.mq := by rw [← h]

theorem mmaRec (m : MOp) (a t : Nat) : k'.mmaRec m a t = k.mmaRec m a t := by
  rw [← h]
  rfl

theorem mmaSum (m : MOp) (es : List (Nat × Nat)) (a i j t : Nat) : k'.mmaSum m es a i j t = k.mmaSum m es a i j t := by
  rw [← h]
  rfl

end Core.mmaEq

theorem Core.accEq.mmaEq {k k' : Core} (h : k.accEq k') : k.mmaEq k' := by
  unfold Core.accEq at h
  unfold Core.mmaEq
  rw [← h]

theorem Core.accEq.bank {k k' : Core} (h : k.accEq k') (b : Nat) : k'.bank b = k.bank b := by
  rw [← h]
  rfl

@[simp] theorem Core.setBank_acc (k : Core) (b : Nat) (x : Bank) : (k.setBank b x).acc = k.acc := rfl
@[simp] theorem Core.bump_bank (k : Core) (o n b : Nat) : (k.bump o n).bank b = k.bank b := rfl

theorem Core.setBank_mmaEq (k : Core) (b : Nat) (x : Bank) : k.mmaEq (k.setBank b x) := rfl

theorem Core.bump_mmaEq (k : Core) (o n : Nat) : k.mmaEq (k.bump o n) := rfl

/-! ## The rows that an array writes -/

/-- The bank that an MMA accumulates into on array a. -/
def mmaBank (f : Fields) (a : Nat) : Nat := bankOf (f.mb 10) f.dst.toNat a

/-- Row i of the bank after an MMA on array a: each element with the sums of the steps added (R77). -/
def Core.mmaRow (k : Core) (m : MOp) (es : List (Nat × Nat)) (a i : Nat) : List Nat :=
  (List.range 16).map (fun j => accSteps (accFmt m.f) (m.f.mb 8) ((k.accElts (accFmt m.f) (mmaBank m.f a) i).getD j 0)
    ((List.range (mSteps m.f)).map (k.mmaSum m es a i j)))

/-- The records of the steps, each with its place in the half. -/
def Core.mmaRecs (k : Core) (m : MOp) (a : Nat) : List (Nat × WStep) :=
  (List.range (mSteps m.f)).filterMap (fun t => (k.mmaRec m a t).map (fun w => (m.f.m 19 12 + t, w)))

/-- The steps' sums of products of a row and a column, as an array forms them. -/
def Core.mmaDots (k : Core) (m : MOp) (es : List (Nat × Nat)) (lz : Bool) (a i j : Nat) : List Fv :=
  List.zipWith (fun x y => dotStep (fun p => (x p).map id) (y.map (fun z => (z.1, id z.2))))
    (((List.range (mSteps m.f)).map (fun t => k.mmaA m es lz t ((if m.f.mb 10 then 16 * (a / 2) else 0) + i))).map (·.1))
    ((k.mmaRecs m a).map (fun x => k.bCol a (m.f.m 11 11) x.1 j x.2))

theorem zipWith_map_filterMap {α β γ δ : Type} (F : β → γ → δ) (u : Nat → β) (g : Nat → Option α) (h : α → γ) (v : Nat → δ) (l : List Nat)
    (hv : ∀ t, t ∈ l → ∃ w, g t = some w ∧ v t = F (u t) (h w)) : List.zipWith F (l.map u) ((l.filterMap g).map h) = l.map v := by
  induction l with
  | nil => rfl
  | cons t l ih =>
    obtain ⟨w, hw, hvt⟩ := hv t List.mem_cons_self
    rw [List.filterMap_cons_some hw, List.map_cons, List.map_cons, List.map_cons, List.zipWith_cons_cons, hvt,
      ih fun t ht => hv t (List.mem_cons_of_mem _ ht)]

/-- The poison of a list has no part in what A gives. -/
theorem Core.mmaA_fst (k : Core) (m : MOp) (es : List (Nat × Nat)) (lz : Bool) (t i : Nat) : (k.mmaA m es lz t i).1 = (k.mmaA m es false t i).1 := by
  unfold Core.mmaA
  split <;> rfl

theorem Core.mmaSum_of_rec {k : Core} {m : MOp} {a t : Nat} {w : WStep} (h : k.mmaRec m a t = some w) (es : List (Nat × Nat)) (i j : Nat) :
    k.mmaSum m es a i j t = dotStep (k.mmaA m es false t ((if m.f.mb 10 then 16 * (a / 2) else 0) + i)).1
      (k.bCol a (m.f.m 11 11) (m.f.m 19 12 + t) j w) := by
  rw [Core.mmaSum, h]

/-- Where every step is loaded, the sums are those of R77. -/
theorem Core.mmaDots_eq {k : Core} {m : MOp} {a : Nat} (hrecs : ∀ t, t < mSteps m.f → ∃ w, k.mmaRec m a t = some w) (es : List (Nat × Nat))
    (lz : Bool) (i j : Nat) : k.mmaDots m es lz a i j = (List.range (mSteps m.f)).map (k.mmaSum m es a i j) := by
  unfold Core.mmaDots Core.mmaRecs
  rw [List.map_map]
  refine zipWith_map_filterMap _ _ _ _ _ _ fun t ht => ?_
  obtain ⟨w, hw⟩ := hrecs t (List.mem_range.1 ht)
  refine ⟨(m.f.m 19 12 + t, w), by rw [hw]; rfl, ?_⟩
  rw [Core.mmaSum_of_rec hw, ← k.mmaA_fst m es lz]
  simp only [Option.map_id, id_eq, List.map_id', Function.comp]

theorem getD_map_range {α : Type} (g : Nat → α) (d : α) {j n : Nat} (hj : j < n) : ((List.range n).map g).getD j d = g j := by
  rw [List.getD_eq_getElem?_getD, getElem?_map_range g hj]
  rfl

/-- The rows that `Core.mmaArray` writes, of its own sums. -/
def Core.mmaRowsOf (k : Core) (m : MOp) (es : List (Nat × Nat)) (lz : Bool) (a : Nat) : List (List Nat) :=
  (List.range 16).map (fun i => (List.range 16).map (fun j =>
    accSteps (accFmt m.f) (m.f.mb 8) ((k.accElts (accFmt m.f) (bankOf (m.f.mb 10) m.f.dst.toNat a) i).getD j 0)
      (List.zipWith (fun x y => dotStep (fun p => (x p).map id) (y.map (fun z => (z.1, id z.2))))
        ((((List.range 16).map (fun i => (List.range (mSteps m.f)).map (fun t =>
          k.mmaA m es lz t ((if m.f.mb 10 then 16 * (a / 2) else 0) + i)))).getD i []).map (·.1))
        (((List.range 16).map (fun j => (k.mmaRecs m a).map (fun x => k.bCol a (m.f.m 11 11) x.1 j x.2))).getD j []))))

theorem Core.mmaRowsOf_eq {k : Core} {m : MOp} {a : Nat} (hrecs : ∀ t, t < mSteps m.f → ∃ w, k.mmaRec m a t = some w) (es : List (Nat × Nat))
    (lz : Bool) : k.mmaRowsOf m es lz a = (List.range 16).map (k.mmaRow m es a) := by
  refine List.map_congr_left fun i hi => List.map_congr_left fun j hj => ?_
  rw [getD_map_range _ _ (List.mem_range.1 hi), getD_map_range _ _ (List.mem_range.1 hj), ← Core.mmaDots_eq hrecs es lz]
  rfl

/-! ## An MMA on one array -/

section
variable (m : MOp) (es : List (Nat × Nat)) (lz : Bool) (k : Core) (a : Nat)

/-- The core once the rows of array a are written. -/
def Core.mmaPut : Core :=
  (k.mmaRowsOf m es lz a).zipIdx.foldl (fun (k : Core) x => k.putAcc (accFmt m.f) (mmaBank m.f a) x.2 x.1) k

/-- What an MMA does on an array: it writes its rows, notes its banks, and counts. -/
theorem Core.mmaArray_cases : ∃ (x y : Bank) (n l : Nat), x.fmt = some (accFmt m.f) ∧ y.fmt = some .fp64 ∧ k.mmaArray m es lz a =
    (((if accFmt m.f = .fp64 then ((k.mmaPut m es lz a).setBank (mmaBank m.f a) x).setBank (mmaBank m.f a + 1) y
      else (k.mmaPut m es lz a).setBank (mmaBank m.f a) x).bump (kMAT_AUDLOST) l).bump (kMAT_STEPS) n) :=
  ⟨_, _, _, _, rfl, rfl, rfl⟩

theorem Core.mmaArray_acc : (k.mmaArray m es lz a).acc = (k.mmaPut m es lz a).acc := by
  obtain ⟨x, y, n, l, -, -, h⟩ := k.mmaArray_cases m es lz a
  rw [h, Core.bump_acc, Core.bump_acc]
  split
  · rw [Core.setBank_acc, Core.setBank_acc]
  · rw [Core.setBank_acc]

theorem Core.mmaPut_accEq : k.accEq (k.mmaPut m es lz a) := by
  unfold Core.mmaPut
  exact List.foldlRecOn _ _ (motive := k.accEq) (Eq.refl k) fun j hj x _ => hj.trans (j.putAcc_accEq _ _ _ _)

theorem Core.mmaArray_mmaEq : k.mmaEq (k.mmaArray m es lz a) := by
  obtain ⟨x, y, n, l, -, -, h⟩ := k.mmaArray_cases m es lz a
  have hput := (k.mmaPut_accEq m es lz a).mmaEq
  have hset := hput.trans (Core.setBank_mmaEq _ (mmaBank m.f a) x)
  rw [h]
  split
  · exact ((hset.trans (Core.setBank_mmaEq _ _ y)).trans (Core.bump_mmaEq _ _ l)).trans (Core.bump_mmaEq _ _ n)
  · exact (hset.trans (Core.bump_mmaEq _ _ l)).trans (Core.bump_mmaEq _ _ n)

theorem Core.mmaPut_bank (b : Nat) : (k.mmaPut m es lz a).bank b = k.bank b := (k.mmaPut_accEq m es lz a).bank b

/-- The formats of the banks after an MMA on array a: its own have the accumulation format, the others what they had. -/
theorem Core.mmaArray_fmt (b : Nat) : ((k.mmaArray m es lz a).bank b).fmt =
    if b % 8 = mmaBank m.f a % 8 ∨ accFmt m.f = .fp64 ∧ b % 8 = (mmaBank m.f a + 1) % 8 then some (accFmt m.f) else (k.bank b).fmt := by
  obtain ⟨x, y, n, l, hx, hy, h⟩ := k.mmaArray_cases m es lz a
  rw [h, Core.bump_bank, Core.bump_bank]
  by_cases hfm : accFmt m.f = .fp64
  · rw [if_pos hfm, Core.setBank_bank, Core.setBank_bank, Core.mmaPut_bank]
    by_cases hb : b % 8 = (mmaBank m.f a + 1) % 8
    · rw [if_pos hb, if_pos (.inr ⟨hfm, hb⟩), hy, hfm]
    · by_cases hb' : b % 8 = mmaBank m.f a % 8
      · rw [if_neg hb, if_pos hb', if_pos (.inl hb'), hx]
      · rw [if_neg hb, if_neg hb', if_neg (fun h => h.elim hb' fun h => hb h.2)]
  · rw [if_neg hfm, Core.setBank_bank, Core.mmaPut_bank]
    by_cases hb' : b % 8 = mmaBank m.f a % 8
    · rw [if_pos hb', if_pos (.inl hb'), hx]
    · rw [if_neg hb', if_neg (fun h => h.elim hb' fun h => hfm h.1)]

variable {m k a}

theorem Core.mmaPut_eq (hrecs : ∀ t, t < mSteps m.f → ∃ w, k.mmaRec m a t = some w) :
    k.mmaPut m es lz a = k.putRows (accFmt m.f) (mmaBank m.f a) (k.mmaRow m es a) := by
  rw [Core.mmaPut, Core.mmaRowsOf_eq hrecs, zipIdx_map_range, List.foldl_map, Core.putRows]

/-- R77: an element of the array's bank after the MMA. -/
theorem Core.mmaArray_elts_same (hrecs : ∀ t, t < mSteps m.f → ∃ w, k.mmaRec m a t = some w) {i j : Nat} (hi : i < 16) (hj : j < 16) :
    ((k.mmaArray m es lz a).accElts (accFmt m.f) (mmaBank m.f a) i)[j]? = some ((k.mmaRow m es a i).getD j 0 % 2 ^ accBits (accFmt m.f)) := by
  rw [Core.accElts_congr (k.mmaArray_acc m es lz a), Core.mmaPut_eq es lz hrecs]
  exact k.putRows_accElts_same _ _ _ hi hj

theorem Core.mmaArray_elts_other (hrecs : ∀ t, t < mSteps m.f → ∃ w, k.mmaRec m a t = some w) {b i : Nat} (hi : i < 16)
    (h : banksApart (accFmt m.f) (mmaBank m.f a) b) : (k.mmaArray m es lz a).accElts (accFmt m.f) b i = k.accElts (accFmt m.f) b i := by
  rw [Core.accElts_congr (k.mmaArray_acc m es lz a), Core.mmaPut_eq es lz hrecs]
  exact k.putRows_accElts_other _ _ hi h

end

/-! ## An MMA on its arrays -/

theorem accFmt_fp64 {f : Fields} : accFmt f = .fp64 ↔ f.fmt = 0 := by
  unfold accFmt
  split
  · next h => exact ⟨fun _ => h, fun _ => rfl⟩
  · next h => exact ⟨fun he => absurd he (by split <;> decide), fun he => absurd he h⟩

/-- The banks of an MMA's arrays lie apart, FP64 pairs from even banks upwards. -/
theorem mmaBanks_apart {f : Fields} (heven : f.fmt = 0 → f.dst.toNat % 2 = 0) {a b : Nat} (ha : a ∈ MKind.mma.arrays f)
    (hb : b ∈ MKind.mma.arrays f) (hne : a ≠ b) : banksApart (accFmt f) (mmaBank f a) (mmaBank f b) := by
  by_cases hspan : f.mb 10 = true
  · unfold banksApart mmaBank bankOf
    rw [if_pos hspan, if_pos hspan]
    by_cases hfm : accFmt f = .fp64
    · have hwidth : bankWidth (accFmt f) = 2 := by rw [hfm]; rfl
      have := heven (accFmt_fp64.1 hfm)
      omega
    · have hwidth : bankWidth (accFmt f) = 1 := by unfold bankWidth; split <;> [contradiction; rfl]
      omega
  · simp only [MKind.arrays, if_neg hspan, List.mem_singleton] at ha hb
    exact absurd (ha.trans hb.symm) hne

/-- One array's turn in a fold over distinct arrays: the core `t` that it finds shows `v` as it was and has what every turn keeps, and the
end shows what the turn makes of `t`. -/
theorem foldl_turn {α β : Type} {g : Core → α → Core} {l : List α} (hl : l.Nodup) {R : Core → Prop} (hR : ∀ t b, b ∈ l → R t → R (g t b))
    (v : Core → β) {a : α} (ha : a ∈ l) (hv : ∀ t b, b ∈ l → b ≠ a → R t → v (g t b) = v t) {k : Core} (h : R k) :
    ∃ t, R t ∧ v t = v k ∧ v (l.foldl g k) = v (g t a) := by
  obtain ⟨l₁, l₂, rfl⟩ := List.append_of_mem ha
  rw [List.nodup_middle, List.nodup_cons, List.mem_append, not_or] at hl
  obtain ⟨⟨h₁, h₂⟩, -⟩ := hl
  have hkeep (r : List α) (hr : ∀ b, b ∈ r → b ∈ l₁ ++ a :: l₂) (har : a ∉ r) (t : Core) (ht : R t) :
      R (r.foldl g t) ∧ v (r.foldl g t) = v t :=
    List.foldlRecOn r g (motive := fun u => R u ∧ v u = v t) ⟨ht, rfl⟩ fun u hu b hb =>
      ⟨hR u b (hr b hb) hu.1, (hv u b (hr b hb) (fun e => har (e ▸ hb)) hu.1).trans hu.2⟩
  obtain ⟨ht, hvt⟩ := hkeep l₁ (fun b hb => by simp [hb]) h₁ k h
  refine ⟨l₁.foldl g k, ht, hvt, ?_⟩
  rw [List.foldl_append, List.foldl_cons]
  exact (hkeep l₂ (fun b hb => by simp [hb]) h₂ _ (hR _ a ha ht)).2

section
variable {m : MOp} (es : List (Nat × Nat)) (lz : Bool) {k : Core} {b : Nat} (hb : b ∈ MKind.mma.arrays m.f)

/-- The arrays of an MMA each in turn. -/
def Core.mmaArrays (m : MOp) (es : List (Nat × Nat)) (lz : Bool) (k : Core) : Core := (MKind.mma.arrays m.f).foldl (Core.mmaArray m es lz) k

theorem Core.mmaArrays_mmaEq : k.mmaEq (k.mmaArrays m es lz) :=
  List.foldlRecOn _ _ (motive := k.mmaEq) (Eq.refl k) fun _ hj a _ => hj.trans (Core.mmaArray_mmaEq m es lz _ a)

include hb

theorem Core.mmaArrays_fmt : ((k.mmaArrays m es lz).bank (mmaBank m.f b)).fmt = some (accFmt m.f) := by
  refine foldl_establishes (P := fun k : Core => (k.bank (mmaBank m.f b)).fmt = some (accFmt m.f)) hb (fun k => ?_) (fun k a _ hk => ?_) k
  · rw [Core.mmaArray_fmt, if_pos (.inl rfl)]
  · rw [Core.mmaArray_fmt, hk, ite_self]

/-- R77, R85: each bank has the rounded running sums over what it held. -/
theorem Core.mmaArrays_elts (hrecs : ∀ a, a ∈ MKind.mma.arrays m.f → ∀ t, t < mSteps m.f → ∃ w, k.mmaRec m a t = some w)
    (heven : m.f.fmt = 0 → m.f.dst.toNat % 2 = 0) {i j : Nat} (hi : i < 16) (hj : j < 16) :
    ((k.mmaArrays m es lz).accElts (accFmt m.f) (mmaBank m.f b) i)[j]? =
      some ((k.mmaRow m es b i).getD j 0 % 2 ^ accBits (accFmt m.f)) := by
  have hrecs' {t : Core} (ht : k.mmaEq t) {a : Nat} (ha : a ∈ MKind.mma.arrays m.f) (n : Nat) (hn : n < mSteps m.f) :
      ∃ w, t.mmaRec m a n = some w := by
    rw [ht.mmaRec]
    exact hrecs a ha n hn
  obtain ⟨t, ht, hfound, hend⟩ := foldl_turn (g := Core.mmaArray m es lz) (MKind.arrays_nodup .mma m.f) (R := k.mmaEq)
    (fun t a _ ht => ht.trans (t.mmaArray_mmaEq m es lz a)) (fun t => t.accElts (accFmt m.f) (mmaBank m.f b) i) hb
    (fun t a ha hne ht => Core.mmaArray_elts_other es lz (hrecs' ht ha) hi (mmaBanks_apart heven ha hb hne)) (Eq.refl k)
  have hrow : t.mmaRow m es b i = k.mmaRow m es b i := by
    unfold Core.mmaRow
    rw [hfound]
    refine List.map_congr_left fun j _ => ?_
    rw [List.map_congr_left fun n _ => ht.mmaSum m es b i j n]
  rw [← hrow, ← Core.mmaArray_elts_same es lz (hrecs' ht hb) hi hj]
  exact congrArg (·[j]?) hend

end

end Sys2Proof.Machine
end

section
/-!
# O19, continued: an MMA cut to its first steps, and its execution (R83, R92, R109, R161)
-/
namespace Sys2Proof.Machine

/-! ## An MMA cut to its first steps -/

/-- The instruction with other modifiers. -/
def MOp.withMods (m : MOp) (w : Word32) : MOp := { m with f := { m.f with mods := w } }

/-- The words agree above the field of the steps. -/
def upperEq (w w' : Word32) : Prop := ∀ i, 8 ≤ i → w.getLsbD i = w'.getLsbD i

theorem upperEq_setBits (n : Nat) (w : Word32) : upperEq (setBits 7 0 n w) w := fun i hi => by
  rw [getLsbD_setBits 7 0 n w (by decide), if_neg (by omega)]

theorem MOp.firstSteps_some (m : MOp) (n : Nat) : m.firstSteps (some n) = m.withMods (setBits 7 0 (n - 1) m.f.mods) := rfl

theorem MOp.firstSteps_upper (m : MOp) (stop : Option Nat) : ∃ w, m.firstSteps stop = m.withMods w ∧ upperEq w m.f.mods := by
  cases stop with
  | none => exact ⟨m.f.mods, rfl, fun _ _ => rfl⟩
  | some n => exact ⟨_, m.firstSteps_some n, upperEq_setBits _ _⟩

theorem mSteps_le (f : Fields) : mSteps f ≤ 256 := by
  have := bitsOf_lt 7 0 f.mods.toNat
  unfold mSteps Fields.m
  omega

/-- The steps that are left. -/
theorem MOp.firstSteps_mSteps (m : MOp) {stop : Option Nat} (hpos : stop.getD (mSteps m.f) ≠ 0) (hle : ∀ n, stop = some n → n ≤ mSteps m.f) :
    mSteps (m.firstSteps stop).f = stop.getD (mSteps m.f) := by
  cases stop with
  | none => rfl
  | some n =>
    have hn := (hle n rfl).trans (mSteps_le m.f)
    rw [Option.getD_some] at hpos ⊢
    rw [mSteps, MOp.firstSteps_some, MOp.withMods, Fields.m, bitsOf_setBits_same 7 0 _ _ (by decide)]
    omega

section
variable {m : MOp} {w : Word32} (hw : upperEq w m.f.mods)
include hw

theorem MOp.withMods_mb {b : Nat} (hb : 8 ≤ b) : (m.withMods w).f.mb b = m.f.mb b := hw b hb

theorem MOp.withMods_m {hi lo : Nat} (hlo : 8 ≤ lo) : (m.withMods w).f.m hi lo = m.f.m hi lo := by
  refine Nat.eq_of_testBit_eq fun i => ?_
  rw [Fields.m, Fields.m, testBit_bitsOf, testBit_bitsOf, BitVec.testBit_toNat, BitVec.testBit_toNat]
  exact congrArg _ (hw (i + lo) (by omega))

theorem MOp.withMods_arrays : MKind.mma.arrays (m.withMods w).f = MKind.mma.arrays m.f := by
  rw [MKind.arrays, MOp.withMods_mb hw (by decide)]
  rfl

theorem MOp.withMods_bank (a : Nat) : mmaBank (m.withMods w).f a = mmaBank m.f a := by
  rw [mmaBank, MOp.withMods_mb hw (by decide)]
  rfl

theorem MOp.withMods_scaled : mmaScaled (m.withMods w).f = mmaScaled m.f := by
  rw [mmaScaled, MOp.withMods_mb hw (by decide), MOp.withMods_mb hw (by decide)]
  rfl

theorem MOp.withMods_accFmt : accFmt (m.withMods w).f = accFmt m.f := by
  rw [accFmt, MOp.withMods_scaled hw]
  rfl

theorem MOp.withMods_aRows : aRows (m.withMods w).f = aRows m.f := by
  rw [aRows, MOp.withMods_mb hw (by decide)]
  rfl

theorem MOp.withMods_mmaRec (k : Core) (a t : Nat) : k.mmaRec (m.withMods w) a t = k.mmaRec m a t := by
  rw [Core.mmaRec, MOp.withMods_m hw (by decide), MOp.withMods_m hw (by decide)]
  rfl

theorem MOp.withMods_aSparse (k : Core) (es : List (Nat × Nat)) (t i : Nat) : k.aSparse (m.withMods w) es t i = k.aSparse m es t i := by
  simp only [Core.aSparse, MOp.withMods_aRows hw]
  rfl

theorem MOp.withMods_aRow (k : Core) (t i : Nat) : k.aRow (m.withMods w) t i = k.aRow m t i := by
  have h20 := MOp.withMods_mb hw (b := 20) (by decide)
  have h21 := MOp.withMods_mb hw (b := 21) (by decide)
  have h25 := MOp.withMods_mb hw (b := 25) (by decide)
  have h10 := MOp.withMods_mb hw (b := 10) (by decide)
  simp only [Core.aRow, h20, h21, h25, h10, MOp.withMods_aRows hw, MOp.withMods_scaled hw]
  rfl

theorem MOp.withMods_mmaA (k : Core) (es : List (Nat × Nat)) (lz : Bool) (t i : Nat) :
    k.mmaA (m.withMods w) es lz t i = k.mmaA m es lz t i := by
  simp only [Core.mmaA, MOp.withMods_mb hw (b := 27) (by decide), MOp.withMods_aSparse hw, MOp.withMods_aRow hw]

theorem MOp.withMods_mmaSum (k : Core) (es : List (Nat × Nat)) (a i j : Nat) :
    k.mmaSum (m.withMods w) es a i j = k.mmaSum m es a i j := by
  funext t
  have h10 := MOp.withMods_mb hw (b := 10) (by decide)
  have hhalf := MOp.withMods_m hw (hi := 11) (lo := 11) (by decide)
  have hfirst := MOp.withMods_m hw (hi := 19) (lo := 12) (by decide)
  simp only [Core.mmaSum, MOp.withMods_mmaRec hw, MOp.withMods_mmaA hw, h10, hhalf, hfirst]

end

/-! ## The list of a sparse-sparse MMA (R109, R161) -/

theorem activeList_lt {lim : Nat} {es : List Nat} {e : Nat × Nat} (h : e ∈ (activeList lim es).1) : e.1 < lim := by
  unfold activeList at h
  obtain ⟨y, hy, rfl⟩ := List.mem_map.1 h
  obtain ⟨hmem, hvalid⟩ := List.mem_filter.1 hy
  obtain ⟨x, -, rfl⟩ := List.mem_map.1 hmem
  have hcls := of_decide_eq_true hvalid
  split_ifs at hcls ⊢ with horder hrange
  exact Nat.lt_of_not_le hrange

theorem stepK_pos (fm : Nat) (s24 : Bool) : 0 < stepK fm s24 := by
  unfold stepK
  refine Nat.mul_pos ?_ (by split <;> decide)
  split <;> decide

/-- The step at which a sparse-sparse MMA stops is one of its steps. -/
theorem MOp.sparseStop_le {m : MOp} {ended : Bool} {l : List Nat} {x : Nat}
    (h : m.sparseStop ended (activeList (mSteps m.f * stepK m.f.fmt.toNat true) l).1 = some x) : x ≤ mSteps m.f := by
  unfold MOp.sparseStop at h
  dsimp only at h
  split at h
  · rw [← Option.some.inj h]
    exact Nat.zero_le _
  · obtain ⟨e, he, rfl⟩ := List.mem_map.1 (List.min?_mem h)
    exact ((Nat.div_lt_iff_lt_mul (stepK_pos _ _)).2 (activeList_lt (List.mem_filter.1 he).1)).le

/-! ## An array that can run an MMA -/

/-- An array that can run an MMA has all its steps loaded (R81). -/
theorem Core.mmaRec_of_ready {k : Core} {m : MOp} {a : Nat} (h : k.mmaCause m a = none) {t : Nat} (ht : t < mSteps m.f) :
    ∃ w, k.mmaRec m a t = some w := by
  by_contra hno
  have hmissing : ((List.range (mSteps m.f)).map (k.mmaRec m a)).any Option.isNone = true := by
    refine List.any_eq_true.2 ⟨_, List.mem_map.2 ⟨t, List.mem_range.2 ht, rfl⟩, ?_⟩
    rw [Option.isNone_iff_eq_none, ← Option.not_isSome_iff_eq_none]
    exact fun hsome => hno (Option.isSome_iff_exists.1 hsome)
  unfold Core.mmaCause at h
  dsimp only at h
  rw [hmissing, if_pos rfl] at h
  split_ifs at h

/-! ## The MMA at its array -/

/-- An element of bank b's row i after n steps: the rounded running sum, from +0 under ZERO (R77). -/
def Core.mmaElt (k : Core) (m : MOp) (es : List (Nat × Nat)) (n b i j : Nat) : Nat :=
  accSteps (accFmt m.f) (m.f.mb 8) ((k.accElts (accFmt m.f) (mmaBank m.f b) i).getD j 0) ((List.range n).map (k.mmaSum m es b i j))

/-- The rows that an MMA cut to its first steps writes are those of so many steps. -/
theorem Core.mmaRow_firstSteps (k : Core) (m : MOp) (es : List (Nat × Nat)) {stop : Option Nat} (hpos : stop.getD (mSteps m.f) ≠ 0)
    (hle : ∀ n, stop = some n → n ≤ mSteps m.f) (b i : Nat) :
    k.mmaRow (m.firstSteps stop) es b i = (List.range 16).map (k.mmaElt m es (stop.getD (mSteps m.f)) b i) := by
  have hsteps := m.firstSteps_mSteps hpos hle
  obtain ⟨w, hcut, hw⟩ := m.firstSteps_upper stop
  rw [hcut] at hsteps ⊢
  unfold Core.mmaRow Core.mmaElt
  rw [hsteps, MOp.withMods_accFmt hw, MOp.withMods_bank hw, MOp.withMods_mb hw (by decide)]
  simp only [MOp.withMods_mmaSum hw]

/-- The core before the steps of an MMA: its entry is free, banks of another layout have free content, and a list's faulty entries are
counted. -/
def Core.mmaBegun (m : MOp) (n : Nat) (lst : List (Nat × Nat) × Nat × Nat) (k : Core) : Core :=
  let k := (MKind.mma.arrays m.f).foldl (fun (k : Core) b =>
    if k.mmaMixed m b then (mmaBanks m.f b).foldl (fun (k : Core) x => k.freeBank n x) k else k) (k.mfree m)
  if m.f.mb 27 then (k.bump (kMAT_SPORDER) lst.2.1).bump (kMAT_SPOOR) lst.2.2 else k

/-- The core after the steps before `stop`. -/
def Core.mmaDone (m : MOp) (n : Nat) (lst : List (Nat × Nat) × Nat × Nat) (lz : Bool) (stop : Option Nat) (k : Core) : Core :=
  if stop = some 0 then k.mmaBegun m n lst
  else (MKind.mma.arrays m.f).foldl (Core.mmaArray (m.firstSteps stop) lst.1 lz) (k.mmaBegun m n lst)

theorem Core.mmaDone_of_pos {m : MOp} {stop : Option Nat} (hpos : stop ≠ some 0) (n : Nat) (lst : List (Nat × Nat) × Nat × Nat) (lz : Bool)
    (k : Core) : k.mmaDone m n lst lz stop = (k.mmaBegun m n lst).mmaArrays (m.firstSteps stop) lst.1 lz := by
  obtain ⟨w, hcut, hw⟩ := m.firstSteps_upper stop
  rw [Core.mmaDone, if_neg hpos, Core.mmaArrays, hcut, MOp.withMods_arrays hw]

theorem Core.withAcc_accEq (k : Core) (r : Rows 512) : k.accEq { k with acc := r } := rfl

theorem Core.freeBank_mmaEq (k : Core) (n b : Nat) : k.mmaEq (k.freeBank n b) := (k.withAcc_accEq _).mmaEq

theorem Core.mmaBegun_mmaEq (m : MOp) (n : Nat) (lst : List (Nat × Nat) × Nat × Nat) (k : Core) : (k.mfree m).mmaEq (k.mmaBegun m n lst) := by
  have hfree : (k.mfree m).mmaEq ((MKind.mma.arrays m.f).foldl (fun (k : Core) b =>
      if k.mmaMixed m b then (mmaBanks m.f b).foldl (fun (k : Core) x => k.freeBank n x) k else k) (k.mfree m)) := by
    refine List.foldlRecOn _ _ (motive := (k.mfree m).mmaEq) (Eq.refl (k.mfree m)) fun j hj b _ => hj.trans ?_
    split
    · exact List.foldlRecOn _ _ (motive := j.mmaEq) (Eq.refl j) fun i hi x _ => hi.trans (i.freeBank_mmaEq n x)
    · exact Eq.refl j
  unfold Core.mmaBegun
  dsimp only
  split
  · exact (hfree.trans (Core.bump_mmaEq _ _ _)).trans (Core.bump_mmaEq _ _ _)
  · exact hfree

theorem Core.mmaDone_mmaEq (m : MOp) (n : Nat) (lst : List (Nat × Nat) × Nat × Nat) (lz : Bool) (stop : Option Nat) (k : Core) :
    (k.mfree m).mmaEq (k.mmaDone m n lst lz stop) := by
  by_cases hpos : stop = some 0
  · rw [Core.mmaDone, if_pos hpos]
    exact k.mmaBegun_mmaEq m n lst
  · rw [Core.mmaDone_of_pos hpos]
    exact (k.mmaBegun_mmaEq m n lst).trans (Core.mmaArrays_mmaEq _ _)

theorem Core.mqEq.mmaMixed {k k' : Core} (h : k.mqEq k') (m : MOp) (b : Nat) : k'.mmaMixed m b = k.mmaMixed m b := by
  rw [← h]
  rfl

/-- Where no bank has another layout, the elements stand as they were when the steps begin. -/
theorem Core.mmaBegun_acc {k : Core} {m : MOp} (hsame : ∀ b, b ∈ MKind.mma.arrays m.f → k.mmaMixed m b = false) (n : Nat)
    (lst : List (Nat × Nat) × Nat × Nat) : (k.mmaBegun m n lst).acc = k.acc := by
  have hstay : (MKind.mma.arrays m.f).foldl (fun (k : Core) b =>
      if k.mmaMixed m b then (mmaBanks m.f b).foldl (fun (k : Core) x => k.freeBank n x) k else k) (k.mfree m) = k.mfree m :=
    List.foldlRecOn _ _ (motive := (· = k.mfree m)) (Eq.refl (k.mfree m)) fun j hj b hb => by
      rw [hj, (k.mfree_mqEq m).mmaMixed, hsame b hb, if_neg Bool.false_ne_true]
  have hacc : (k.mfree m).acc = k.acc := (k.mfree_mqEq m).acc
  rw [Core.mmaBegun, hstay]
  split
  · rw [Core.bump_acc, Core.bump_acc, hacc]
  · exact hacc

/-- What the steps of an MMA leave in the bank of one of its arrays. -/
theorem Core.mmaDone_bank {k : Core} {m : MOp} (hready : ∀ b, b ∈ MKind.mma.arrays m.f → k.mmaCause m b = none) (n : Nat)
    (lst : List (Nat × Nat) × Nat × Nat) (lz : Bool) {stop : Option Nat} (hpos : stop.getD (mSteps m.f) ≠ 0)
    (hle : ∀ n, stop = some n → n ≤ mSteps m.f) {b : Nat} (hb : b ∈ MKind.mma.arrays m.f) :
    ((k.mmaDone m n lst lz stop).bank (mmaBank m.f b)).fmt = some (accFmt m.f)
      ∧ ((m.f.fmt = 0 → m.f.dst.toNat % 2 = 0) → (∀ b', b' ∈ MKind.mma.arrays m.f → k.mmaMixed m b' = false) → ∀ i j, i < 16 → j < 16 →
        ((k.mmaDone m n lst lz stop).accElts (accFmt m.f) (mmaBank m.f b) i)[j]? =
          some (k.mmaElt m lst.1 (stop.getD (mSteps m.f)) b i j % 2 ^ accBits (accFmt m.f))) := by
  have hstop : stop ≠ some 0 := fun h => hpos (by rw [h]; rfl)
  have hsteps := m.firstSteps_mSteps hpos hle
  have hrow := fun k : Core => k.mmaRow_firstSteps m lst.1 hpos hle b
  rw [Core.mmaDone_of_pos hstop]
  obtain ⟨w, hcut, hw⟩ := m.firstSteps_upper stop
  rw [hcut] at hsteps hrow ⊢
  have harrays := MOp.withMods_arrays hw
  refine ⟨?_, fun heven hsame i j hi hj => ?_⟩
  · rw [← MOp.withMods_bank hw, ← MOp.withMods_accFmt hw]
    exact Core.mmaArrays_fmt _ _ (by rw [harrays]; exact hb)
  · have hbegun := k.mmaBegun_mmaEq m n lst
    have hfree := k.mfree_mqEq m
    have hrec (a t : Nat) : (k.mmaBegun m n lst).mmaRec m a t = k.mmaRec m a t := by
      rw [hbegun.mmaRec]
      generalize k.mfree m = f at hfree
      rw [← hfree]
      rfl
    have hsum : (k.mmaBegun m n lst).mmaSum m lst.1 b i j = k.mmaSum m lst.1 b i j := by
      funext t
      rw [hbegun.mmaSum]
      generalize k.mfree m = f at hfree
      rw [← hfree]
      rfl
    have helts := Core.mmaArrays_elts lst.1 lz (k := k.mmaBegun m n lst) (m := m.withMods w) (by rw [harrays]; exact hb)
      (fun a ha t ht => by
        rw [MOp.withMods_mmaRec hw, hrec]
        rw [harrays] at ha
        refine Core.mmaRec_of_ready (hready a ha) (lt_of_lt_of_le (hsteps ▸ ht) ?_)
        cases hs : stop with
        | none => exact le_rfl
        | some x => exact hle x hs) heven hi hj
    rw [MOp.withMods_bank hw, MOp.withMods_accFmt hw, hrow, getD_map_range _ _ hj] at helts
    rw [helts, Core.mmaElt, Core.mmaElt, Core.accElts_congr (Core.mmaBegun_acc hsame n lst), hsum]

end Sys2Proof.Machine
end

section
/-!
# O19, continued: the MMA executes, or stops its partition
-/
namespace Sys2Proof.Machine

/-- The state after an MMA's steps before `stop`. -/
def State.mmaTaken (s : State) (c : Fin 96) (m : MOp) (lst : List (Nat × Nat) × Nat × Nat) (lz : Bool) (stop : Option Nat) : State :=
  ({ s with freeCtr := s.freeCtr + 1 } : State).modCore c (Core.mmaDone m s.freeCtr lst lz stop)

theorem State.mmaTaken_core (s : State) (c : Fin 96) (m : MOp) (lst : List (Nat × Nat) × Nat × Nat) (lz : Bool) (stop : Option Nat) :
    (s.mmaTaken c m lst lz stop).core c = (s.core c).mmaDone m s.freeCtr lst lz stop := by
  rw [State.mmaTaken, State.modCore_self]
  rfl

theorem State.mmaTaken_plan (s : State) (c : Fin 96) (m : MOp) (lst : List (Nat × Nat) × Nat × Nat) (lz : Bool) (stop : Option Nat) :
    s.samePlan (s.mmaTaken c m lst lz stop) := State.samePlan_of_regs rfl

section
variable {s : State} {c : Fin 96} {a : Fin 4} {m : MOp} (hm : (s.core c).mhead a.val .mma = some m)
include hm

/-- An MMA that its arrays can run. -/
theorem execMmaExecute_runs (hready : ∀ b, b ∈ MKind.mma.arrays m.f → (s.core c).mmaCause m b = none) {l : List Nat × Bool}
    (hl : l = if m.f.mb 27 then (s.core c).idxList (lmEnd / 4 + 1) m.v2.toNat else ([], true)) {stop : Option Nat}
    (hstop : stop = if m.f.mb 27 then m.sparseStop l.2 (activeList (mSteps m.f * stepK m.f.fmt.toNat true) l.1).1 else none) :
    ∃ lz, exec (.mmaExecute c a) s = .next
      ((s.mmaTaken c m (activeList (mSteps m.f * stepK m.f.fmt.toNat true) l.1) lz stop).addrEnd c m stop.isSome) := by
  have hnone : (MKind.mma.arrays m.f).findSome? (fun b => ((s.core c).mmaCause m b).map (fun x => (x, b))) = none :=
    List.findSome?_eq_none_iff.2 fun b hb => by rw [hready b hb]; rfl
  refine ⟨m.f.mb 27 && (s.core c).lmPoison m.v2.toNat (4 * l.1.length + 4), ?_⟩
  change execMmaExecute c a s = _
  unfold execMmaExecute
  simp only [hm, hnone]
  rw [← hl, ← hstop, State.mmaTaken]
  have htwo (g : Core → Core) : ({ s.modCore c (fun k => k.mfree m) with freeCtr := (s.modCore c (fun k => k.mfree m)).freeCtr + 1 } : State).modCore c g =
      ({ s with freeCtr := s.freeCtr + 1 } : State).modCore c (fun k => g (k.mfree m)) :=
    State.modCore_modCore ({ s with freeCtr := s.freeCtr + 1 } : State) c (fun k => k.mfree m) g
  rw [htwo]
  rfl

/-- An MMA that an array cannot run. -/
theorem execMmaExecute_faults {x b : Nat}
    (hfault : (MKind.mma.arrays m.f).findSome? (fun b => ((s.core c).mmaCause m b).map (fun x => (x, b))) = some (x, b)) :
    exec (.mmaExecute c a) s = .next ((s.modCore c (fun k => k.mfree m)).matFault c x b m.opw) := by
  change execMmaExecute c a s = _
  unfold execMmaExecute
  simp only [hm, hfault]

end

theorem Core.mmaEq.of_mfree {k k' : Core} {m : MOp} (h : (k.mfree m).mmaEq k') :
    { k' with mq := k.mq, acc := k.acc, banks := k.banks, fcount := k.fcount } = k := by
  have hq := k.mfree_mqEq m
  unfold Core.mmaEq at h
  unfold Core.mqEq at hq
  rw [← hq]
  rw [← h]

theorem Core.mmaEq.st_reg {k k' : Core} {m : MOp} (h : (k.mfree m).mmaEq k') : k'.st = k.st ∧ k'.reg = k.reg := by
  have h := h.of_mfree
  rw [← h]
  exact ⟨rfl, rfl⟩

theorem Core.faultEq.bank {k k' : Core} (h : k.faultEq k') (b : Nat) : k'.bank b = k.bank b := by
  rw [← h]
  rfl

/-- Settles O19: the banks of an MMA's arrays lie apart, each takes the sums of the steps before the stop, and what a fault writes lies
elsewhere. -/
theorem mmaExecutes : Obligations.MmaExecutes := by
  unfold Obligations.MmaExecutes
  refine ⟨fun s c a m l es stop n hm hready hl hes hstop hn => ?_, fun s c a m x b p hm hfault hpart hgoing hrun hreg => ?_⟩
  · rw [hes] at hstop
    obtain ⟨lz, hexec⟩ := execMmaExecute_runs hm hready hl hstop
    obtain ⟨u, hu⟩ : ∃ u, u = s.mmaTaken c m (activeList (mSteps m.f * stepK m.f.fmt.toNat true) l.1) lz stop := ⟨_, rfl⟩
    rw [← hu] at hexec
    have hucore := s.mmaTaken_core c m (activeList (mSteps m.f * stepK m.f.fmt.toNat true) l.1) lz stop
    rw [← hu] at hucore
    have hdone : ((s.core c).mfree m).mmaEq (u.core c) := by rw [hucore]; exact Core.mmaDone_mmaEq _ _ _ _ _ _
    have hend := (u.addrEnd_faultEq c m stop.isSome).core c
    have hle : ∀ x, stop = some x → x ≤ mSteps m.f := fun x hx => by
      rw [hstop] at hx
      split at hx
      · exact MOp.sparseStop_le hx
      · exact absurd hx (by simp)
    refine ⟨_, hexec, fun b hb => ⟨fun e he => ?_, fun hpos => ?_⟩, fun hno => ?_, fun x p hx hpart hgoing hrun hreg => ?_⟩
    · exact Core.gone_of_mq (hend.mq.trans hdone.mq) (by rw [Core.mhead_kind hm]; exact hb) he
    · obtain ⟨hfmt, helts⟩ := Core.mmaDone_bank hready s.freeCtr (activeList (mSteps m.f * stepK m.f.fmt.toNat true) l.1) lz
        (hn ▸ hpos) hle hb
      rw [← hucore] at hfmt helts
      refine ⟨(congrArg Bank.fmt (hend.bank _)).trans hfmt, fun heven hsame i j hi hj => ?_⟩
      rw [Core.accElts_congr hend.acc, hn, hes]
      exact helts heven hsame i j hi hj
    · have hstay : u.addrEnd c m stop.isSome = u := by rw [hno]; rfl
      rw [hstay]
      refine ⟨⟨by rw [hu]; rfl, fun d hd => ?_⟩, hdone.of_mfree⟩
      rw [hu]
      exact (State.modCore_core _ c d _).trans (if_neg hd)
    · obtain ⟨hst, hregs⟩ := hdone.st_reg
      rw [hx]
      refine State.addrEnd_stops (hu ▸ s.mmaTaken_plan c m _ lz stop) (fun d => ?_) hregs hpart hgoing hrun hreg m
      by_cases hd : d = c
      · rw [hd, hst]
      · rw [hu]
        exact congrArg Core.st ((State.modCore_core _ c d _).trans (if_neg hd))
  · obtain ⟨hstopped, hst, hval, hhbm, hend⟩ := State.mfree_matFault_stops m hpart hgoing hrun hreg x b m.opw rfl
    have hq := (s.core c).mfree_mqEq m
    exact ⟨_, execMmaExecute_faults hm hfault, hstopped, hst, hval, hend.acc.trans hq.acc, hend.banks.trans hq.banks, hend.lm.trans hq.lm,
      hhbm⟩

end Sys2Proof.Machine
end

section
/-!
# What reaches no core (R87, R230, R248, R250, R280)

A read or a write of HBM, an addition to a Bushel's region and a contribution leave the cores as they are.
-/
namespace Sys2Proof.Machine

theorem foldl_cores {α : Type} {g : State → α → State} (hg : ∀ (t : State) a, (g t a).cores = t.cores) (l : List α) (s : State) :
    (l.foldl g s).cores = s.cores := foldl_keeps (P := fun t => t.cores = s.cores) (fun t a _ h => (hg t a).trans h) rfl

/-! ## HBM -/

theorem State.memNote_cores (s : State) (k cls action : Nat) (scrub inj : Bool) (cw sym : Nat) :
    (s.memNote k cls action scrub inj cw sym).cores = s.cores := rfl

theorem State.memEvents_cores (s : State) (k : Nat) (inj : Bool) (l : List (Option Nat)) : (s.memEvents k inj l).cores = s.cores := by
  unfold State.memEvents
  split <;> rfl

theorem State.memUncorrectable_cores (s : State) (k : Nat) (l : List SymErr) (scrub : Bool) :
    (s.memUncorrectable k l scrub).cores = s.cores := State.memEvents_cores _ _ _ _

theorem State.decodeSector_cores (s : State) (k : Nat) (scrub : Bool) : (s.decodeSector k scrub).1.cores = s.cores := by
  unfold State.decodeSector
  split
  · rfl
  · extract_lets l free s₁ a b
    split
    · rfl
    · split
      · split
        · rfl
        · exact State.memUncorrectable_cores _ _ _ _
      · split
        · exact State.memUncorrectable_cores _ _ _ _
        · split
          · rfl
          · next inj s₂ _ _ _ _ _ _ =>
            have h₂ : s₂.cores = s.cores := rfl
            extract_lets first found s₃
            have h₃ : s₃.cores = s₂.cores := (State.memEvents_cores _ _ _ _).trans (s₂.memNote_cores _ _ _ _ _ _ _)
            clear_value s₃ s₂
            exact h₃.trans h₂

theorem State.applyInject_cores (s : State) (k : Nat) : (s.applyInject k).cores = s.cores := by
  unfold State.applyInject
  dsimp only
  split
  · split <;> rfl
  · rfl

theorem State.snoopLine_cores (s : State) (l : Nat) : (s.snoopLine l).cores = s.cores := by
  unfold State.snoopLine
  dsimp only
  split
  · rfl
  · exact (State.applyInject_cores _ _).trans (State.applyInject_cores _ _)

theorem State.snoop_cores (s : State) (ks : List Nat) : (s.snoop ks).cores = s.cores := by
  unfold State.snoop
  split
  · rfl
  · exact foldl_cores State.snoopLine_cores _ _

theorem State.hbmDecode_cores (s : State) (ks : List Nat) : (s.hbmDecode ks).1.cores = s.cores := by
  unfold State.hbmDecode
  refine List.foldlRecOn (sectorsOf ks) _ (motive := fun x : State × List (Nat × Byte) => x.1.cores = s.cores) rfl fun x hx k _ => ?_
  dsimp only
  have hdec := (x.1.decodeSector_cores k false).trans hx
  split
  · exact hdec
  · exact hdec

theorem State.hbmRead_cores (s : State) (ks : List Nat) : (s.hbmRead ks).1.cores = s.cores :=
  (State.hbmDecode_cores _ _).trans (s.snoop_cores ks)

theorem State.hbmWriteRaw_cores (s : State) (kb : List (Nat × Byte × Bool)) : (s.hbmWriteRaw kb).cores = s.cores := by
  unfold State.hbmWriteRaw
  refine foldl_cores (fun t k => ?_) _ _
  extract_lets part p whole d t₁ t₂ w t₃ t₄
  have h₁ : t₁.cores = t.cores := by
    unfold t₁
    split
    · rfl
    · exact t.decodeSector_cores k false
  have h₃ : t₃.cores = t₂.cores := by
    unfold t₃
    split <;> rfl
  have h₄ : t₄.cores = t₃.cores := by
    unfold t₄
    split <;> rfl
  exact (t₄.applyInject_cores k).trans (h₄.trans (h₃.trans h₁))

theorem State.hbmWrite_cores (s : State) (kb : List (Nat × Byte × Bool)) : (s.hbmWrite kb).cores = s.cores :=
  (State.hbmWriteRaw_cores _ _).trans (s.snoop_cores _)

/-! ## Bushels and contributions -/

theorem State.poisonBlock_cores (n : Nat) (s t : State) (b : Nat) : (State.poisonBlock n s t b).cores = t.cores := by
  unfold State.poisonBlock
  dsimp only
  split <;> rfl

theorem State.bshAddRow_cores (s : State) (n off : Nat) (vs : List Nat) (z : Bool) : (s.bshAddRow n off vs z).cores = s.cores := by
  unfold State.bshAddRow
  extract_lets r t t₁
  have ht : t.cores = s.cores := (State.hbmWrite_cores _ _).trans (State.hbmRead_cores _ _)
  have ht₁ : t₁.cores = t.cores := by
    unfold t₁
    split
    · exact foldl_cores (State.poisonBlock_cores n s) _ _
    · rfl
  exact ht₁.trans ht

theorem State.sendContrib_cores (s : State) (c : Fin 96) (g : ChTag) (uid node omc job rank blk : Nat) (vs : List Nat) (z : Bool) :
    (s.sendContrib (.core c g) uid node omc job rank blk vs z).cores = s.cores := (State.chSend_sentFrom _ _).cores

/-! ## A destination that refuses (R247, R280) -/

theorem offStatus_BSH_CFAULT (n : Nat) : offStatus (rBSH_CFAULT n) := fun p hp => by simp only [rPART_STATUS, rBSH_CFAULT]; omega
theorem offStatus_CHC_PFAULT (q : Nat) : offStatus (rCHC_PFAULT q) := fun p hp => by simp only [rPART_STATUS, rCHC_PFAULT]; omega

theorem State.bshRefuse_faultEq (s : State) (n cause job : Nat) (c : Fin 96) (part op : Nat) :
    s.FaultEq (s.bshRefuse n cause job c part op) := by
  unfold State.bshRefuse
  extract_lets s₁ s₂ s₃
  have h₁ : s.FaultEq s₁ := by
    unfold s₁
    split
    · exact .setReg s _ (offStatus_BSH_CFAULT n)
    · exact .refl s
  have h₂ : s₁.FaultEq s₂ := by
    unfold s₂
    split
    · exact .refl s₁
    · exact s₁.errsum_faultEq c ePROG
  exact ((h₁.trans h₂).trans (s₂.record_faultEq _ _ _ _ _ _ _ _)).trans (s₃.stopPart_faultEq _ _ _)

theorem State.chainFault_faultEq (s : State) (c : Fin 96) (cause node reason op : Nat) : s.FaultEq (s.chainFault c cause node reason op) := by
  unfold State.chainFault
  extract_lets p s₁ s₂ s₃
  have h₁ : s.FaultEq s₁ := by
    unfold s₁
    split
    · exact .setReg s _ (offStatus_CHC_PFAULT p)
    · exact .refl s
  have h₂ : s₁.FaultEq s₂ := by
    unfold s₂
    split
    · exact .refl s₁
    · exact s₁.errsum_faultEq c ePROG
  exact ((h₁.trans h₂).trans (s₂.record_faultEq _ _ _ _ _ _ _ _)).trans (s₃.stopPart_faultEq _ _ _)

end Sys2Proof.Machine
end

section
/-!
# O20: the checks of a drain (R93, R94, R347)

A check counts and records, and may spend an armed injection: of the cores it reaches one, and of that one the registers and the counts
alone.
-/
namespace Sys2Proof.Machine

namespace Core.tallyEq

variable {k k' : Core} (h : k.tallyEq k')
include h

theorem opnd : k'.opnd = k.opnd := by rw [← h]
theorem lm : k'.lm = k.lm := by rw [← h]
theorem acc : k'.acc = k.acc := by rw [← h]
theorem banks : k'.banks = k.banks := by rw [← h]
theorem mq : k'.mq = k.mq := by rw [← h]
theorem replays : k'.replays = k.replays := by rw [← h]
theorem held : k'.held = k.held := by rw [← h]
theorem srKey : k'.srKey = k.srKey := by
  rw [← h]
  rfl

end Core.tallyEq

/-- Counts and records are all that changed, and of the cores c alone. -/
structure State.Noted (c : Fin 96) (s t : State) : Prop where
  core : (s.core c).tallyEq (t.core c)
  others : ∀ d, d ≠ c → t.core d = s.core d
  hbm : t.hbm = s.hbm
  freeCtr : t.freeCtr = s.freeCtr
  plan : s.samePlan t

namespace State.Noted

variable {c : Fin 96}

theorem refl (s : State) : s.Noted c s := ⟨Core.tallyEq_refl _, fun _ _ => rfl, rfl, rfl, s.samePlan_refl⟩

theorem trans {s t u : State} (h : s.Noted c t) (h' : t.Noted c u) : s.Noted c u :=
  ⟨h.core.trans h'.core, fun d hd => (h'.others d hd).trans (h.others d hd), h'.hbm.trans h.hbm, h'.freeCtr.trans h.freeCtr,
    h.plan.trans h'.plan⟩

theorem of_cores {s t : State} (hcores : t.cores = s.cores) (hhbm : t.hbm = s.hbm) (hctr : t.freeCtr = s.freeCtr) (hplan : s.samePlan t) :
    s.Noted c t := by
  have hcore (d : Fin 96) : t.core d = s.core d := by rw [State.core, State.core, hcores]
  exact ⟨by rw [hcore]; exact Core.tallyEq_refl _, fun d _ => hcore d, hhbm, hctr, hplan⟩

theorem modCore (s : State) {g : Core → Core} (hg : (s.core c).tallyEq (g (s.core c))) : s.Noted c (s.modCore c g) :=
  ⟨by rw [State.modCore_self]; exact hg, (s.modCore_onlyCore c g).2, rfl, rfl, State.samePlan_of_regs rfl⟩

theorem setReg (s : State) {o : Nat} (v : Word32) (ho : offStatus o) : s.Noted c (s.setReg o v) :=
  of_cores rfl rfl rfl (State.CapEq.setReg s v ho).plan

theorem record (s : State) (cls unit op action addr subkind synd : Nat) (inj : Bool) :
    s.Noted c (s.record cls unit op action addr subkind synd inj) := of_cores rfl rfl rfl (State.samePlan_of_regs rfl)

theorem errsumArr (s : State) (ph b : Nat) : s.Noted c (s.errsumArr c ph b) :=
  (modCore s (Core.setFld_tallyEq _ _ _ _ _)).trans ((modCore _ (Core.setFld_tallyEq _ _ _ _ _)).trans
    ((setReg _ _ (offStatus_clErrsum _)).trans ((setReg _ _ (offStatus_dieErrsum _)).trans (setReg _ _ offStatus_modErrsum))))

theorem foldl {α : Type} {g : State → α → State} (hg : ∀ (t : State) a, t.Noted c (g t a)) (l : List α) (s : State) :
    s.Noted c (l.foldl g s) := foldl_keeps (P := s.Noted c) (fun t a _ h => h.trans (hg t a)) (refl s)

end State.Noted

theorem offStatus_ERR_INJARR : offStatus rERR_INJARR := by
  unfold offStatus
  decide

theorem State.csumFirst_noted (s : State) (c : Fin 96) (m : MOp) (ups : List Upset) : s.Noted c (s.csumFirst c m ups).1 := by
  unfold State.csumFirst
  refine List.foldlRecOn (MKind.mdrain.arrays m.f) _ (motive := fun x : State × List Mismatch => s.Noted c x.1) (.refl s)
    fun x hx a _ => ?_
  extract_lets k b
  split
  · extract_lets t s₁ inj s₂
    have h₁ : x.1.Noted c s₁ := .modCore x.1 (Core.bump_tallyEq _ _ _)
    have h₂ : s₁.Noted c s₂ := by
      unfold s₂
      split
      · exact .setReg s₁ _ offStatus_ERR_INJARR
      · exact .refl s₁
    have h : s.Noted c s₂ := hx.trans (h₁.trans h₂)
    split
    · exact h
    · split <;> exact h
  · exact hx

theorem State.csumCleared_noted (s : State) (c : Fin 96) (m : MOp) (x : Mismatch) : s.Noted c (s.csumCleared c m x) :=
  (State.Noted.modCore s (Core.bump_tallyEq _ _ _)).trans ((State.Noted.errsumArr _ _ _).trans (.record _ _ _ _ _ _ _ _ _))

theorem State.csumFailed_noted (s : State) (c : Fin 96) (m : MOp) (x : Mismatch) : s.Noted c (s.csumFailed c m x) := by
  unfold State.csumFailed
  extract_lets s₁
  refine State.Noted.trans ?_ (.record s₁ _ _ _ _ _ _ _ _)
  unfold s₁
  split
  · exact .refl s
  · exact (State.Noted.modCore s (Core.bump_tallyEq _ _ _)).trans (.errsumArr _ _ _)

/-! ## The rows of a drain -/

theorem Core.drainRow_congr {k k' : Core} (hbanks : k'.banks = k.banks) (hacc : k'.acc = k.acc) (f : Fields) (n r : Nat) :
    k'.drainRow f n r = k.drainRow f n r := by
  have hbank : k'.bank = k.bank := by
    funext b
    rw [Core.bank, Core.bank, hbanks]
  have helts : k'.accElts = k.accElts := by
    funext bf b r
    exact Core.accElts_congr hacc bf b r
  unfold Core.drainRow Core.drainElts Core.bankSpan
  rw [hbank, helts]

theorem Core.drainOut_congr {k k' : Core} (hkey : k'.srKey = k.srKey) (m : MOp) (r : Nat) (es : List DElt) :
    k'.drainOut m r es = k.drainOut m r es := by
  unfold Core.drainOut
  rw [hkey]

/-- What the checks note does not reach the rows of the drain. -/
theorem State.Noted.drainRows {s t : State} {c : Fin 96} (h : s.Noted c t) (m : MOp) : t.drainRows c m = s.drainRows c m := by
  unfold State.drainRows
  simp only [Core.drainOut_congr h.core.srKey, Core.drainRow_congr h.core.banks h.core.acc, h.freeCtr]

end Sys2Proof.Machine
end

section
/-!
# O20: a drain commits (R87 to R92, R112)

The entry and the run are over in the core before the rows are delivered; the delivery, SIGEN's counter and the fences that end leave the
queues, the banks and the replays as they then are.
-/
namespace Sys2Proof.Machine

/-! ## The entry and the run end -/

/-- The cores agree in all but the queues, the banks and the replays of the matrix unit and the counts of the frame. -/
def Core.spentEq (k k' : Core) : Prop := { k' with mq := k.mq, banks := k.banks, replays := k.replays, fcount := k.fcount } = k

namespace Core.spentEq

theorem trans {k j i : Core} (h : k.spentEq j) (h' : j.spentEq i) : k.spentEq i := by
  unfold Core.spentEq at *
  rw [← h]
  rw [← h']

variable {k k' : Core} (h : k.spentEq k')
include h

theorem st : k'.st = k.st := by rw [← h]
theorem opnd : k'.opnd = k.opnd := by rw [← h]
theorem lm : k'.lm = k.lm := by rw [← h]
theorem acc : k'.acc = k.acc := by rw [← h]
theorem scnt : k'.scnt = k.scnt := by rw [← h]
theorem held : k'.held = k.held := by rw [← h]

end Core.spentEq

theorem Core.mqEq.spentEq {k k' : Core} (h : k.mqEq k') : k.spentEq k' := by
  unfold Core.spentEq
  rw [← h]

theorem foldl_spentEq {α : Type} {g : Core → α → Core} (hg : ∀ (k : Core) a, k.spentEq (g k a)) (l : List α) (k : Core) :
    k.spentEq (l.foldl g k) := List.foldlRecOn l g (motive := k.spentEq) (Eq.refl k) fun _ h a _ => h.trans (hg _ a)

theorem Core.bump_spentEq (k : Core) (o n : Nat) : k.spentEq (k.bump o n) := rfl
theorem Core.setBank_spentEq (k : Core) (b : Nat) (x : Bank) : k.spentEq (k.setBank b x) := rfl

theorem Core.audCount_spentEq (f : Fields) (k : Core) (a : Nat) : k.spentEq (k.audCount f a) := by
  unfold Core.audCount
  extract_lets b
  split
  · split
    · exact (k.bump_spentEq _ _).trans (Core.bump_spentEq _ _ _)
    · exact k.bump_spentEq _ _
  · exact Eq.refl k

/-- The run of bank b is over. -/
def Core.endRun (k : Core) (b : Nat) : Core := k.setBank b { k.bank b with run := none }

theorem Core.endRun_run (k : Core) (b : Nat) : ((k.endRun b).bank b).run = none := by
  rw [Core.endRun, Core.setBank_bank, if_pos rfl]

theorem Core.endRun_run_keeps {k : Core} {b : Nat} (h : (k.bank b).run = none) (b' : Nat) : ((k.endRun b').bank b).run = none := by
  rw [Core.endRun, Core.setBank_bank]
  split
  · rfl
  · exact h

/-- The core once its drain m has left the matrix unit, with the counts of R112 and R378 made, of the latter `x`. -/
def Core.drainEnd (m : MOp) (x : Nat) (k : Core) : Core :=
  let k := (MKind.mdrain.arrays m.f).foldl (Core.audCount m.f) (k.bump kCNT_ANONF x)
  let k := ((MKind.mdrain.arrays m.f).flatMap (fun a => k.bankSpan (drainBank m.f a))).foldl Core.endRun k
  { k.mfree m with replays := k.replays.filter (fun r => r.uid ≠ m.uid) }

theorem Core.drainEnd_spentEq (m : MOp) (x : Nat) (k : Core) : k.spentEq (k.drainEnd m x) := by
  unfold Core.drainEnd
  extract_lets k₁ k₂
  have h₁ : k.spentEq k₁ := (k.bump_spentEq _ _).trans (foldl_spentEq (Core.audCount_spentEq m.f) _ _)
  have h₂ : k₁.spentEq k₂ := foldl_spentEq (fun k b => k.setBank_spentEq b _) _ _
  have h₃ : (k₂.mfree m).spentEq { k₂.mfree m with replays := k₂.replays.filter (fun r => r.uid ≠ m.uid) } := rfl
  exact ((h₁.trans h₂).trans (k₂.mfree_mqEq m).spentEq).trans h₃

theorem Core.drainEnd_gone {m : MOp} (hkind : m.kind = .mdrain) (x : Nat) (k : Core) {b : Nat} (hb : b ∈ MKind.mdrain.arrays m.f)
    {e : MOp} (he : e ∈ (k.drainEnd m x).mqueue b) : e.uid ≠ m.uid := Core.mfree_gone _ m (hkind ▸ hb) he

theorem Core.drainEnd_replays (m : MOp) (x : Nat) (k : Core) {y : Replay} (hy : y ∈ (k.drainEnd m x).replays) : y.uid ≠ m.uid := by
  simpa using (List.mem_filter.1 hy).2

theorem Core.mem_bankSpan (k : Core) (b : Nat) : b ∈ k.bankSpan b := by
  unfold Core.bankSpan
  split <;> exact List.mem_cons_self

theorem Core.drainEnd_run (m : MOp) (x : Nat) (k : Core) {b : Nat} (hb : b ∈ MKind.mdrain.arrays m.f) :
    ((k.drainEnd m x).bank (drainBank m.f b)).run = none := by
  unfold Core.drainEnd
  extract_lets k₁ k₂
  have hmem : drainBank m.f b ∈ (MKind.mdrain.arrays m.f).flatMap (fun a => k₁.bankSpan (drainBank m.f a)) :=
    List.mem_flatMap.2 ⟨b, hb, k₁.mem_bankSpan _⟩
  have hrun : (k₂.bank (drainBank m.f b)).run = none :=
    foldl_establishes (P := fun k : Core => (k.bank (drainBank m.f b)).run = none) (g := Core.endRun) hmem (fun k => k.endRun_run _)
      (fun k b' _ h => Core.endRun_run_keeps h b') k₁
  have hbanks : (k₂.mfree m).banks = k₂.banks := (k₂.mfree_mqEq m).banks
  rw [← hrun, Core.bank, Core.bank]
  exact congrArg (fun v => Bank.run (v[drainBank m.f b % 8]'(Nat.mod_lt _ (by decide)))) hbanks

/-! ## The delivery -/

/-- What the end of a drain leaves alone once its entry and its run are over. -/
structure Core.KeepsRuns (k k' : Core) : Prop where
  acc : k'.acc = k.acc
  mq : k'.mq = k.mq
  banks : k'.banks = k.banks
  replays : k'.replays = k.replays
  held : k'.held = k.held

theorem Core.KeepsRuns.refl (k : Core) : k.KeepsRuns k := ⟨rfl, rfl, rfl, rfl, rfl⟩

theorem Core.KeepsRuns.trans {k j i : Core} (h : k.KeepsRuns j) (h' : j.KeepsRuns i) : k.KeepsRuns i :=
  ⟨h'.acc.trans h.acc, h'.mq.trans h.mq, h'.banks.trans h.banks, h'.replays.trans h.replays, h'.held.trans h.held⟩

theorem Core.faultEq.keepsRuns {k k' : Core} (h : k.faultEq k') : k.KeepsRuns k' := ⟨h.acc, h.mq, h.banks, h.replays, h.held⟩

/-- The cores agree in all but the operand registers and the counts of the frame. -/
def Core.tileEq (k k' : Core) : Prop := { k' with opnd := k.opnd, fcount := k.fcount } = k

namespace Core.tileEq

theorem trans {k j i : Core} (h : k.tileEq j) (h' : j.tileEq i) : k.tileEq i := by
  unfold Core.tileEq at *
  rw [← h]
  rw [← h']

variable {k k' : Core} (h : k.tileEq k')
include h

theorem keepsRuns : k.KeepsRuns k' := by constructor <;> rw [← h]
theorem lm : k'.lm = k.lm := by rw [← h]
theorem scnt : k'.scnt = k.scnt := by rw [← h]

end Core.tileEq

theorem Core.setRow_tileEq (k : Core) (t r : Nat) (v : BitVec 1024) (whole z : Bool) : k.tileEq (k.setRow t r v whole z) := by
  unfold Core.setRow
  extract_lets key p k₁
  split <;> rfl

theorem Core.setRow_opnd_congr {k k' : Core} (h : k'.opnd = k.opnd) (t r : Nat) (v : BitVec 1024) (whole z : Bool) :
    (k'.setRow t r v whole z).opnd = (k.setRow t r v whole z).opnd := by
  have hrow (j : Core) : (j.setRow t r v whole z).opnd = { j.opnd with
      tiles := j.opnd.tiles.put (32 * t + r) v,
      tpois := maskSet j.opnd.tpois (32 * t + r) (z || (!whole && j.opnd.tpois.getLsbD (32 * t + r))) } := by
    unfold Core.setRow
    extract_lets key p k₁
    split <;> rfl
  rw [hrow, hrow, h]

/-- One row of a drain into its tile, and the scale of its blocks into the tile above (R87, R88). -/
def Core.drainTileRow (f : Fields) (k : Core) (x : (List Nat × Nat × List Bool) × Nat) : Core :=
  let t := f.dst.toNat
  let r := 16 * f.m 7 7 + x.2
  let z := x.1.2.2.any id
  let k := k.setRow t r (rowUpd (drainBits f) (k.trowNow t r) (fun c => if 16 * f.m 10 8 ≤ c then x.1.1[c - 16 * f.m 10 8]? else none))
    (decide (drainN f = colsOf (drainBits f))) z
  if f.mb 5 then
    k.setRow (t + 1) r (rowUpd 8 (k.trowNow (t + 1) r) (fun c => if c = f.m 10 8 / 2 then some x.1.2.1 else none)) false z
  else k

theorem Core.drainTile_eq (k : Core) (f : Fields) (rows : List (List Nat × Nat × List Bool)) :
    k.drainTile f rows = rows.zipIdx.foldl (Core.drainTileRow f) k := rfl

theorem Core.drainTileRow_tileEq (f : Fields) (k : Core) (x : (List Nat × Nat × List Bool) × Nat) : k.tileEq (k.drainTileRow f x) := by
  unfold Core.drainTileRow
  extract_lets t r z k₁
  have h₁ : k.tileEq k₁ := k.setRow_tileEq _ _ _ _ _
  split
  · exact h₁.trans (k₁.setRow_tileEq _ _ _ _ _)
  · exact h₁

theorem Core.trowNow_congr {k k' : Core} (h : k'.opnd = k.opnd) (t r : Nat) : k'.trowNow t r = k.trowNow t r := by
  rw [Core.trowNow, Core.trowNow, h]

theorem Core.drainTileRow_opnd_congr {k k' : Core} (h : k'.opnd = k.opnd) (f : Fields) (x : (List Nat × Nat × List Bool) × Nat) :
    (k'.drainTileRow f x).opnd = (k.drainTileRow f x).opnd := by
  unfold Core.drainTileRow
  extract_lets t r z k₁ k₂
  have h₁ : k₁.opnd = k₂.opnd := by
    unfold k₁ k₂
    rw [Core.trowNow_congr h]
    exact Core.setRow_opnd_congr h _ _ _ _ _
  split
  · rw [Core.trowNow_congr h₁]
    exact Core.setRow_opnd_congr h₁ _ _ _ _ _
  · exact h₁

theorem Core.drainTile_tileEq (k : Core) (f : Fields) (rows : List (List Nat × Nat × List Bool)) : k.tileEq (k.drainTile f rows) :=
  List.foldlRecOn rows.zipIdx (Core.drainTileRow f) (motive := k.tileEq) (Eq.refl k) fun j h x _ => h.trans (j.drainTileRow_tileEq f x)

theorem Core.drainTile_opnd_congr {k k' : Core} (h : k'.opnd = k.opnd) (f : Fields) (rows : List (List Nat × Nat × List Bool)) :
    (k'.drainTile f rows).opnd = (k.drainTile f rows).opnd := by
  rw [Core.drainTile_eq, Core.drainTile_eq]
  generalize rows.zipIdx = l
  induction l generalizing k k' with
  | nil => exact h
  | cons x l ih => exact ih (Core.drainTileRow_opnd_congr h f x)

/-- The cores agree in all but local memory. -/
def Core.lmEq (k k' : Core) : Prop := { k' with lm := k.lm, lmPois := k.lmPois } = k

namespace Core.lmEq

theorem trans {k j i : Core} (h : k.lmEq j) (h' : j.lmEq i) : k.lmEq i := by
  unfold Core.lmEq at *
  rw [← h]
  rw [← h']

variable {k k' : Core} (h : k.lmEq k')
include h

theorem keepsRuns : k.KeepsRuns k' := by constructor <;> rw [← h]
theorem opnd : k'.opnd = k.opnd := by rw [← h]
theorem scnt : k'.scnt = k.scnt := by rw [← h]

end Core.lmEq

theorem Core.lmWriteZ_lmEq (k : Core) (w : List (Nat × Byte × Bool)) : k.lmEq (k.lmWriteZ w) := by
  unfold Core.lmWriteZ
  exact List.foldlRecOn _ _ (motive := k.lmEq) (Eq.refl k) fun _ h _ _ => h.trans rfl

theorem Core.lmWriteZ_lm_congr {k k' : Core} (h : k'.lm = k.lm) (w : List (Nat × Byte × Bool)) : (k'.lmWriteZ w).lm = (k.lmWriteZ w).lm := by
  unfold Core.lmWriteZ
  generalize sectorsOf (w.map (·.1)) = l
  induction l generalizing k k' with
  | nil => exact h
  | cons q l ih =>
    rw [List.foldl_cons, List.foldl_cons]
    exact ih (congrArg (fun m => (w.filter (fun x => x.1 / 32 = q)).foldl (fun (m : Store) x => m.put x.1 x.2.1) m) h)

end Sys2Proof.Machine
end

section
/-!
# O20, continued: the rows are delivered, and SIGEN's counter counts (R87, R92, R182, R187)
-/
namespace Sys2Proof.Machine

/-! ## Counters and fences -/

/-- The cores agree in all but the counters, the registers and the fences. -/
def Core.countEq (k k' : Core) : Prop := { k' with scnt := k.scnt, cregs := k.cregs, fences := k.fences } = k

namespace Core.countEq

theorem trans {k j i : Core} (h : k.countEq j) (h' : j.countEq i) : k.countEq i := by
  unfold Core.countEq at *
  rw [← h]
  rw [← h']

variable {k k' : Core} (h : k.countEq k')
include h

theorem keepsRuns : k.KeepsRuns k' := by constructor <;> rw [← h]
theorem lm : k'.lm = k.lm := by rw [← h]
theorem opnd : k'.opnd = k.opnd := by rw [← h]
theorem st : k'.st = k.st := by rw [← h]

end Core.countEq

theorem Core.addCount_countEq (k : Core) (n amount : Nat) : k.countEq (k.addCount n amount) := by
  unfold Core.addCount
  split <;> rfl

theorem Core.pruneFences_countEq (k : Core) : k.countEq k.pruneFences := rfl

theorem Core.pruneFences_count (k : Core) (n : Nat) : k.pruneFences.count n = k.count n := rfl

/-- R182: a counter stays at 2^64 − 1. -/
theorem Core.addCount_count (k : Core) (n amount : Nat) : (k.addCount n amount).count n = min (k.count n + amount) (2 ^ 64 - 1) := by
  unfold Core.addCount
  split
  · next hsat =>
    rw [Core.count, Core.setFld_scnt, mapGet_mapPut, if_pos rfl, Nat.min_eq_right (Nat.sub_le_of_le_add (Nat.le_succ_of_le hsat))]
    rfl
  · next hfit =>
    rw [Core.count, mapGet_mapPut, if_pos rfl, BitVec.toNat_ofNat, Nat.mod_eq_of_lt (Nat.lt_of_not_le hfit)]
    exact (Nat.min_eq_left (by omega)).symm

/-- Where no operation is held, nothing is released: the fences that are over end (R187). -/
theorem State.settle_of_held {s : State} {c : Fin 96} (h : (s.core c).held = []) : s.settle c = s.modCore c Core.pruneFences := by
  have hheld : ((s.modCore c Core.pruneFences).core c).held = [] := by
    rw [State.modCore_self]
    exact h
  rw [State.settle, h, List.length_nil, State.release, hheld]
  rfl

/-! ## The delivery -/

section
variable (s : State) (c : Fin 96) (m : MOp) (rows : List (List Nat × Nat × List Bool))

theorem State.drainDeliver_tiles (h : m.f.m 1 0 = 0) : s.drainDeliver c m rows = (s.modCore c (fun k => k.drainTile m.f rows), true) := by
  unfold State.drainDeliver
  simp only [h]

theorem State.drainDeliver_local (h : m.f.m 1 0 = 1) :
    s.drainDeliver c m rows = (s.modCore c (fun k => k.lmWriteZ (drainBytesAt m.f m.v2.toNat rows)), true) := by
  unfold State.drainDeliver
  simp only [h]

/-- The core's tiles and its local memory always take the rows, and neither HBM nor a counter is reached. -/
theorem State.drainDeliver_within (h : m.f.m 1 0 < 2) : (s.drainDeliver c m rows).2 = true ∧ (s.drainDeliver c m rows).1.hbm = s.hbm
    ∧ ((s.drainDeliver c m rows).1.core c).scnt = (s.core c).scnt := by
  rcases (by omega : m.f.m 1 0 = 0 ∨ m.f.m 1 0 = 1) with h | h
  · rw [s.drainDeliver_tiles c m rows h, State.modCore_self]
    exact ⟨rfl, rfl, ((s.core c).drainTile_tileEq m.f rows).scnt⟩
  · rw [s.drainDeliver_local c m rows h, State.modCore_self]
    exact ⟨rfl, rfl, ((s.core c).lmWriteZ_lmEq _).scnt⟩

/-- No destination reaches what is left of the run. -/
theorem State.drainDeliver_keepsRuns : (s.core c).KeepsRuns ((s.drainDeliver c m rows).1.core c) := by
  have hcores {u v : State} (hv : v.cores = u.cores) (hu : (s.core c).KeepsRuns (u.core c)) : (s.core c).KeepsRuns (v.core c) := by
    have hcore : v.core c = u.core c := by rw [State.core, State.core, hv]
    rw [hcore]
    exact hu
  unfold State.drainDeliver
  extract_lets f p n off row v node o u
  split
  · rw [State.modCore_self]
    exact ((s.core c).drainTile_tileEq f rows).keepsRuns
  · rw [State.modCore_self]
    exact ((s.core c).lmWriteZ_lmEq _).keepsRuns
  · split
    · exact hcores (foldl_cores (fun t x => t.bshAddRow_cores _ _ _ _) _ _) (.refl _)
    · exact ((s.bshRefuse_faultEq _ _ _ _ _ _).core c).keepsRuns
  · split
    · exact ((s.bshRefuse_faultEq _ _ _ _ _ _).core c).keepsRuns
    · split
      · exact ((s.chainFault_faultEq _ _ _ _ _).core c).keepsRuns
      · refine hcores (foldl_cores (fun t x => t.sendContrib_cores _ _ _ _ _ _ _ _ _ _) _ u) ?_
        rw [State.modCore_self]
        exact ⟨rfl, rfl, rfl, rfl, rfl⟩

end

/-! ## The commit -/

/-- SIGEN's counter counts a delivery that did not leave over the chain (R92). -/
def MOp.counts (m : MOp) (delivered : Bool) : Bool := delivered && m.f.mb 11 && decide (m.f.m 1 0 ≠ 3)

/-- The core once the delivery has been counted and the fences that are over have ended. -/
def Core.drainSettle (m : MOp) (delivered : Bool) (k : Core) : Core :=
  (if m.counts delivered then k.addCount (m.f.m 17 12) 1 else k).pruneFences

theorem Core.drainSettle_countEq (m : MOp) (delivered : Bool) (k : Core) : k.countEq (k.drainSettle m delivered) := by
  unfold Core.drainSettle
  split
  · exact (k.addCount_countEq _ _).trans (Core.pruneFences_countEq _)
  · exact k.pruneFences_countEq

theorem Core.drainSettle_count {m : MOp} (h : m.f.m 1 0 < 2) (k : Core) : (k.drainSettle m true).count (m.f.m 17 12) =
    if m.f.mb 11 then min (k.count (m.f.m 17 12) + 1) (2 ^ 64 - 1) else k.count (m.f.m 17 12) := by
  have hcounts : m.counts true = m.f.mb 11 := by
    rw [MOp.counts, decide_eq_true (by omega : m.f.m 1 0 ≠ 3), Bool.true_and, Bool.and_true]
  rw [Core.drainSettle, hcounts, Core.pruneFences_count]
  split
  · exact k.addCount_count _ _
  · rfl

/-- The elements that are NaN or infinite among what the drain reads, none of them in an INT32 bank (R378). -/
def State.drainAnon (s : State) (c : Fin 96) (m : MOp) : Nat :=
  if (MKind.mdrain.arrays m.f).any (fun a => ((s.core c).bank (drainBank m.f a)).fmt = some .int32) then 0
  else drainAnonf s.freeCtr (((List.range (drainN m.f)).map ((s.core c).drainRow m.f s.freeCtr)).map Prod.fst)

/-- The state once the drain has left the matrix unit, its rows yet to be delivered. -/
def State.drainTaken (s : State) (c : Fin 96) (m : MOp) : State :=
  { s with freeCtr := s.freeCtr + 1 }.modCore c (Core.drainEnd m (s.drainAnon c m))

theorem State.drainTaken_core (s : State) (c : Fin 96) (m : MOp) : (s.drainTaken c m).core c = (s.core c).drainEnd m (s.drainAnon c m) :=
  State.modCore_self _ _ _

/-- A commit: the run ends, the rows are delivered, and the delivery is counted. -/
theorem State.drainCommit_eq {s : State} {c : Fin 96} {m : MOp} (hheld : (s.core c).held = []) {d : State × Bool}
    (hd : d = (s.drainTaken c m).drainDeliver c m (s.drainRows c m)) : s.drainCommit c m = d.1.modCore c (Core.drainSettle m d.2) := by
  have hdheld : (d.1.core c).held = [] := by
    rw [hd, (State.drainDeliver_keepsRuns _ _ _ _).held, State.drainTaken_core, (Core.drainEnd_spentEq _ _ _).held, hheld]
  unfold State.drainCommit
  extract_lets n k as raw rows intb s₁ d' s₂
  have hrows : rows = s.drainRows c m := by
    unfold rows raw
    rw [zipIdx_map_range, List.map_map]
    rfl
  have hd' : d' = d := by
    rw [hd, ← hrows]
    rfl
  unfold s₂ Core.drainSettle MOp.counts
  rw [hd']
  split
  · rw [State.settle_of_held, State.modCore_modCore]
    rw [State.modCore_self, (Core.addCount_countEq _ _ _).keepsRuns.held, hdheld]
  · rw [State.settle_of_held hdheld]

theorem State.drained_of_commit {s : State} {c : Fin 96} {m : MOp} (hkind : m.kind = .mdrain) (hheld : (s.core c).held = []) :
    s.drained (s.drainCommit c m) c m := by
  obtain ⟨u, hu⟩ : ∃ u, u = s.drainTaken c m := ⟨_, rfl⟩
  obtain ⟨k, hk⟩ : ∃ k, k = (s.core c).drainEnd m (s.drainAnon c m) := ⟨_, rfl⟩
  obtain ⟨d, hd⟩ : ∃ d, d = u.drainDeliver c m (s.drainRows c m) := ⟨_, rfl⟩
  obtain ⟨t, ht⟩ : ∃ t, t = s.drainCommit c m := ⟨_, rfl⟩
  have hucore : u.core c = k := by rw [hu, hk, State.drainTaken_core]
  have huhbm : u.hbm = s.hbm := by rw [hu, State.drainTaken, State.modCore_hbm]
  have hspent : (s.core c).spentEq k := hk ▸ (s.core c).drainEnd_spentEq m _
  have htd : t = d.1.modCore c (Core.drainSettle m d.2) := ht.trans (State.drainCommit_eq hheld (hu ▸ hd))
  have htcore : t.core c = (d.1.core c).drainSettle m d.2 := by rw [htd, State.modCore_self]
  have hcount : (d.1.core c).countEq (t.core c) := htcore ▸ (d.1.core c).drainSettle_countEq m d.2
  have hkeeps : k.KeepsRuns (t.core c) := by
    refine .trans ?_ hcount.keepsRuns
    rw [hd, ← hucore]
    exact u.drainDeliver_keepsRuns c m _
  rw [← ht]
  refine ⟨fun b hb => ⟨fun e he => ?_, ?_⟩, hkeeps.acc.trans hspent.acc, fun y hy => ?_, fun h => ?_, fun h => ?_, fun h => ?_⟩
  · rw [Core.mqueue, hkeeps.mq, hk] at he
    exact (s.core c).drainEnd_gone hkind _ hb he
  · rw [Core.bank, hkeeps.banks, hk]
    exact (s.core c).drainEnd_run m _ hb
  · rw [hkeeps.replays, hk] at hy
    exact (s.core c).drainEnd_replays m _ hy
  · have hdcore : d.1.core c = k.drainTile m.f (s.drainRows c m) := by
      rw [hd, u.drainDeliver_tiles c m _ h, State.modCore_self, hucore]
    rw [hcount.opnd, hcount.lm, hdcore]
    exact ⟨Core.drainTile_opnd_congr hspent.opnd _ _, (k.drainTile_tileEq _ _).lm.trans hspent.lm⟩
  · have hdcore : d.1.core c = k.lmWriteZ (drainBytesAt m.f m.v2.toNat (s.drainRows c m)) := by
      rw [hd, u.drainDeliver_local c m _ h, State.modCore_self, hucore]
    rw [hcount.opnd, hcount.lm, hdcore]
    exact ⟨Core.lmWriteZ_lm_congr hspent.lm _, (k.lmWriteZ_lmEq _).opnd.trans hspent.opnd⟩
  · obtain ⟨hall, hhbm, hscnt⟩ := u.drainDeliver_within c m (s.drainRows c m) h
    rw [← hd] at hall hhbm hscnt
    have hstart : (d.1.core c).count = (s.core c).count := by
      funext n
      rw [Core.count, Core.count, hscnt, hucore, hspent.scnt]
    rw [htcore, hall, Core.drainSettle_count h, hstart]
    exact ⟨by rw [htd, State.modCore_hbm, hhbm, huhbm], rfl⟩

end Sys2Proof.Machine
end

section
/-!
# O20: drains and replays at their arrays (R87 to R94, R347)
-/
namespace Sys2Proof.Machine

/-- The checks before a commit change nothing of what the drain has done. -/
theorem State.Noted.drained {s u t : State} {c : Fin 96} {m : MOp} (h : s.Noted c u) (ht : u.drained t c m) : s.drained t c m := by
  have hcount : (u.core c).count = (s.core c).count := by
    funext n
    rw [Core.count, Core.count, h.core.scnt]
  obtain ⟨hfree, hacc, hreplays, htiles, hlocal, hwithin⟩ := ht
  rw [h.drainRows] at htiles hlocal
  rw [h.core.lm, Core.drainTile_opnd_congr h.core.opnd] at htiles
  rw [h.core.opnd, Core.lmWriteZ_lm_congr h.core.lm] at hlocal
  rw [h.hbm, hcount] at hwithin
  exact ⟨hfree, hacc.trans h.core.acc, hreplays, htiles, hlocal, hwithin⟩

theorem State.Noted.isStopped {s u : State} {c : Fin 96} (h : s.Noted c u) {p : Nat} (hp : p < 8) : u.isStopped p = s.isStopped p := by
  refine State.isStopped_congr h.plan (fun d => ?_) hp
  by_cases hd : d = c
  · rw [hd, h.core.st]
  · rw [h.others d hd]

theorem State.Noted.drained_of_commit {s u : State} {c : Fin 96} {m : MOp} (h : s.Noted c u) (hkind : m.kind = .mdrain)
    (hheld : (s.core c).held = []) : s.drained (u.drainCommit c m) c m := h.drained (State.drained_of_commit hkind (h.core.held.trans hheld))

/-! ## MDRAIN at the head of its queue -/

/-- What the format of bank b does not permit (Table 4-4). -/
def Core.drainBad (k : Core) (f : Fields) (b : Nat) : Bool :=
  match (k.bank (drainBank f b)).fmt with
  | some bf => !drainOk bf f
  | none => false

theorem Core.drainBad_iff (k : Core) (f : Fields) (b : Nat) :
    k.drainBad f b = true ↔ ∃ bf, (k.bank (drainBank f b)).fmt = some bf ∧ drainOk bf f = false := by
  unfold Core.drainBad
  cases (k.bank (drainBank f b)).fmt <;> simp

theorem Core.drainBad_none {k : Core} {f : Fields}
    (hok : ∀ b bf, b ∈ MKind.mdrain.arrays f → (k.bank (drainBank f b)).fmt = some bf → drainOk bf f = true) :
    (MKind.mdrain.arrays f).find? (k.drainBad f) = none := by
  refine List.find?_eq_none.2 fun b hb hbad => ?_
  obtain ⟨bf, hfmt, hno⟩ := (k.drainBad_iff f b).1 hbad
  rw [hok b bf hb hfmt] at hno
  exact Bool.false_ne_true hno.symm

/-- The core at the head of whose queue of array a stands the drain m, which nothing holds back. -/
structure Core.DrainsNow (k : Core) (a : Nat) (m : MOp) : Prop where
  head : k.mhead a .mdrain = some m
  unheld : m.f.m 1 0 ≠ 0 → k.heldBy m.fid = false
  fresh : ∀ r, r ∈ k.replays → r.uid ≠ m.uid
  unblocked : k.bushelWaits m = false

section
variable {s : State} {c : Fin 96} {a : Fin 4} {m : MOp} (hm : (s.core c).DrainsNow a.val m)
include hm

theorem execMdrainExecute_eq (ups : List Upset) : exec (.mdrainExecute c a ups) s =
    match (MKind.mdrain.arrays m.f).find? ((s.core c).drainBad m.f) with
    | some b => .next (((s.modCore c (fun k => k.mfree m)).matFault c 7 b m.opw).settle c)
    | none => .next (match (s.csumFirst c m ups).2 with
      | [] => (s.csumFirst c m ups).1.drainCommit c m
      | ms => (s.csumFirst c m ups).1.modCore c (fun k => { k with replays := k.replays ++ [({ uid := m.uid, ms := ms } : Replay)] })) := by
  obtain ⟨hhead, hunheld, hfresh, hunblocked⟩ := hm
  have hgo : ¬((m.f.m 1 0 ≠ 0 ∧ (s.core c).heldBy m.fid) ∨ (s.core c).replays.any (fun r => r.uid = m.uid) ∨ (s.core c).bushelWaits m) := by
    rintro (⟨hd, hheld⟩ | hr | hb)
    · rw [hunheld hd] at hheld
      exact Bool.false_ne_true hheld
    · obtain ⟨r, hr, hu⟩ := List.any_eq_true.1 hr
      exact hfresh r hr (of_decide_eq_true hu)
    · rw [hunblocked] at hb
      exact Bool.false_ne_true hb
  change execMdrainExecute c a ups s = _
  unfold execMdrainExecute
  simp only [hhead, if_neg hgo]
  change (match (MKind.mdrain.arrays m.f).find? ((s.core c).drainBad m.f) with | some b => _ | none => _) = _
  cases (MKind.mdrain.arrays m.f).find? ((s.core c).drainBad m.f) with
  | some b => rfl
  | none =>
    dsimp only
    rcases s.csumFirst c m ups with ⟨u, _ | ⟨x, ms⟩⟩ <;> rfl

/-- A drain whose checks find no mismatch is committed. -/
theorem execMdrainExecute_commits {ups : List Upset}
    (hok : ∀ b bf, b ∈ MKind.mdrain.arrays m.f → ((s.core c).bank (drainBank m.f b)).fmt = some bf → drainOk bf m.f = true)
    (hms : (s.csumFirst c m ups).2 = []) : exec (.mdrainExecute c a ups) s = .next ((s.csumFirst c m ups).1.drainCommit c m) := by
  rw [execMdrainExecute_eq hm, Core.drainBad_none hok, hms]

/-- A drain with mismatches awaits its replay (R94). -/
theorem execMdrainExecute_awaits {ups : List Upset}
    (hok : ∀ b bf, b ∈ MKind.mdrain.arrays m.f → ((s.core c).bank (drainBank m.f b)).fmt = some bf → drainOk bf m.f = true)
    (hms : (s.csumFirst c m ups).2 ≠ []) : exec (.mdrainExecute c a ups) s = .next ((s.csumFirst c m ups).1.modCore c
      (fun k => { k with replays := k.replays ++ [({ uid := m.uid, ms := (s.csumFirst c m ups).2 } : Replay)] })) := by
  rw [execMdrainExecute_eq hm, Core.drainBad_none hok]
  cases h : (s.csumFirst c m ups).2 with
  | nil => exact absurd h hms
  | cons x ms => rfl

/-- A drain whose output a bank's format does not permit faults. -/
theorem execMdrainExecute_faults (ups : List Upset) {b : Nat} {bf : BankFmt} (hb : b ∈ MKind.mdrain.arrays m.f)
    (hfmt : ((s.core c).bank (drainBank m.f b)).fmt = some bf) (hno : drainOk bf m.f = false) :
    ∃ b', exec (.mdrainExecute c a ups) s = .next (((s.modCore c (fun k => k.mfree m)).matFault c 7 b' m.opw).settle c) := by
  cases hfind : (MKind.mdrain.arrays m.f).find? ((s.core c).drainBad m.f) with
  | none => exact absurd (((s.core c).drainBad_iff m.f b).2 ⟨bf, hfmt, hno⟩) (List.find?_eq_none.1 hfind b hb)
  | some b' => exact ⟨b', by rw [execMdrainExecute_eq hm, hfind]⟩

end

/-- Fences that end stop no partition, and leave the core's data and registers. -/
theorem State.settle_stopped {s : State} {c : Fin 96} {p : Nat} (hheld : (s.core c).held = []) (hp : p < 8) :
    (s.settle c).isStopped p = s.isStopped p ∧ (s.settle c).hbm = s.hbm ∧ (s.settle c).core c = (s.core c).pruneFences := by
  rw [State.settle_of_held hheld]
  exact ⟨State.modCore_isStopped rfl hp, State.modCore_hbm _ _ _, State.modCore_self _ _ _⟩

theorem State.mdrainFault_stops {s : State} {c : Fin 96} {m : MOp} {p : Nat} (hheld : (s.core c).held = []) (hpart : s.partOf c = some p)
    (hgoing : s.isStopped p = false) (hrun : (s.core c).st = .running) (hreg : (s.core c).reg kMAT_FAULT = 0) (b : Nat) {t : State}
    (ht : t = ((s.modCore c (fun k => k.mfree m)).matFault c 7 b m.opw).settle c) :
    t.isStopped p = true ∧ (t.core c).st = .stopped ∧ (t.core c).fld kMAT_FAULT 3 0 = 7 ∧ (t.core c).acc = (s.core c).acc
      ∧ (t.core c).lm = (s.core c).lm ∧ (t.core c).opnd = (s.core c).opnd ∧ t.hbm = s.hbm := by
  obtain ⟨u, hu⟩ : ∃ u, u = (s.modCore c (fun k => k.mfree m)).matFault c 7 b m.opw := ⟨_, rfl⟩
  obtain ⟨hstop, hst, hval, hhbm, hend⟩ := State.mfree_matFault_stops m hpart hgoing hrun hreg 7 b m.opw hu
  have hq := (s.core c).mfree_mqEq m
  obtain ⟨hstop', hhbm', hcore⟩ := State.settle_stopped (s := u) (c := c) (by rw [hend.held, hq.held, hheld]) (State.partOf_lt hpart)
  rw [ht, ← hu, hcore, hstop', hhbm', hstop, hhbm]
  exact ⟨rfl, hst, fld_cause hval (by decide), hend.acc.trans hq.acc, hend.lm.trans hq.lm, hend.opnd.trans hq.opnd, rfl⟩

/-! ## CSUM_REPLAY at the head of its queue -/

/-- The second mismatches of a replay: an array of which the first was injected passes (R347). -/
def Replay.failing (r : Replay) (as : List Nat) (fails : List Upset) : List Mismatch :=
  as.filterMap (fun b => if r.ms.any (fun x => x.array = b && x.inj) then none
    else (fails.find? (fun u => u.array.val = b)).map (fun u => ({ array := b, rows := u.rows, cols := u.cols, inj := false } : Mismatch)))

theorem Replay.failing_nil {r : Replay} {as : List Nat} {fails : List Upset}
    (h : ∀ b u, b ∈ as → u ∈ fails → u.array.val = b → ∃ x, x ∈ r.ms ∧ x.array = b ∧ x.inj = true) : r.failing as fails = [] := by
  refine List.filterMap_eq_nil_iff.2 fun b hb => ?_
  split
  · rfl
  · next hinj =>
    refine Option.map_eq_none_iff.2 (List.find?_eq_none.2 fun u hu hub => hinj ?_)
    obtain ⟨x, hx, hxb, hxi⟩ := h b u hb hu (of_decide_eq_true hub)
    exact List.any_eq_true.2 ⟨x, hx, by rw [hxi, decide_eq_true hxb]; rfl⟩

theorem Replay.failing_ne_nil {r : Replay} {as : List Nat} {fails : List Upset} {b : Nat} {u : Upset} (hb : b ∈ as) (hu : u ∈ fails)
    (hub : u.array.val = b) (hinj : ∀ x, x ∈ r.ms → x.array = b → x.inj = false) : r.failing as fails ≠ [] := by
  intro hnil
  have hb' := List.filterMap_eq_nil_iff.1 hnil b hb
  have hany : r.ms.any (fun x => x.array = b && x.inj) = false := by
    refine List.any_eq_false.2 fun x hx => ?_
    by_cases hxb : x.array = b
    · rw [hinj x hx hxb, Bool.and_false]
      exact Bool.false_ne_true
    · rw [decide_eq_false hxb, Bool.false_and]
      exact Bool.false_ne_true
  rw [hany, if_neg Bool.false_ne_true, Option.map_eq_none_iff] at hb'
  exact List.find?_eq_none.1 hb' u hu (decide_eq_true hub)

/-- The state once the arrays that pass their second check are recorded (R94). -/
def State.csumPassed (s : State) (c : Fin 96) (m : MOp) (r : Replay) (bad : List Mismatch) : State :=
  (r.ms.filter (fun x => !(bad.any (fun y => y.array = x.array)))).foldl (fun s x => s.csumCleared c m x) s

theorem State.csumPassed_noted (s : State) (c : Fin 96) (m : MOp) (r : Replay) (bad : List Mismatch) :
    s.Noted c (s.csumPassed c m r bad) := .foldl (fun t x => t.csumCleared_noted c m x) _ s

/-- The state once the arrays that fail it are recorded too. -/
def State.csumNoted (s : State) (c : Fin 96) (m : MOp) (r : Replay) (bad : List Mismatch) : State :=
  bad.foldl (fun s x => s.csumFailed c m x) (s.csumPassed c m r bad)

theorem State.csumNoted_noted (s : State) (c : Fin 96) (m : MOp) (r : Replay) (bad : List Mismatch) : s.Noted c (s.csumNoted c m r bad) :=
  (s.csumPassed_noted c m r bad).trans (.foldl (fun t x => t.csumFailed_noted c m x) _ _)

/-- The drain m and its replay are over in the core. -/
def Core.replayEnd (m : MOp) (k : Core) : Core := { k.mfree m with replays := k.replays.filter (fun y => y.uid ≠ m.uid) }

theorem Core.replayEnd_spentEq (m : MOp) (k : Core) : k.spentEq (k.replayEnd m) :=
  (k.mfree_mqEq m).spentEq.trans (j := k.mfree m) rfl

/-- The state once a replay that failed is over. -/
def State.csumRefused (s : State) (c : Fin 96) (m : MOp) (r : Replay) (bad : List Mismatch) : State :=
  (s.csumNoted c m r bad).modCore c (Core.replayEnd m)

theorem State.csumRefused_partOf (s : State) (c : Fin 96) (m : MOp) (r : Replay) (bad : List Mismatch) :
    (s.csumRefused c m r bad).partOf c = s.partOf c := by
  rw [State.csumRefused, (State.CapEq.modCore _ c _).plan.partOf, (s.csumNoted_noted c m r bad).plan.partOf]

section
variable {s : State} {c : Fin 96} {a : Fin 4} {m : MOp} {r : Replay} (hm : (s.core c).mhead a.val .mdrain = some m)
  (hr : (s.core c).replays.find? (fun r => r.uid = m.uid) = some r)
include hm hr

theorem execCsumReplay_eq {fails : List Upset} {bad : List Mismatch} (hbad : bad = r.failing (MKind.mdrain.arrays m.f) fails) :
    exec (.csumReplay c a fails) s = if bad = [] then .next ((s.csumPassed c m r bad).drainCommit c m)
      else .next ((match (s.csumRefused c m r bad).partOf c with
        | some p => (s.csumRefused c m r bad).stopPart p c.val 2 .stopped
        | none => s.csumRefused c m r bad).settle c) := by
  rw [hbad]
  change execCsumReplay c a fails s = _
  unfold execCsumReplay
  simp only [hm, hr]
  rfl

end

/-- A replay that fails stops the partition, and the core's data stand (R94). -/
theorem State.csumRefused_stops {s : State} {c : Fin 96} {p : Nat} (m : MOp) (r : Replay) (bad : List Mismatch)
    (hheld : (s.core c).held = []) (hpart : s.partOf c = some p) (hgoing : s.isStopped p = false) (hrun : (s.core c).st = .running) {t : State}
    (ht : t = ((s.csumRefused c m r bad).stopPart p c.val 2 .stopped).settle c) :
    t.isStopped p = true ∧ (t.core c).st = .stopped ∧ (t.core c).acc = (s.core c).acc ∧ (t.core c).lm = (s.core c).lm
      ∧ (t.core c).opnd = (s.core c).opnd ∧ t.hbm = s.hbm := by
  have hp := State.partOf_lt hpart
  obtain ⟨n, hn⟩ : ∃ n, n = s.csumNoted c m r bad := ⟨_, rfl⟩
  have hnoted : s.Noted c n := hn ▸ s.csumNoted_noted c m r bad
  obtain ⟨u, hu⟩ : ∃ u, u = s.csumRefused c m r bad := ⟨_, rfl⟩
  have hun : u = n.modCore c (Core.replayEnd m) := by rw [hu, hn, State.csumRefused]
  have hucore : u.core c = (n.core c).replayEnd m := by rw [hun, State.modCore_self]
  have hspent := (n.core c).replayEnd_spentEq m
  have hupart : u.partOf c = some p := by rw [hu, State.csumRefused_partOf, hpart]
  have hugoing : u.isStopped p = false := by rw [hun, State.modCore_isStopped hspent.st hp, hnoted.isStopped hp, hgoing]
  have hurun : (u.core c).st = .running := by rw [hucore, hspent.st, hnoted.core.st, hrun]
  obtain ⟨hstop, hstopcore⟩ := State.stopPart_stopsCore hupart hugoing hurun c.val 2
  obtain ⟨v, hv⟩ : ∃ v, v = u.stopPart p c.val 2 .stopped := ⟨_, rfl⟩
  have hvfault : u.FaultEq v := hv ▸ u.stopPart_faultEq p c.val 2
  have hvcore := hucore ▸ hvfault.core c
  rw [← hu, ← hv] at ht
  rw [← hv] at hstop hstopcore
  obtain ⟨hstop', hhbm', hcore⟩ := State.settle_stopped (s := v) (c := c)
    (by rw [hvcore.held, hspent.held, hnoted.core.held, hheld]) hp
  rw [ht, hcore, hstop', hhbm', hvfault.hbm, hun, State.modCore_hbm, hnoted.hbm]
  exact ⟨hstop, congrArg Core.st hstopcore, (hvcore.acc.trans hspent.acc).trans hnoted.core.acc,
    (hvcore.lm.trans hspent.lm).trans hnoted.core.lm, (hvcore.opnd.trans hspent.opnd).trans hnoted.core.opnd, rfl⟩

/-- Settles O20: the checks note and record, a commit ends the run and delivers, and what is refused stops the partition before anything is
delivered. -/
theorem drainsAndReplays : Obligations.DrainsAndReplays := by
  unfold Obligations.DrainsAndReplays
  refine ⟨fun s c a ups m hhead hunheld hfresh hunblocked => ?_, fun s c a fails m r hhead hr hheld => ?_⟩
  · have hm : (s.core c).DrainsNow a.val m := ⟨hhead, hunheld, hfresh, hunblocked⟩
    have hnoted := s.csumFirst_noted c m ups
    refine ⟨fun hok => ⟨fun hms hheld => ?_, fun hms => ?_⟩, fun b bf p hb hfmt hno hpart hgoing hrun hreg hheld => ?_⟩
    · exact ⟨_, execMdrainExecute_commits hm hok hms, hnoted.drained_of_commit (Core.mhead_kind hhead) hheld⟩
    · refine ⟨_, execMdrainExecute_awaits hm hok hms, ?_⟩
      rw [State.modCore_self, State.modCore_hbm]
      exact ⟨congrArg (· ++ _) hnoted.core.replays, hnoted.core.acc, hnoted.core.mq, hnoted.core.lm, hnoted.core.opnd, hnoted.hbm,
        fun d hd => ((State.modCore_onlyCore _ c _).2 d hd).trans (hnoted.others d hd)⟩
    · obtain ⟨b', hexec⟩ := execMdrainExecute_faults hm ups hb hfmt hno
      exact ⟨_, hexec, State.mdrainFault_stops hheld hpart hgoing hrun hreg b' rfl⟩
  · refine ⟨fun hinj => ?_, fun p b u hb hu hub hinj hpart hgoing hrun => ?_⟩
    · refine ⟨_, (execCsumReplay_eq hhead hr (Replay.failing_nil hinj).symm).trans (if_pos rfl), ?_⟩
      exact (s.csumPassed_noted c m r []).drained_of_commit (Core.mhead_kind hhead) hheld
    · have hne := Replay.failing_ne_nil hb hu hub hinj
      have hexec := (execCsumReplay_eq hhead hr rfl).trans (if_neg hne)
      rw [State.csumRefused_partOf, hpart] at hexec
      exact ⟨_, hexec, State.csumRefused_stops m r _ hheld hpart hgoing hrun rfl⟩

end Sys2Proof.Machine
end

section
/-!
# Writes to tiles (R113, R117)

What a vector instruction leaves in the tiles once it has written some of its destination's rows: each row its new elements and poison,
every row of another tile what it had, and all but the tiles as it was.
-/
namespace Sys2Proof.Machine

/-! ## Elements of a row -/

/-- A row whose elements were replaced in the view of width w holds the new ones, cut to the width, and its own in the other columns. -/
theorem elt_rowUpd {w c : Nat} (hc : c < colsOf w) (row : BitVec 1024) (g : Nat → Option Nat) :
    elt w (rowUpd w row g) c = ((g c).map (· % 2 ^ w)).getD (elt w row c) := by
  have hfit : w * c + w ≤ 1024 :=
    calc w * c + w = w * (c + 1) := (Nat.mul_succ w c).symm
      _ ≤ w * colsOf w := Nat.mul_le_mul_left w hc
      _ ≤ 1024 := Nat.mul_div_le 1024 w
  rw [elt, rowUpd, packRow, ofNat_element hfit, packNat_element, getD_map_range _ _ hc]
  cases g c with
  | none => exact Nat.mod_mod _ _
  | some v => rfl

/-! ## One row -/

theorem Core.setRow_opnd (k : Core) (n r : Nat) (v : BitVec 1024) (whole z : Bool) : (k.setRow n r v whole z).opnd = { k.opnd with
    tiles := k.opnd.tiles.put (32 * n + r) v,
    tpois := maskSet k.opnd.tpois (32 * n + r) (z || (!whole && k.opnd.tpois.getLsbD (32 * n + r))) } := by
  unfold Core.setRow
  extract_lets key p k₁
  split <;> rfl

theorem Core.setRow_view (k : Core) (n r : Nat) (v : BitVec 1024) (whole z : Bool) : (k.setRow n r v whole z).view = k.view := by
  unfold Core.setRow
  extract_lets key p k₁
  split <;> rfl

theorem Core.setRow_tiles (k : Core) (n r : Nat) (v : BitVec 1024) (whole z : Bool) (key : Nat) :
    (k.setRow n r v whole z).opnd.tiles.get Config.freeRow key =
      if key = 32 * n + r then v else k.opnd.tiles.get Config.freeRow key := by
  rw [Core.setRow_opnd]
  exact Rows.get_put _ _ _ _ _

theorem Core.setRow_tpois (k : Core) {n r : Nat} (hn : n < 32) (hr : r < 32) (v : BitVec 1024) (whole z : Bool) (key : Nat) :
    (k.setRow n r v whole z).opnd.tpois.getLsbD key =
      if key = 32 * n + r then z || (!whole && k.opnd.tpois.getLsbD (32 * n + r)) else k.opnd.tpois.getLsbD key := by
  rw [Core.setRow_opnd]
  exact maskSet_getLsbD _ _ _ _ (by omega)

theorem Core.onlyTiles.trans {k j i : Core} (h : k.onlyTiles j) (h' : j.onlyTiles i) : k.onlyTiles i := by
  unfold Core.onlyTiles Core.sameBundle at *
  rw [← h]
  rw [← h']

theorem Core.sameBundle.onlyTiles {k k' : Core} (h : k.sameBundle k') : k.onlyTiles k' := by
  unfold Core.onlyTiles Core.sameBundle at *
  rw [← h]

theorem Core.sameBundle.opnd_eq {k k' : Core} (h : k.sameBundle k') : k'.opnd = k.opnd := by rw [← h]

theorem Core.sameBundle.cregs_eq {k k' : Core} (h : k.sameBundle k') : k'.cregs = k.cregs := by rw [← h]

theorem Core.onlyTiles.cregs_eq {k k' : Core} (h : k.onlyTiles k') : k'.cregs = k.cregs := by
  unfold Core.onlyTiles Core.sameBundle at h
  rw [← h]

theorem Core.setRow_onlyTiles (k : Core) (n r : Nat) (v : BitVec 1024) (whole z : Bool) : k.onlyTiles (k.setRow n r v whole z) := by
  unfold Core.setRow
  extract_lets key p k₁
  split <;> rfl

theorem Core.bump_onlyTiles (k : Core) (o n : Nat) : k.onlyTiles (k.bump o n) := rfl

theorem Core.nfBump_onlyTiles (k : Core) (n : Nat × Nat) : k.onlyTiles (k.nfBump n) := rfl

@[simp] theorem Core.nfBump_opnd (k : Core) (n : Nat × Nat) : (k.nfBump n).opnd = k.opnd := rfl

@[simp] theorem Core.nfBump_view (k : Core) (n : Nat × Nat) : (k.nfBump n).view = k.view := rfl

/-! ## Several rows of one tile -/

/-- The rows of a list written in the view of width w: `val` replaces elements, `whole` and `z` give what R117 asks of each row. -/
def Core.writeRows (k : Core) (n w : Nat) (l : List Nat) (val : Nat → Nat → Option Nat) (whole z : Nat → Bool) : Core :=
  l.foldl (fun k r => k.setRow n r (rowUpd w (k.trowNow n r) (val r)) (whole r) (z r)) k

section
variable (k : Core) {n : Nat} (w : Nat) {l : List Nat} (val : Nat → Nat → Option Nat) (whole z : Nat → Bool)

theorem Core.writeRows_onlyTiles : k.onlyTiles (k.writeRows n w l val whole z) :=
  List.foldlRecOn l _ (motive := k.onlyTiles) (Core.sameBundle_refl k).onlyTiles fun j hj r _ =>
    hj.trans (j.setRow_onlyTiles n r (rowUpd w (j.trowNow n r) (val r)) (whole r) (z r))

theorem Core.writeRows_view : (k.writeRows n w l val whole z).view = k.view :=
  List.foldlRecOn l _ (motive := fun j : Core => j.view = k.view) rfl fun j hj r _ => by
    rw [Core.setRow_view, hj]

variable (hn : n < 32) (hl : ∀ r, r ∈ l → r < 32)
include hn hl

/-- A row outside the list, of this tile or of another, is what it was. -/
theorem Core.writeRows_other {key : Nat} (hkey : ∀ r, r ∈ l → key ≠ 32 * n + r) :
    (k.writeRows n w l val whole z).opnd.tiles.get Config.freeRow key = k.opnd.tiles.get Config.freeRow key
      ∧ (k.writeRows n w l val whole z).opnd.tpois.getLsbD key = k.opnd.tpois.getLsbD key :=
  List.foldlRecOn l _ (motive := fun j : Core => j.opnd.tiles.get Config.freeRow key = k.opnd.tiles.get Config.freeRow key
      ∧ j.opnd.tpois.getLsbD key = k.opnd.tpois.getLsbD key) ⟨rfl, rfl⟩ fun j hj r hr => by
    rw [Core.setRow_tiles, Core.setRow_tpois _ hn (hl r hr), if_neg (hkey r hr), if_neg (hkey r hr)]
    exact hj

theorem Core.writeRows_keepsTiles : k.keepsTiles (k.writeRows n w l val whole z) [n] := by
  intro key hkey
  rw [List.mem_singleton] at hkey
  exact k.writeRows_other w val whole z hn hl fun r hr => by
    have := hl r hr
    omega

/-- A row of the list takes its new elements and its poison, over what it held before the list. -/
theorem Core.writeRows_row (hnodup : l.Nodup) {r : Nat} (hr : r ∈ l) :
    (k.writeRows n w l val whole z).opnd.tiles.get Config.freeRow (32 * n + r) = rowUpd w (k.trowNow n r) (val r)
      ∧ (k.writeRows n w l val whole z).opnd.tpois.getLsbD (32 * n + r) = (z r || (!whole r && k.opnd.tpois.getLsbD (32 * n + r))) := by
  obtain ⟨j, -, hfound, hend⟩ := foldl_turn (g := fun (k : Core) r => k.setRow n r (rowUpd w (k.trowNow n r) (val r)) (whole r) (z r))
    hnodup (R := fun _ => True) (fun _ _ _ _ => trivial)
    (fun j : Core => (j.trowNow n r, j.opnd.tpois.getLsbD (32 * n + r))) hr (fun j b hb hne _ => by
      rw [Core.trowNow, Core.setRow_tiles, Core.setRow_tpois _ hn (hl b hb), if_neg (by omega), if_neg (by omega), Core.trowNow])
    (k := k) trivial
  obtain ⟨hrow, hpois⟩ := Prod.mk.inj hfound
  obtain ⟨hrow', hpois'⟩ := Prod.mk.inj hend
  refine ⟨hrow'.trans ?_, hpois'.trans ?_⟩
  · rw [Core.trowNow, Core.setRow_tiles, if_pos rfl, hrow]
  · rw [Core.setRow_tpois _ hn (hl r hr), if_pos rfl, hpois]

/-- The tile after a write of some of its rows. -/
theorem Core.writeRows_takes (hnodup : l.Nodup) : k.tileTakes (k.writeRows n w l val whole z) n w
    (fun r c => if r ∈ l then val r c else none) (fun r => decide (r ∈ l) && z r) (fun r => decide (r ∈ l) && whole r) := by
  refine ⟨fun r c hr hc => ?_, fun r hr => ?_⟩ <;> by_cases hmem : r ∈ l
  · rw [Opnd.elem, (k.writeRows_row w val whole z hn hl hnodup hmem).1, elt_rowUpd hc]
    dsimp only
    rw [if_pos hmem]
    cases val r c <;> rfl
  · dsimp only
    rw [Opnd.elem, (k.writeRows_other w val whole z hn hl fun b hb e => hmem (by rwa [show r = b by omega])).1, if_neg hmem]
    rfl
  · dsimp only
    rw [(k.writeRows_row w val whole z hn hl hnodup hmem).2, decide_eq_true hmem, Bool.true_and, Bool.true_and]
  · dsimp only
    rw [(k.writeRows_other w val whole z hn hl fun b hb e => hmem (by rwa [show r = b by omega])).2, decide_eq_false hmem]
    rfl

end

/-! ## A whole tile -/

theorem Core.writeTile_eq (k : Core) (n w : Nat) (g : Nat → RowOut) : k.writeTile n w g =
    (k.writeRows n w rows32 (fun r c => (g r).vals.getD c none) (fun r => (g r).whole) (fun r => (g r).poison)).nfBump
      (sumCounts ((rows32.map (fun r => (r, g r))).map (fun x => x.2.cnt))) := by
  rw [Core.writeTile, List.foldl_map]
  rfl

theorem mem_rows32 {r : Nat} : r ∈ rows32 ↔ r < 32 := List.mem_range

theorem Core.writeTile_onlyTiles (k : Core) (n w : Nat) (g : Nat → RowOut) : k.onlyTiles (k.writeTile n w g) := by
  rw [Core.writeTile_eq]
  exact (k.writeRows_onlyTiles w _ _ _).trans (Core.nfBump_onlyTiles _ _)

/-- What a tile takes depends on the operand registers alone. -/
theorem Core.tileTakes.of_opnd {k t k' t' : Core} {n w : Nat} {val : Nat → Nat → Option Nat} {z whole : Nat → Bool}
    (h : k.tileTakes t n w val z whole) (hk : k'.opnd = k.opnd) (ht : t'.opnd = t.opnd) : k'.tileTakes t' n w val z whole := by
  unfold Core.tileTakes
  rw [hk, ht]
  exact h

theorem Core.keepsTiles.of_opnd {k t k' t' : Core} {ns : List Nat} (h : k.keepsTiles t ns) (hk : k'.opnd = k.opnd) (ht : t'.opnd = t.opnd) :
    k'.keepsTiles t' ns := by
  unfold Core.keepsTiles
  rw [hk, ht]
  exact h

theorem Core.keepsTiles.trans {k j i : Core} {ns ns' : List Nat} (h : k.keepsTiles j ns) (h' : j.keepsTiles i ns') :
    k.keepsTiles i (ns ++ ns') := by
  intro key hkey
  rw [List.mem_append, not_or] at hkey
  obtain ⟨hrow, hpois⟩ := h key hkey.1
  obtain ⟨hrow', hpois'⟩ := h' key hkey.2
  exact ⟨hrow'.trans hrow, hpois'.trans hpois⟩

theorem Core.keepsTiles.elem_eq {k t : Core} {ns : List Nat} (h : k.keepsTiles t ns) {n r : Nat} (hn : n ∉ ns) (hr : r < 32) (w c : Nat) :
    t.opnd.elem w n r c = k.opnd.elem w n r c := by
  rw [Opnd.elem, (h (32 * n + r) (by rwa [show (32 * n + r) / 32 = n by omega])).1, Opnd.elem]

theorem Core.keepsTiles.tpois_eq {k t : Core} {ns : List Nat} (h : k.keepsTiles t ns) {n r : Nat} (hn : n ∉ ns) (hr : r < 32) :
    t.opnd.tpois.getLsbD (32 * n + r) = k.opnd.tpois.getLsbD (32 * n + r) :=
  (h (32 * n + r) (by rwa [show (32 * n + r) / 32 = n by omega])).2

/-- The tile holds the same after a later write to other tiles. -/
theorem Core.tileTakes.keeps {k j i : Core} {n w : Nat} {val : Nat → Nat → Option Nat} {z whole : Nat → Bool} {ns : List Nat}
    (h : k.tileTakes j n w val z whole) (h' : j.keepsTiles i ns) (hn : n ∉ ns) : k.tileTakes i n w val z whole :=
  ⟨fun r c hr hc => (h'.elem_eq hn hr w c).trans (h.1 r c hr hc), fun r hr => (h'.tpois_eq hn hr).trans (h.2 r hr)⟩

/-- The tile takes the same over an earlier write to other tiles. -/
theorem Core.keepsTiles.takes {k j i : Core} {n w : Nat} {val : Nat → Nat → Option Nat} {z whole : Nat → Bool} {ns : List Nat}
    (h : k.keepsTiles j ns) (hn : n ∉ ns) (h' : j.tileTakes i n w val z whole) : k.tileTakes i n w val z whole := by
  refine ⟨fun r c hr hc => ?_, fun r hr => ?_⟩
  · rw [← h.elem_eq hn hr]
    exact h'.1 r c hr hc
  · rw [← h.tpois_eq hn hr]
    exact h'.2 r hr

/-- What a tile takes, described otherwise for its own rows and columns. -/
theorem Core.tileTakes.congr {k t : Core} {n w : Nat} {val val' : Nat → Nat → Option Nat} {z z' whole whole' : Nat → Bool}
    (h : k.tileTakes t n w val z whole) (hval : ∀ r c, r < 32 → c < colsOf w → val r c = val' r c) (hz : ∀ r, r < 32 → z r = z' r)
    (hwhole : ∀ r, r < 32 → whole r = whole' r) : k.tileTakes t n w val' z' whole' := by
  refine ⟨fun r c hr hc => ?_, fun r hr => ?_⟩
  · rw [← hval r c hr hc]
    exact h.1 r c hr hc
  · rw [← hz r hr, ← hwhole r hr]
    exact h.2 r hr

section
variable (k : Core) {n : Nat} (hn : n < 32) (w : Nat) (g : Nat → RowOut)
include hn

theorem Core.writeTile_keepsTiles : k.keepsTiles (k.writeTile n w g) [n] := by
  rw [Core.writeTile_eq]
  exact (k.writeRows_keepsTiles w _ _ _ hn fun r hr => mem_rows32.1 hr).of_opnd rfl (Core.nfBump_opnd _ _)

/-- The tile after a write of all its rows. -/
theorem Core.writeTile_takes : k.tileTakes (k.writeTile n w g) n w (fun r c => (g r).vals.getD c none) (fun r => (g r).poison)
    (fun r => (g r).whole) := by
  have h := k.writeRows_takes w (fun r c => (g r).vals.getD c none) (fun r => (g r).whole) (fun r => (g r).poison) hn
    (fun r hr => mem_rows32.1 hr) List.nodup_range
  rw [Core.writeTile_eq]
  refine (h.of_opnd rfl (Core.nfBump_opnd _ _)).congr (fun r c hr _ => if_pos (mem_rows32.2 hr)) (fun r hr => ?_) (fun r hr => ?_) <;>
    rw [decide_eq_true (mem_rows32.2 hr), Bool.true_and]

end

/-! ## The issue of an instruction that writes tiles -/

theorem State.ready.legal {s : State} {op : Nat} {i : Issue} {f : Fields} (h : s.ready op i f) : illegal op f = false := by
  obtain ⟨-, -, -, hlegal, -⟩ := h
  exact hlegal

/-- An instruction whose body works in each member's core: what the body makes of the core that it finds stands, but for the bundle. -/
theorem State.issueCore_ready {s : State} {c : Instr} {op : Nat} {i : Issue} {f : Fields} {g : Core → Core}
    (hexec : exec c s = s.issueCore op i f g) (h : s.ready op i f) : ∃ t, exec c s = .next t ∧ s.issueFrame t i ∧
      ∀ m, m ∈ s.members i.core → (g (s.openedCore op i m)).sameBundle (t.core m) := by
  rw [hexec]
  exact s.issue_cores op i f (fun _ => g) h

/-- An instruction whose body writes one tile. -/
theorem State.writesTile_of_body {s : State} {c : Instr} {op : Nat} {i : Issue} {f : Fields} {g : Core → Core} {n w : Nat}
    {val : Core → Nat → Nat → Option Nat} {z whole : Core → Nat → Bool} (hexec : exec c s = s.issueCore op i f g) (h : s.ready op i f)
    (htakes : ∀ k : Core, k.tileTakes (g k) n w (val k) (z k) (whole k)) (hkeeps : ∀ k : Core, k.keepsTiles (g k) [n])
    (honly : ∀ k : Core, k.onlyTiles (g k)) : s.writesTile c op i n w val z whole := by
  obtain ⟨t, ht, hframe, hcore⟩ := State.issueCore_ready hexec h
  refine ⟨t, ht, hframe, fun m hm => ?_⟩
  have hopen := s.openedCore_same op i m
  have hend := hcore m hm
  exact ⟨(htakes _).of_opnd hopen.opnd_eq.symm hend.opnd_eq, (hkeeps _).of_opnd hopen.opnd_eq.symm hend.opnd_eq,
    hopen.onlyTiles.trans ((honly _).trans hend.onlyTiles)⟩

end Sys2Proof.Machine
end

section
/-!
# O15: conversions (R125, R126)

What a conversion writes to each element, block and scale byte, and its encodings' bounds.
-/
namespace Sys2Proof.Machine

/-- What the fields of a legal instruction satisfy: its format code and the cases of its own rules. -/
theorem legal_fields {op : Nat} {f : Fields} {row : OpRow} (hrow : opRow op = some row) (h : illegal op f = false) :
    f.fmt.toNat ∈ row.fmts ∧ badSpecial op f = false := by
  rw [illegal, hrow] at h
  simp only [Bool.or_eq_false_iff, Bool.not_eq_false', List.contains_iff_mem] at h
  obtain ⟨⟨⟨-, hfmt⟩, -⟩, hbad⟩ := h
  exact ⟨hfmt, hbad⟩

/-- Lists of one length in a row, element by element. -/
theorem flatMap_range_eq_map {α : Type} (d : α) {n : Nat} (g : Nat → List α) (m : Nat) (hg : ∀ b, b < m → (g b).length = n) :
    (List.range m).flatMap g = (List.range (m * n)).map (fun c => (g (c / n)).getD (c % n) d) := by
  induction m with
  | zero => rw [Nat.zero_mul]; rfl
  | succ m ih =>
    have hlast : g m = (List.range n).map (fun j => (g ((m * n + j) / n)).getD ((m * n + j) % n) d) := by
      refine List.ext_getElem (by rw [hg m m.lt_succ_self, List.length_map, List.length_range]) fun j hj _ => ?_
      have hjn : j < n := hg m m.lt_succ_self ▸ hj
      rw [List.getElem_map, List.getElem_range, Nat.add_comm, Nat.add_mul_div_right _ _ (by omega), Nat.add_mul_mod_self_right,
        Nat.div_eq_of_lt hjn, Nat.mod_eq_of_lt hjn, Nat.zero_add, List.getD_eq_getElem _ _ hj]
    rw [List.range_succ, List.flatMap_append, ih fun b hb => hg b (by omega), List.flatMap_singleton, Nat.succ_mul, List.range_add,
      List.map_append, List.map_map]
    exact congrArg _ hlast

/-! ## To an unscaled format -/

/-- What a conversion leaves in an element that it does not compute: zero bits under ZM in the columns that it takes, else the old value. -/
def cvtRest (f : Fields) (c : Nat) : Option Nat := if (cvtCol f c).isSome && f.mb 4 then some 0 else none

section
variable (k : Core) (f : Fields)

theorem Core.cvtRow_val (r : Nat) {c : Nat} (hc : c < colsOf (fmtBits f.fmt.toNat)) : (k.cvtRow f r).vals.getD c none =
    ((k.cvtElt f r c).map (fun x => convTo f.fmt.toNat x.2 (f.mb 8) x.1)).or (cvtRest f c) := by
  unfold Core.cvtRow
  dsimp only
  rw [List.map_map, List.map_map, getD_map_range _ _ hc]
  dsimp only [Function.comp]
  cases k.cvtElt f r c <;> rfl

theorem Core.cvtRow_whole (r : Nat) : (k.cvtRow f r).whole = (decide (colsOf (fmtBits f.fmt.toNat) ≤ colsOf (fmtBits (f.m 17 14)))
    && (f.mb 4 || (List.range (colsOf (fmtBits f.fmt.toNat))).all (fun c => (k.cvtElt f r c).isSome))) := by
  unfold Core.cvtRow
  dsimp only
  rw [List.all_map]
  rfl

end

/-! ## To a block-scaled format -/

/-- The computed elements of block b of row r. -/
def Core.cvtBlk (k : Core) (f : Fields) (r b : Nat) : List (Option (Fv × Rm)) := (List.range 32).map (fun j => k.cvtElt f r (32 * b + j))

/-- R126: quantising a block turns each computed element into one element, and nothing else. -/
theorem quantBlock_elements (code : Nat) (vs : List (Option (Fv × Rm))) : ∃ g, (quantBlock code vs).2 = vs.map (·.map g) := by
  unfold quantBlock
  split <;> exact ⟨_, rfl⟩

theorem quantBlock_length (code : Nat) (vs : List (Option (Fv × Rm))) : (quantBlock code vs).2.length = vs.length := by
  obtain ⟨g, hg⟩ := quantBlock_elements code vs
  rw [hg, List.length_map]

theorem quantBlock_isSome (code : Nat) (vs : List (Option (Fv × Rm))) (j : Nat) :
    ((quantBlock code vs).2.getD j none).isSome = (vs.getD j none).isSome := by
  obtain ⟨g, hg⟩ := quantBlock_elements code vs
  rw [hg, List.getD_eq_getElem?_getD, List.getD_eq_getElem?_getD, List.getElem?_map]
  cases vs[j]? with
  | none => rfl
  | some v => exact Option.isSome_map

/-- A block without computed elements. -/
theorem quantBlock_none {code : Nat} {vs : List (Option (Fv × Rm))} (h : ¬ vs.any Option.isSome = true) :
    (quantBlock code vs).2 = List.replicate vs.length none := by
  obtain ⟨g, hg⟩ := quantBlock_elements code vs
  rw [hg, List.eq_replicate_iff]
  refine ⟨List.length_map _, fun x hx => ?_⟩
  obtain ⟨v, hv, rfl⟩ := List.mem_map.1 hx
  have hnone : v = none := by
    by_contra hne
    exact h (List.any_eq_true.2 ⟨v, hv, Option.isSome_iff_ne_none.2 hne⟩)
  rw [hnone, Option.map_none]

section
variable (k : Core) (f : Fields)

theorem Core.cvtBlk_length (r b : Nat) : (k.cvtBlk f r b).length = 32 := by rw [Core.cvtBlk, List.length_map, List.length_range]

theorem Core.cvtBlk_getD (r c : Nat) : (k.cvtBlk f r (c / 32)).getD (c % 32) none = k.cvtElt f r c := by
  rw [Core.cvtBlk, getD_map_range _ _ (Nat.mod_lt c (by decide)), Nat.div_add_mod]

/-- The blocks of a row: each has its number, its scale byte where an element is computed, and its quantised elements. -/
theorem Core.cvtBlocks_eq (r : Nat) : ∃ g, k.cvtBlocks f r = (List.range (colsOf (fmtBits f.fmt.toNat) / 32)).map g ∧ ∀ b, (g b).1 = b
    ∧ (g b).2.1 = (if (k.cvtBlk f r b).any Option.isSome = true then some (quantBlock f.fmt.toNat (k.cvtBlk f r b)).1 else none)
    ∧ (g b).2.2.1 = (quantBlock f.fmt.toNat (k.cvtBlk f r b)).2 := by
  refine ⟨_, rfl, fun b => ?_⟩
  dsimp only
  rw [← Core.cvtBlk]
  by_cases h : (k.cvtBlk f r b).any Option.isSome = true
  · rw [if_pos h, if_pos h]
    exact ⟨rfl, rfl, rfl⟩
  · rw [if_neg h, if_neg h, quantBlock_none h, Core.cvtBlk_length]
    exact ⟨rfl, rfl, rfl⟩

/-- Element (r, c) of a conversion to a block-scaled format, where it is computed. -/
def Core.cvtQuant (r c : Nat) : Option Nat := (quantBlock f.fmt.toNat (k.cvtBlk f r (c / 32))).2.getD (c % 32) none

theorem Core.cvtQuant_isSome (r c : Nat) : (k.cvtQuant f r c).isSome = (k.cvtElt f r c).isSome := by
  rw [Core.cvtQuant, quantBlock_isSome, Core.cvtBlk_getD]

/-- The blocks' elements in a row are those of its columns. -/
theorem Core.cvtBlocks_elements (hcols : colsOf (fmtBits f.fmt.toNat) / 32 * 32 = colsOf (fmtBits f.fmt.toNat)) (r : Nat) :
    (k.cvtBlocks f r).flatMap (fun b => b.2.2.1) = (List.range (colsOf (fmtBits f.fmt.toNat))).map (k.cvtQuant f r) := by
  obtain ⟨g, hg, hblk⟩ := k.cvtBlocks_eq f r
  have hlen : ∀ b, b < colsOf (fmtBits f.fmt.toNat) / 32 → (g b).2.2.1.length = 32 := fun b _ => by
    rw [(hblk b).2.2, quantBlock_length, Core.cvtBlk_length]
  rw [hg, List.flatMap_map, flatMap_range_eq_map none _ _ hlen, hcols]
  refine List.map_congr_left fun c _ => ?_
  rw [(hblk (c / 32)).2.2, Core.cvtQuant]

/-- The scale byte of block b, as it is found among a row's blocks. -/
theorem Core.cvtBlocks_scale (r b : Nat) : ((k.cvtBlocks f r).find? (fun x => x.1 = b)).bind (fun x => x.2.1) =
    if b < colsOf (fmtBits f.fmt.toNat) / 32 ∧ (k.cvtBlk f r b).any Option.isSome = true then
      some (quantBlock f.fmt.toNat (k.cvtBlk f r b)).1 else none := by
  obtain ⟨g, hg, hblk⟩ := k.cvtBlocks_eq f r
  have hnumber : ((fun x : Nat × Option Nat × List (Option Nat) × (Nat × Nat) => decide (x.1 = b)) ∘ g) = fun x => decide (x = b) :=
    funext fun x => by rw [Function.comp, (hblk x).1]
  rw [hg, List.find?_map, hnumber]
  by_cases hb : b < colsOf (fmtBits f.fmt.toNat) / 32
  · have hfind : (List.range (colsOf (fmtBits f.fmt.toNat) / 32)).find? (fun x => x = b) = some b := by
      rw [List.find?_range_eq_some]
      refine ⟨decide_eq_true rfl, List.mem_range.2 hb, fun j hj => ?_⟩
      rw [decide_eq_false (by omega)]
      rfl
    rw [hfind, Option.map_some, Option.bind_some, (hblk b).2.1]
    simp only [hb, true_and]
  · have hfind : (List.range (colsOf (fmtBits f.fmt.toNat) / 32)).find? (fun x => x = b) = none := by
      rw [List.find?_range_eq_none]
      intro j hj
      rw [decide_eq_false (by omega)]
      rfl
    rw [hfind, if_neg fun h => hb h.1]
    rfl

end

/-! ## The scale bytes' poison -/

theorem Core.writeTile_view (k : Core) (n w : Nat) (g : Nat → RowOut) : (k.writeTile n w g).view = k.view := by
  rw [Core.writeTile_eq, Core.nfBump_view, Core.writeRows_view]

theorem Core.onlyTiles.ppois_eq {k t : Core} (h : k.onlyTiles t) : t.opnd.ppois = k.opnd.ppois := by
  unfold Core.onlyTiles Core.sameBundle at h
  rw [← h]

/-- A poison that is read again after it was added to the rows it came from, or replaced theirs. -/
theorem poison_read_again : ∀ a s b p inA inB oldA oldB : Bool,
    ((if inA then (a || (s && b) || p) || (oldA && a) else a) || (s && if inB then (a || (s && b) || p) || (oldB && b) else b) || p)
      = (a || (s && b) || p) := by decide

/-- The scale bytes of a conversion take the poison of its elements, also where no bundle holds the operands and the elements' tile is a
source. -/
theorem Core.cvtPoison_writeTile (k : Core) {f : Fields} {n w : Nat} {g : Nat → RowOut} (hn : n < 32)
    (hg : ∀ r, (g r).poison = k.cvtPoison f r) {r : Nat} (hr : r < 32) : (k.writeTile n w g).cvtPoison f r = k.cvtPoison f r := by
  cases hv : k.view with
  | some o =>
    have hrd : (k.writeTile n w g).rd = k.rd := by rw [Core.rd, Core.rd, k.writeTile_view, hv, Option.getD_some, Option.getD_some]
    rw [Core.cvtPoison, Core.tpz, Core.tpz, Core.ppz, hrd]
    rfl
  | none =>
    have hrd : k.rd = k.opnd := by rw [Core.rd, hv, Option.getD_none]
    have hrd' : (k.writeTile n w g).rd = (k.writeTile n w g).opnd := by rw [Core.rd, k.writeTile_view, hv, Option.getD_none]
    have htpz (a : Nat) : (k.writeTile n w g).tpz a r = if decide (a = n) then k.cvtPoison f r || (!(g r).whole && k.tpz a r)
        else k.tpz a r := by
      rw [Core.tpz, Core.tpz, hrd, hrd']
      by_cases ha : a = n
      · rw [if_pos (decide_eq_true ha), ha, (k.writeTile_takes hn w g).2 r hr, ← hg r]
      · rw [if_neg (by simpa using ha), (k.writeTile_keepsTiles hn w g).tpois_eq (by simpa using ha) hr]
    have hppz (p : Nat) : (k.writeTile n w g).ppz p r = k.ppz p r := by
      rw [Core.ppz, Core.ppz, hrd, hrd', (k.writeTile_onlyTiles n w g).ppois_eq]
    rw [Core.cvtPoison, htpz, htpz, hppz]
    exact poison_read_again _ _ _ _ _ _ _ _

section
variable (k : Core) (f : Fields)

/-- VCVT to a block-scaled format: elements to dst, scale bytes to the tile above (R126). -/
theorem Core.cvtScaled_takes (hdst : f.dst.toNat + 1 < 32) (hcols : colsOf (fmtBits f.fmt.toNat) / 32 * 32 = colsOf (fmtBits f.fmt.toNat)) :
    k.tileTakes (k.cvtScaled f) f.dst.toNat (fmtBits f.fmt.toNat) (fun r c => (k.cvtQuant f r c).or (cvtRest f c)) (k.cvtPoison f)
        (fun r => decide (colsOf (fmtBits f.fmt.toNat) ≤ colsOf (fmtBits (f.m 17 14)))
          && (f.mb 4 || (List.range (colsOf (fmtBits f.fmt.toNat))).all (fun c => (k.cvtElt f r c).isSome)))
      ∧ k.tileTakes (k.cvtScaled f) (f.dst.toNat + 1) 8
        (fun r b => if b < colsOf (fmtBits f.fmt.toNat) / 32 ∧ (k.cvtBlk f r b).any Option.isSome = true then
          some (quantBlock f.fmt.toNat (k.cvtBlk f r b)).1 else none) (k.cvtPoison f) (fun _ => false)
      ∧ k.keepsTiles (k.cvtScaled f) [f.dst.toNat, f.dst.toNat + 1] ∧ k.onlyTiles (k.cvtScaled f) := by
  unfold Core.cvtScaled
  extract_lets d nd blocks row k₁
  have hn : f.dst.toNat < 32 := by omega
  have hrow {r : Nat} (hr : r < 32) : row r = k.cvtBlocks f r := congrArg Prod.snd (getD_map_range _ _ hr)
  have hkeeps₁ : k.keepsTiles k₁ [f.dst.toNat] := k.writeTile_keepsTiles hn _ _
  have honly₁ : k.onlyTiles k₁ := k.writeTile_onlyTiles _ _ _
  refine ⟨Core.tileTakes.keeps ?_ (k₁.writeTile_keepsTiles hdst _ _) (by simp), hkeeps₁.takes (by simp) ?_,
    hkeeps₁.trans (k₁.writeTile_keepsTiles hdst _ _), honly₁.trans (k₁.writeTile_onlyTiles _ _ _)⟩
  · refine (k.writeTile_takes hn _ _).congr (fun r c hr hc => ?_) (fun _ _ => rfl) (fun r hr => ?_)
    · dsimp only
      rw [hrow hr, k.cvtBlocks_elements f hcols, List.getD_eq_getElem?_getD, List.getElem?_mapIdx, getElem?_map_range _ hc]
      cases k.cvtQuant f r c <;> rfl
    · dsimp only
      rw [hrow hr, k.cvtBlocks_elements f hcols, List.all_map]
      simp only [Function.comp_def, Core.cvtQuant_isSome]
      rfl
  · refine (k₁.writeTile_takes hdst _ _).congr (fun r b hr hb => ?_)
      (fun r hr => k.cvtPoison_writeTile hn (fun _ => rfl) hr) (fun _ _ => rfl)
    dsimp only
    rw [getD_map_range _ _ (show b < 128 from hb), hrow hr, ← k.cvtBlocks_scale f r b]
    cases (k.cvtBlocks f r).find? (fun x => x.1 = b) <;> rfl

end

/-- The bounds of a legal conversion to a block-scaled format: there is a tile for the scale bytes, and a row holds whole blocks. -/
theorem cvtBdst_bounds {f : Fields} (h : illegal 0x78 f = false) (hb : cvtBdst f = true) :
    f.dst.toNat + 1 < 32 ∧ colsOf (fmtBits f.fmt.toNat) / 32 * 32 = colsOf (fmtBits f.fmt.toNat) := by
  have hfmt : f.fmt.toNat ∈ [4, 5, 6, 7] := by
    simp only [cvtBdst, Bool.or_eq_true, Bool.and_eq_true, decide_eq_true_eq, List.contains_iff_mem, List.mem_cons, List.not_mem_nil,
      or_false] at hb ⊢
    omega
  have hbad : badVcvt f = false := (legal_fields (row := ⟨.t, .t, .t, .s, fAny, mPred + mRm + mSat + mPart + mBscl + mSub⟩) rfl h).2
  have hdst : f.dst ≠ 31 := by
    unfold badVcvt at hbad
    extract_lets s d ns nd bs bdst bsrc rm at hbad
    have hbdst : bdst = true := by simpa [bdst, d, bs, cvtBdst, or_assoc] using hb
    simp only [Bool.or_eq_false_iff, hbdst, Bool.true_and, decide_eq_false_iff_not] at hbad
    obtain ⟨⟨⟨⟨-, hdst, -⟩, -⟩, -⟩, -⟩ := hbad
    exact hdst
  refine ⟨?_, ?_⟩
  · have := f.dst.isLt
    have : f.dst.toNat ≠ 31 := fun e => hdst (BitVec.eq_of_toNat_eq e)
    omega
  · revert hfmt
    generalize f.fmt.toNat = n
    revert n
    decide

end Sys2Proof.Machine
end

section
/-!
# O15: reductions (R127 to R129)

A reduction folds each sequence of its source and lays the results out in its destination.
-/
namespace Sys2Proof.Machine

/-- The columns of the source. -/
def redFrom (f : Fields) : Nat := colsOf (fmtBits f.fmt.toNat)

/-- The columns of the destination. -/
def redTo (f : Fields) : Nat := colsOf (redAcc f).bits

/-- Row r of the source. -/
def Core.redRow (k : Core) (f : Fields) (r : Nat) : List (Option RElt) := (List.range (redFrom f)).map (k.redElt f r)

/-- Column c of the source. -/
def Core.redCol (k : Core) (f : Fields) (c : Nat) : List (Option RElt) := rows32.map (fun r => k.redElt f r c)

/-! ## The bounds of a legal reduction -/

theorem redTo_eq (f : Fields) : redTo f = if f.fmt.toNat = 0 then 16 else 32 := by
  have hacc : redAcc f = if f.fmt.toNat = 0 then (if f.m 17 14 = 8 then .i64 else .f64) else if redInt f then .i32 else .f32 := by
    by_cases h0 : f.fmt.toNat = 0 <;> by_cases h8 : f.m 17 14 = 8 <;> simp [redAcc, redInt, h0, h8]
  rw [redTo, hacc]
  split_ifs <;> rfl

theorem redTo_pos (f : Fields) : 0 < redTo f := by
  rw [redTo_eq]
  split <;> decide

/-- The rows over which the columns' results extend: the last of them, too, has a result in its column 0. -/
def redRows (f : Fields) : Nat := (redFrom f + redTo f - 1) / redTo f

theorem lt_redRows {f : Fields} {j : Nat} : j < redRows f ↔ j * redTo f < redFrom f := by
  have hpos := redTo_pos f
  rw [redRows, Nat.lt_iff_add_one_le, Nat.le_div_iff_mul_le hpos, Nat.add_mul, Nat.one_mul]
  omega

/-- The rows that a legal reduction of columns writes lie in its tile. -/
theorem redRows_fit {f : Fields} {op : Nat} (hop : op ∈ [0x80, 0x81, 0x82, 0x83, 0x84]) (h : illegal op f = false) (haxis : f.mb 9 = true) :
    f.m 22 18 + redRows f ≤ 32 := by
  have hbad : badReduce f = false := by
    simp only [List.mem_cons, List.not_mem_nil, or_false] at hop
    rcases hop with rfl | rfl | rfl | rfl | rfl <;>
      exact (legal_fields (row := ⟨.t, .t, .t, .no, fAny, mPred + mAxis + mIdx + mSub + mBscl⟩) rfl h).2
  simp only [badReduce, Bool.or_eq_false_iff, haxis, if_true, decide_eq_false_iff_not, not_lt] at hbad
  rw [redRows, redTo_eq]
  exact hbad.2

/-! ## What is written -/

/-- Elements that begin at column m. -/
theorem getD_replicate_none_append {α : Type} (m : Nat) (l : List (Option α)) (c : Nat) :
    (List.replicate m none ++ l).getD c none = if m ≤ c then l.getD (c - m) none else none := by
  rw [List.getD_eq_getElem?_getD]
  split
  · rename_i h
    rw [List.getElem?_append_right (by rwa [List.length_replicate]), List.length_replicate, List.getD_eq_getElem?_getD]
  · rename_i h
    rw [List.getElem?_append_left (by rw [List.length_replicate]; omega), List.getElem?_replicate_of_lt (by omega)]
    rfl

section
variable (k : Core) (f : Fields) (g : List (Option RElt) → Nat × (Nat × Nat))

/-- Element (r, c) of the destination. -/
def Core.redVal (fold : List (Option RElt) → Nat) (r c : Nat) : Option Nat :=
  if f.mb 9 then
    (if f.m 22 18 ≤ r ∧ (r - f.m 22 18) * redTo f + c < redFrom f then some (fold (k.redCol f ((r - f.m 22 18) * redTo f + c))) else none)
  else if c = f.m 22 18 then some (fold (k.redRow f r)) else none

/-- The poison contribution of row r. -/
def Core.redZ (r : Nat) : Bool :=
  if f.mb 9 then decide (f.m 22 18 ≤ r ∧ (r - f.m 22 18) * redTo f < redFrom f) && rows32.any (k.redPz f) else k.redPz f r

/-- Whether row r is written whole. -/
def redWhole (r : Nat) : Bool := f.mb 9 && decide (f.m 22 18 ≤ r ∧ (r - f.m 22 18) * redTo f + redTo f ≤ redFrom f)

theorem Core.redSeqs_rows (haxis : f.mb 9 = false) : k.redSeqs f = rows32.map (k.redRow f) := by
  rw [Core.redSeqs, haxis]
  rfl

theorem Core.redSeqs_cols (haxis : f.mb 9 = true) : k.redSeqs f = (List.range (redFrom f)).map (k.redCol f) := by
  rw [Core.redSeqs, haxis]
  rfl

/-- AXIS 0: each row's result in column IDX. -/
theorem Core.reduce_rows (haxis : f.mb 9 = false) : k.reduce f (redAcc f).bits g = k.writeTile f.dst.toNat (redAcc f).bits (fun r =>
    { vals := List.replicate (f.m 22 18) none ++ [some (((k.redSeqs f).map g).getD r (0, (0, 0))).1], whole := false, poison := k.redPz f r,
      cnt := (((k.redSeqs f).map g).getD r (0, (0, 0))).2 }) := by
  rw [Core.reduce, haxis]
  rfl

/-- AXIS 1: the columns' results, in order, from row IDX on. -/
theorem Core.reduce_cols (haxis : f.mb 9 = true) : k.reduce f (redAcc f).bits g =
    (k.writeRows f.dst.toNat (redAcc f).bits ((List.range (redRows f)).map (f.m 22 18 + ·))
      (fun r c => (((((k.redSeqs f).map g).drop ((r - f.m 22 18) * redTo f)).take (redTo f))[c]?).map (·.1))
      (fun r => decide (((((k.redSeqs f).map g).drop ((r - f.m 22 18) * redTo f)).take (redTo f)).length = redTo f))
      (fun _ => rows32.any (k.redPz f))).nfBump (sumCounts (((k.redSeqs f).map g).map (·.2))) := by
  have hlen : ((k.redSeqs f).map g).length = redFrom f := by
    rw [List.length_map, Core.redSeqs_cols k f haxis, List.length_map, List.length_range]
  rw [Core.reduce, haxis, hlen]
  rfl

theorem Core.reduce_onlyTiles : k.onlyTiles (k.reduce f (redAcc f).bits g) := by
  cases haxis : f.mb 9 with
  | false =>
    rw [k.reduce_rows f g haxis]
    exact k.writeTile_onlyTiles _ _ _
  | true =>
    rw [k.reduce_cols f g haxis]
    exact (k.writeRows_onlyTiles _ _ _ _).trans (Core.nfBump_onlyTiles _ _)

/-- Whether row r is among those that a reduction of columns writes. -/
theorem mem_redRows {r : Nat} :
    r ∈ (List.range (redRows f)).map (f.m 22 18 + ·) ↔ f.m 22 18 ≤ r ∧ (r - f.m 22 18) * redTo f < redFrom f := by
  rw [List.mem_map, ← lt_redRows]
  constructor
  · rintro ⟨j, hj, rfl⟩
    exact ⟨Nat.le_add_right _ _, by rwa [Nat.add_sub_cancel_left, ← List.mem_range]⟩
  · rintro ⟨hle, hlt⟩
    exact ⟨r - f.m 22 18, List.mem_range.2 hlt, Nat.add_sub_cancel' hle⟩

variable (hfit : f.mb 9 = true → f.m 22 18 + redRows f ≤ 32)
include hfit

theorem mem_redRows_lt (haxis : f.mb 9 = true) {r : Nat} (hr : r ∈ (List.range (redRows f)).map (f.m 22 18 + ·)) : r < 32 := by
  obtain ⟨j, hj, rfl⟩ := List.mem_map.1 hr
  have := hfit haxis
  have := List.mem_range.1 hj
  omega

theorem Core.reduce_keepsTiles : k.keepsTiles (k.reduce f (redAcc f).bits g) [f.dst.toNat] := by
  cases haxis : f.mb 9 with
  | false =>
    rw [k.reduce_rows f g haxis]
    exact k.writeTile_keepsTiles f.dst.isLt _ _
  | true =>
    rw [k.reduce_cols f g haxis]
    exact (k.writeRows_keepsTiles _ _ _ _ f.dst.isLt fun r => mem_redRows_lt f hfit haxis).of_opnd rfl (Core.nfBump_opnd _ _)

theorem Core.reduce_takes : k.tileTakes (k.reduce f (redAcc f).bits g) f.dst.toNat (redAcc f).bits (k.redVal f fun xs => (g xs).1)
    (k.redZ f) (redWhole f) := by
  cases haxis : f.mb 9 with
  | false =>
    rw [k.reduce_rows f g haxis]
    refine (k.writeTile_takes f.dst.isLt _ _).congr (fun r c hr _ => ?_) (fun r _ => ?_) (fun r _ => ?_)
    · dsimp only
      rw [k.redSeqs_rows f haxis, rows32, List.map_map, getD_map_range _ _ hr, getD_replicate_none_append, Core.redVal, haxis,
        if_neg Bool.false_ne_true]
      by_cases hc : c = f.m 22 18
      · rw [if_pos hc.ge, if_pos hc, hc, Nat.sub_self]
        rfl
      · rw [if_neg hc]
        split
        · exact List.getD_eq_default _ _ (by rw [List.length_singleton]; omega)
        · rfl
    · rw [Core.redZ, haxis]
      rfl
    · rw [redWhole, haxis]
      rfl
  | true =>
    rw [k.reduce_cols f g haxis]
    have hnodup : ((List.range (redRows f)).map (f.m 22 18 + ·)).Nodup := List.nodup_range.map fun a b h => Nat.add_left_cancel h
    refine ((k.writeRows_takes _ _ _ _ f.dst.isLt (fun r => mem_redRows_lt f hfit haxis) hnodup).of_opnd rfl (Core.nfBump_opnd _ _)).congr
      (fun r c _ hc => ?_) (fun r _ => ?_) (fun r _ => ?_)
    · rw [k.redSeqs_cols f haxis, Core.redVal, haxis, if_pos rfl, List.getElem?_take,
        if_pos (show c < redTo f from hc), List.getElem?_drop, List.map_map]
      by_cases hin : f.m 22 18 ≤ r ∧ (r - f.m 22 18) * redTo f + c < redFrom f
      · rw [if_pos ((mem_redRows f).2 ⟨hin.1, by omega⟩), if_pos hin, getElem?_map_range _ hin.2]
        rfl
      · rw [if_neg hin]
        split
        · rename_i hr
          rw [List.getElem?_eq_none]
          · rfl
          · rw [List.length_map, List.length_range]
            have := ((mem_redRows f).1 hr).1
            omega
        · rfl
    · rw [Core.redZ, haxis, if_pos rfl, decide_eq_decide.2 (mem_redRows f)]
    · have hpos := redTo_pos f
      rw [redWhole, haxis, Bool.true_and, ← Bool.decide_and, decide_eq_decide, mem_redRows, List.length_take, List.length_drop,
        List.length_map, k.redSeqs_cols f haxis, List.length_map, List.length_range]
      omega

end

/-- A reduction, by what its fold makes of a sequence. -/
theorem State.reduce_writesTile {s : State} {c : Instr} {op : Nat} {i : Issue} {f : Fields} {g : List (Option RElt) → Nat × (Nat × Nat)}
    (hexec : exec c s = s.issueCore op i f (Core.reduce f (redAcc f).bits g)) (hop : op ∈ [0x80, 0x81, 0x82, 0x83, 0x84])
    (h : s.ready op i f) : s.writesTile c op i f.dst.toNat (redAcc f).bits (fun k => k.redVal f fun xs => (g xs).1) (fun k => k.redZ f)
      (fun _ => redWhole f) := by
  have hfit := redRows_fit hop h.legal
  exact State.writesTile_of_body hexec h (fun k => k.reduce_takes f g hfit) (fun k => k.reduce_keepsTiles f g hfit)
    (fun k => k.reduce_onlyTiles f g)

end Sys2Proof.Machine
end

section
/-!
# O15: PACK24 (R103 to R105)

A group keeps two of its four elements, whatever they are; the tile that PACK24 writes takes them in pairs.
-/
namespace Sys2Proof.Machine

/-! ## Two of four are kept -/

/-- Whether element q of a group ranks above element p: by its key, and before it among equals (R103). -/
def packAbove (keys : List (Nat × ℚ)) (q p : Nat) : Bool :=
  keyGt (keys.getD q (0, 0)) (keys.getD p (0, 0)) || (keys.getD q (0, 0) = keys.getD p (0, 0) && decide (q < p))

/-- The place of an element in the ranking of its group, as an element of a linear order. -/
def packPlace (keys : List (Nat × ℚ)) (p : Nat) : ℕ ×ₗ ℚ ×ₗ ℕᵒᵈ :=
  toLex ((keys.getD p (0, 0)).1, toLex ((keys.getD p (0, 0)).2, OrderDual.toDual p))

theorem packAbove_iff (keys : List (Nat × ℚ)) (q p : Nat) : packAbove keys q p = true ↔ packPlace keys p < packPlace keys q := by
  unfold packAbove packPlace keyGt
  generalize keys.getD q (0, 0) = x
  generalize keys.getD p (0, 0) = y
  simp only [Prod.Lex.toLex_lt_toLex, OrderDual.toDual_lt_toDual, Bool.or_eq_true, Bool.and_eq_true, decide_eq_true_eq, Prod.ext_iff,
    gt_iff_lt, eq_comm (a := y.1), eq_comm (a := y.2)]
  tauto

theorem packPlace_injective (keys : List (Nat × ℚ)) : Function.Injective (packPlace keys) := fun p q h => by
  unfold packPlace at h
  exact (Prod.mk.inj (Prod.mk.inj h).2).2

/-- How many elements of a group rank above element p. -/
def packRank (keys : List (Nat × ℚ)) (p : Nat) : Nat := {q ∈ Finset.range 4 | packPlace keys p < packPlace keys q}.card

theorem packRank_lt (keys : List (Nat × ℚ)) {p q : Nat} (hq : q < 4) (h : packPlace keys p < packPlace keys q) :
    packRank keys q < packRank keys p := by
  refine Finset.card_lt_card ((Finset.ssubset_iff_of_subset fun x hx => ?_).2 ⟨q, ?_, fun hself => ?_⟩)
  · obtain ⟨hx, hlt⟩ := Finset.mem_filter.1 hx
    exact Finset.mem_filter.2 ⟨hx, h.trans hlt⟩
  · exact Finset.mem_filter.2 ⟨Finset.mem_range.2 hq, h⟩
  · exact lt_irrefl _ (Finset.mem_filter.1 hself).2

theorem packRank_injOn (keys : List (Nat × ℚ)) : Set.InjOn (packRank keys) (Finset.range 4) := by
  intro p hp q hq heq
  by_contra hne
  rcases lt_or_gt_of_ne ((packPlace_injective keys).ne hne) with h | h
  · exact (packRank_lt keys (Finset.mem_range.1 hq) h).ne' heq
  · exact (packRank_lt keys (Finset.mem_range.1 hp) h).ne heq

/-- The ranks in a group are 0 to 3. -/
theorem image_packRank (keys : List (Nat × ℚ)) : (Finset.range 4).image (packRank keys) = Finset.range 4 := by
  refine Finset.eq_of_subset_of_card_le (fun n hn => ?_) (Finset.card_image_of_injOn (packRank_injOn keys)).ge
  obtain ⟨p, hp, rfl⟩ := Finset.mem_image.1 hn
  exact Finset.mem_range.2 (Finset.card_lt_card (Finset.filter_ssubset.2 ⟨p, hp, lt_irrefl (packPlace keys p)⟩))

theorem packGroup_kept (code : Nat) (g : List Nat) : (packGroup code g).1.length = 2 := by
  unfold packGroup
  extract_lets vals keys rank kept nz
  have hrank : rank = packRank keys := funext fun p => by
    have habove : (fun q => packAbove keys q p) = fun q => decide (packPlace keys p < packPlace keys q) :=
      funext fun q => Bool.eq_iff_iff.2 ((packAbove_iff keys q p).trans decide_eq_true_iff.symm)
    exact congrArg (fun above => ((List.range 4).filter above).length) habove
  calc (kept.map _).length = {p ∈ Finset.range 4 | packRank keys p < 2}.card := by rw [List.length_map, ← hrank]; rfl
    _ = ({p ∈ Finset.range 4 | packRank keys p < 2}.image (packRank keys)).card :=
      (Finset.card_image_of_injOn ((packRank_injOn keys).mono (Finset.filter_subset _ _))).symm
    _ = {n ∈ (Finset.range 4).image (packRank keys) | n < 2}.card := by rw [Finset.filter_image]
    _ = 2 := by rw [image_packRank]; rfl

/-! ## Registers of a core, by the list that holds them -/

theorem Core.reg_of_cregs {k t : Core} (h : t.cregs = k.cregs) (o : Nat) : t.reg o = k.reg o := by rw [Core.reg, h, Core.reg]

theorem Core.fld_of_cregs {k t : Core} (h : t.cregs = k.cregs) (o hi lo : Nat) : t.fld o hi lo = k.fld o hi lo := by
  rw [Core.fld, Core.reg_of_cregs h, Core.fld]

theorem Core.setFld_cregs (k : Core) (o hi lo v : Nat) :
    (k.setFld o hi lo v).cregs = mapPut (regReset (0x10000000 + o)) k.cregs o (setBits hi lo v (k.reg o)) := rfl

theorem Core.onlyTiles.with_cregs {k t : Core} (h : k.onlyTiles t) (l : List (Nat × Word32)) :
    Core.onlyTiles { k with cregs := l } { t with cregs := l } := by
  unfold Core.onlyTiles Core.sameBundle at *
  rw [← h]

/-! ## What is written -/

section
variable (k : Core) (f : Fields)

/-- Group g of row r of source 1, packed: its two elements, their places, and how many non-zeros were dropped. -/
def Core.packed (r g : Nat) : List Nat × Nat × Nat :=
  packGroup f.fmt.toNat ((List.range 4).map (fun p => elt (fmtBits f.fmt.toNat) (k.trow f.a.toNat r) (4 * g + p)))

theorem Core.packRowOf_eq (r : Nat) : k.packRowOf f r = (List.range (colsOf (fmtBits f.fmt.toNat) / 4)).map (k.packed f r) := rfl

/-- The non-zeros that a PACK24 drops, in all. -/
def Core.packDropped : Nat :=
  (rows32.map (fun r => ((List.range (colsOf (fmtBits f.fmt.toNat) / 4)).map (fun g => (k.packed f r g).2.2)).sum)).sum

theorem Core.packDropped_eq_zero_iff : k.packDropped f = 0 ↔
    ∀ r g, r < 32 → g < colsOf (fmtBits f.fmt.toNat) / 4 → (k.packed f r g).2.2 = 0 := by
  rw [Core.packDropped, List.sum_eq_zero_iff]
  simp only [List.forall_mem_map, List.sum_eq_zero_iff, List.mem_range, mem_rows32]
  exact ⟨fun h r g hr hg => h r hr g hg, fun h r hr g hg => h r g hr hg⟩

/-- Element (r, c) of dst: in the half that HALF names, each group's two kept elements in turn (R104). -/
def Core.packVal (r c : Nat) : Option Nat :=
  if f.m 10 10 * (colsOf (fmtBits f.fmt.toNat) / 2) ≤ c ∧
      c < f.m 10 10 * (colsOf (fmtBits f.fmt.toNat) / 2) + colsOf (fmtBits f.fmt.toNat) / 2 then
    some ((k.packed f r ((c - f.m 10 10 * (colsOf (fmtBits f.fmt.toNat) / 2)) / 2)).1.getD
      ((c - f.m 10 10 * (colsOf (fmtBits f.fmt.toNat) / 2)) % 2) 0)
  else none

/-- Byte b of row r of the tile above: the places of two groups' elements (R104). -/
def Core.packByte (r b : Nat) : Option Nat :=
  if f.m 10 10 * (colsOf (fmtBits f.fmt.toNat) / 8) ≤ b ∧
      b < f.m 10 10 * (colsOf (fmtBits f.fmt.toNat) / 8) + colsOf (fmtBits f.fmt.toNat) / 8 then
    some ((k.packed f r (2 * (b - f.m 10 10 * (colsOf (fmtBits f.fmt.toNat) / 8)))).2.1
      + 16 * (k.packed f r (2 * (b - f.m 10 10 * (colsOf (fmtBits f.fmt.toNat) / 8)) + 1)).2.1)
  else none

variable (hcols : colsOf (fmtBits f.fmt.toNat) / 8 * 8 = colsOf (fmtBits f.fmt.toNat))
include hcols

theorem Core.packRowOf_elements (r c : Nat) : (List.replicate (f.m 10 10 * (colsOf (fmtBits f.fmt.toNat) / 2)) none
    ++ ((k.packRowOf f r).flatMap Prod.fst).map some).getD c none = k.packVal f r c := by
  have hhalf : colsOf (fmtBits f.fmt.toNat) / 4 * 2 = colsOf (fmtBits f.fmt.toNat) / 2 := by omega
  rw [getD_replicate_none_append, Core.packRowOf_eq, List.flatMap_map,
    flatMap_range_eq_map 0 (fun g => (k.packed f r g).1) _ fun g _ => packGroup_kept _ _, hhalf, Core.packVal]
  generalize f.m 10 10 * (colsOf (fmtBits f.fmt.toNat) / 2) = lo
  by_cases hlo : lo ≤ c
  · by_cases hhi : c - lo < colsOf (fmtBits f.fmt.toNat) / 2
    · rw [if_pos hlo, if_pos ⟨hlo, by omega⟩, List.map_map, getD_map_range _ _ hhi]
      rfl
    · rw [if_pos hlo, if_neg (by omega)]
      exact List.getD_eq_default _ _ (by rw [List.length_map, List.length_map, List.length_range]; omega)
  · rw [if_neg hlo, if_neg fun h => hlo h.1]

theorem Core.packRowOf_bytes (r b : Nat) : (List.replicate (f.m 10 10 * (colsOf (fmtBits f.fmt.toNat) / 8)) none
    ++ (List.range (colsOf (fmtBits f.fmt.toNat) / 8)).map (fun b => some
        (((k.packRowOf f r).map (fun g : List Nat × Nat × Nat => g.2.1)).getD (2 * b) 0
          + 16 * ((k.packRowOf f r).map (fun g : List Nat × Nat × Nat => g.2.1)).getD (2 * b + 1) 0))).getD b none = k.packByte f r b := by
  rw [getD_replicate_none_append, Core.packRowOf_eq, List.map_map, Core.packByte]
  generalize f.m 10 10 * (colsOf (fmtBits f.fmt.toNat) / 8) = lo
  by_cases hlo : lo ≤ b
  · by_cases hhi : b - lo < colsOf (fmtBits f.fmt.toNat) / 8
    · rw [if_pos hlo, if_pos ⟨hlo, by omega⟩, getD_map_range _ _ hhi, getD_map_range _ _ (by omega), getD_map_range _ _ (by omega)]
      rfl
    · rw [if_pos hlo, if_neg (by omega)]
      exact List.getD_eq_default _ _ (by rw [List.length_map, List.length_range]; omega)
  · rw [if_neg hlo, if_neg fun h => hlo h.1]

/-- PACK24 in two parts: its two tiles are written, and then the count of what it dropped. -/
theorem Core.pack24_tiles (hdst : f.dst.toNat + 1 < 32) : ∃ t, k.tileTakes t f.dst.toNat (fmtBits f.fmt.toNat) (k.packVal f)
      (k.tpz f.a.toNat) (fun _ => false)
    ∧ k.tileTakes t (f.dst.toNat + 1) 8 (k.packByte f) (k.tpz f.a.toNat) (fun _ => false)
    ∧ k.keepsTiles t [f.dst.toNat, f.dst.toNat + 1] ∧ k.onlyTiles t
    ∧ k.pack24 f = if k.packDropped f = 0 then t.bump kMAT_SPPRUNE (k.packDropped f)
      else (t.bump kMAT_SPPRUNE (k.packDropped f)).setFld kMAT_SPSTAT 0 0 1 := by
  unfold Core.pack24
  extract_lets w n half rows row dropped k₁ k₂ k₃
  have hn : f.dst.toNat < 32 := by omega
  have hrow {r : Nat} (hr : r < 32) : row r = k.packRowOf f r := congrArg Prod.snd (getD_map_range _ _ hr)
  have hdropped : dropped = k.packDropped f := by
    unfold dropped rows Core.packDropped
    simp only [List.map_map, Core.packRowOf_eq, Function.comp_def]
  have hkeeps₁ : k.keepsTiles k₁ [f.dst.toNat] := k.writeTile_keepsTiles hn _ _
  have hkeeps₂ : k₁.keepsTiles k₂ [f.dst.toNat + 1] := k₁.writeTile_keepsTiles hdst _ _
  have htakes₁ : k.tileTakes k₁ f.dst.toNat w (k.packVal f) (k.tpz f.a.toNat) (fun _ => false) := by
    refine (k.writeTile_takes hn _ _).congr (fun r c hr hc => ?_) (fun _ _ => rfl) (fun _ _ => rfl)
    dsimp only
    rw [hrow hr]
    exact k.packRowOf_elements f hcols r c
  have htakes₂ : k₁.tileTakes k₂ (f.dst.toNat + 1) 8 (k.packByte f) (k.tpz f.a.toNat) (fun _ => false) := by
    refine (k₁.writeTile_takes hdst _ _).congr (fun r b hr hb => ?_) (fun _ _ => rfl) (fun _ _ => rfl)
    dsimp only
    rw [hrow hr]
    exact k.packRowOf_bytes f hcols r b
  have honly : k.onlyTiles k₂ := (k.writeTile_onlyTiles _ _ _).trans (k₁.writeTile_onlyTiles _ _ _)
  refine ⟨k₂, htakes₁.keeps hkeeps₂ (by simp), hkeeps₁.takes (by simp) htakes₂, hkeeps₁.trans hkeeps₂, honly, ?_⟩
  rw [← hdropped]

/-- What a PACK24 leaves: its two tiles, and MAT.SPSTAT where it dropped something other than zero (R105). -/
theorem Core.pack24_takes (hdst : f.dst.toNat + 1 < 32) : k.tileTakes (k.pack24 f) f.dst.toNat (fmtBits f.fmt.toNat) (k.packVal f)
      (k.tpz f.a.toNat) (fun _ => false)
    ∧ k.tileTakes (k.pack24 f) (f.dst.toNat + 1) 8 (k.packByte f) (k.tpz f.a.toNat) (fun _ => false)
    ∧ k.keepsTiles (k.pack24 f) [f.dst.toNat, f.dst.toNat + 1] ∧ k.onlyTiles { k.pack24 f with cregs := k.cregs }
    ∧ (k.pack24 f).cregs = if k.packDropped f = 0 then k.cregs else (k.setFld kMAT_SPSTAT 0 0 1).cregs := by
  obtain ⟨t, helts, hplaces, hkeeps, honly, heq⟩ := k.pack24_tiles f hcols hdst
  generalize k.packDropped f = n at heq ⊢
  have hopnd : (k.pack24 f).opnd = t.opnd := by rw [heq]; split <;> rfl
  refine ⟨helts.of_opnd rfl hopnd, hplaces.of_opnd rfl hopnd, hkeeps.of_opnd rfl hopnd, honly.trans ?_, ?_⟩
  · rw [heq, ← honly.cregs_eq]
    split <;> rfl
  · rw [heq]
    split
    · exact honly.cregs_eq
    · rw [Core.setFld_cregs, Core.setFld_cregs, Core.bump_cregs, Core.reg_of_cregs (Core.bump_cregs _ _ _),
        Core.reg_of_cregs honly.cregs_eq, honly.cregs_eq]

end

/-- R105: MAT.SPSTAT says whether any element other than zero was dropped, and no other register changes. -/
theorem Core.spstat_of_pack24 (k : Core) {t : Core} (f : Fields)
    (hregs : t.cregs = if k.packDropped f = 0 then k.cregs else (k.setFld kMAT_SPSTAT 0 0 1).cregs) :
    (∀ r g, r < 32 → g < colsOf (fmtBits f.fmt.toNat) / 4 → (k.packed f r g).2.2 ≠ 0 → t.fld kMAT_SPSTAT 0 0 = 1)
      ∧ ((∀ r g, r < 32 → g < colsOf (fmtBits f.fmt.toNat) / 4 → (k.packed f r g).2.2 = 0) → t.cregs = k.cregs)
      ∧ ∀ o, o ≠ kMAT_SPSTAT → t.reg o = k.reg o := by
  have hdropped := k.packDropped_eq_zero_iff f
  refine ⟨fun r g hr hg hne => ?_, fun hzero => ?_, fun o ho => ?_⟩
  · rw [if_neg fun h => hne (hdropped.1 h r g hr hg)] at hregs
    exact (Core.fld_of_cregs hregs _ _ _).trans (Core.setFld_fld_same _ _ _ _ _ (by decide))
  · rwa [if_pos (hdropped.2 hzero)] at hregs
  · split at hregs
    · exact Core.reg_of_cregs hregs o
    · exact (Core.reg_of_cregs hregs o).trans (Core.setFld_reg_other _ _ _ _ _ _ ho)

/-- The bounds of a legal PACK24: there is a tile for the places, and a row's groups fill whole bytes with them. -/
theorem pack24_bounds {f : Fields} (h : illegal 0x98 f = false) :
    f.dst.toNat + 1 < 32 ∧ colsOf (fmtBits f.fmt.toNat) / 8 * 8 = colsOf (fmtBits f.fmt.toNat) := by
  obtain ⟨hfmt, hbad⟩ := legal_fields (row := ⟨.t, .t, .no, .no, [2, 3, 4, 5, 6, 7], 0x400⟩) rfl h
  refine ⟨?_, ?_⟩
  · have hdst : f.dst.toNat ≠ 31 := fun e => of_decide_eq_false hbad (BitVec.eq_of_toNat_eq e)
    have := f.dst.isLt
    omega
  · revert hfmt
    generalize f.fmt.toNat = n
    revert n
    decide

end Sys2Proof.Machine
end

section
/-!
# O15: row statistics, and the statement (R154, R155)
-/
namespace Sys2Proof.Machine

section
variable (k : Core) (f : Fields)

/-- The computed elements of row r, as VRSTAT takes them. -/
def Core.statRow (r : Nat) : List (Option Fv) := (List.range (colsOf (ffOf f.fmt.toNat).bits)).map (fun c =>
  if k.predOn f r c then some (fdecode (ffOf f.fmt.toNat) (elt (ffOf f.fmt.toNat).bits (k.trow f.a.toNat r) c)) else none)

/-- Element (r, c) of a VRSTAT's destination: the four statistics from column IDX on. -/
def Core.statVal (r c : Nat) : Option Nat :=
  if f.m 22 18 ≤ c then ((rowStat (f.m 17 14 = 1) (k.statRow f r)).1[c - f.m 22 18]?).map (fencode .fp32) else none

/-- VRSTAT is a write of its destination, and counts. -/
theorem Core.rowStats_tile : ∃ t,
    k.tileTakes t f.dst.toNat 32 (k.statVal f) (fun r => k.tpz f.a.toNat r || k.ppz (f.m 2 0) r) (fun _ => false)
    ∧ k.keepsTiles t [f.dst.toNat] ∧ k.onlyTiles t
    ∧ ∃ n n', k.rowStats f = (t.bump kTBL_VCLAMP n).bump kCNT_SFRES n' := by
  unfold Core.rowStats
  extract_lets d w rows row clamps
  have hrow {r : Nat} (hr : r < 32) : (row r).1 = rowStat (f.m 17 14 = 1) (k.statRow f r) :=
    congrArg (fun x : Nat × (List Fv × Bool) × List Fv => x.2.1) (getD_map_range _ _ hr)
  refine ⟨_, (k.writeTile_takes f.dst.isLt 32 _).congr (fun r c hr _ => ?_) (fun _ _ => rfl) (fun _ _ => rfl),
    k.writeTile_keepsTiles f.dst.isLt 32 _, k.writeTile_onlyTiles _ _ _, _, _, rfl⟩
  dsimp only
  rw [hrow hr, getD_replicate_none_append, List.getD_eq_getElem?_getD, List.getElem?_map, Core.statVal]
  cases (rowStat (f.m 17 14 = 1) (k.statRow f r)).1[c - f.m 22 18]? <;> rfl

end

/-! ## The instructions -/

theorem State.writesTile.congr {s : State} {c : Instr} {op : Nat} {i : Issue} {n w : Nat} {val val' : Core → Nat → Nat → Option Nat}
    {z whole : Core → Nat → Bool} (h : s.writesTile c op i n w val z whole) (hval : ∀ k r c, val k r c = val' k r c) :
    s.writesTile c op i n w val' z whole := by
  rwa [show val' = val from funext fun k => funext fun r => funext fun c => (hval k r c).symm]

section
variable {s : State} {i : Issue} {f : Fields}

/-- VCVT to an unscaled format. -/
theorem State.vcvt_writesTile (h : s.ready 0x78 i f) (hb : cvtBdst f = false) :
    s.writesTile (.vcvt i f) 0x78 i f.dst.toNat (fmtBits f.fmt.toNat)
      (fun k r c => ((k.cvtElt f r c).map (fun x => convTo f.fmt.toNat x.2 (f.mb 8) x.1)).or (cvtRest f c)) (fun k => k.cvtPoison f)
      (fun k r => decide (colsOf (fmtBits f.fmt.toNat) ≤ colsOf (fmtBits (f.m 17 14)))
        && (f.mb 4 || (List.range (colsOf (fmtBits f.fmt.toNat))).all (fun c => (k.cvtElt f r c).isSome))) := by
  have hbody : (fun k : Core => if cvtBdst f then k.cvtScaled f else k.writeTile f.dst.toNat (fmtBits f.fmt.toNat) (k.cvtRow f))
      = fun k => k.writeTile f.dst.toNat (fmtBits f.fmt.toNat) (k.cvtRow f) := by simp only [hb, Bool.false_eq_true, if_false]
  refine State.writesTile_of_body (congrArg (s.issueCore 0x78 i f) hbody) h (fun k => ?_) (fun k => ?_) (fun k => ?_)
  · exact (k.writeTile_takes f.dst.isLt _ _).congr (fun r c _ hc => k.cvtRow_val f r hc) (fun _ _ => rfl) (fun r _ => k.cvtRow_whole f r)
  · exact k.writeTile_keepsTiles f.dst.isLt _ _
  · exact k.writeTile_onlyTiles _ _ _

/-- VCVT to a block-scaled format. -/
theorem State.vcvt_ready_scaled (h : s.ready 0x78 i f) (hb : cvtBdst f = true) : ∃ t, exec (.vcvt i f) s = .next t ∧ s.issueFrame t i ∧
    ∀ m, m ∈ s.members i.core → ((s.openedCore 0x78 i m).cvtScaled f).sameBundle (t.core m) := by
  have hbody : (fun k : Core => if cvtBdst f then k.cvtScaled f else k.writeTile f.dst.toNat (fmtBits f.fmt.toNat) (k.cvtRow f))
      = fun k => k.cvtScaled f := by simp only [hb, if_true]
  exact State.issueCore_ready (c := .vcvt i f) (g := fun k => k.cvtScaled f) (congrArg (s.issueCore 0x78 i f) hbody) h

/-- VRSTAT. -/
theorem State.vrstat_writesTile (h : s.ready 0xAF i f) : s.writesTile (.vrstat i f) 0xAF i f.dst.toNat 32 (fun k => k.statVal f)
    (fun k r => k.tpz f.a.toNat r || k.ppz (f.m 2 0) r) (fun _ _ => false) := by
  refine State.writesTile_of_body (g := Core.rowStats f) rfl h (fun k => ?_) (fun k => ?_) (fun k => ?_) <;>
    obtain ⟨t, htakes, hkeeps, honly, n, n', heq⟩ := k.rowStats_tile f <;> rw [heq]
  · exact htakes.of_opnd rfl rfl
  · exact hkeeps.of_opnd rfl rfl
  · exact honly.trans ((t.bump_onlyTiles _ n).trans (Core.bump_onlyTiles _ _ n'))

end

/-- Settles O15: each instruction is a write of rows; the elements, the poison and the bounds of each are those of its own lemmas. -/
theorem vectorTileEffects : Obligations.VectorTileEffects := by
  unfold Obligations.VectorTileEffects
  refine fun s i f => ⟨fun h hb => ?_, fun h hb => ?_, fun e he h => ?_, fun h => ?_, State.vrstat_writesTile⟩
  · refine (State.vcvt_writesTile h hb).congr fun k r c => ?_
    cases k.cvtElt f r c <;> rfl
  · obtain ⟨hdst, hcols⟩ := cvtBdst_bounds h.legal hb
    obtain ⟨t, ht, hframe, hcore⟩ := State.vcvt_ready_scaled h hb
    refine ⟨t, ht, hframe, fun m hm => ?_⟩
    rintro k blk rfl rfl
    have hopen := s.openedCore_same 0x78 i m
    have hend := hcore m hm
    obtain ⟨helts, hscales, hkeeps, honly⟩ := (s.openedCore 0x78 i m).cvtScaled_takes f hdst hcols
    refine ⟨(helts.of_opnd hopen.opnd_eq.symm hend.opnd_eq).congr (fun r c _ _ => ?_) (fun _ _ => rfl) (fun _ _ => rfl),
      hscales.of_opnd hopen.opnd_eq.symm hend.opnd_eq, hkeeps.of_opnd hopen.opnd_eq.symm hend.opnd_eq,
      hopen.onlyTiles.trans (honly.trans hend.onlyTiles)⟩
    split
    · rename_i v hv
      rw [show (s.openedCore 0x78 i m).cvtQuant f r c = some v from hv]
      rfl
    · rename_i hv
      rw [show (s.openedCore 0x78 i m).cvtQuant f r c = none from hv]
      rfl
  · rintro nc dc rfl rfl
    simp only [List.mem_cons, List.not_mem_nil, or_false] at he
    rcases he with rfl | rfl | rfl | rfl | rfl
    · exact State.reduce_writesTile (g := redOut f (fun a => foldSum a false)) rfl (by decide) h
    · exact State.reduce_writesTile (g := redOut f (fun a => foldSum a true)) rfl (by decide) h
    · exact State.reduce_writesTile (g := redOut f (fun a => foldExt a true)) rfl (by decide) h
    · exact State.reduce_writesTile (g := redOut f (fun a => foldExt a false)) rfl (by decide) h
    · exact State.reduce_writesTile (g := fun xs => (foldArg xs, (0, 0))) rfl (by decide) h
  · obtain ⟨hdst, hcols⟩ := pack24_bounds h.legal
    obtain ⟨t, ht, hframe, hcore⟩ := State.issueCore_ready (c := .pack24 i f) (g := Core.pack24 f) rfl h
    refine ⟨t, ht, hframe, fun m hm => ?_⟩
    rintro w n half grp rfl rfl rfl rfl
    have hopen := s.openedCore_same 0x98 i m
    have hend := hcore m hm
    obtain ⟨helts, hplaces, hkeeps, honly, hregs⟩ := (s.openedCore 0x98 i m).pack24_takes f hcols hdst
    obtain ⟨hset, hclear, hothers⟩ := (s.openedCore 0x98 i m).spstat_of_pack24 f (hend.cregs_eq.trans hregs)
    refine ⟨helts.of_opnd hopen.opnd_eq.symm hend.opnd_eq, hplaces.of_opnd hopen.opnd_eq.symm hend.opnd_eq,
      hkeeps.of_opnd hopen.opnd_eq.symm hend.opnd_eq, ?_, hset, fun hzero => (hclear hzero).trans hopen.cregs_eq,
      fun o ho => (hothers o ho).trans (Core.reg_of_cregs hopen.cregs_eq o)⟩
    rw [← hopen.cregs_eq]
    exact hopen.onlyTiles.trans (honly.trans (hend.onlyTiles.with_cregs _))

end Sys2Proof.Machine
end

section
/-!
# O8, O9: element-wise instructions (R116, R117, R120, R121, R123)

An element-wise instruction is a write of rows, each predicated; its elements are those of its operation, cut to the view's width.
-/
namespace Sys2Proof.Machine

/-! ## Writes described up to the width of an element -/

theorem elt_lt (w : Nat) (row : BitVec 1024) (c : Nat) : elt w row c < 2 ^ w := Nat.mod_lt _ (Nat.two_pow_pos w)

/-- What a tile takes, described by values that are the same once cut to the width of an element. -/
theorem Core.tileTakes.of_cut {k t : Core} {n w : Nat} {val val' : Nat → Nat → Option Nat} {z whole : Nat → Bool}
    (h : k.tileTakes t n w val z whole)
    (hval : ∀ r c, r < 32 → c < colsOf w → (val r c).map (· % 2 ^ w) = (val' r c).map (· % 2 ^ w)) : k.tileTakes t n w val' z whole := by
  refine ⟨fun r c hr hc => (h.1 r c hr hc).trans ?_, h.2⟩
  have hcut := hval r c hr hc
  cases hv : val r c <;> cases hv' : val' r c <;> simp_all

/-- An instruction whose body writes the rows of its destination: what it leaves is read off its rows. -/
theorem State.writesTile_of_rows {s : State} {c : Instr} {op : Nat} {i : Issue} {f : Fields} {w : Nat} {row : Core → Nat → RowOut}
    {val : Core → Nat → Nat → Option Nat} {z whole : Core → Nat → Bool}
    (hexec : exec c s = s.issueCore op i f (fun k => k.writeTile f.dst.toNat w (row k))) (h : s.ready op i f)
    (hval : ∀ k r c, r < 32 → c < colsOf w → ((row k r).vals.getD c none).map (· % 2 ^ w) = (val k r c).map (· % 2 ^ w))
    (hz : ∀ k r, r < 32 → (row k r).poison = z k r) (hwhole : ∀ k r, r < 32 → (row k r).whole = whole k r) :
    s.writesTile c op i f.dst.toNat w val z whole :=
  State.writesTile_of_body hexec h
    (fun k => ((k.writeTile_takes f.dst.isLt w _).of_cut (hval k)).congr (fun _ _ _ _ => rfl) (hz k) (hwhole k))
    (fun k => k.writeTile_keepsTiles f.dst.isLt w _) (fun k => k.writeTile_onlyTiles _ w _)

/-! ## Predicated rows -/

section
variable (k : Core) (f : Fields) (w r : Nat) (pz : Bool) (val : Nat → Nat × (Nat × Nat))

theorem Core.ewRow_val {c : Nat} (hc : c < colsOf w) :
    (k.ewRow f w r pz val).vals.getD c none = maskElt f (k.predOn f r c) (val c).1 := by
  unfold Core.ewRow
  dsimp only
  rw [List.map_map, getD_map_range _ _ hc, Function.comp, getD_map_range _ _ hc]
  cases k.predOn f r c <;> rfl

theorem Core.ewRow_whole : (k.ewRow f w r pz val).whole = maskedWhole f w k r := by
  unfold Core.ewRow maskedWhole
  dsimp only
  rw [List.all_map]
  rfl

end

theorem masked_eq (f : Fields) (g : Core → Nat → Nat → Nat) (k : Core) (r c : Nat) :
    masked f g k r c = maskElt f (k.predOn f r c) (g k r c) := rfl

theorem maskElt_cut (f : Fields) (on : Bool) {w v v' : Nat} (h : v % 2 ^ w = v' % 2 ^ w) :
    (maskElt f on v).map (· % 2 ^ w) = (maskElt f on v').map (· % 2 ^ w) := by
  unfold maskElt
  split
  · exact congrArg some h
  · rfl

/-- An element-wise instruction of `n` sources: its elements are those of `g`, up to the width, and its poison that of its sources. -/
theorem State.mapsTile_of_rows {s : State} {c : Instr} {op : Nat} {i : Issue} {f : Fields} {w n : Nat} {g : Nat → Nat → Nat → Nat}
    {pz : Core → Nat → Bool} {val : Core → Nat → Nat → Nat × (Nat × Nat)}
    (hexec : exec c s = s.issueCore op i f (fun k => k.writeTile f.dst.toNat w (fun r => k.ewRow f w r (pz k r) (val k r))))
    (h : s.ready op i f) (hval : ∀ k r c, (val k r c).1 % 2 ^ w =
      g (elt w (k.trow f.a.toNat r) c) (k.eltB f w r c) (elt w (k.trow f.c.toNat r) c) % 2 ^ w)
    (hpz : ∀ k r, pz k r = (k.tpz f.a.toNat r || (decide (2 ≤ n) && k.pzB f r) || (decide (3 ≤ n) && k.tpz f.c.toNat r))) :
    s.mapsTile c op i f w n g :=
  State.writesTile_of_rows hexec h
    (fun k r c _ hc => by rw [k.ewRow_val f w r _ _ hc, masked_eq, maskElt_cut f _ (hval k r c)])
    (fun k r _ => congrArg (· || k.ppz (f.m 2 0) r) (hpz k r)) (fun k r _ => k.ewRow_whole f w r _ _)

/-! ## Floating point -/

section
variable {s : State} {c : Instr} {op : Nat} {i : Issue} {f : Fields}

theorem State.mapsTile_of_fpMap1 {g : Fv → Fv} (hexec : exec c s = s.issueCore op i f (Core.fpMap1 f g)) (h : s.ready op i f) :
    s.mapsTile c op i f (ffOf f.fmt.toNat).bits 1 (fun a _ _ =>
      fencode (ffOf f.fmt.toNat) (rnd (ffOf f.fmt.toNat) (g (fdecode (ffOf f.fmt.toNat) a)))) :=
  State.mapsTile_of_rows hexec h (fun _ _ _ => rfl) (fun _ _ => by simp)

theorem State.mapsTile_of_fpMap2 {g : Fv → Fv → Fv} (hexec : exec c s = s.issueCore op i f (Core.fpMap2 f g)) (h : s.ready op i f) :
    s.mapsTile c op i f (ffOf f.fmt.toNat).bits 2 (fun a b _ =>
      fencode (ffOf f.fmt.toNat) (rnd (ffOf f.fmt.toNat) (g (fdecode (ffOf f.fmt.toNat) a) (fdecode (ffOf f.fmt.toNat) b)))) :=
  State.mapsTile_of_rows hexec h (fun _ _ _ => rfl) (fun _ _ => by simp)

theorem State.mapsTile_of_fpMap3 {g : Fv → Fv → Fv → Fv} (hexec : exec c s = s.issueCore op i f (Core.fpMap3 f g)) (h : s.ready op i f) :
    s.mapsTile c op i f (ffOf f.fmt.toNat).bits 3 (fun a b d =>
      fencode (ffOf f.fmt.toNat) (rnd (ffOf f.fmt.toNat)
        (g (fdecode (ffOf f.fmt.toNat) a) (fdecode (ffOf f.fmt.toNat) b) (fdecode (ffOf f.fmt.toNat) d)))) :=
  State.mapsTile_of_rows hexec h (fun _ _ _ => rfl) (fun _ _ => by simp)

end

/-- Settles O8: each instruction is a predicated write of rows, of one, two or three sources. -/
theorem vectorFloatResult : Obligations.VectorFloatResult := by
  unfold Obligations.VectorFloatResult
  refine fun s i f => ⟨fun e he h => ?_, fun h => State.mapsTile_of_rows rfl h (fun _ _ _ => rfl) (fun _ _ => by simp)⟩
  simp only [fpTable, List.mem_cons, List.not_mem_nil, or_false] at he
  rcases he with rfl | rfl | rfl | rfl | rfl | rfl | rfl | rfl | rfl | rfl
  · exact State.mapsTile_of_fpMap2 (g := fun a b => a.add b) rfl h
  · exact State.mapsTile_of_fpMap2 (g := fun a b => a.sub b) rfl h
  · exact State.mapsTile_of_fpMap2 (g := fun a b => a.mul b) rfl h
  · exact State.mapsTile_of_fpMap3 (g := fun a b c => a.fma b c) rfl h
  · exact State.mapsTile_of_fpMap3 (g := fun a b c => a.neg.fma b c) rfl h
  · exact State.mapsTile_of_fpMap2 (g := fun a b => a.max b) rfl h
  · exact State.mapsTile_of_fpMap2 (g := fun a b => a.min b) rfl h
  · exact State.mapsTile_of_fpMap1 (g := Fv.abs) rfl h
  · exact State.mapsTile_of_fpMap1 (g := Fv.neg) rfl h
  · exact State.mapsTile_of_fpMap2 (g := copySign) rfl h

/-! ## Integers and bits -/

/-- The integer that an element of w bits holds lies within w bits and a sign. -/
theorem intOf_bounds (f : Fields) {w v : Nat} (h : v < 2 ^ w) : -(2 ^ w : Int) ≤ intOf f w v ∧ intOf f w v < 2 ^ w := by
  have hv : (v : Int) < 2 ^ w := by exact_mod_cast h
  have hcast : ((2 ^ w : Nat) : Int) = 2 ^ w := by push_cast; rfl
  unfold intOf sint
  rw [Nat.mod_eq_of_lt h, hcast]
  dsimp only
  split_ifs <;> omega

theorem wrap_zero (w : Nat) : wrap w 0 = 0 := by
  rw [wrap, Int.zero_emod]
  rfl

theorem wrap_neg_one (w : Nat) : wrap w (-1) = 2 ^ w - 1 := by
  have hpos := Nat.two_pow_pos w
  rw [wrap, Int.emod_eq_add_self_emod, Int.emod_eq_of_lt (by omega) (by omega)]
  omega

/-- R70: an arithmetic shift by all the bits of an element leaves its sign in each. -/
theorem wrap_shift_out (w : Nat) {x : Int} (hlo : -(2 ^ w : Int) ≤ x) (hhi : x < 2 ^ w) :
    wrap w (x / 2 ^ w) = if x < 0 then 2 ^ w - 1 else 0 := by
  split
  · next h => rw [Int.ediv_eq_neg_one_of_neg_of_le h (by omega), wrap_neg_one]
  · rw [Int.ediv_eq_zero_of_lt (by omega) hhi, wrap_zero]

section
variable {s : State} {c : Instr} {op : Nat} {i : Issue} {f : Fields}

/-- An integer or bitwise instruction of two sources. -/
theorem State.mapsTile_of_intMap2 {g : Nat → Nat → Nat → Nat} {g' : Nat → Nat → Nat}
    (hexec : exec c s = s.issueCore op i f (Core.intMap2 f g)) (h : s.ready op i f)
    (hg : ∀ a b, a < 2 ^ fmtBits f.fmt.toNat →
      g (fmtBits f.fmt.toNat) a b % 2 ^ fmtBits f.fmt.toNat = g' a b % 2 ^ fmtBits f.fmt.toNat) :
    s.mapsTile c op i f (fmtBits f.fmt.toNat) 2 (fun a b _ => g' a b) :=
  State.mapsTile_of_rows hexec h (fun _ _ _ => hg _ _ (elt_lt _ _ _)) (fun _ _ => by simp)

end

/-- Settles O9: each instruction is a predicated write of rows, and VIOTA a write of whole ones. -/
theorem vectorIntegerResult : Obligations.VectorIntegerResult := by
  unfold Obligations.VectorIntegerResult
  refine fun s i f => ⟨fun e he h => ?_, fun h => ?_⟩
  · simp only [intTable, List.mem_cons, List.not_mem_nil, or_false] at he
    rcases he with rfl | rfl | rfl | rfl | rfl | rfl | rfl | rfl | rfl | rfl | rfl | rfl
    · exact State.mapsTile_of_intMap2 rfl h fun _ _ _ => Nat.mod_mod _ _
    · exact State.mapsTile_of_intMap2 rfl h fun _ _ _ => Nat.mod_mod _ _
    · exact State.mapsTile_of_intMap2 rfl h fun _ _ _ => Nat.mod_mod _ _
    · exact State.mapsTile_of_intMap2 rfl h fun _ _ _ => rfl
    · exact State.mapsTile_of_intMap2 rfl h fun _ _ _ => rfl
    · exact State.mapsTile_of_intMap2 rfl h fun _ _ _ => rfl
    · exact State.mapsTile_of_intMap2 rfl h fun _ _ _ => rfl
    · exact State.mapsTile_of_intMap2 rfl h fun _ _ _ => rfl
    · exact State.mapsTile_of_intMap2 rfl h fun _ _ _ => rfl
    · exact State.mapsTile_of_rows rfl h (fun _ _ _ => rfl) (fun _ _ => by simp)
    · refine State.mapsTile_of_intMap2 rfl h fun a b _ => ?_
      dsimp only
      split_ifs
      · omega
      · exact Nat.mod_mod _ _
      · rfl
      · omega
    · refine State.mapsTile_of_intMap2 rfl h fun a b ha => ?_
      obtain ⟨hlo, hhi⟩ := intOf_bounds f ha
      dsimp only
      by_cases hb : fmtBits f.fmt.toNat ≤ b
      · rw [if_pos hb, min_eq_right hb, wrap_shift_out _ hlo hhi]
        rfl
      · rw [if_neg hb, min_eq_left (by omega)]
        rfl
  · exact State.writesTile_of_rows rfl h
      (fun k r c _ hc => by
        dsimp only
        rw [getD_map_range _ _ hc]
        exact congrArg some (Nat.mod_mod _ _))
      (fun _ _ _ => rfl) (fun _ _ _ => rfl)

end Sys2Proof.Machine
end

section
/-!
# O13: moves within the tiles (R117, R120, R122, R130, R131)

A move takes each element from a place of its source tile, or zero bits where its place has none.
-/
namespace Sys2Proof.Machine

/-! ## Moves from places that the instruction alone decides -/

/-- The element of source 1 at a place, or zero bits where there is none. -/
def Core.eltAt (k : Core) (f : Fields) : Option (Nat × Nat) → Nat
  | some (x, y) => elt (fmtBits f.fmt.toNat) (k.trow f.a.toNat x) y
  | none => 0

/-- A predicated move whose places and poison rows do not depend on the core. -/
theorem State.writesTile_of_moveTile {s : State} {c : Instr} {op : Nat} {i : Issue} {f : Fields} {pick : Nat → Nat → Option (Nat × Nat)}
    {rowsOf : Nat → List Nat} {g : Core → Nat → Nat → Nat} {z : Core → Nat → Bool}
    (hexec : exec c s = s.issueCore op i f (Core.moveTile f pick rowsOf)) (h : s.ready op i f)
    (hg : ∀ k r c, k.eltAt f (pick r c) = g k r c) (hz : ∀ k r, (rowsOf r).any (k.tpz f.a.toNat) = z k r) :
    s.writesTile c op i f.dst.toNat (fmtBits f.fmt.toNat) (masked f g) z (maskedWhole f (fmtBits f.fmt.toNat)) := by
  refine State.writesTile_of_rows hexec h (fun k r c _ hc => congrArg _ ?_) (fun k r _ => hz k r) (fun k r _ => ?_)
  · dsimp only
    rw [List.getD_eq_getElem?_getD, List.getElem?_mapIdx, getElem?_map_range _ hc, masked_eq, ← hg k r c]
    cases pick r c <;> rfl
  · dsimp only
    rw [List.all_map]
    rfl

/-- A shift or a rotate: the place along its axis from which an element comes, and the rest of the position kept. -/
theorem State.writesTile_of_shiftTile {s : State} {c : Instr} {op : Nat} {i : Issue} {f : Fields} {rot : Bool}
    (hexec : exec c s = s.issueCore op i f (Core.shiftTile f rot)) (h : s.ready op i f) :
    s.writesTile c op i f.dst.toNat (fmtBits f.fmt.toNat)
      (masked f (fun k r c => match (if f.mb 9 then shiftSrc f 32 r rot else shiftSrc f (colsOf (fmtBits f.fmt.toNat)) c rot) with
        | some x => elt (fmtBits f.fmt.toNat) (k.trow f.a.toNat (if f.mb 9 then x else r)) (if f.mb 9 then c else x)
        | none => 0))
      (fun k r => if f.mb 9 then (shiftSrc f 32 r rot).toList.any (k.tpz f.a.toNat) else k.tpz f.a.toNat r)
      (maskedWhole f (fmtBits f.fmt.toNat)) := by
  refine State.writesTile_of_moveTile hexec h (fun k r c => ?_) (fun k r => ?_) <;> cases f.mb 9
  · cases shiftSrc f (colsOf (fmtBits f.fmt.toNat)) c rot <;> rfl
  · cases shiftSrc f 32 r rot <;> rfl
  · exact Bool.or_false _
  · rfl

/-! ## VGATHER -/

section
variable (k : Core) (f : Fields)

/-- What VGATHER does at (r, c): nothing where it computes no element, else it takes the element at a place, or zero bits (R131). -/
def Core.gatherAt (r c : Nat) : Option (Option (Nat × Nat)) := if f.mb 30 || k.predOn f r c then some (k.gatherSrc f r c) else none

/-- The row that VGATHER writes. -/
def Core.gatherRow (r : Nat) : RowOut :=
  { vals := (List.range (colsOf (fmtBits f.fmt.toNat))).map (fun c =>
      (k.gatherAt f r c).elim (maskElt f false 0) (fun p => some (k.eltAt f p)))
    whole := f.mb 4 || (List.range (colsOf (fmtBits f.fmt.toNat))).all (fun c => (k.gatherAt f r c).isSome)
    poison := k.tpz f.b.toNat r || (List.range (colsOf (fmtBits f.fmt.toNat))).any (fun c =>
      (k.gatherAt f r c).elim false (fun p => p.elim false (fun x => k.tpz f.a.toNat x.1)))
    cnt := (0, 0) }

theorem Core.writeTile_congr (n w : Nat) {g g' : Nat → RowOut} (h : ∀ r, r < 32 → g r = g' r) : k.writeTile n w g = k.writeTile n w g' := by
  have houts : rows32.map (fun r => (r, g r)) = rows32.map (fun r => (r, g' r)) :=
    List.map_congr_left fun r hr => by rw [h r (mem_rows32.1 hr)]
  rw [Core.writeTile, houts, ← Core.writeTile]

theorem Core.gatherRow_val (r : Nat) {c : Nat} (hc : c < colsOf (fmtBits f.fmt.toNat)) :
    (k.gatherRow f r).vals.getD c none = (k.gatherAt f r c).elim (maskElt f false 0) (fun p => some (k.eltAt f p)) :=
  getD_map_range _ _ hc

/-- VGATHER is a write of rows, and a count of the indices out of range. -/
theorem Core.gather_eq : ∃ n, k.gather f = (k.writeTile f.dst.toNat (fmtBits f.fmt.toNat) (k.gatherRow f)).bump kVEC_GOOR n := by
  unfold Core.gather
  extract_lets w rows row oor
  refine ⟨oor, congrArg (Core.bump · kVEC_GOOR oor) (k.writeTile_congr _ _ fun r hr => ?_)⟩
  have hrow : row r = (List.range (colsOf w)).map (k.gatherAt f r) := congrArg Prod.snd (getD_map_range _ _ hr)
  rw [hrow, List.map_map, List.all_map, List.any_map, Core.gatherRow]
  congr 1
  · refine List.map_congr_left fun c _ => ?_
    dsimp only [Function.comp]
    rcases k.gatherAt f r c with _ | _ | _ <;> rfl
  · refine congrArg (k.tpz f.b.toNat r || ·) (congrArg _ (funext fun c => ?_))
    dsimp only [Function.comp]
    rcases k.gatherAt f r c with _ | _ | _ <;> rfl

end

theorem State.vgather_writesTile {s : State} {i : Issue} {f : Fields} (h : s.ready 0x8C i f) {val : Core → Nat → Nat → Option Nat}
    {z whole : Core → Nat → Bool}
    (hval : ∀ k r c, (k.gatherAt f r c).elim (maskElt f false 0) (fun p => some (k.eltAt f p)) = val k r c)
    (hz : ∀ k r, (k.gatherRow f r).poison = z k r) (hwhole : ∀ k r, (k.gatherRow f r).whole = whole k r) :
    s.writesTile (.vgather i f) 0x8C i f.dst.toNat (fmtBits f.fmt.toNat) val z whole := by
  refine State.writesTile_of_body (g := Core.gather f) rfl h (fun k => ?_) (fun k => ?_) (fun k => ?_) <;>
    obtain ⟨n, heq⟩ := k.gather_eq f <;> rw [heq]
  · exact ((k.writeTile_takes f.dst.isLt _ (k.gatherRow f)).congr
      (fun r c _ hc => (k.gatherRow_val f r hc).trans (hval k r c)) (fun r _ => hz k r) (fun r _ => hwhole k r)).of_opnd rfl
      (Core.bump_opnd _ _ _)
  · exact (k.writeTile_keepsTiles f.dst.isLt _ _).of_opnd rfl (Core.bump_opnd _ _ _)
  · exact (k.writeTile_onlyTiles _ _ _).trans (Core.bump_onlyTiles _ _ _)

/-! ## The statement -/

/-- Settles O13: each instruction is a write of rows, whose elements come from places of the source tile. -/
theorem vectorMoves : Obligations.VectorMoves := by
  unfold Obligations.VectorMoves
  refine fun s i f => ⟨fun h => ?_, fun h => ?_, fun h => ?_, fun h => ?_, fun h => ?_, fun h => ?_⟩
  · exact State.writesTile_of_rows rfl h (fun k r c _ hc => congrArg _ (getD_map_range _ _ hc)) (fun _ _ _ => rfl) (fun _ _ _ => rfl)
  · refine State.writesTile_of_moveTile rfl h (fun k r c => ?_) (fun k r => ?_) <;> cases f.mb 9
    · rfl
    · rfl
    · exact Bool.or_false _
    · rfl
  · exact State.writesTile_of_rows rfl h
      (fun k r c _ hc => by rw [k.ewRow_val f _ r _ _ hc, masked_eq, maskElt_cut f _ (Nat.mod_mod _ _)])
      (fun k r _ => Bool.false_or _) (fun k r _ => k.ewRow_whole f _ r _ _)
  · exact State.writesTile_of_shiftTile rfl h
  · exact State.writesTile_of_shiftTile rfl h
  · refine State.vgather_writesTile h (fun k r c => ?_) (fun k r => ?_) (fun k r => ?_)
    · unfold Core.gatherAt
      split
      · cases k.gatherSrc f r c <;> rfl
      · rfl
    · refine congrArg (k.tpz f.b.toNat r || ·) (congrArg _ (funext fun c => ?_))
      unfold Core.gatherAt
      cases f.mb 30 || k.predOn f r c
      · rfl
      · cases k.gatherSrc f r c <;> rfl
    · refine congrArg (f.mb 4 || ·) (congrArg _ (funext fun c => ?_))
      unfold Core.gatherAt
      cases f.mb 30 || k.predOn f r c <;> rfl

end Sys2Proof.Machine
end

section
/-!
# O10: comparisons into a predicate (R115, R122, R123)

What the rows of a predicate hold once an instruction has written them, and the bits of a comparison's rows.
-/
namespace Sys2Proof.Machine

/-! ## One row of a predicate -/

section
variable (k : Core) (n r : Nat) (v : BitVec 128) (whole z : Bool)

theorem Core.setPRow_opnd : (k.setPRow n r v whole z).opnd = { k.opnd with
    preds := k.opnd.preds.put (32 * n + r) v,
    ppois := maskSet k.opnd.ppois (32 * n + r) (z || (!whole && k.opnd.ppois.getLsbD (32 * n + r))) } := by
  unfold Core.setPRow
  extract_lets key b k₁
  split <;> rfl

theorem Core.setPRow_preds (key : Nat) : (k.setPRow n r v whole z).opnd.preds.get Config.freePred key =
    if key = 32 * n + r then v else k.opnd.preds.get Config.freePred key := by
  rw [Core.setPRow_opnd]
  exact Rows.get_put _ _ _ _ _

theorem Core.setPRow_tiles : (k.setPRow n r v whole z).opnd.tiles = k.opnd.tiles := by rw [Core.setPRow_opnd]

theorem Core.setPRow_s : (k.setPRow n r v whole z).opnd.s = k.opnd.s := by rw [Core.setPRow_opnd]

end

/-! ## A whole predicate -/

/-- The rows of predicate n written: `val` gives their bits, `whole` and `z` what R117 asks of each row. -/
def Core.writePred (k : Core) (n : Nat) (val : Nat → BitVec 128) (whole z : Nat → Bool) : Core :=
  rows32.foldl (fun k r => k.setPRow n r (val r) (whole r) (z r)) k

section
variable (k : Core) (n : Nat) (val : Nat → BitVec 128) (whole z : Nat → Bool)

theorem Core.writePred_tiles : (k.writePred n val whole z).opnd.tiles = k.opnd.tiles :=
  List.foldlRecOn rows32 _ (motive := fun j : Core => j.opnd.tiles = k.opnd.tiles) rfl fun j hj r _ =>
    (j.setPRow_tiles n r _ _ _).trans hj

theorem Core.writePred_s : (k.writePred n val whole z).opnd.s = k.opnd.s :=
  List.foldlRecOn rows32 _ (motive := fun j : Core => j.opnd.s = k.opnd.s) rfl fun j hj r _ => (j.setPRow_s n r _ _ _).trans hj

theorem Core.writePred_row {r : Nat} (hr : r < 32) : (k.writePred n val whole z).opnd.preds.get Config.freePred (32 * n + r) = val r := by
  obtain ⟨j, -, -, hend⟩ := foldl_turn (g := fun (k : Core) r => k.setPRow n r (val r) (whole r) (z r)) (l := rows32) List.nodup_range
    (R := fun _ => True) (fun _ _ _ _ => trivial) (fun j : Core => j.opnd.preds.get Config.freePred (32 * n + r)) (mem_rows32.2 hr)
    (fun j b _ hne _ => by rw [Core.setPRow_preds, if_neg (by omega)]) (k := k) trivial
  exact hend.trans ((j.setPRow_preds n r _ _ _ _).trans (if_pos rfl))

end

/-! ## The bits of a comparison's row -/

/-- A sum of distinct powers of 2, bit by bit. -/
theorem sum_two_pow_testBit (p : Nat → Bool) (n : Nat) :
    (List.range n).foldl (fun m c => m + if p c = true then 2 ^ c else 0) 0 < 2 ^ n
      ∧ ∀ i, ((List.range n).foldl (fun m c => m + if p c = true then 2 ^ c else 0) 0).testBit i = (decide (i < n) && p i) := by
  induction n with
  | zero => simp
  | succ n ih =>
    rw [List.range_succ, List.foldl_append, List.foldl_cons, List.foldl_nil]
    generalize (List.range n).foldl (fun m c => m + if p c = true then 2 ^ c else 0) 0 = m at ih ⊢
    obtain ⟨hlt, hbits⟩ := ih
    by_cases hp : p n = true
    · rw [if_pos hp]
      have hsum : m + 2 ^ n < 2 ^ (n + 1) := by rw [Nat.pow_succ]; omega
      refine ⟨hsum, fun i => ?_⟩
      rcases Nat.lt_trichotomy i n with hi | rfl | hi
      · rw [Nat.add_comm m, Nat.testBit_two_pow_add_gt hi, hbits, decide_eq_true hi, decide_eq_true (by omega)]
      · rw [Nat.add_comm m, Nat.testBit_two_pow_add_eq, Nat.testBit_lt_two_pow hlt, hp, decide_eq_true (by omega)]
        rfl
      · rw [Nat.testBit_lt_two_pow (lt_of_lt_of_le hsum (Nat.pow_le_pow_right (by decide) hi)), decide_eq_false (by omega), Bool.false_and]
    · rw [if_neg hp, Nat.add_zero]
      refine ⟨lt_trans hlt (Nat.pow_lt_pow_right (by decide) n.lt_succ_self), fun i => ?_⟩
      rw [hbits]
      by_cases hi : i = n
      · rw [hi, Bool.eq_false_iff.2 hp, Bool.and_false, Bool.and_false]
      · rw [decide_eq_decide.2 (show i < n ↔ i < n + 1 by omega)]

/-- R122: bit c is the outcome where the predicate bit is set, else the old bit, or 0 under ZM; R115: bits beyond the view are 0. -/
theorem Core.cmpRow_bit (k : Core) (f : Fields) (w r : Nat) (test : Nat → Nat → Bool) {c : Nat} (hc : c < 128) :
    (k.cmpRow f w r test).getLsbD c = (decide (c < colsOf w) &&
      if k.predOn f r c then test (elt w (k.trow f.a.toNat r) c) (k.eltB f w r c)
      else !f.mb 4 && (k.opnd.preds.get Config.freePred (32 * f.dst.toNat + r)).getLsbD c) := by
  unfold Core.cmpRow
  dsimp only
  rw [BitVec.getLsbD_ofNat, (sum_two_pow_testBit _ _).2, decide_eq_true hc, Bool.true_and]

theorem Core.cmpTile_eq (k : Core) (f : Fields) (w : Nat) (test : Nat → Nat → Bool) :
    k.cmpTile f w test = k.writePred f.dst.toNat (fun r => k.cmpRow f w r test) (maskedWhole f w k)
      (fun r => k.tpz f.a.toNat r || k.pzB f r || k.ppz (f.m 2 0) r) := by
  unfold Core.cmpTile
  dsimp only
  rw [List.foldl_map]
  rfl

/-- Settles O10: a comparison writes the rows of its predicate, and nothing else of the operand registers that are not predicates. -/
theorem compareWritesPredicate : Obligations.CompareWritesPredicate := by
  unfold Obligations.CompareWritesPredicate
  intro s i f c op w test hc h
  have hexec : exec c s = s.issueCore op i f (Core.cmpTile f w test) := by
    rcases hc with ⟨rfl, rfl, rfl, rfl⟩ | ⟨rfl, rfl, rfl, rfl⟩ <;> rfl
  obtain ⟨t, ht, hframe, hcore⟩ := State.issueCore_ready hexec h
  refine ⟨t, ht, hframe, fun m hm => ?_⟩
  have hopen := (s.openedCore_same op i m).opnd_eq
  have hend := (hcore m hm).opnd_eq
  rw [Core.cmpTile_eq] at hend
  rw [hend, Core.writePred_tiles, Core.writePred_s, hopen]
  refine ⟨fun r col hr hcol => ?_, rfl, rfl⟩
  rw [Core.writePred_row _ _ _ _ _ hr, Core.cmpRow_bit _ _ _ _ _ hcol, hopen]

end Sys2Proof.Machine
end

section
/-!
# O11, O12, O16: counterexamples

What the three statements say of one member of a gang that reads poison or faults rests on what they do not ask for: that the gang map is
legal, so that a member lies in its leader's cluster (R12), and that the members of a gang open their bundles together (R202).
-/
namespace Sys2Proof.Machine

/-- The state that a command answers. -/
def State.afterwards (s : State) (c : Instr) : State :=
  match exec c s with
  | .next t => t
  | _ => s

theorem State.afterwards_of_next {s t : State} {c : Instr} (h : exec c s = .next t) : s.afterwards c = t := by rw [State.afterwards, h]

/-- An instruction of an open bundle issues where it is the next one named and its encoding is legal. -/
theorem State.ready_of_open {s : State} {op : Nat} {i : Issue} {f : Fields} (hopen : (s.core i.core).view.isSome = true)
    (hcan : s.canIssue i = true) (hnamed : s.named op i f = true) (hlegal : illegal op f = false) : s.ready op i f := by
  refine ⟨hcan, ?_, hnamed, hlegal, fun hnone => ?_⟩
  · rw [Core.lineSt, if_pos hopen]
  · rw [hnone] at hopen
    cases hopen

/-- The last instruction of core 0's bundle, which opened in cycle 0. -/
def lastOfBundle : Issue := ⟨0, 0, true⟩

/-- A running core whose open bundle has one instruction yet to issue. -/
def leaderAt (op : Nat) (f : Fields) : Core := { Core.zero .running with view := some Opnd.zero, todo := [(slotOf op, wordOf op f)] }

/-- Clusters 0 and 1 are partitions 0 and 1; core 0 issues, and core m of its gang is as given. -/
def gangOfTwo (op : Nat) (f : Fields) (m : Fin 96) (k : Core) : State :=
  { State.reset with
    regs := [(rPART_STATUS 0, 1), (rPART_STATUS 1, 2)]
    gang := (Vector.ofFn id).set m.val 0
    cores := Vector.ofFn (fun c => if c = 0 then leaderAt op f else if c = m then k else Core.zero .off) }

/-! ## Poison read in a partition without a core in service -/

/-- A core that is off, with every row of its tiles and predicates poisoned. -/
def poisonedOff : Core := { Core.zero .off with opnd := { Opnd.zero with tpois := BitVec.allOnes _, ppois := BitVec.allOnes _ } }

/-- Core 12, of partition 1, is off, poisoned, and a member of the gang that core 0 of partition 0 leads: not a legal gang map. -/
def strayMember (op : Nat) (f : Fields) : State := gangOfTwo op f 12 poisonedOff

/-- Destination register 1, source 1, no modifiers. -/
def readsOne (code : BitVec 4) : Fields := ⟨1, 1, 0, 0, code, 0⟩

/-- Refutes O11: core 0 issues PANY, and its member core 12 reads a poisoned row; but no core of partition 1 is in service, so that there is
none to stop. -/
theorem not_predicateOperations : ¬ Obligations.PredicateOperations := by
  unfold Obligations.PredicateOperations
  rintro ⟨-, -, h⟩
  have hready : (strayMember 0x75 (readsOne 0)).ready 0x75 lastOfBundle (readsOne 0) :=
    State.ready_of_open (by decide +kernel) (by decide +kernel) (by decide +kernel) (by decide +kernel)
  have hmember : 12 ∈ (strayMember 0x75 (readsOne 0)).members lastOfBundle.core := by decide +kernel
  have hpart : (strayMember 0x75 (readsOne 0)).partOf 12 = some 1 := by decide +kernel
  have hgoing : (strayMember 0x75 (readsOne 0)).isStopped 1 = false := by decide +kernel
  have hpoison : ((strayMember 0x75 (readsOne 0)).openedCore 0x75 lastOfBundle 12).ppz 1 0 = true := by decide +kernel
  obtain ⟨t, ht, hstop, -⟩ := h _ lastOfBundle (readsOne 0) 12 1 _ 0x75 0 hready hmember hpart hgoing (by decide) (.inl ⟨rfl, rfl⟩) hpoison
  have hgoes : ((strayMember 0x75 (readsOne 0)).afterwards (.pany lastOfBundle (readsOne 0))).isStopped 1 = false := by decide +kernel
  rw [State.afterwards_of_next ht, hstop] at hgoes
  exact Bool.noConfusion hgoes

/-- Refutes O12: core 0 issues VMOVS, its member core 12 reads a poisoned row of a tile, and partition 1 has no core to stop. -/
theorem not_movesToScalar : ¬ Obligations.MovesToScalar := by
  unfold Obligations.MovesToScalar
  rintro ⟨-, h⟩
  have hready : (strayMember 0x8D (readsOne 1)).ready 0x8D lastOfBundle (readsOne 1) :=
    State.ready_of_open (by decide +kernel) (by decide +kernel) (by decide +kernel) (by decide +kernel)
  have hmember : 12 ∈ (strayMember 0x8D (readsOne 1)).members lastOfBundle.core := by decide +kernel
  have hpart : (strayMember 0x8D (readsOne 1)).partOf 12 = some 1 := by decide +kernel
  have hgoing : (strayMember 0x8D (readsOne 1)).isStopped 1 = false := by decide +kernel
  have hpoison : ((strayMember 0x8D (readsOne 1)).openedCore 0x8D lastOfBundle 12).tpz 1 0 = true := by decide +kernel
  obtain ⟨t, ht, hstop, -⟩ := h _ lastOfBundle (readsOne 1) 12 1 hready hmember hpart hgoing hpoison
  have hgoes : ((strayMember 0x8D (readsOne 1)).afterwards (.vmovs lastOfBundle (readsOne 1))).isStopped 1 = false := by decide +kernel
  rw [State.afterwards_of_next ht, hstop] at hgoes
  exact Bool.noConfusion hgoes

/-! ## A fault in a core whose bundle is not open -/

/-- A scan along rows of tile 1 into tile 1, with CIN of slot 0. -/
def scanFromSlot : Fields := ⟨1, 1, 0, 0, 1, 0x2000000⟩

/-- Cores 0 and 1 of partition 0 are one gang, and the bundle is open in core 0 alone. -/
def halfOpen : State := gangOfTwo 0x90 scanFromSlot 1 (Core.zero .running)

/-- Refutes O16: slot 0 is valid in neither core. Core 0's fault stops the partition; core 1, by then stopped and in no bundle, records no
fault of its own (R332). -/
theorem not_scansAndCarryStore : ¬ Obligations.ScansAndCarryStore := by
  unfold Obligations.ScansAndCarryStore
  intro h
  have hready : halfOpen.ready 0x90 lastOfBundle scanFromSlot :=
    State.ready_of_open (by decide +kernel) (by decide +kernel) (by decide +kernel) (by decide +kernel)
  have hmember : 1 ∈ halfOpen.members lastOfBundle.core := by decide +kernel
  have hslot : 0 ∈ scanSlots scanFromSlot ∧ (halfOpen.operands lastOfBundle 1).cvalid.getLsbD 0 = false := by decide +kernel
  have hpart : halfOpen.partOf 1 = some 0 := by decide +kernel
  have hgoing : halfOpen.isStopped 0 = false := by decide +kernel
  have hrun : (halfOpen.core 1).st = .running := by decide +kernel
  have hreg : (halfOpen.core 1).reg kVEC_FAULT = 0 := by decide +kernel
  obtain ⟨hscan, -⟩ := h halfOpen lastOfBundle scanFromSlot
  obtain ⟨-, hfault⟩ := hscan (0x90, .vscan) List.mem_cons_self hready
  obtain ⟨t, ht, -, hcause, -⟩ := hfault 1 0 0 hmember (by decide) hslot.1 hslot.2 hpart hgoing hrun hreg
  have hnone : ((halfOpen.afterwards (.vscan lastOfBundle scanFromSlot)).core 1).fld kVEC_FAULT 3 0 = 0 := by decide +kernel
  rw [State.afterwards_of_next ht, hcause] at hnone
  exact absurd hnone (by decide)

end Sys2Proof.Machine
end

section
/-!
# O14: the function unit (R140, R145, R150)

A published function, VDIV and VTBL are each a predicated write of rows that also counts its computed elements. What is left to say of each
is its elements and the poison of its sources; for VTBL also that each member looks up in its own table.
-/
namespace Sys2Proof.Machine

/-! ## A write of the function unit -/

/-- The rows of the destination written, with `val` for the elements and their counts and `pz` for the poison of the tile rows read, and the
computed elements counted in CNT.SFRES (R140). -/
def Core.funcTile (f : Fields) (pz : Nat → Bool) (val : Nat → Nat → Nat × (Nat × Nat)) (k : Core) : Core :=
  (k.writeTile f.dst.toNat (ffOf f.fmt.toNat).bits (fun r => k.ewRow f (ffOf f.fmt.toNat).bits r (pz r) (val r))).bump kCNT_SFRES
    (k.computed f (ffOf f.fmt.toNat).bits)

section
variable (k : Core) (f : Fields) (pz : Nat → Bool) (val : Nat → Nat → Nat × (Nat × Nat))

theorem Core.funcTile_takes : k.tileTakes (k.funcTile f pz val) f.dst.toNat (ffOf f.fmt.toNat).bits
    (fun r c => maskElt f (k.predOn f r c) (val r c).1) (fun r => pz r || k.ppz (f.m 2 0) r) (maskedWhole f (ffOf f.fmt.toNat).bits k) :=
  ((k.writeTile_takes f.dst.isLt _ _).congr (fun r _ _ hc => k.ewRow_val f _ r (pz r) (val r) hc) (fun _ _ => rfl)
    (fun r _ => k.ewRow_whole f _ r (pz r) (val r))).of_opnd rfl (Core.bump_opnd _ _ _)

theorem Core.funcTile_elem {r c : Nat} (hr : r < 32) (hc : c < colsOf (ffOf f.fmt.toNat).bits) (hon : k.predOn f r c = true) :
    (k.funcTile f pz val).opnd.elem (ffOf f.fmt.toNat).bits f.dst.toNat r c = (val r c).1 % 2 ^ (ffOf f.fmt.toNat).bits := by
  obtain ⟨helts, -⟩ := k.funcTile_takes f pz val
  have helt := helts r c hr hc
  dsimp only at helt
  rw [hon] at helt
  exact helt

theorem Core.funcTile_keepsTiles : k.keepsTiles (k.funcTile f pz val) [f.dst.toNat] :=
  (k.writeTile_keepsTiles f.dst.isLt _ _).of_opnd rfl (Core.bump_opnd _ _ _)

theorem Core.funcTile_onlyTiles : k.onlyTiles (k.funcTile f pz val) :=
  (k.writeTile_onlyTiles _ _ _).trans (Core.bump_onlyTiles _ _ _)

end

theorem State.writesTile_of_funcTile {s : State} {c : Instr} {op : Nat} {i : Issue} {f : Fields} {pz : Core → Nat → Bool}
    {val : Core → Nat → Nat → Nat × (Nat × Nat)} (hexec : exec c s = s.issueCore op i f (fun k => k.funcTile f (pz k) (val k)))
    (h : s.ready op i f) : s.writesTile c op i f.dst.toNat (ffOf f.fmt.toNat).bits (masked f (fun k r c => (val k r c).1))
      (fun k r => pz k r || k.ppz (f.m 2 0) r) (maskedWhole f (ffOf f.fmt.toNat).bits) :=
  State.writesTile_of_body hexec h (fun k => k.funcTile_takes f (pz k) (val k)) (fun k => k.funcTile_keepsTiles f (pz k) (val k))
    (fun k => k.funcTile_onlyTiles f (pz k) (val k))

/-! ## Published functions (R140, R141) -/

theorem State.mapsTile_of_fnMap {s : State} {c : Instr} {op : Nat} {i : Issue} {f : Fields} {g : Fn}
    (hexec : exec c s = s.issueCore op i f (Core.fnMap f g)) (h : s.ready op i f) :
    s.mapsTile c op i f (ffOf f.fmt.toNat).bits 1 (fun a _ _ =>
      fencode (ffOf f.fmt.toNat) (fnEval g (ffOf f.fmt.toNat) (fdecode (ffOf f.fmt.toNat) a))) := by
  have hpoison (k : Core) (r : Nat) :
      (k.tpz f.a.toNat r || (decide (2 ≤ 1) && k.pzB f r) || (decide (3 ≤ 1) && k.tpz f.c.toNat r)) = k.tpz f.a.toNat r := by simp
  unfold State.mapsTile
  simp only [hpoison]
  exact State.writesTile_of_funcTile hexec h

/-! ## Quotients (R145) -/

/-- Element (r, c) of the quotient of tiles a and b, with its counts of R137. -/
def Core.divElt (k : Core) (f : Fields) (r c : Nat) : Nat × (Nat × Nat) :=
  let a := fdecode (ffOf f.fmt.toNat) (elt (ffOf f.fmt.toNat).bits (k.trow f.a.toNat r) c)
  let b := fdecode (ffOf f.fmt.toNat) (elt (ffOf f.fmt.toNat).bits (k.trow f.b.toNat r) c)
  let v := divEval (ffOf f.fmt.toNat) a b
  (fencode (ffOf f.fmt.toNat) v, nfCount v [a, b])

theorem execVdiv_eq (s : State) (i : Issue) (f : Fields) : exec (.vdiv i f) s =
    s.issueCore 0xAD i f (fun k => k.funcTile f (fun r => k.tpz f.a.toNat r || k.tpz f.b.toNat r) (k.divElt f)) := rfl

/-! ## Table lookups (R150) -/

theorem looseEq_looser : Looser State.looseEq where
  loose h := h
  trans := State.looseEq_trans
  gang := State.looseEq_gang

theorem modCore_coreOp (g : Fin 96 → Core → Core) : CoreOp (fun m s => s.modCore m (g m)) := fun s m _ hd =>
  (s.modCore_onlyCore m (g m)).2 _ hd

/-- An instruction whose body, at each member's core as the bundle opened it, is an update of that core. -/
theorem State.issue_cores_of_body {s : State} {c : Instr} {op : Nat} {i : Issue} {f : Fields} {body : Fin 96 → State → State}
    {g : Fin 96 → Core → Core} (hexec : exec c s = s.issue op i f body) (h : s.ready op i f)
    (hbody : ∀ m, m ∈ s.members i.core → ∀ u : State, u.core m = s.openedCore op i m → body m u = u.modCore m (g m)) :
    ∃ t, exec c s = .next t ∧ s.issueFrame t i ∧
      ∀ m, m ∈ s.members i.core → (g m (s.openedCore op i m)).sameBundle (t.core m) := by
  obtain ⟨t, ht, hloose, hout, hturn⟩ := s.issue_bodies op i f body (fun m u => u.modCore m (g m)) h hbody (modCore_coreOp g)
    looseEq_looser (fun u m => u.modCore_loose m (g m))
  refine ⟨t, hexec.trans ht, ⟨hloose.1, hloose.2, hout⟩, fun m hm => ?_⟩
  obtain ⟨u, hu, hsame⟩ := hturn m hm
  rwa [State.modCore_self, hu] at hsame

theorem Core.sameBundle.tslot_eq {k k' : Core} (h : k.sameBundle k') (n : Nat) : k'.tslot n = k.tslot n := by
  rw [← h]
  rfl

/-- Element (r, c) looked up in table `tb`, with its counts of R137. -/
def Core.lookupElt (k : Core) (f : Fields) (tb : Table) (r c : Nat) : Nat × (Nat × Nat) :=
  let a := fdecode (ffOf f.fmt.toNat) (elt (ffOf f.fmt.toNat).bits (k.trow f.a.toNat r) c)
  let v := tb.lookup (ffOf f.fmt.toNat) a
  (fencode (ffOf f.fmt.toNat) v, nfCount v [a])

/-- What a lookup in table `tb` makes of a member's core. -/
def Core.lookupTile (f : Fields) (tb : Table) (k : Core) : Core :=
  k.funcTile f (fun r => k.tpz f.a.toNat r || tb.poison) (k.lookupElt f tb)

theorem Core.lookupTile_elem (k : Core) (f : Fields) (tb : Table) {r col : Nat} (hr : r < 32) (hcol : col < colsOf (ffOf f.fmt.toNat).bits)
    (hon : k.predOn f r col = true) : (k.lookupTile f tb).opnd.elem (ffOf f.fmt.toNat).bits f.dst.toNat r col =
      fencode (ffOf f.fmt.toNat) (tb.lookup (ffOf f.fmt.toNat)
        (fdecode (ffOf f.fmt.toNat) (elt (ffOf f.fmt.toNat).bits (k.trow f.a.toNat r) col))) % 2 ^ (ffOf f.fmt.toNat).bits :=
  k.funcTile_elem f _ (k.lookupElt f tb) hr hcol hon

/-- VTBL with an active table in each member: each member looks up in its own. -/
theorem execVtbl_looksUp {s : State} {i : Issue} {f : Fields} (h : s.ready 0xAE i f) {tab : Fin 96 → Table}
    (htab : ∀ m, m ∈ s.members i.core → ((s.core m).tslot f.b.toNat).active = some (tab m)) :
    ∃ t, exec (.vtbl i f) s = .next t ∧ s.issueFrame t i ∧
      ∀ m, m ∈ s.members i.core → ((s.openedCore 0xAE i m).lookupTile f (tab m)).sameBundle (t.core m) :=
  State.issue_cores_of_body (g := fun m => Core.lookupTile f (tab m)) rfl h fun m hm u hu => by
    have hactive : ((u.core m).tslot f.b.toNat).active = some (tab m) := by
      rw [hu, (s.openedCore_same 0xAE i m).tslot_eq, htab m hm]
    rw [hactive]
    rfl

/-! ## The statement -/

/-- Settles O14: each instruction is a predicated write of rows of the function unit, VTBL with each member's own table. -/
theorem functionResult : Obligations.FunctionResult := by
  unfold Obligations.FunctionResult
  refine fun s i f => ⟨fun e he h => ?_, fun h => ?_, fun h tab htab => ?_⟩
  · simp only [fnTable, List.mem_cons, List.not_mem_nil, or_false] at he
    rcases he with rfl | rfl | rfl | rfl | rfl | rfl | rfl | rfl | rfl | rfl | rfl | rfl | rfl <;>
      exact State.mapsTile_of_fnMap rfl h
  · exact State.writesTile_of_funcTile (execVdiv_eq s i f) h
  · obtain ⟨t, ht, hframe, hcore⟩ := execVtbl_looksUp h htab
    refine ⟨t, ht, hframe, fun m hm r col hr hcol hon => ?_⟩
    rw [(hcore m hm).opnd_eq]
    exact Core.lookupTile_elem _ f _ hr hcol hon

end Sys2Proof.Machine
end

section
/-!
# O21: operands outside local memory (R161)

Each of the instructions stops its partition by one LAY.FAULT, which is that of the only member's turn: the fault writes registers and
states alone, and so does the end of the bundle behind it.
-/
namespace Sys2Proof.Machine

/-! ## What the bundle in progress leaves of a core -/

theorem Core.sameBundle.st_eq {k k' : Core} (h : k.sameBundle k') : k'.st = k.st := by rw [← h]

theorem Core.sameBundle.lm_eq {k k' : Core} (h : k.sameBundle k') : k'.lm = k.lm := by rw [← h]

theorem Core.sameBundle.reg_eq {k k' : Core} (h : k.sameBundle k') (o : Nat) : k'.reg o = k.reg o := by
  rw [Core.reg, Core.reg, h.cregs_eq]

theorem Core.sameBundle.fld_eq {k k' : Core} (h : k.sameBundle k') (o hi lo : Nat) : k'.fld o hi lo = k.fld o hi lo := by
  rw [Core.fld, Core.fld, h.reg_eq]

theorem State.ready.running {s : State} {op : Nat} {i : Issue} {f : Fields} (h : s.ready op i f) : (s.core i.core).st = .running := by
  have hissue := h.1
  simp only [State.canIssue, Bool.and_eq_true, decide_eq_true_eq] at hissue
  exact hissue.1.1.1

/-! ## What an issue changes outside the cores -/

theorem offTrace_status {p : Nat} (hp : p < 8) : rPART_STATUS p ≠ rDBG_TRPTR := by
  simp only [rPART_STATUS, rDBG_TRPTR]
  omega

theorem State.looseEq.plan {s t : State} (h : s.looseEq t) : s.samePlan t := fun _ hp => h.2 _ (offTrace_status hp)

theorem State.looseEq.hbm {s t : State} (h : s.looseEq t) : t.hbm = s.hbm := by rw [← h.1]

theorem State.opened_st (s : State) (op : Nat) (i : Issue) (d : Fin 96) : ((s.opened op i).core d).st = (s.core d).st := by
  by_cases hd : d ∈ s.members i.core
  · rw [s.opened_core op i d hd, (s.openedCore_same op i d).st_eq]
  · rw [s.opened_out op i d hd]

theorem State.opened_isStopped (s : State) (op : Nat) (i : Issue) {p : Nat} (hp : p < 8) :
    (s.opened op i).isStopped p = s.isStopped p :=
  State.isStopped_congr (s.opened_loose op i).plan (s.opened_st op i) hp

theorem State.issueEnd_isStopped (t : State) (i : Issue) {p : Nat} (hp : p < 8) : (t.issueEnd i).isStopped p = t.isStopped p :=
  State.isStopped_congr (t.issueEnd_loose i).plan (fun d => (t.issueEnd_core i d).st_eq) hp

/-! ## An instruction that faults -/

/-- An instruction of a core that is its own gang, whose body is a LAY.FAULT of cause 2, stops the partition and changes no data. -/
theorem State.issue_layFault {s : State} {c : Instr} {op : Nat} {i : Issue} {f : Fields} {p : Nat} {body : Fin 96 → State → State}
    (hexec : exec c s = s.issue op i f body) (h : s.ready op i f) (halone : s.members i.core = [i.core]) (hpart : s.partOf i.core = some p)
    (hgoing : s.isStopped p = false) (hreg : (s.core i.core).reg kLAY_FAULT = 0)
    (hbody : ∀ u : State, u.core i.core = s.openedCore op i i.core → ∃ slot w, body i.core u = u.layFault i.core 2 slot w) :
    ∃ t, exec c s = .next t ∧ t.isStopped p = true ∧ (t.core i.core).st = .stopped ∧ (t.core i.core).fld kLAY_FAULT 3 0 = 2
      ∧ (t.core i.core).opnd = (s.core i.core).opnd ∧ (t.core i.core).lm = (s.core i.core).lm ∧ t.hbm = s.hbm := by
  have hp := State.partOf_lt hpart
  have hself : i.core ∈ s.members i.core := by rw [halone]; exact List.mem_singleton_self _
  obtain ⟨u, hu⟩ : ∃ u, u = s.opened op i := ⟨_, rfl⟩
  have hloose : s.looseEq u := hu ▸ s.opened_loose op i
  have hcore : u.core i.core = s.openedCore op i i.core := by rw [hu, s.opened_core op i _ hself]
  have hsame : (s.core i.core).sameBundle (u.core i.core) := by rw [hcore]; exact s.openedCore_same op i _
  obtain ⟨slot, w, hfault⟩ := hbody u hcore
  obtain ⟨v, hv⟩ : ∃ v, v = u.layFault i.core 2 slot w := ⟨_, rfl⟩
  have hexec' : exec c s = .next (v.issueEnd i) := by
    rw [hexec, s.issue_ready op i f body h, ← hu, State.eachMember, State.looseEq_members hloose, halone, List.foldl_cons, List.foldl_nil,
      hfault, ← hv]
  obtain ⟨hstopped, hst, hval, hfaultEq⟩ := State.firstFault_stops offSeq_LAY (by rw [hloose.plan.partOf, hpart])
    (by rw [hu, s.opened_isStopped op i hp, hgoing]) (by rw [hsame.st_eq, h.running]) (by rw [hsame.reg_eq, hreg]) (2 + 16 * slot) 4 w hv
  have hend := v.issueEnd_core i i.core
  refine ⟨_, hexec', by rw [v.issueEnd_isStopped i hp, hstopped], by rw [hend.st_eq, hst], ?_, ?_, ?_, ?_⟩
  · rw [hend.fld_eq, fld_cause hval (by decide)]
  · rw [hend.opnd_eq, (hfaultEq.core _).opnd, hsame.opnd_eq]
  · rw [hend.lm_eq, (hfaultEq.core _).lm, hsame.lm_eq]
  · rw [(v.issueEnd_loose i).hbm, hfaultEq.hbm, hloose.hbm]

/-- Settles O21: what each of the instructions finds outside local memory sends its body to the fault. -/
theorem outsideLocalMemoryStops : Obligations.OutsideLocalMemoryStops := by
  unfold Obligations.OutsideLocalMemoryStops
  intro s i f p c op hc h halone hpart hgoing hreg
  rcases hc with ⟨rfl, rfl, hout⟩ | ⟨rfl, rfl, hout⟩ | ⟨rfl, rfl, hal, hout⟩ | ⟨rfl, rfl, hal, hout⟩ | ⟨rfl, rfl, hout⟩ | ⟨rfl, rfl, hal, hout⟩
  · exact State.issue_layFault rfl h halone hpart hgoing hreg fun u hu => ⟨_, _, if_pos (by rw [hu, hout])⟩
  · exact State.issue_layFault rfl h halone hpart hgoing hreg fun u hu => ⟨_, _, if_pos (by rw [hu, hout])⟩
  · refine State.issue_layFault rfl h halone hpart hgoing hreg fun u hu => ⟨_, _, (if_neg ?_).trans (if_pos ?_)⟩
    · rw [hu, not_not, hal]
    · rwa [hu]
  · refine State.issue_layFault rfl h halone hpart hgoing hreg fun u hu => ⟨_, _, (if_neg ?_).trans (if_pos ?_)⟩
    · rw [hu, not_not, hal]
    · rwa [hu]
  · refine State.issue_layFault rfl h halone hpart hgoing hreg fun u hu => ⟨_, _, if_pos (.inr ?_)⟩
    rwa [hu, s.openedCore_rs]
  · refine State.issue_layFault rfl h halone hpart hgoing hreg fun u hu => ⟨_, _, (if_neg ?_).trans (if_pos ?_)⟩
    · rw [hu, s.openedCore_rs, not_not, hal]
    · rwa [hu, s.openedCore_rs]

end Sys2Proof.Machine
end

section
/-!
# O24: a counterexample

The statement takes a core of any partition number. Of number 3A00h the offset of PARTn.ALLOCBASE is that of DBG.TRPTR, which a traced bundle
moves on as it opens: the LXFER then looks up its allocation one byte above the place whose entry permits it.
-/
namespace Sys2Proof.Machine

/-- The partition number whose PARTn.ALLOCBASE falls on DBG.TRPTR. -/
def strayPart : Nat := 0x3A00

/-- A descriptor of one byte at address 0 of allocation 0, whose destination is local offset 0. -/
def oneByteImage : List Byte := leBytes 0x10 0 ++ leBytes 0x14 1 ++ leBytes 0x40 0x14 ++ leBytes 0x1C 0x77

/-- Slot 0, with the source base shifted by scalar register 1. -/
def shiftedBySource : Fields := ⟨0, 1, 0, 0, 0, 0⟩

/-- A core that runs for the stray partition number and whose next bundle holds the LXFER alone; scalar register 1 is 1. -/
def strayRunner : Core :=
  { Core.zero .running with
    active := true, ibValid := 1, ib := Store.zero.putN (8 * slotOf 0xC9) (leBytes 8 (wordOf 0xC9 shiftedBySource).toNat)
    launch := some ⟨strayPart, 0, 0, [0], 0, 0, 1, 0, 0⟩, dslots := Vector.replicate 16 (.valid oneByteImage)
    opnd := { Opnd.zero with s := Opnd.zero.s.set 1 1 } }

/-- Core 0 is traced, DBG.TRPTR is 0, and the 16 bytes at device address 0 are the entry of an allocation of 2^40 bytes with all rights. -/
def tracedRunner : State :=
  { State.reset with
    regs := [(rPART_STATUS 0, 1), (rDBG_STATUS, 8), (rDBG_TRPTR, 0)], hbm := ⟨0, [(13, 1), (15, 0x70)]⟩
    cores := Vector.ofFn (fun c => if c = 0 then strayRunner else Core.zero .idle) }

theorem tracedRunner_ready : tracedRunner.ready 0xC9 lastOfBundle shiftedBySource :=
  ⟨by decide +kernel, by decide +kernel, by decide +kernel, by decide +kernel, fun _ => ⟨by decide +kernel, by decide +kernel⟩⟩

/-- Refutes O24: both sides of the shifted transfer are in place where the allocation base points before the issue, but the bundle's opening
moves that base with DBG.TRPTR, and the entry found there is not valid: the LXFER faults and queues nothing. -/
theorem not_layoutDescriptors : ¬ Obligations.LayoutDescriptors := by
  unfold Obligations.LayoutDescriptors
  rintro ⟨⟨h, -⟩, -⟩
  obtain ⟨-, -, hshifted⟩ := h tracedRunner lastOfBundle shiftedBySource
  have hclean : tracedRunner.clean := ⟨rfl, rfl, rfl⟩
  have halone : tracedRunner.members 0 = [0] := by decide +kernel
  have hslot : (tracedRunner.core 0).dslot 0 = .valid oneByteImage := by decide +kernel
  have hbase : tracedRunner.reg64 (rPART_ALLOCBASE (tracedRunner.core 0).part) + 4096 ≤ hbmEnd := by decide +kernel
  have hsrc : (tracedRunner.sideChk (tracedRunner.core 0).part 0 0 ((parseDesc oneByteImage).srcExt 1) false 5).2 = .ok := by decide +kernel
  have hdst : (tracedRunner.sideChk (tracedRunner.core 0).part 1 0 ((parseDesc oneByteImage).dstExt 0) true 6).2 = .ok := by decide +kernel
  obtain ⟨t, ht, -, ⟨x, hx, -⟩, -⟩ := hshifted oneByteImage _ (1, 0) tracedRunner_ready hclean halone hslot rfl (by decide +kernel) hbase hsrc hdst
  have hnone : ((tracedRunner.afterwards (.lxfer lastOfBundle shiftedBySource)).core 0).xfers = [] := by decide +kernel
  rw [State.afterwards_of_next ht] at hnone
  exact absurd (hx.symm.trans hnone) (by simp)

end Sys2Proof.Machine
end

section
/-!
# O56: records, scrubs and repair (R163, R231, R233, R333, R334, R337, R338, R340, R342, R361)

A record's arrival is cut at what it writes: the number and the counts, the classing of its unit, which changes cores and that unit's
history alone, and the queue. A FATAL fault stops the partitions in turn, and partitions that share no cluster leave each other's cores.
-/
namespace Sys2Proof.Machine

/-! ## The history and the counters -/

theorem State.histSet_histGet (s : State) (k k' v : Nat) : (s.histSet k v).histGet k' = if k' = k then v else s.histGet k' :=
  mapGet_mapPut 0 s.hist k k' v

theorem State.histAdd_histGet (s : State) (k k' n : Nat) :
    (s.histAdd k n).histGet k' = if k' = k then s.histGet k + n else s.histGet k' := s.histSet_histGet k k' _

theorem State.count_reg (s : State) (o o' n : Nat) :
    (s.count o n).reg o' = if o' = o then BitVec.ofNat 32 (min ((s.reg o).toNat + n) 0xFFFFFFFF) else s.reg o' := s.setReg_reg o o' _

theorem State.alert_reg (s : State) (on : Bool) {o : Nat} (ho : o ≠ rERR_STATUS) : (s.alert on).reg o = s.reg o :=
  s.setFld_reg_other rERR_STATUS o 2 2 _ ho

/-! ## The record that is numbered first (R337) -/

/-- The place of a record of the lowest rank among those detected with q, and of a lower one than any of them before it. -/
theorem firstOf_eq {l : List ErrRec} {q r : ErrRec} {i : Nat} (hi : l[i]? = some r) (hframe : r.frame = q.frame) (hcycle : r.cycle = q.cycle)
    (hfirst : ∀ j x, l[j]? = some x → x.frame = q.frame → x.cycle = q.cycle → r.rank ≤ x.rank ∧ (j < i → r.rank < x.rank)) :
    firstOf l q = i := by
  obtain ⟨hlt, hget⟩ := List.getElem?_eq_some_iff.1 hi
  unfold firstOf
  dsimp only
  rw [List.findIdx_eq hlt]
  refine ⟨?_, fun j hj => ?_⟩
  · simp only [hget, hframe, hcycle, decide_true, Bool.true_and, List.all_eq_true, List.mem_filter, Bool.and_eq_true, decide_eq_true_eq]
    rintro x ⟨hx, hxf, hxc⟩
    obtain ⟨j, hj⟩ := List.mem_iff_getElem?.1 hx
    exact (hfirst j x hj hxf hxc).1
  · rw [Bool.and_eq_false_iff, or_iff_not_imp_left, Bool.not_eq_false, Bool.and_eq_true, decide_eq_true_eq, decide_eq_true_eq]
    rintro ⟨hxf, hxc⟩
    rw [List.all_eq_false]
    refine ⟨r, List.mem_filter.2 ⟨List.mem_of_getElem? hi, by rw [decide_eq_true hframe, decide_eq_true hcycle]; rfl⟩, ?_⟩
    rw [decide_eq_true_eq, not_le]
    exact (hfirst j _ (List.getElem?_eq_getElem _) hxf hxc).2 hj

/-! ## The classing of a unit (R343, R344) -/

/-- What the classing of a unit leaves: the registers, memory, the records on their way and queued, and the history but of units. -/
structure State.JudgedEq (s t : State) : Prop where
  regs : t.regs = s.regs
  hbm : t.hbm = s.hbm
  errPend : t.errPend = s.errPend
  errq : t.errq = s.errq
  hist : ∀ k, k < 0x20000 → t.histGet k = s.histGet k

namespace State.JudgedEq

theorem refl (s : State) : s.JudgedEq s := ⟨rfl, rfl, rfl, rfl, fun _ _ => rfl⟩

theorem trans {s t u : State} (h : s.JudgedEq t) (h' : t.JudgedEq u) : s.JudgedEq u :=
  ⟨h'.regs.trans h.regs, h'.hbm.trans h.hbm, h'.errPend.trans h.errPend, h'.errq.trans h.errq, fun k hk => (h'.hist k hk).trans (h.hist k hk)⟩

theorem histSet (s : State) {k : Nat} (hk : 0x20000 ≤ k) (v : Nat) : s.JudgedEq (s.histSet k v) :=
  ⟨rfl, rfl, rfl, rfl, fun j hj => by rw [State.histSet_histGet, if_neg (by omega)]⟩

theorem histAdd (s : State) {k : Nat} (hk : 0x20000 ≤ k) (n : Nat) : s.JudgedEq (s.histAdd k n) := histSet s hk _

theorem modCore (s : State) (c : Fin 96) (g : Core → Core) : s.JudgedEq (s.modCore c g) := ⟨rfl, rfl, rfl, rfl, fun _ _ => rfl⟩

end State.JudgedEq

theorem le_hkArray (c ph : Nat) : 0x20000 ≤ hkArray c ph := Nat.le_add_right _ _

theorem le_hkCore (c : Nat) : 0x20000 ≤ hkCore c := Nat.le_add_right_of_le (by decide)

theorem ErrRec.le_unitKey {r : ErrRec} {k : Nat} (h : r.unitKey = some k) : 0x20000 ≤ k := by
  unfold ErrRec.unitKey at h
  split at h
  · exact Option.some.inj h ▸ le_hkArray _ _
  · split at h
    · exact Option.some.inj h ▸ le_hkCore _
    · cases h

theorem State.classCore_judgedEq (s : State) (c : Fin 96) : s.JudgedEq (s.classCore c) := by
  unfold State.classCore
  split
  · exact .refl s
  · exact (State.JudgedEq.modCore s c _).trans (.histSet _ (le_hkCore _) 2)

theorem State.classArray_judgedEq (s : State) (c : Fin 96) (ph frame : Nat) : s.JudgedEq (s.classArray c ph frame) := by
  have hset : s.JudgedEq (s.histSet (hkArray c.val ph) 1) := .histSet s (le_hkArray _ _) 1
  unfold State.classArray
  extract_lets u
  split
  · exact hset
  · split
    · split
      · exact hset
      · extract_lets v
        refine (hset.trans ?_).trans (State.classCore_judgedEq v c)
        unfold v
        split
        · exact .modCore _ _ _
        · exact .refl _
    · split
      · exact hset.trans (State.classCore_judgedEq _ c)
      · exact hset.trans (.modCore _ _ _)

theorem State.judge_judgedEq (s : State) (r : ErrRec) : s.JudgedEq (s.judge r) := by
  unfold State.judge
  split
  · exact .refl s
  · next k hkey =>
    have hk := ErrRec.le_unitKey hkey
    extract_lets u c
    have hu : s.JudgedEq u := by
      unfold u
      split
      · exact (((State.JudgedEq.histSet s (by omega) _).trans (.histSet _ (by omega) _)).trans (.histSet _ (by omega) _)).trans
          (.histAdd _ (by omega) _)
      · exact .refl s
    split
    · split
      · exact hu.trans (State.classArray_judgedEq u c _ _)
      · exact hu.trans (State.classCore_judgedEq u c)
    · exact hu

/-! ## A record's arrival (R334, R337, R338) -/

/-- The number that the next record takes. -/
def State.nextSeq (s : State) : Nat := (s.histGet hkSeq + 1) % 2 ^ 32

/-- The state in which record r is numbered, counted in the history, and its unit classed. -/
def State.classed (s : State) (r : ErrRec) : State := ((s.histSet hkSeq s.nextSeq).histAdd (hkClass r.cls) 1).judge r

theorem State.classed_judgedEq (s : State) (r : ErrRec) :
    ((s.histSet hkSeq s.nextSeq).histAdd (hkClass r.cls) 1).JudgedEq (s.classed r) := State.judge_judgedEq _ r

theorem State.classed_seq (s : State) (r : ErrRec) : (s.classed r).histGet hkSeq = s.nextSeq := by
  have hclass : hkSeq ≠ hkClass r.cls := by
    simp only [hkSeq, hkClass]
    omega
  rw [(s.classed_judgedEq r).hist hkSeq (by decide), State.histAdd_histGet, if_neg hclass, State.histSet_histGet, if_pos rfl]

theorem State.classed_reg (s : State) (r : ErrRec) (o : Nat) : (s.classed r).reg o = s.reg o := by
  rw [State.reg, State.reg, (s.classed_judgedEq r).regs]
  rfl

/-- The counts of a numbered record in the registers, and ALERT# where its class asks for it. -/
def State.shown (s : State) (cls seq : Nat) : State :=
  let t := (s.count (rERR_CLASS (cls - 1)) 1).setReg (rERR_SEQ) (BitVec.ofNat 32 seq)
  if 13 ≤ cls ∧ cls ≤ 15 then t.alert true else t

theorem State.shown_reg (s : State) (cls seq : Nat) {o : Nat} (ho : o ≠ rERR_STATUS) : (s.shown cls seq).reg o =
    if o = rERR_SEQ then BitVec.ofNat 32 seq
    else if o = rERR_CLASS (cls - 1) then BitVec.ofNat 32 (min ((s.reg o).toNat + 1) 0xFFFFFFFF) else s.reg o := by
  have hcount : ((s.count (rERR_CLASS (cls - 1)) 1).setReg rERR_SEQ (BitVec.ofNat 32 seq)).reg o =
      if o = rERR_SEQ then BitVec.ofNat 32 seq
      else if o = rERR_CLASS (cls - 1) then BitVec.ofNat 32 (min ((s.reg o).toNat + 1) 0xFFFFFFFF) else s.reg o := by
    rw [State.setReg_reg, State.count_reg]
    split
    · rfl
    · split
      · next h => rw [h]
      · rfl
  unfold State.shown
  dsimp only
  split
  · rw [State.alert_reg _ _ ho, hcount]
  · exact hcount

theorem State.shown_errq (s : State) (cls seq : Nat) : (s.shown cls seq).errq = s.errq := by
  unfold State.shown
  dsimp only
  split <;> rfl

theorem State.shown_errPend (s : State) (cls seq : Nat) : (s.shown cls seq).errPend = s.errPend := by
  unfold State.shown
  dsimp only
  split <;> rfl

theorem State.shown_hbm (s : State) (cls seq : Nat) : (s.shown cls seq).hbm = s.hbm := by
  unfold State.shown
  dsimp only
  split <;> rfl

theorem State.shown_histGet (s : State) (cls seq k : Nat) : (s.shown cls seq).histGet k = s.histGet k := by
  unfold State.shown
  dsimp only
  split <;> rfl

/-- The bytes of a record hold its number behind its header (Table 16-3). -/
theorem ErrRec.bytes_seq (r : ErrRec) (seq optime action : Nat) (first : Bool) :
    ((r.bytes seq optime action first).drop 4).take 4 = leBytes 4 seq := by
  unfold ErrRec.bytes
  extract_lets dead hdr head
  have hhead (l : List Byte) : ((head ++ l).drop 4).take 4 = leBytes 4 seq := by
    unfold head
    simp only [List.append_assoc]
    rw [List.drop_left' (leBytes_length 4 hdr), List.take_left' (leBytes_length 4 seq)]
  split
  · exact hhead _
  · rw [← List.append_nil head, hhead]

/-- The queue, the log and the event log take a numbered record (R338, R339, R342). -/
def State.filed (u : State) (r : ErrRec) (seq : Nat) : State :=
  let b := r.bytes seq u.optime (u.actionOf r) u.firstRec
  let s := { u with firstRec := false }
  let room := roomFor s.errq r.cls (decide (r.cls = 14 ∧ r.action = 9))
  let s := if room.2 then s.dropNote else s
  match room.1 with
  | none => s
  | some q =>
    let s := { s with errq := q, lastRec := b, evlog := if r.cls = 1 then s.evlog else trimLog (s.evlog ++ [b]) }
    let s := s.placeLog b (decide (r.cls = 5))
    if s.bit (rERR_CTRL) 1 then
      { s with errq := s.errq ++ [({ cls := r.cls, seq := seq, bytes := b, attempts := 0 } : QRec)] }
    else s

theorem State.takeRecord_eq (s : State) (r : ErrRec) :
    s.takeRecord r = ((s.classed r).shown r.cls s.nextSeq).filed r s.nextSeq := rfl

/-- A state whose latest record, event log and queue are as given. -/
def State.withRecord (u : State) (b : List Byte) (l : List (List Byte)) (q : List QRec) : State :=
  { u with firstRec := false, lastRec := b, evlog := l, errq := q }

/-- Where the queue has room and the host's log is off, the record is queued for the management path where that is on. -/
theorem State.filed_roomy {u : State} (r : ErrRec) (seq : Nat) (hroom : u.errq.length < 32) (hlog : u.bit (rERR_CTRL) 0 = false) :
    ∃ b l q, u.filed r seq = u.withRecord b l q ∧ (b.drop 4).take 4 = leBytes 4 seq
      ∧ q.length = u.errq.length + (if u.bit (rERR_CTRL) 1 then 1 else 0) := by
  obtain ⟨b, hb⟩ : ∃ b, b = r.bytes seq u.optime (u.actionOf r) u.firstRec := ⟨_, rfl⟩
  obtain ⟨l, hl⟩ : ∃ l, l = if r.cls = 1 then u.evlog else trimLog (u.evlog ++ [b]) := ⟨_, rfl⟩
  have hseq : (b.drop 4).take 4 = leBytes 4 seq := by rw [hb, ErrRec.bytes_seq]
  have hroomFor : roomFor u.errq r.cls (decide (r.cls = 14 ∧ r.action = 9)) = (some u.errq, false) := by rw [roomFor, if_pos hroom]
  have hplace : (u.withRecord b l u.errq).placeLog b (decide (r.cls = 5)) = u.withRecord b l u.errq := by
    rw [State.placeLog, if_pos (show (u.withRecord b l u.errq).bit rERR_CTRL 0 = false from hlog)]
  have hfiled : u.filed r seq = if u.bit (rERR_CTRL) 1 then u.withRecord b l (u.errq ++ [⟨r.cls, seq, b, 0⟩]) else u.withRecord b l u.errq := by
    unfold State.filed
    dsimp only
    rw [hroomFor, ← hb]
    dsimp only
    rw [if_neg Bool.false_ne_true]
    dsimp only
    rw [← hl]
    exact (congrArg (fun v : State => if v.bit (rERR_CTRL) 1 then
      { v with errq := v.errq ++ [({ cls := r.cls, seq := seq, bytes := b, attempts := 0 } : QRec)] } else v) hplace).trans rfl
  rw [hfiled]
  split
  · exact ⟨b, l, _, rfl, hseq, List.length_append⟩
  · exact ⟨b, l, _, rfl, hseq, rfl⟩

/-- A record's arrival where the queue has room and the host's log is off. -/
theorem State.takeRecord_roomy {s : State} (r : ErrRec) (hroom : s.errq.length < 32) (hlog : s.bit (rERR_CTRL) 0 = false) :
    ∃ b l q, s.takeRecord r = ((s.classed r).shown r.cls s.nextSeq).withRecord b l q ∧ (b.drop 4).take 4 = leBytes 4 s.nextSeq
      ∧ q.length = s.errq.length + (if s.bit (rERR_CTRL) 1 then 1 else 0) := by
  have herrq : ((s.classed r).shown r.cls s.nextSeq).errq = s.errq := by
    rw [State.shown_errq, (s.classed_judgedEq r).errq]
    rfl
  have hclass : rERR_CTRL ≠ rERR_CLASS (r.cls - 1) := by
    simp only [rERR_CTRL, rERR_CLASS]
    omega
  have hctrl (n : Nat) : ((s.classed r).shown r.cls s.nextSeq).bit (rERR_CTRL) n = s.bit (rERR_CTRL) n := by
    rw [State.bit, State.fld, State.shown_reg _ _ _ (by decide), if_neg (by decide), if_neg hclass, State.classed_reg]
    rfl
  rw [State.takeRecord_eq, ← herrq, ← hctrl]
  exact State.filed_roomy r _ (by rwa [herrq]) (by rwa [hctrl])

/-- Record i of those on their way is the first of its cycle, and is taken where the queue has room and the host's log is off. -/
theorem execErrorRecord_takes {s : State} {k i : Nat} {q r : ErrRec} (halive : s.phase.alive = true) (hk : s.errPend[k]? = some q)
    (hi : s.errPend[i]? = some r) (hfirst : firstOf s.errPend q = i) :
    exec (.errorRecord k none) s = .next ({ s with errPend := s.errPend.eraseIdx i }.takeRecord r) := by
  show execErrorRecord k none s = _
  unfold execErrorRecord
  rw [if_neg (by rw [halive]; decide)]
  dsimp only
  rw [hk]
  dsimp only
  rw [hfirst, hi]

theorem errorRecord_arrives {s : State} {k i : Nat} {q r : ErrRec} (halive : s.phase.alive = true) (hk : s.errPend[k]? = some q)
    (hi : s.errPend[i]? = some r) (hfirst : firstOf s.errPend q = i) (hlog : s.bit (rERR_CTRL) 0 = false)
    (hroom : s.errq.length < 32) :
    ∃ t, exec (.errorRecord k none) s = .next t ∧ t.errPend = s.errPend.eraseIdx i
      ∧ (t.reg (rERR_SEQ)).toNat = s.nextSeq ∧ t.histGet hkSeq = s.nextSeq
      ∧ t.reg (rERR_CLASS (r.cls - 1)) = BitVec.ofNat 32 (min ((s.reg (rERR_CLASS (r.cls - 1))).toNat + 1) 0xFFFFFFFF)
      ∧ leNat ((t.lastRec.drop 4).take 4) = s.nextSeq
      ∧ t.errq.length = s.errq.length + (if s.bit (rERR_CTRL) 1 then 1 else 0) ∧ t.hbm = s.hbm := by
  obtain ⟨u, hu⟩ : ∃ u, u = ({ s with errPend := s.errPend.eraseIdx i } : State) := ⟨_, rfl⟩
  have hureg (o : Nat) : u.reg o = s.reg o := by rw [hu]; rfl
  have hseq : u.nextSeq = s.nextSeq := by rw [hu]; rfl
  have hlt : s.nextSeq < 2 ^ 32 := Nat.mod_lt _ (by decide)
  have hclass : rERR_CLASS (r.cls - 1) ≠ rERR_SEQ := by
    simp only [rERR_CLASS, rERR_SEQ]
    omega
  have hstatus : rERR_CLASS (r.cls - 1) ≠ rERR_STATUS := by
    simp only [rERR_CLASS, rERR_STATUS]
    omega
  have hjudged := u.classed_judgedEq r
  obtain ⟨b, l, p, htake, hb, hp⟩ := State.takeRecord_roomy (s := u) r (by rw [hu]; exact hroom) (by rw [hu]; exact hlog)
  rw [hseq] at htake hb
  have hreg (o : Nat) : (u.takeRecord r).reg o = ((u.classed r).shown r.cls s.nextSeq).reg o := by rw [htake]; rfl
  refine ⟨u.takeRecord r, hu ▸ execErrorRecord_takes halive hk hi hfirst, ?_, ?_, ?_, ?_, ?_, ?_, ?_⟩
  · rw [htake]
    show ((u.classed r).shown r.cls s.nextSeq).errPend = _
    rw [State.shown_errPend, hjudged.errPend, hu]
    rfl
  · rw [hreg, State.shown_reg _ _ _ (by decide), if_pos rfl, BitVec.toNat_ofNat, Nat.mod_eq_of_lt hlt]
  · rw [htake]
    show ((u.classed r).shown r.cls s.nextSeq).histGet hkSeq = _
    rw [State.shown_histGet, State.classed_seq, hseq]
  · rw [hreg, State.shown_reg _ _ _ hstatus, if_neg hclass, if_pos rfl, State.classed_reg, hureg]
  · rw [htake]
    show leNat ((b.drop 4).take 4) = _
    rw [hb, leNat_leBytes]
    exact Nat.mod_eq_of_lt hlt
  · rw [htake]
    show p.length = _
    rw [hp, hu]
    rfl
  · rw [htake]
    show ((u.classed r).shown r.cls s.nextSeq).hbm = _
    rw [State.shown_hbm, hjudged.hbm, hu]
    rfl

/-! ## A FATAL fault (R333) -/

/-- No cluster is in force in two partitions. -/
def State.apart (s : State) : Prop := ∀ p q, p < 8 → q < 8 → p ≠ q → s.clusters p &&& s.clusters q = 0

theorem State.apart.inPart {s : State} (h : s.apart) {p q : Nat} (hp : p < 8) (hq : q < 8) (hne : p ≠ q) {c : Fin 96}
    (hc : s.inPart q c = true) : s.inPart p c = false := by
  have hand : (s.clusters p &&& s.clusters q).testBit (c.val / 12) = false := by rw [h p q hp hq hne, Nat.zero_testBit]
  rw [State.inPart] at hc ⊢
  rwa [Nat.testBit_and, hc, Bool.and_true] at hand

/-- The stops of every partition in turn (R333). -/
def State.stopAll (s : State) : State := (List.range 8).foldl (fun s p => s.stopPart p (s.lowCore p).val 0 .stopped) s

/-- A core in service of a partition that had not stopped is stopped: the stops of the partitions before its own leave its partition's
cores. -/
theorem State.stopAll_stops {s : State} (h : s.apart) {q : Nat} (hq : q < 8) (hgoing : s.isStopped q = false) {c : Fin 96}
    (hc : s.inPart q c = true) (hserv : (s.core c).st.inService = true) : (s.stopAll.core c).st = .stopped := by
  have hstop (t : State) (p : Nat) : t.samePlan (t.stopPart p (t.lowCore p).val 0 .stopped) := (t.stopPart_capEq p _ _ _).plan
  have hother : ∀ t p, p < 8 → p ≠ q → s.samePlan t → ∀ d, s.inPart q d = true →
      (t.stopPart p (t.lowCore p).val 0 .stopped).core d = t.core d := by
    intro t p hp hne ht d hd
    rcases t.stopPart_core p (t.lowCore p).val 0 d with hsame | ⟨hin, -⟩
    · exact hsame
    · rw [ht.inPart hp, h.inPart hp hq hne hd] at hin
      exact Bool.noConfusion hin
  have hkept : ∀ t p, p < 8 → p ≠ q → s.samePlan t →
      (fun d : Fin 96 => if s.inPart q d = true then some ((t.stopPart p (t.lowCore p).val 0 .stopped).core d) else none) =
        fun d => if s.inPart q d = true then some (t.core d) else none := fun t p hp hne ht => by
    funext d
    split
    · next hd => rw [hother t p hp hne ht d hd]
    · rfl
  obtain ⟨t, ht, hbefore, hafter⟩ := foldl_at (g := fun (s : State) p => s.stopPart p (s.lowCore p).val 0 .stopped) List.nodup_range
    (R := s.samePlan) (fun t p _ ht => ht.trans (hstop t p))
    (fun t => fun d : Fin 96 => if s.inPart q d = true then some (t.core d) else none) (List.mem_range.2 hq)
    (fun t p hp hne ht => hkept t p (List.mem_range.1 hp) hne ht) s.samePlan_refl
  have hcores (d : Fin 96) (hd : s.inPart q d = true) : t.core d = s.core d := by
    have hat := congrFun hbefore d
    rw [if_pos hd, if_pos hd] at hat
    exact Option.some.inj hat
  have hgoing' : t.isStopped q = false := by
    rw [Bool.eq_false_iff, ne_eq, State.isStopped_iff]
    rintro ⟨d, hd, hst⟩
    rw [ht.inPart hq] at hd
    rw [hcores d hd] at hst
    exact Bool.eq_false_iff.1 hgoing ((s.isStopped_iff q).2 ⟨d, hd, hst⟩)
  have hat := congrFun hafter c
  rw [if_pos hc, if_pos hc, Option.some.injEq] at hat
  rw [State.stopAll, hat, State.stopPart_stopping hgoing', State.modPart_core, State.withCores_core,
    if_pos ((t.mem_coresOf q c).2 (by rw [ht.inPart hq, hc])), Core.stopAs, hcores c hc, if_pos hserv]

theorem State.stopAll_errPend (s : State) : s.stopAll.errPend = s.errPend :=
  foldl_keeps (P := fun t => t.errPend = s.errPend) (fun t p _ ht => by
    rw [← ht, State.stopPart_eq]
    split
    · rfl
    · rw [State.modPart_errPend, State.eachCore]
      exact foldl_keeps (P := fun u => u.errPend = t.errPend) (g := fun u d => u.modCore d (fun k => k.stopAs .stopped))
        (fun u d _ hu => hu) rfl) rfl

theorem State.fatalFault_eq (s : State) (unit : Nat) : ∃ synd, s.fatalFault unit =
    ({ (s.stopAll.setBit (rERR_STATUS) 3 true).alert true with fatal := true }.raise 0 0).record 15 unit 0 8 0 7 synd false := ⟨_, rfl⟩

theorem State.raise_core (s : State) (fn v : Nat) (d : Fin 96) : (s.raise fn v).core d = s.core d := by
  unfold State.raise
  dsimp only
  split <;> rfl

theorem State.raise_fld (s : State) (fn v o h l : Nat) : (s.raise fn v).fld o h l = s.fld o h l := by
  unfold State.raise
  dsimp only
  split <;> rfl

theorem State.raise_errPend (s : State) (fn v : Nat) : (s.raise fn v).errPend = s.errPend := by
  unfold State.raise
  dsimp only
  split <;> rfl

theorem State.raise_fatal (s : State) (fn v : Nat) : (s.raise fn v).fatal = s.fatal := by
  unfold State.raise
  dsimp only
  split <;> rfl

theorem State.alert_bit_other (s : State) (on : Bool) {b : Nat} (hb : b ≠ 2) : (s.alert on).bit rERR_STATUS b = s.bit rERR_STATUS b :=
  s.setBit_bit_other rERR_STATUS 2 b on (by decide) hb

theorem errorRecord_fatal {s : State} {k : Nat} (p : Fin 8) (halive : s.phase.alive = true) (hk : s.errPend.length < k) (h : s.apart) :
    ∃ t, exec (.errorRecord k (some (.commandProc p false))) s = .next t ∧ t.fatal = true ∧ t.bit (rERR_STATUS) 3 = true
      ∧ t.errPend.length = s.errPend.length + 1 ∧ ∀ q, q < 8 → s.isStopped q = false → ∀ c, s.inPart q c = true →
        (s.core c).st.inService = true → (t.core c).st = .stopped := by
  obtain ⟨synd, hfatal⟩ := s.fatalFault_eq (s.unitCp p.val)
  obtain ⟨v, hv⟩ : ∃ v, v = ({ (s.stopAll.setBit (rERR_STATUS) 3 true).alert true with fatal := true } : State) := ⟨_, rfl⟩
  obtain ⟨t, ht⟩ : ∃ t, t = (v.raise 0 0).record 15 (s.unitCp p.val) 0 8 0 7 synd false := ⟨_, rfl⟩
  have hdetect : s.detect (.commandProc p false) = t := by
    rw [ht, hv, ← hfatal]
    rfl
  have hlen : t.errPend.length = s.errPend.length + 1 := by
    rw [ht, State.record_errPend_length, State.raise_errPend, hv, ← s.stopAll_errPend]
    rfl
  refine ⟨t, ?_, ?_, ?_, hlen, fun q hq hgoing c hc hserv => ?_⟩
  · show execErrorRecord k (some (.commandProc p false)) s = .next t
    unfold execErrorRecord
    rw [if_neg (by rw [halive]; decide)]
    dsimp only
    rw [hdetect, List.getElem?_eq_none (by omega)]
  · rw [ht, hv]
    exact State.raise_fatal _ 0 0
  · have hbit : v.bit (rERR_STATUS) 3 = ((s.stopAll.setBit (rERR_STATUS) 3 true).alert true).bit (rERR_STATUS) 3 := by
      rw [hv]
      rfl
    rw [ht, State.bit, State.record_fld, State.raise_fld, ← State.bit, hbit, State.alert_bit_other _ _ (by decide),
      State.setBit_bit_same _ _ _ _ (by decide)]
  · rw [ht, State.record_core, State.raise_core, hv]
    exact State.stopAll_stops h hq hgoing hc hserv

end Sys2Proof.Machine
end

section
/-!
# O56: scrubs of memory, row repair and the paths of records (R163, R231, R233, R234, R340, R342, R361)

What each writes is read off its definition; the classing of a row counts three distinct times within a day, and of a line one sector of
each row, among errors that the hypotheses name.
-/
namespace Sys2Proof.Machine

/-! ## The patrol scrub of a local memory (R163) -/

theorem Core.bump_fcount_same (k : Core) (o n : Nat) : mapGet 0 (k.bump o n).fcount o = mapGet 0 k.fcount o + n := by
  rw [Core.bump]
  exact (mapGet_mapPut 0 k.fcount o o _).trans (if_pos rfl)

/-- What a fault found in local memory writes: core c, the error summary, and a record. -/
def State.localFound (s : State) (c : Fin 96) (g : Core → Core) (b cls action off synd : Nat) : State :=
  let t := s.fresh.modCore c g
  (t.errsum c b).record cls (t.unitCore c) 0 action off 2 synd false

theorem State.localFound_core (s : State) (c : Fin 96) (g : Core → Core) (b cls action off synd : Nat) (d : Fin 96) :
    (s.localFound c g b cls action off synd).core d = if d = c then (g (s.core c)).setFld kUCB_core_ERRSUM b b 1 else s.core d := by
  rw [State.localFound, State.record_core, State.errsum_core, State.modCore_core, if_pos rfl, State.modCore_core]
  split <;> rfl

theorem State.localFound_errPend (s : State) (c : Fin 96) (g : Core → Core) (b cls action off synd : Nat) :
    (s.localFound c g b cls action off synd).errPend.length = s.errPend.length + 1 := State.record_errPend_length _ _ _ _ _ _ _ _ _

theorem State.localFault_corrected (s : State) (c : Fin 96) (off : Nat) (b : Fin 72) : ∃ synd,
    s.localFault c off (.corrected b) = s.localFound c (fun k => k.bump (kLAY_CE) 1) eCE 1 1 off synd := ⟨_, rfl⟩

theorem State.localFault_uncorrectable (s : State) (c : Fin 96) (off : Nat) : ∃ synd,
    s.localFault c off .uncorrectable =
      s.localFound c (fun k => { k.bump (kLAY_UE) 1 with lmPois := mapPut false k.lmPois (off / 32) true }) eUE 2 3 off synd := ⟨_, rfl⟩

theorem localPatrolScrub_finds {s : State} (c : Fin 96) (off : BitVec 24) (hup : s.hbmUp = true) (hoff : off.toNat < lmEnd)
    (hst : (s.core c).st ≠ .failed) :
    exec (.localPatrolScrub c off .clean) s = .next s
    ∧ (∀ b, ∃ t, exec (.localPatrolScrub c off (.corrected b)) s = .next t ∧ (t.core c).lm = (s.core c).lm
      ∧ (t.core c).lmPois = (s.core c).lmPois ∧ t.errPend.length = s.errPend.length + 1 ∧ (∀ d, d ≠ c → t.core d = s.core d)
      ∧ (t.core c).reg (kLAY_CE) = (s.core c).reg (kLAY_CE)
      ∧ mapGet 0 (t.core c).fcount (kLAY_CE) = mapGet 0 (s.core c).fcount (kLAY_CE) + 1)
    ∧ ∃ t, exec (.localPatrolScrub c off .uncorrectable) s = .next t ∧ (t.core c).lm = (s.core c).lm
      ∧ mapGet false (t.core c).lmPois (off.toNat / 32) = true ∧ t.errPend.length = s.errPend.length + 1
      ∧ (∀ d, d ≠ c → t.core d = s.core d)
      ∧ (t.core c).reg (kLAY_UE) = (s.core c).reg (kLAY_UE)
      ∧ mapGet 0 (t.core c).fcount (kLAY_UE) = mapGet 0 (s.core c).fcount (kLAY_UE) + 1 := by
  have hexec (f : Found) : exec (.localPatrolScrub c off f) s = .next (s.localFault c off.toNat f) :=
    congrArg Host.Outcome.next (if_pos ⟨hup, hoff, hst⟩)
  refine ⟨hexec .clean, fun b => ?_, ?_⟩
  · obtain ⟨synd, hfault⟩ := s.localFault_corrected c off.toNat b
    have hcore := s.localFound_core c (fun k => k.bump (kLAY_CE) 1) eCE 1 1 off.toNat synd c
    rw [if_pos rfl] at hcore
    refine ⟨_, (hexec _).trans (congrArg _ hfault), by rw [hcore]; rfl, by rw [hcore]; rfl, State.localFound_errPend _ _ _ _ _ _ _ _,
      fun d hd => by rw [State.localFound_core, if_neg hd], ?_, ?_⟩
    · rw [hcore, Core.setFld_reg_other _ _ _ _ _ _ (by decide)]
      rfl
    · rw [hcore]
      exact (s.core c).bump_fcount_same kLAY_CE 1
  · obtain ⟨synd, hfault⟩ := s.localFault_uncorrectable c off.toNat
    have hcore := s.localFound_core c (fun k => { k.bump (kLAY_UE) 1 with lmPois := mapPut false k.lmPois (off.toNat / 32) true }) eUE 2 3
      off.toNat synd c
    rw [if_pos rfl] at hcore
    refine ⟨_, (hexec _).trans (congrArg _ hfault), by rw [hcore]; rfl, ?_, State.localFound_errPend _ _ _ _ _ _ _ _,
      fun d hd => by rw [State.localFound_core, if_neg hd], ?_, ?_⟩
    · rw [hcore]
      exact (mapGet_mapPut false _ _ _ true).trans (if_pos rfl)
    · rw [hcore, Core.setFld_reg_other _ _ _ _ _ _ (by decide)]
      rfl
    · rw [hcore]
      exact (s.core c).bump_fcount_same kLAY_UE 1

/-! ## The patrol scrub of a stack (R231) -/

theorem State.setReg64_reg64_same (s : State) (o v : Nat) (hv : v < 2 ^ 64) : (s.setReg64 o v).reg64 o = v := by
  have hne : o ≠ o + 4 := by omega
  rw [State.reg64, State.setReg64, State.setReg_reg, if_neg hne, State.setReg_reg, if_pos rfl, State.setReg_reg, if_pos rfl,
    BitVec.toNat_ofNat, BitVec.toNat_ofNat]
  omega

theorem State.setReg64_reg_other (s : State) (o r v : Nat) (h : r ≠ o) (h' : r ≠ o + 4) : (s.setReg64 o v).reg r = s.reg r := by
  rw [State.setReg64, State.setReg_reg, if_neg h', State.setReg_reg, if_neg h]

/-- Where the scrub of stack n goes on after position `pos`, its pass counted at the end of the stack. -/
def State.scrubStep (s : State) (n pos : Nat) : State :=
  let last := decide (pos + 32 ≥ 96 * 2 ^ 30)
  let t := s.setReg64 (rMC_SCRUBPOS n) (if last then 0 else pos + 32)
  (if last then t.count (rMC_SCRUBPASS n) 1 else t).setBit (rMC_STATUS n) 2 (!last)

theorem State.scrubStep_reg {s : State} {n pos o : Nat} (ho : o ≠ rMC_STATUS n) (ho' : o ≠ rMC_SCRUBPASS n) :
    (s.scrubStep n pos).reg o = (s.setReg64 (rMC_SCRUBPOS n) (if 96 * 2 ^ 30 ≤ pos + 32 then 0 else pos + 32)).reg o := by
  unfold State.scrubStep
  dsimp only
  rw [State.setBit, State.setFld_reg_other _ _ _ _ _ _ ho]
  simp only [ge_iff_le, decide_eq_true_eq]
  split
  · rw [State.count_reg, if_neg ho']
  · rfl

theorem State.scrubStep_position (s : State) (n pos : Nat) :
    (s.scrubStep n pos).reg64 (rMC_SCRUBPOS n) = if 96 * 2 ^ 30 ≤ pos + 32 then 0 else pos + 32 := by
  rw [State.reg64, State.scrubStep_reg, State.scrubStep_reg, ← State.reg64]
  · refine State.setReg64_reg64_same _ _ _ ?_
    split <;> omega
  all_goals
    simp only [rMC_SCRUBPOS, rMC_STATUS, rMC_SCRUBPASS]
    omega

theorem State.scrubStep_status (s : State) (n pos : Nat) : (s.scrubStep n pos).bit (rMC_STATUS n) 2 = decide (pos + 32 < 96 * 2 ^ 30) := by
  rw [State.scrubStep, State.setBit_bit_same _ _ _ _ (by decide), ← decide_not]
  exact decide_eq_decide.2 not_le

theorem State.scrubStep_pass (s : State) (n pos : Nat) (h : 96 * 2 ^ 30 ≤ pos + 32) : (s.scrubStep n pos).reg (rMC_SCRUBPASS n) =
    BitVec.ofNat 32 (min ((s.reg (rMC_SCRUBPASS n)).toNat + 1) 0xFFFFFFFF) := by
  unfold State.scrubStep
  dsimp only
  rw [decide_eq_true h, if_pos rfl, State.setBit, State.setFld_reg_other, State.count_reg, if_pos rfl, State.setReg64_reg_other]
  all_goals
    simp only [rMC_SCRUBPOS, rMC_STATUS, rMC_SCRUBPASS]
    omega

theorem State.scrubStep_hbm (s : State) (n pos : Nat) :
    (s.scrubStep n pos).hbm = s.hbm ∧ (s.scrubStep n pos).hbmPois = s.hbmPois ∧ (s.scrubStep n pos).cores = s.cores := by
  unfold State.scrubStep
  dsimp only
  split <;> exact ⟨rfl, rfl, rfl⟩

/-- A scrub of a sector without damage or poison changes nothing of it. -/
theorem execHbmScrubRead_clean {s : State} (n : Fin 12) (hup : s.hbmUp = true) (hon : s.bit (rMC_SCRUBCTL n.val) 31 = true)
    (hdamage : s.damage = []) (hlines : s.memLines = [])
    (hpois : mapGet false s.hbmPois ((2 ^ 37 * n.val + s.reg64 (rMC_SCRUBPOS n.val)) / 32) = false) :
    exec (.hbmScrubRead n none) s = .next (s.scrubStep n.val (s.reg64 (rMC_SCRUBPOS n.val))) := by
  show execHbmScrubRead n none s = _
  unfold execHbmScrubRead
  rw [if_neg (by rw [hup, hon]; decide)]
  dsimp only
  rw [hpois, if_neg Bool.false_ne_true, State.decodeSector_clean _ _ _ hdamage hlines]
  rfl

/-! ## Row repair and line faults (R233, R234) -/

/-- An uncorrectable read of one of its sectors makes a row's fault permanent. -/
theorem State.rowPermanent_of_uncorrectable {s : State} {ks : List Nat} {e : MemErr} (he : e ∈ s.memErrs) (hk : e.key ∈ ks)
    (hsym : e.sym = none) : s.rowPermanent ks = true := by
  unfold State.rowPermanent
  dsimp only
  rw [Bool.or_eq_true, List.any_eq_true]
  exact .inl ⟨e, List.mem_filter.2 ⟨he, List.contains_iff_mem.2 hk⟩, decide_eq_true hsym⟩

/-- Three of these times, in rising order, within a day. -/
theorem inDay_of_three {l : List Nat} {x y z : Nat} (hx : x ∈ l) (hy : y ∈ l) (hz : z ∈ l) (hxy : x < y) (hyz : y < z)
    (hday : z ≤ x + dayUs) : inDay 3 l = true := by
  unfold inDay
  rw [List.any_eq_true]
  refine ⟨z, hz, ?_⟩
  rw [decide_eq_true_eq]
  have hsub : [x, y, z] ⊆ l.filter (fun u => decide (u ≤ z ∧ z ≤ u + dayUs)) := fun u hu => by
    simp only [List.mem_cons, List.not_mem_nil, or_false] at hu
    rw [List.mem_filter, decide_eq_true_eq]
    rcases hu with rfl | rfl | rfl
    · exact ⟨hx, by omega⟩
    · exact ⟨hy, by omega⟩
    · exact ⟨hz, by omega⟩
  have hnodup : [x, y, z].Nodup := by
    simp only [List.nodup_cons, List.mem_cons, List.not_mem_nil, or_false, not_or, not_false_eq_true, List.nodup_nil, and_true]
    omega
  exact (hnodup.subperm hsub).length_le

theorem eraseDups_of_nodup {l : List Nat} (h : l.Nodup) : l.eraseDups = l := by
  induction l with
  | nil => rfl
  | cons a r ih =>
    obtain ⟨ha, hr⟩ := List.nodup_cons.1 h
    have hkeep : r.filter (fun b => !b == a) = r := List.filter_eq_self.2 fun b hb => by
      have hne : b ≠ a := fun e => ha (e ▸ hb)
      simpa using hne
    rw [List.eraseDups_cons, hkeep, ih hr]

/-- Corrected errors at three times within a day make it so where no line is classed as a fault. -/
theorem State.rowPermanent_of_three {s : State} {ks : List Nat} (hlines : s.lineFaults = []) {x y z : MemErr}
    (h : ∀ e, e ∈ [x, y, z] → e ∈ s.memErrs ∧ e.key ∈ ks ∧ e.sym ≠ none) (hxy : x.time < y.time) (hyz : y.time < z.time)
    (hday : z.time ≤ x.time + dayUs) : s.rowPermanent ks = true := by
  unfold State.rowPermanent
  dsimp only
  rw [Bool.or_eq_true]
  refine .inr ?_
  have hmem : ∀ e, e ∈ [x, y, z] → e.time ∈ (((s.memErrs.filter (fun e => ks.contains e.key)).filter
      (fun e => e.sym.any (fun y => !s.lineFaults.contains (36 * pcKey e.key + y)))).map (·.time)).eraseDups := fun e he => by
    obtain ⟨hin, hkey, hsym⟩ := h e he
    obtain ⟨y, hy⟩ := Option.ne_none_iff_exists'.1 hsym
    rw [List.mem_eraseDups]
    refine List.mem_map_of_mem (List.mem_filter.2 ⟨List.mem_filter.2 ⟨hin, List.contains_iff_mem.2 hkey⟩, ?_⟩)
    rw [hy, hlines]
    rfl
  exact inDay_of_three (hmem x (by simp)) (hmem y (by simp)) (hmem z (by simp)) hxy hyz hday

theorem State.rowPermanent_none {s : State} {ks : List Nat} (h : ∀ e, e ∈ s.memErrs → e.key ∉ ks) : s.rowPermanent ks = false := by
  have hnone : s.memErrs.filter (fun e => ks.contains e.key) = [] := List.filter_eq_nil_iff.2 fun e he hc => h e he (List.contains_iff_mem.1 hc)
  unfold State.rowPermanent
  rw [hnone]
  rfl

theorem State.lineFaulty_none {s : State} {ks : List Nat} (h : ∀ e, e ∈ s.memErrs → e.key ∉ ks) (y : Nat) : s.lineFaulty ks y = false := by
  unfold State.lineFaulty
  dsimp only
  rw [Bool.and_eq_false_iff]
  refine .inr (List.any_eq_false.2 fun z _ => ?_)
  have hnone : ks.eraseDups.filter (fun k => s.memErrs.any
      (fun e => decide (e.key = k ∧ e.sym = some y ∧ e.time ≤ z.time ∧ z.time ≤ e.time + dayUs))) = [] := by
    refine List.filter_eq_nil_iff.2 fun k hk hhit => ?_
    obtain ⟨e, he, hkey⟩ := List.any_eq_true.1 hhit
    rw [decide_eq_true_eq] at hkey
    exact h e he (hkey.1 ▸ List.mem_eraseDups.1 hk)
  rw [hnone]
  decide

/-- An error on line y in each of 16 or more sectors of one pseudo-channel, within a day that ends with error z, is a line fault. -/
theorem State.lineFaulty_of {s : State} {ks : List Nat} {y : Nat} (hlen : 16 ≤ ks.length) (hnodup : ks.Nodup)
    (hpc : ∀ k, k ∈ ks → pcKey k = pcKey (ks.headD 0)) (hnew : s.lineFaults.contains (36 * pcKey (ks.headD 0) + y) = false) {z : MemErr}
    (hz : z ∈ s.memErrs) (h : ∀ k, k ∈ ks → ∃ e, e ∈ s.memErrs ∧ e.key = k ∧ e.sym = some y ∧ e.time ≤ z.time ∧ z.time ≤ e.time + dayUs) :
    s.lineFaulty ks y = true := by
  unfold State.lineFaulty
  dsimp only
  rw [Bool.and_eq_true, Bool.and_eq_true, hnew, List.all_eq_true, List.any_eq_true]
  refine ⟨⟨fun k hk => decide_eq_true (hpc k hk), rfl⟩, z, hz, ?_⟩
  have hall : ks.filter (fun k => s.memErrs.any
      (fun e => decide (e.key = k ∧ e.sym = some y ∧ e.time ≤ z.time ∧ z.time ≤ e.time + dayUs))) = ks :=
    List.filter_eq_self.2 fun k hk => by
      obtain ⟨e, he, hhit⟩ := h k hk
      exact List.any_eq_true.2 ⟨e, he, decide_eq_true hhit⟩
  rw [eraseDups_of_nodup hnodup, hall]
  exact decide_eq_true hlen

/-- Decoding sectors of memory without damage leaves it. -/
theorem State.foldl_decode_clean {s : State} (hdamage : s.damage = []) (hlines : s.memLines = []) (ks : List Nat) :
    ks.foldl (fun (s : State) k =>
      let d := s.decodeSector k false
      d.1.flip d.2) s = s := by
  induction ks with
  | nil => rfl
  | cons k ks ih =>
    rw [List.foldl_cons, State.decodeSector_clean s k false hdamage hlines]
    exact ih

/-- A repaired row: the repairs are counted, and the errors of its sectors are gone. -/
def State.rowRepaired (s : State) (n : Nat) (ks : List Nat) : State :=
  let t := (s.setFld (rMC_PPR n) 7 0 (min 255 (s.fld (rMC_PPR n) 7 0 + 1))).setFld (rMC_PPR n) 15 8
    (min 255 (s.fld (rMC_PPR n) 15 8 + 1))
  { t with memErrs := t.memErrs.filter (fun e => !ks.contains e.key),
           damage := t.damage.filter (fun (x : Nat × List SymErr) => !ks.contains x.1) }

theorem State.rowRepaired_count (s : State) (n : Nat) (ks : List Nat) :
    (s.rowRepaired n ks).fld (rMC_PPR n) 7 0 = min 255 (s.fld (rMC_PPR n) 7 0 + 1) := by
  show ((s.setFld (rMC_PPR n) 7 0 (min 255 (s.fld (rMC_PPR n) 7 0 + 1))).setFld (rMC_PPR n) 15 8
    (min 255 (s.fld (rMC_PPR n) 15 8 + 1))).fld (rMC_PPR n) 7 0 = _
  rw [State.setFld_fld_disjoint _ _ _ _ _ _ _ (by decide) (by decide), State.setFld_fld_same _ _ _ _ _ (by decide)]
  omega

theorem State.noteRepair_fields (s : State) (n off : Nat) : (s.noteRepair n off).regs = s.regs ∧ (s.noteRepair n off).hbm = s.hbm
    ∧ (s.noteRepair n off).errPend = s.errPend ∧ (s.noteRepair n off).memErrs = s.memErrs := by
  unfold State.noteRepair
  dsimp only
  split <;> exact ⟨rfl, rfl, rfl, rfl⟩

theorem State.noteRepair_soft (s : State) (n off : Nat) : (s.noteRepair n off).histGet (hkSoft n) = s.histGet (hkSoft n) + 1 := by
  unfold State.noteRepair
  dsimp only
  rw [State.histAdd_histGet, if_pos rfl]
  split
  · rw [State.histSet_histGet, if_neg]
    simp only [hkSoft, hkRepair]
    omega
  · rfl

theorem State.noteLine_fields (s : State) (n pc line : Nat) : (s.noteLine n pc line).regs = s.regs ∧ (s.noteLine n pc line).hbm = s.hbm
    ∧ (s.noteLine n pc line).errPend = s.errPend := by
  unfold State.noteLine
  dsimp only
  split <;> exact ⟨rfl, rfl, rfl⟩

theorem State.noteLine_count (s : State) (n pc line : Nat) : (s.noteLine n pc line).histGet (hkLine n) = s.histGet (hkLine n) + 1 := by
  unfold State.noteLine
  dsimp only
  rw [State.histAdd_histGet, if_pos rfl]
  split
  · rw [State.histSet_histGet, if_neg]
    simp only [hkLine, hkLineAt]
    omega
  · rfl

theorem State.memRec_errPend (s : State) (n off what : Nat) : (s.memRec n off what).errPend.length = s.errPend.length + 1 :=
  State.record_errPend_length _ _ _ _ _ _ _ _ _

/-- The stack offset that a repair's record names. -/
def rowAt (row : List (BitVec 37)) : Nat := (row.headD 0).toNat / 32 * 32

/-- The sectors of stack n at these stack offsets. -/
def rowSectors (n : Fin 12) (row : List (BitVec 37)) : List Nat := row.map (fun o => (2 ^ 37 * n.val + o.toNat) / 32)

theorem execSoftPpr_repaired {s : State} (n : Fin 12) (row : List (BitVec 37)) (hup : s.hbmUp = true)
    (hrow : s.rowPermanent (rowSectors n row) = true) (hdamage : s.damage = []) (hlines : s.memLines = []) :
    exec (.softPpr n row .repaired) s =
      .next (((s.rowRepaired n.val (rowSectors n row)).noteRepair n.val (rowAt row)).memRec n.val (rowAt row) 1) := by
  show execSoftPpr n row .repaired s = _
  unfold execSoftPpr
  rw [if_neg (by rw [hup]; decide)]
  dsimp only
  rw [if_neg (by rw [← rowSectors, hrow]; decide), State.foldl_decode_clean hdamage hlines]
  rfl

theorem execSoftPpr_exhausted {s : State} (n : Fin 12) (row : List (BitVec 37)) (hup : s.hbmUp = true)
    (hrow : s.rowPermanent (rowSectors n row) = true) : exec (.softPpr n row .exhausted) s =
      .next (((s.setBit (rMC_STATUS n.val) 5 true).setBit (rMC_PPR n.val) 16 true).memRec n.val (rowAt row) 2) := by
  show execSoftPpr n row .exhausted s = _
  unfold execSoftPpr
  rw [if_neg (by rw [hup]; decide)]
  dsimp only
  rw [if_neg (by rw [← rowSectors, hrow]; decide)]
  rfl

/-- A line fault noted: the stack's status, the history, and the line among those classed. -/
def State.lineNoted (s : State) (n : Nat) (ks : List Nat) (line : Nat) : State :=
  let t := (s.setBit (rMC_STATUS n) 4 true).noteLine n (pcKey (ks.headD 0) % 32) line
  { t with lineFaults := (36 * pcKey (ks.headD 0) + line) :: t.lineFaults }

theorem execSoftPpr_lineFault {s : State} (n : Fin 12) (row : List (BitVec 37)) (l : Fin 36) (hup : s.hbmUp = true)
    (hline : s.lineFaulty (rowSectors n row) l.val = true) : exec (.softPpr n row (.lineFault l)) s =
      .next ((s.lineNoted n.val (rowSectors n row) l.val).memRec n.val (rowAt row) 3) := by
  show execSoftPpr n row (.lineFault l) s = _
  unfold execSoftPpr
  rw [if_neg (by rw [hup]; decide)]
  dsimp only
  rw [if_neg (by rw [← rowSectors, hline]; decide)]
  rfl

/-- Without errors in its sectors no row is repaired, and no line noted. -/
theorem execSoftPpr_none {s : State} (n : Fin 12) (row : List (BitVec 37)) (hup : s.hbmUp = true)
    (h : ∀ e, e ∈ s.memErrs → e.key ∉ rowSectors n row) (x : RowEnd) : exec (.softPpr n row x) s = .next s := by
  have hrow := State.rowPermanent_none h
  show execSoftPpr n row x s = _
  unfold execSoftPpr
  rw [if_neg (by rw [hup]; decide)]
  cases x with
  | repaired => exact if_pos hrow
  | exhausted => exact if_pos hrow
  | lineFault l => exact if_pos (State.lineFaulty_none h l.val)

theorem softPpr_repairs {s : State} (n : Fin 12) (row : List (BitVec 37)) (hup : s.hbmUp = true)
    (hrow : s.rowPermanent (rowSectors n row) = true) (hdamage : s.damage = []) (hlines : s.memLines = []) :
    ∃ t, exec (.softPpr n row .repaired) s = .next t ∧ t.hbm = s.hbm
      ∧ t.fld (rMC_PPR n.val) 7 0 = min 255 (s.fld (rMC_PPR n.val) 7 0 + 1)
      ∧ t.histGet (hkSoft n.val) = s.histGet (hkSoft n.val) + 1 ∧ t.errPend.length = s.errPend.length + 1
      ∧ ∀ e, e ∈ t.memErrs ↔ e ∈ s.memErrs ∧ e.key ∉ rowSectors n row := by
  obtain ⟨u, hu⟩ : ∃ u, u = s.rowRepaired n.val (rowSectors n row) := ⟨_, rfl⟩
  obtain ⟨hregs, hhbm, hpend, herrs⟩ := u.noteRepair_fields n.val (rowAt row)
  refine ⟨_, hu ▸ execSoftPpr_repaired n row hup hrow hdamage hlines, ?_, ?_, ?_, ?_, fun e => ?_⟩
  · exact hhbm.trans (by rw [hu]; rfl)
  · rw [← s.rowRepaired_count n.val (rowSectors n row), ← hu, State.fld, State.fld]
    exact congrArg (fun r => bitsOf 7 0 ((mapFind r (rMC_PPR n.val)).getD (regReset (rMC_PPR n.val))).toNat) hregs
  · exact (u.noteRepair_soft n.val (rowAt row)).trans (by rw [hu]; rfl)
  · rw [State.memRec_errPend, hpend, hu]
    rfl
  · have hmem : (((u.noteRepair n.val (rowAt row)).memRec n.val (rowAt row) 1).memErrs) =
        s.memErrs.filter (fun e => !(rowSectors n row).contains e.key) := herrs.trans (by rw [hu]; rfl)
    rw [hmem, List.mem_filter, Bool.not_eq_true', Bool.eq_false_iff, ne_eq, List.contains_iff_mem]

theorem softPpr_exhausts {s : State} (n : Fin 12) (row : List (BitVec 37)) (hup : s.hbmUp = true)
    (hrow : s.rowPermanent (rowSectors n row) = true) :
    ∃ t, exec (.softPpr n row .exhausted) s = .next t ∧ t.hbm = s.hbm ∧ t.bit (rMC_STATUS n.val) 5 = true
      ∧ t.bit (rMC_PPR n.val) 16 = true ∧ t.errPend.length = s.errPend.length + 1 := by
  have hne : rMC_STATUS n.val ≠ rMC_PPR n.val := by
    simp only [rMC_STATUS, rMC_PPR]
    omega
  refine ⟨_, execSoftPpr_exhausted n row hup hrow, rfl, ?_, ?_, State.memRec_errPend _ _ _ _⟩
  · rw [State.memRec, State.bit, State.record_fld, State.setBit_fld_other _ _ _ _ _ _ _ hne, ← State.bit, State.setBit_bit_same _ _ _ _ (by decide)]
  · rw [State.memRec, State.bit, State.record_fld, ← State.bit, State.setBit_bit_same _ _ _ _ (by decide)]

theorem softPpr_notesLine {s : State} (n : Fin 12) (row : List (BitVec 37)) (l : Fin 36) (hup : s.hbmUp = true)
    (hline : s.lineFaulty (rowSectors n row) l.val = true) :
    ∃ t, exec (.softPpr n row (.lineFault l)) s = .next t ∧ t.hbm = s.hbm ∧ t.bit (rMC_STATUS n.val) 4 = true
      ∧ t.histGet (hkLine n.val) = s.histGet (hkLine n.val) + 1 ∧ t.errPend.length = s.errPend.length + 1
      ∧ 36 * pcKey ((rowSectors n row).headD 0) + l.val ∈ t.lineFaults := by
  obtain ⟨u, hu⟩ : ∃ u, u = s.setBit (rMC_STATUS n.val) 4 true := ⟨_, rfl⟩
  obtain ⟨hregs, hhbm, hpend⟩ := u.noteLine_fields n.val (pcKey ((rowSectors n row).headD 0) % 32) l.val
  have hnoted : s.lineNoted n.val (rowSectors n row) l.val =
      let t := u.noteLine n.val (pcKey ((rowSectors n row).headD 0) % 32) l.val
      { t with lineFaults := (36 * pcKey ((rowSectors n row).headD 0) + l.val) :: t.lineFaults } := by rw [hu]; rfl
  refine ⟨_, execSoftPpr_lineFault n row l hup hline, ?_, ?_, ?_, ?_, List.mem_cons_self⟩
  · rw [hnoted]
    exact hhbm.trans (by rw [hu]; rfl)
  · rw [State.memRec, State.bit, State.record_fld, hnoted, State.fld]
    have hreg := congrArg (fun r => bitsOf 4 4 ((mapFind r (rMC_STATUS n.val)).getD (regReset (rMC_STATUS n.val))).toNat) hregs
    exact (congrArg (fun v => decide (v = 1)) hreg).trans (by rw [hu]; exact State.setBit_bit_same _ _ _ _ (by decide))
  · rw [hnoted]
    exact (u.noteLine_count n.val _ _).trans (by rw [hu]; rfl)
  · rw [State.memRec_errPend, hnoted]
    exact congrArg (fun l => l.length + 1) (hpend.trans (by rw [hu, State.setBit_errPend]))

/-! ## The management path and the history (R340, R342) -/

theorem mctp_sends {s : State} {q : QRec} {r : List QRec} (ack : Bool) (halive : s.phase.alive = true) (herrq : s.errq = q :: r) {c : Instr}
    (hc : c = .mctpDelivery ack ∧ q.attempts = 0 ∨ c = .mctpRetry ack ∧ 0 < q.attempts ∧ q.attempts < 3) :
    exec c s = .next
      { s with out := s.out ++ [.mctp 0xF0 q.bytes], errq := if ack then r else { q with attempts := q.attempts + 1 } :: r } := by
  have hsend : s.mctpSend ack =
      { s with out := s.out ++ [.mctp 0xF0 q.bytes], errq := if ack then r else { q with attempts := q.attempts + 1 } :: r } := by
    rw [State.mctpSend, herrq]
  rw [← hsend]
  rcases hc with ⟨rfl, hattempts⟩ | ⟨rfl, hsome, hfew⟩
  · exact congrArg Host.Outcome.next (if_pos ⟨halive, by rw [herrq]; exact decide_eq_true hattempts⟩)
  · show execMctpRetry ack s = _
    unfold execMctpRetry
    rw [herrq]
    dsimp only
    rw [if_neg (by rw [halive]; simp; omega), if_pos hfew]

theorem mctpRetry_givesUp {s : State} {q : QRec} {r : List QRec} (ack : Bool) (halive : s.phase.alive = true) (herrq : s.errq = q :: r)
    (h : 3 ≤ q.attempts) : ∃ t, exec (.mctpRetry ack) s = .next t ∧ t.errq = r ∧ t.out = s.out
      ∧ t.reg (rERR_MCTPLOST) = BitVec.ofNat 32 (min ((s.reg (rERR_MCTPLOST)).toNat + 1) 0xFFFFFFFF) := by
  refine ⟨({ s with errq := r } : State).count (rERR_MCTPLOST) 1, ?_, rfl, rfl, (State.count_reg _ _ _ _).trans (if_pos rfl)⟩
  show execMctpRetry ack s = _
  unfold execMctpRetry
  rw [herrq]
  dsimp only
  rw [if_neg (by rw [halive]; simp; omega), if_neg (by omega)]

/-! ## A requested scrub of HBM (R361) -/

theorem State.applyInject_kept (s : State) (k : Nat) :
    (s.applyInject k).hbm = s.hbm ∧ (s.applyInject k).cores = s.cores ∧ (s.applyInject k).freeCtr = s.freeCtr := by
  unfold State.applyInject
  dsimp only
  split
  · split <;> exact ⟨rfl, rfl, rfl⟩
  · exact ⟨rfl, rfl, rfl⟩

/-- Whether HBM key k lies in the device range [base, base + len). -/
def State.scrubs (s : State) (base len key : Nat) : Bool :=
  decide (base ≤ s.unplace (key / 2 ^ 37) (key % 2 ^ 37) ∧ s.unplace (key / 2 ^ 37) (key % 2 ^ 37) < base + len)

/-- The zeros of a scrub during which nothing was written: no listed byte of the range stays, and nothing else of HBM or the cores
changes. -/
theorem State.zeroRange_quiet (s : State) (base len : Nat) :
    (s.zeroRange base len []).hbm = { s.hbm with cells := s.hbm.cells.filter (fun e => !s.scrubs base len e.1) }
      ∧ (s.zeroRange base len []).cores = s.cores := by
  have hstays (key : Nat) : (!s.scrubs base len key || (keptWrites (mapGet [] ([] : List (Nat × List (Nat × Bool))) (key / 32))).1.testBit (key % 32)) =
      !s.scrubs base len key := by
    rw [show keptWrites (mapGet [] ([] : List (Nat × List (Nat × Bool))) (key / 32)) = (0, false) from rfl, Nat.zero_testBit, Bool.or_false]
  unfold State.zeroRange
  extract_lets inR stays whole held u pois m v
  have hv : v.hbm = { s.hbm with cells := s.hbm.cells.filter (fun e => !s.scrubs base len e.1) } ∧ v.cores = s.cores := by
    have hu : u.hbm = s.hbm ∧ u.cores = s.cores := by
      unfold u
      split <;> exact ⟨rfl, rfl⟩
    refine ⟨?_, hu.2⟩
    show Store.mk u.hbm.gen (u.hbm.cells.filter (fun e => stays e.1)) = _
    rw [hu.1]
    exact congrArg (Store.mk s.hbm.gen) (List.filter_congr fun e _ => hstays e.1)
  refine foldl_keeps (P := fun t => t.hbm = { s.hbm with cells := s.hbm.cells.filter (fun e => !s.scrubs base len e.1) } ∧ t.cores = s.cores)
    (fun t n _ ht => ?_) hv
  extract_lets k
  split
  · exact ht
  · obtain ⟨hhbm, hcores, -⟩ := t.applyInject_kept k
    rw [hhbm, hcores]
    exact ht

/-- A store without the keys that `p` names. -/
theorem mapFind_filter {α : Type} (p : Nat → Bool) (m : List (Nat × α)) (k : Nat) :
    mapFind (m.filter (fun e => !p e.1)) k = if p k then none else mapFind m k := by
  induction m with
  | nil => simp [mapFind]
  | cons e m ih =>
    obtain ⟨a, x⟩ := e
    rw [List.filter_cons]
    by_cases hk : k = a
    · subst hk
      cases hp : p k
      · simp [mapFind]
      · simp [ih, hp]
    · split
      · simp only [mapFind, if_neg hk, ih]
      · simp only [mapFind, if_neg hk, ih]

theorem hbmScrubDone_zeroes {s : State} {b l : Nat} (hscrub : s.scrub = some (b, l)) (hquiet : s.scrubW = []) (hup : s.hbmUp = true)
    (hgen : s.hbm.gen = 0) : ∃ t, exec .hbmScrubDone s = .next t ∧ t.scrub = none ∧ t.bit (rSEC_SCRUBSTAT) 0 = false
      ∧ t.bit (rSEC_SCRUBSTAT) 1 = true ∧ t.cores = s.cores
      ∧ ∀ key a, a = s.unplace (key / 2 ^ 37) (key % 2 ^ 37) →
        (b ≤ a → a < b + l → t.hbm.get key = 0) ∧ (¬(b ≤ a ∧ a < b + l) → t.hbm.get key = s.hbm.get key) := by
  obtain ⟨u, hu⟩ : ∃ u, u = s.zeroRange b l [] := ⟨_, rfl⟩
  obtain ⟨hhbm, hcores⟩ := s.zeroRange_quiet b l
  rw [← hu] at hhbm hcores
  obtain ⟨t, ht⟩ : ∃ t, t = ({ (u.setBit (rSEC_SCRUBSTAT) 0 false).setBit (rSEC_SCRUBSTAT) 1 true with
    scrub := none, scrubW := [], freeCtr := u.freeCtr + 0 } : State) := ⟨_, rfl⟩
  have hexec : exec .hbmScrubDone s = .next t := by
    show execHbmScrubDone s = _
    unfold execHbmScrubDone
    rw [hscrub]
    dsimp only
    rw [if_neg (by rw [hup]; decide), hquiet, ht, hu]
    rfl
  have hget (key : Nat) : t.hbm.get key = if s.scrubs b l key then 0 else s.hbm.get key := by
    have hthbm : t.hbm = { s.hbm with cells := s.hbm.cells.filter (fun e => !s.scrubs b l e.1) } := by
      rw [← hhbm, ht]
      rfl
    rw [hthbm, Store.get, mapFind_filter (s.scrubs b l), Store.get, hgen]
    cases s.scrubs b l key <;> rfl
  have hbit (n : Nat) : t.bit (rSEC_SCRUBSTAT) n = ((u.setBit (rSEC_SCRUBSTAT) 0 false).setBit (rSEC_SCRUBSTAT) 1 true).bit (rSEC_SCRUBSTAT) n := by
    rw [ht]
    rfl
  refine ⟨t, hexec, by rw [ht], ?_, ?_, ?_, fun key a ha => ⟨fun hlo hhi => ?_, fun hout => ?_⟩⟩
  · rw [hbit, State.setBit_bit_other _ _ _ _ _ (by decide) (by decide), State.setBit_bit_same _ _ _ _ (by decide)]
  · rw [hbit, State.setBit_bit_same _ _ _ _ (by decide)]
  · rw [← hcores, ht]
    rfl
  · rw [hget, if_pos]
    rw [State.scrubs, ← ha]
    exact decide_eq_true ⟨hlo, hhi⟩
  · rw [hget, if_neg]
    rw [State.scrubs, ← ha, decide_eq_true_eq]
    exact hout

/-! ## The statement -/

/-- Settles O56: each clause from the lemma of its operation. -/
theorem faultRecords : Obligations.FaultRecords := by
  unfold Obligations.FaultRecords
  refine fun s halive => ⟨fun k i q r hk hi hframe hcycle hfirst _ _ hlog hroom => ?_, fun k p hk h => errorRecord_fatal p halive hk h,
    fun c off hup hoff hst => localPatrolScrub_finds c off hup hoff hst, fun n pos hup hon hdamage hlines hpos hpois => ?_,
    fun n row ks hup hks => ?_, fun q r ack herrq => ?_, fun hpulse => ?_, fun b l hscrub hquiet hup hgen =>
      hbmScrubDone_zeroes hscrub hquiet hup hgen⟩
  · exact errorRecord_arrives halive hk hi (firstOf_eq hi hframe hcycle hfirst) hlog hroom
  · subst hpos
    obtain ⟨hhbm, hp, hcores⟩ := s.scrubStep_hbm n.val (s.reg64 (rMC_SCRUBPOS n.val))
    exact ⟨_, execHbmScrubRead_clean n hup hon hdamage hlines hpois, hhbm, hp, hcores, s.scrubStep_position _ _, s.scrubStep_status _ _,
      s.scrubStep_pass _ _⟩
  · subst hks
    refine ⟨fun hrow => ?_, fun l hlen hnodup hpc hnew hz => ?_, fun h => execSoftPpr_none n row hup h⟩
    · have hperm : s.rowPermanent (rowSectors n row) = true := by
        rcases hrow with ⟨e, he, hkey, hsym⟩ | ⟨hlines, x, y, z, h, hxy, hyz, hday⟩
        · exact State.rowPermanent_of_uncorrectable he hkey hsym
        · exact State.rowPermanent_of_three hlines h hxy hyz hday
      exact ⟨softPpr_repairs n row hup hperm, softPpr_exhausts n row hup hperm⟩
    · obtain ⟨z, hzin, hzk⟩ := hz
      exact softPpr_notesLine n row l hup (State.lineFaulty_of hlen hnodup hpc hnew hzin hzk)
  · exact ⟨fun c hc => mctp_sends ack halive herrq hc, mctpRetry_givesUp ack halive herrq⟩
  · exact congrArg Host.Outcome.next (if_pos ⟨halive, hpulse⟩)

end Sys2Proof.Machine
end

section
/-!
# O25: what the accesses of a transfer leave (R163, R171, R172, R176, R224, R230, R235, R240, R303, R308)

Reads and translations change no core and no PARTn.STATUS, so that no core changes its partition; the writes of a transfer change, of a
core, local memory, operand registers and the counts of the frame.
-/
namespace Sys2Proof.Machine

/-! ## Registers of memory -/

theorem State.samePlan.setReg (s : State) {o : Nat} (v : Word32) (ho : offStatus o) : s.samePlan (s.setReg o v) := (State.CapEq.setReg s v ho).plan

theorem State.samePlan.setReg64 (s : State) {o : Nat} (v : Nat) (ho : offStatus o) (ho' : offStatus (o + 4)) : s.samePlan (s.setReg64 o v) :=
  (setReg s _ ho).trans (setReg _ _ ho')

theorem State.samePlan.foldl {α : Type} {g : State → α → State} (hg : ∀ (t : State) a, t.samePlan (g t a)) (l : List α) (s : State) :
    s.samePlan (l.foldl g s) := foldl_keeps (P := s.samePlan) (fun t a _ h => h.trans (hg t a)) s.samePlan_refl

theorem offStatus_MC {o : Nat} (h : 0x100000 ≤ o) : offStatus o := fun p hp => by
  simp only [rPART_STATUS]
  omega

theorem State.errsumMod_plan (s : State) (b : Nat) : s.samePlan (s.errsumMod b) := (State.CapEq.setBit s b true offStatus_modErrsum).plan

theorem State.memNote_plan (s : State) (k cls action : Nat) (scrub inj : Bool) (cw sym : Nat) :
    s.samePlan (s.memNote k cls action scrub inj cw sym) :=
  (State.samePlan.setReg64 s _ (offStatus_MC (by simp only [rMC_ERRADDR]; omega)) (offStatus_MC (by simp only [rMC_ERRADDR]; omega))).trans
    (State.samePlan.setReg _ _ (offStatus_MC (by simp only [rMC_ERRINFO]; omega)))

theorem State.memEvents_plan (s : State) (k : Nat) (inj : Bool) (l : List (Option Nat)) : s.samePlan (s.memEvents k inj l) :=
  State.samePlan_of_regs (by unfold State.memEvents; split <;> rfl)

theorem State.memUncorrectable_plan (s : State) (k : Nat) (l : List SymErr) (scrub : Bool) : s.samePlan (s.memUncorrectable k l scrub) :=
  (((State.samePlan.setReg s _ (offStatus_MC (by simp only [rMC_UE]; omega))).trans (State.errsumMod_plan _ _)).trans
    (State.memNote_plan _ _ _ _ _ _ _ _)).trans (State.memEvents_plan _ _ _ _)

theorem State.decodeSector_plan (s : State) (k : Nat) (scrub : Bool) : s.samePlan (s.decodeSector k scrub).1 := by
  unfold State.decodeSector
  split
  · exact s.samePlan_refl
  · extract_lets l free s₁ a b
    split
    · exact s.samePlan_refl
    · have h₁ : s.samePlan s₁ := State.samePlan_of_regs rfl
      split
      · split
        · exact h₁
        · exact h₁.trans (State.memUncorrectable_plan _ _ _ _)
      · split
        · exact h₁.trans (State.memUncorrectable_plan _ _ _ _)
        · split
          · exact h₁
          · next inj s₂ _ _ _ _ _ _ =>
            have h₂ : s₁.samePlan s₂ :=
              (State.samePlan.setReg64 s₁ _ (offStatus_MC (by simp only [rMC_CE]; omega)) (offStatus_MC (by simp only [rMC_CE]; omega))).trans
                (State.errsumMod_plan _ _)
            extract_lets first found s₃
            have h₃ : s₂.samePlan s₃ := (s₂.memNote_plan _ _ _ _ _ _ _).trans (State.memEvents_plan _ _ _ _)
            exact h₁.trans (h₂.trans h₃)

theorem State.applyInject_plan (s : State) (k : Nat) : s.samePlan (s.applyInject k) := by
  have hdone (n : Nat) : s.samePlan (s.setBit (rMC_INJCTL n) 31 false) :=
    State.samePlan.setReg s _ (offStatus_MC (by simp only [rMC_INJCTL]; omega))
  unfold State.applyInject
  dsimp only
  split
  · split <;> exact hdone _
  · exact s.samePlan_refl

theorem State.snoopLine_plan (s : State) (l : Nat) : s.samePlan (s.snoopLine l) := by
  have hcount : s.samePlan (s.count64 (rCXL_BISNP) 1) := State.samePlan.setReg64 s _ (offStatus_MC (by decide)) (offStatus_MC (by decide))
  unfold State.snoopLine
  extract_lets t ans u data
  have hu : s.samePlan u := hcount.trans (State.samePlan_of_regs rfl)
  clear_value u data
  split
  · exact hu
  · next b =>
    extract_lets v
    have hv : u.samePlan v := State.samePlan_of_regs rfl
    exact hu.trans (hv.trans ((v.applyInject_plan _).trans (State.applyInject_plan _ _)))

theorem State.snoop_plan (s : State) (ks : List Nat) : s.samePlan (s.snoop ks) := by
  unfold State.snoop
  split
  · exact s.samePlan_refl
  · exact State.samePlan.foldl State.snoopLine_plan _ _

theorem State.hbmDecode_plan (s : State) (ks : List Nat) : s.samePlan (s.hbmDecode ks).1 := by
  unfold State.hbmDecode
  refine List.foldlRecOn (sectorsOf ks) _ (motive := fun x : State × List (Nat × Byte) => s.samePlan x.1) s.samePlan_refl fun x hx k _ => ?_
  dsimp only
  have hdec := State.samePlan.trans hx (x.1.decodeSector_plan k false)
  split
  · exact hdec.trans (State.samePlan.setReg _ _ (offStatus_MC (by simp only [rMC_PREAD]; omega)))
  · exact hdec

theorem State.hbmWriteRaw_plan (s : State) (kb : List (Nat × Byte × Bool)) : s.samePlan (s.hbmWriteRaw kb) := by
  unfold State.hbmWriteRaw
  refine State.samePlan.foldl (fun t k => ?_) _ _
  extract_lets part p whole d t₁ t₂ w t₃ t₄
  have h₁ : t.samePlan t₁ := by
    unfold t₁
    split
    · exact t.samePlan_refl
    · exact t.decodeSector_plan k false
  have h₃ : t₂.samePlan t₃ := by
    unfold t₃
    split
    · exact State.samePlan.setReg t₂ _ (offStatus_MC (by simp only [rMC_PWRITE]; omega))
    · exact t₂.samePlan_refl
  have h₄ : t₃.samePlan t₄ := by
    unfold t₄
    split <;> exact t₃.samePlan_refl
  exact h₁.trans (h₃.trans (h₄.trans (t₄.applyInject_plan k)))

/-! ## Reads and translations -/

/-- What reads leave: the cores, and what lies in which partition. -/
structure State.ReadEq (s t : State) : Prop where
  cores : t.cores = s.cores
  plan : s.samePlan t

namespace State.ReadEq

theorem refl (s : State) : s.ReadEq s := ⟨rfl, s.samePlan_refl⟩

theorem trans {s t u : State} (h : s.ReadEq t) (h' : t.ReadEq u) : s.ReadEq u := ⟨h'.cores.trans h.cores, h.plan.trans h'.plan⟩

theorem of_eq {s t : State} (hcores : t.cores = s.cores) (hregs : t.regs = s.regs) : s.ReadEq t := ⟨hcores, State.samePlan_of_regs hregs⟩

/-- The state that an operation which only reads answers with `x`. -/
theorem of_fst {α : Type} {s t : State} {r : State × α} {x : α} (h : s.ReadEq r.1) (hr : r = (t, x)) : s.ReadEq t := by rwa [hr] at h

end State.ReadEq

theorem State.devReadL_readEq (s : State) (as : List Nat) : s.ReadEq (s.devReadL as).1 := by
  unfold State.devReadL
  extract_lets r t b p hs u v
  have ht : s.ReadEq t :=
    ⟨(State.hbmDecode_cores _ _).trans (s.snoop_cores _), (s.snoop_plan _).trans (State.hbmDecode_plan _ _)⟩
  have hu : t.ReadEq u := by
    unfold u
    split <;> exact .of_eq rfl rfl
  have hv : u.ReadEq v := by
    unfold v
    split <;> exact .of_eq rfl rfl
  exact ht.trans (hu.trans hv)

theorem State.devRead_readEq (s : State) (a n : Nat) : s.ReadEq (s.devRead a n).1 := s.devReadL_readEq _

theorem State.walk_readEq (s : State) (va : Nat) (write : Bool) (fuel lv tbl : Nat) : s.ReadEq (s.walk va write fuel lv tbl).1 := by
  induction fuel generalizing s lv tbl with
  | zero => exact .refl s
  | succ fuel ih =>
    unfold State.walk
    extract_lets ix ea r t e addr ps right size
    split
    · exact .refl s
    · have ht : s.ReadEq t := s.devRead_readEq ea 8
      split
      · exact ht
      · split
        · exact ht
        · split
          · split
            · exact ht
            · exact ht.trans (ih t _ _)
          · split
            · exact ht.trans (ih t _ _)
            · split
              · exact ht
              · split <;> exact ht

theorem State.translate_readEq (s : State) (p va : Nat) (write : Bool) : s.ReadEq (s.translate p va write).1 := by
  unfold State.translate
  extract_lets base
  split
  · exact .refl s
  · split
    · exact .refl s
    · exact s.walk_readEq _ _ _ _ _

theorem State.translateN_readEq (s : State) (p va n : Nat) (write : Bool) : s.ReadEq (s.translateN p va n write).1 := by
  have hfirst := s.translate_readEq p va write
  unfold State.translateN
  extract_lets m
  split
  · next h => exact hfirst.of_fst h
  · next h => exact hfirst.of_fst h
  · next t a h =>
    have ht := hfirst.of_fst h
    extract_lets l
    split
    · exact ht
    · have hnext := t.translate_readEq p (va + m) write
      split <;> next h' => exact ht.trans (hnext.of_fst h')

/-! ## The accesses of a transfer -/

theorem State.xferGet_readEq (s : State) (c : Fin 96) (x : Xfer) (d : Desc) (a n : Nat) : s.ReadEq (s.xferGet c x d a n).1 := by
  have htrans := s.translateN_readEq (s.core c).part a n false
  unfold State.xferGet
  extract_lets k
  split
  · exact .refl s
  · split
    · exact .refl s
    · split
      · next t l h => exact (htrans.of_fst h).trans ((State.ReadEq.of_eq (s := t) (t := t.hostAsk l) rfl rfl).trans (State.devReadL_readEq _ l))
      · next h => exact htrans.of_fst h
      · next h => exact htrans.of_fst h

theorem State.xferDst_readEq (s : State) (c : Fin 96) (d : Desc) (a n : Nat) : s.ReadEq (s.xferDst c d a n).1 := by
  have htrans := s.translateN_readEq (s.core c).part a n true
  unfold State.xferDst
  split
  · split <;> next h => exact htrans.of_fst h
  · exact .refl s

theorem State.xferAt_readEq (s : State) (c : Fin 96) (x : Xfer) (d : Desc) (p : Nat) : s.ReadEq (s.xferAt c x d p).1 := by
  unfold State.xferAt
  extract_lets k des b a ix ent
  split
  · have hdst := s.xferDst_readEq c d a des
    split <;> next h => exact hdst.of_fst h
  · clear_value ent
    split
    · exact .refl s
    · extract_lets oor dix six src
      have hsrc : s.ReadEq src.1 := by
        unfold src
        split
        · exact .refl s
        · exact s.xferGet_readEq c x d _ _
      clear_value src
      split
      · exact .refl s
      · split
        · exact hsrc
        · next t raw z =>
          have hdst := t.xferDst_readEq c d (x.dbase + offs dix d.ds des).toNat des
          extract_lets v
          split <;> next h => exact State.ReadEq.trans hsrc (hdst.of_fst h)

theorem State.xferScan_readEq (s : State) (c : Fin 96) (x : Xfer) (d : Desc) (fuel p : Nat) : s.ReadEq (s.xferScan c x d fuel p).1 := by
  induction fuel generalizing s p with
  | zero => exact .refl s
  | succ fuel ih =>
    have hat := s.xferAt_readEq c x d p
    unfold State.xferScan
    split
    · next h => exact hat.of_fst h
    · next h => exact (hat.of_fst h).trans (ih _ _)

theorem State.xferAccs_readEq (s : State) (c : Fin 96) (x : Xfer) : s.ReadEq (s.xferAccs c x).1 := s.xferScan_readEq c x _ _ _

/-! ## The writes of a transfer -/

/-- The cores agree in all but local memory, operand registers, the counts of the frame, and transfers. -/
def Core.xferEq (k k' : Core) : Prop :=
  { k' with lm := k.lm, lmPois := k.lmPois, opnd := k.opnd, fcount := k.fcount, xfers := k.xfers } = k

namespace Core.xferEq

theorem refl (k : Core) : k.xferEq k := rfl

theorem trans {k j i : Core} (h : k.xferEq j) (h' : j.xferEq i) : k.xferEq i := by
  unfold Core.xferEq at *
  rw [← h]
  rw [← h']

theorem of_lmEq {k k' : Core} (h : k.lmEq k') : k.xferEq k' := by
  unfold Core.lmEq at h
  unfold Core.xferEq
  rw [← h]

theorem of_tileEq {k k' : Core} (h : k.tileEq k') : k.xferEq k' := by
  unfold Core.tileEq at h
  unfold Core.xferEq
  rw [← h]

variable {k k' : Core} (h : k.xferEq k')
include h

theorem st : k'.st = k.st := by rw [← h]
theorem held : k'.held = k.held := by rw [← h]
theorem scnt : k'.scnt = k.scnt := by rw [← h]
theorem cregs : k'.cregs = k.cregs := by rw [← h]

end Core.xferEq

/-- What the accesses of a transfer leave: each core but for what they write, and what lies in which partition. -/
structure State.XferEq (s t : State) : Prop where
  core : ∀ d, (s.core d).xferEq (t.core d)
  plan : s.samePlan t

namespace State.XferEq

theorem refl (s : State) : s.XferEq s := ⟨fun _ => .refl _, s.samePlan_refl⟩

theorem trans {s t u : State} (h : s.XferEq t) (h' : t.XferEq u) : s.XferEq u :=
  ⟨fun d => (h.core d).trans (h'.core d), h.plan.trans h'.plan⟩

theorem of_read {s t : State} (h : s.ReadEq t) : s.XferEq t := ⟨fun d => by rw [State.core, State.core, h.cores]; exact .refl _, h.plan⟩

theorem modCore (s : State) (c : Fin 96) {g : Core → Core} (hg : (s.core c).xferEq (g (s.core c))) : s.XferEq (s.modCore c g) := by
  refine ⟨fun d => ?_, State.samePlan_of_regs rfl⟩
  rw [State.modCore_core]
  split
  · next h => rw [h]; exact hg
  · exact .refl _

theorem foldl {α : Type} {g : State → α → State} (hg : ∀ (t : State) a, t.XferEq (g t a)) (l : List α) (s : State) :
    s.XferEq (l.foldl g s) := foldl_keeps (P := s.XferEq) (fun t a _ h => h.trans (hg t a)) (refl s)

end State.XferEq

theorem Core.tileWriteZ_xferEq (k : Core) (w : List (Nat × Byte × Bool)) : k.xferEq (k.tileWriteZ w) := by
  unfold Core.tileWriteZ
  exact List.foldlRecOn _ _ (motive := k.xferEq) (.refl k) fun j h _ _ => h.trans (.of_tileEq (j.setRow_tileEq _ _ _ _ _))

theorem Core.lmWriteZ_xferEq (k : Core) (w : List (Nat × Byte × Bool)) : k.xferEq (k.lmWriteZ w) := .of_lmEq (k.lmWriteZ_lmEq w)

theorem Core.bump_xferEq (k : Core) (o n : Nat) : k.xferEq (k.bump o n) := rfl

theorem Core.xferCounts_xferEq (k : Core) (x : Xfer) (l : List XAcc) (lim : Nat) : k.xferEq (k.xferCounts x l lim) :=
  (((k.bump_xferEq _ _).trans (Core.bump_xferEq _ _ _)).trans (Core.bump_xferEq _ _ _)).trans (Core.bump_xferEq _ _ _)

theorem State.devWriteL_xferEq (s : State) (w : List (Nat × Byte × Bool)) : s.XferEq (s.devWriteL w) := by
  unfold State.devWriteL
  extract_lets hb lm ho t u
  have ht : s.XferEq t := by
    unfold t
    split
    · exact .refl s
    · exact .of_read ⟨s.hbmWrite_cores hb, (s.snoop_plan _).trans (State.hbmWriteRaw_plan _ _)⟩
  have hu : t.XferEq u := State.XferEq.foldl (fun v c => .modCore v c ((v.core c).lmWriteZ_xferEq _)) _ t
  exact ht.trans (hu.trans ⟨fun _ => .refl _, State.samePlan_of_regs rfl⟩)

theorem State.xferPut_xferEq (s : State) (c : Fin 96) (d : Desc) (ws : List XAcc) : s.XferEq (s.xferPut c d ws) := by
  unfold State.xferPut
  split
  · exact .modCore s c ((s.core c).tileWriteZ_xferEq _)
  · split
    · exact .modCore s c (List.foldlRecOn ws _ (motive := (s.core c).xferEq) (.refl _) fun j h w _ => h.trans (j.lmWriteZ_xferEq w.bytes))
    · exact State.XferEq.foldl (fun t w => t.devWriteL_xferEq w.bytes) ws s

theorem State.noteOver_xferEq (s : State) (c : Fin 96) (x : Xfer) (l : List XAcc) : s.XferEq (s.noteOver c x l) := by
  unfold State.noteOver
  dsimp only
  split
  · exact .modCore s c rfl
  · exact .refl s

/-- A transfer performed to its end. -/
theorem State.xferRun_xferEq (s : State) (c : Fin 96) (x : Xfer) : s.XferEq (s.xferRun c x none).1 := by
  unfold State.xferRun
  exact (State.XferEq.of_read (s.xferAccs_readEq c x)).trans ((State.xferPut_xferEq _ c _ _).trans
    ((State.XferEq.modCore _ c (Core.xferCounts_xferEq _ x _ _)).trans (State.noteOver_xferEq _ c x _)))

end Sys2Proof.Machine
end

section
/-!
# O25: a transfer starts, ends and counts (R168 to R177, R304)

A transfer's accesses leave its core running, with nothing held and its counters as they were; so what follows their end is one update of
the core, or the fault that a failure of translation records first.
-/
namespace Sys2Proof.Machine

/-! ## The next queued transfer starts (R177) -/

theorem startFirst_uids (l : List Xfer) : (startFirst l).map (·.uid) = l.map (·.uid) := by
  induction l with
  | nil => rfl
  | cons y l ih =>
    unfold startFirst
    split
    · rw [List.map_cons, List.map_cons, ih]
    · rfl

theorem startFirst_starts {l : List Xfer} {x : Xfer} (h : l.find? (fun x => !x.running) = some x) :
    { x with running := true } ∈ startFirst l ∧ ((startFirst l).filter (·.running)).length = (l.filter (·.running)).length + 1 := by
  induction l with
  | nil => cases h
  | cons y l ih =>
    rw [List.find?_cons] at h
    unfold startFirst
    cases hy : y.running with
    | true =>
      rw [hy] at h
      obtain ⟨hmem, hlen⟩ := ih h
      rw [if_pos rfl, List.filter_cons_of_pos hy, List.filter_cons_of_pos hy, List.length_cons, List.length_cons, hlen]
      exact ⟨List.mem_cons_of_mem _ hmem, rfl⟩
    | false =>
      rw [hy] at h
      obtain rfl : y = x := Option.some.inj h
      rw [if_neg Bool.false_ne_true, List.filter_cons_of_pos rfl, List.filter_cons_of_neg (by rw [hy]; exact Bool.false_ne_true), List.length_cons]
      exact ⟨List.mem_cons_self, rfl⟩

theorem lxferStart_starts {s : State} {c : Fin 96} {x : Xfer} (hnext : (s.core c).xfers.find? (fun x => !x.running) = some x)
    (hfew : ((s.core c).xfers.filter (·.running)).length < 4) (hfree : (s.core c).heldBy x.fid = false) :
    ∃ t, exec (.lxferStart c) s = .next t ∧ s.onlyCore t c ∧ { t.core c with xfers := (s.core c).xfers } = s.core c
      ∧ (t.core c).xfers.map (·.uid) = (s.core c).xfers.map (·.uid) ∧ { x with running := true } ∈ (t.core c).xfers
      ∧ ((t.core c).xfers.filter (·.running)).length = ((s.core c).xfers.filter (·.running)).length + 1 := by
  have hexec : exec (.lxferStart c) s = .next (s.modCore c (fun k => { k with xfers := startFirst k.xfers })) := by
    show execLxferStart c s = _
    unfold execLxferStart
    dsimp only
    rw [hnext]
    dsimp only
    rw [if_pos ⟨hfew, by rw [hfree]; rfl⟩]
  obtain ⟨hmem, hlen⟩ := startFirst_starts hnext
  refine ⟨_, hexec, s.modCore_onlyCore _ _, ?_, ?_, ?_, ?_⟩ <;> rw [State.modCore_self]
  · exact startFirst_uids _
  · exact hmem
  · exact hlen

/-! ## The end of a transfer (R177, R187) -/

theorem Core.countEq.held {k k' : Core} (h : k.countEq k') : k'.held = k.held := by rw [← h]

theorem Core.countEq.xfers {k k' : Core} (h : k.countEq k') : k'.xfers = k.xfers := by rw [← h]

/-- A core whose transfer x is complete, where nothing is held behind its fences. -/
def Core.xferEnd (x : Xfer) (k : Core) : Core :=
  (if x.sigen ∧ (k.dropXfer x.uid).st = .running then (k.dropXfer x.uid).addCount x.scnt 1 else k.dropXfer x.uid).pruneFences

/-- What the end of a transfer leaves of a core whose transfers have been taken: all but the counters, registers and fences. -/
theorem Core.xferEnd_countEq (k : Core) (x : Xfer) : (k.dropXfer x.uid).countEq (k.xferEnd x) := by
  unfold Core.xferEnd
  split
  · exact (Core.addCount_countEq _ _ _).trans (Core.pruneFences_countEq _)
  · exact Core.pruneFences_countEq _

theorem Core.xferEnd_xfers (k : Core) (x : Xfer) : (k.xferEnd x).xfers = k.xfers.filter (fun y => y.uid ≠ x.uid) :=
  (k.xferEnd_countEq x).xfers

theorem Core.xferEnd_lm (k : Core) (x : Xfer) : (k.xferEnd x).lm = k.lm := (k.xferEnd_countEq x).lm

theorem Core.xferEnd_opnd (k : Core) (x : Xfer) : (k.xferEnd x).opnd = k.opnd := (k.xferEnd_countEq x).opnd

theorem Core.xferEnd_count {k : Core} (x : Xfer) (hrun : k.st = .running) :
    (k.xferEnd x).count x.scnt = if x.sigen then min (k.count x.scnt + 1) (2 ^ 64 - 1) else k.count x.scnt := by
  have hst : (k.dropXfer x.uid).st = .running := hrun
  unfold Core.xferEnd
  rw [Core.pruneFences_count]
  cases x.sigen
  · rw [if_neg (fun h => Bool.false_ne_true h.1), if_neg Bool.false_ne_true]
    rfl
  · rw [if_pos ⟨rfl, hst⟩, if_pos rfl, Core.addCount_count]
    rfl

theorem State.xferDone_of_held {s : State} {c : Fin 96} (x : Xfer) (h : (s.core c).held = []) : s.xferDone c x = s.modCore c (Core.xferEnd x) := by
  unfold State.xferDone
  rw [State.settle_of_held, State.modCore_modCore]
  · rfl
  · rw [State.modCore_self]
    dsimp only
    split
    · exact (Core.addCount_countEq _ _ _).held.trans h
    · exact h

/-- The host's acknowledgement of a transfer's writes ends it (R304). -/
theorem hostWriteCompletion_ends {s : State} {c : Fin 96} {k id : Nat} {x : Xfer}
    (hk : (((s.core c).outw.filter (fun w => w.2 = .host)).map (·.1))[k]? = some id)
    (hx : (s.core c).xfers.find? (fun x => x.uid = id) = some x) (hheld : (s.core c).held = []) (hrun : (s.core c).st = .running) :
    ∃ t, exec (.hostWriteCompletion c k) s = .next t ∧ s.onlyCore t c
      ∧ (t.core c).xfers = (s.core c).xfers.filter (fun y => y.uid ≠ id)
      ∧ (t.core c).count x.scnt = if x.sigen then min ((s.core c).count x.scnt + 1) (2 ^ 64 - 1) else (s.core c).count x.scnt := by
  have hid : x.uid = id := by simpa using List.find?_some hx
  obtain ⟨g, hg⟩ : ∃ g : Core → Core, g = fun q => { q with outw := q.outw.filter (fun w => !(w.1 = id && w.2 = .host)) } := ⟨_, rfl⟩
  have hexec : exec (.hostWriteCompletion c k) s = .next ((s.modCore c g).xferDone c x) := by
    show execHostWriteCompletion c k s = _
    unfold execHostWriteCompletion
    dsimp only
    rw [hk]
    dsimp only
    rw [hx, hg]
  have hend : (s.modCore c g).xferDone c x = s.modCore c (fun q => (g q).xferEnd x) := by
    rw [State.xferDone_of_held, State.modCore_modCore]
    rw [State.modCore_self, hg]
    exact hheld
  refine ⟨_, hexec.trans (congrArg _ hend), s.modCore_onlyCore _ _, ?_, ?_⟩
  · rw [State.modCore_self, Core.xferEnd_xfers, hid, hg]
  · rw [State.modCore_self, Core.xferEnd_count x (by rw [hg]; exact hrun), hg]
    rfl

/-! ## What ends a transfer early (R172, R176, R308) -/

theorem State.poisonUse_faultEq (s : State) (c : Fin 96) (unit op addr : Nat) (inj : Bool) : s.FaultEq (s.poisonUse c unit op addr inj) := by
  unfold State.poisonUse
  extract_lets t u
  have ht : s.FaultEq t := by
    unfold t
    split
    · exact .refl s
    · exact s.errsum_faultEq c _
  have hu : s.FaultEq u := ht.trans (t.record_faultEq _ _ _ _ _ _ _ _)
  split
  · exact hu.trans (State.stopPart_faultEq _ _ _ _)
  · exact hu

theorem State.layPoison_faultEq (s : State) (c : Fin 96) (slot op addr : Nat) (inj : Bool) : s.FaultEq (s.layPoison c slot op addr inj) :=
  (State.FaultEq.modCore s c (Core.faultReg_faultEq _ _ _)).trans (State.poisonUse_faultEq _ _ _ _ _ _)

theorem offStatus_FAULT (q : Nat) : offStatus (rPART_FAULT q) := fun p hp => by
  simp only [rPART_STATUS, rPART_FAULT]
  omega

theorem State.ptePoison_faultEq (s : State) (p : Nat) (c : Fin 96) (op off : Nat) : s.FaultEq (s.ptePoison p c op off) := by
  unfold State.ptePoison
  extract_lets t
  have ht : s.FaultEq t := by
    unfold t
    split
    · exact .setReg s _ (offStatus_FAULT p)
    · exact .refl s
  exact ht.trans (State.poisonUse_faultEq _ _ _ _ _ _)

/-- LAY.FAULT cause 3 and LAY.FADDR of a core that has no fault yet (R176). -/
def Core.xlateReg (addr slot : Nat) (k : Core) : Core :=
  if !(k.hasFault (kLAY_FAULT)) then (k.faultReg (kLAY_FAULT) (3 + 16 * slot)).setReg64 (kLAY_FADDR) addr else k

theorem Core.xlateReg_faultEq (k : Core) (addr slot : Nat) : k.faultEq (k.xlateReg addr slot) := by
  unfold Core.xlateReg
  split
  · exact (k.faultReg_faultEq _ _).trans ((Core.setReg_faultEq _ _ _).trans (Core.setReg_faultEq _ _ _))
  · exact .refl k

theorem Core.xlateReg_st (k : Core) (addr slot : Nat) : (k.xlateReg addr slot).st = k.st := by
  unfold Core.xlateReg
  split
  · exact k.faultReg_st _ _
  · rfl

theorem Core.xlateReg_first {k : Core} (hrun : k.st = .running) (hreg : k.reg (kLAY_FAULT) = 0) (addr slot : Nat) :
    (k.xlateReg addr slot).reg (kLAY_FAULT) = BitVec.ofNat 32 (3 + 16 * slot) := by
  have hfirst := Core.faultReg_first offSeq_LAY hrun hreg (3 + 16 * slot)
  have hno : k.hasFault (kLAY_FAULT) = false := by
    have hshut : k.shut = false := by rw [Core.shut, hrun]; rfl
    rw [Core.hasFault, hshut, Core.fld, hreg]
    rfl
  rw [Core.xlateReg, hno, Bool.not_false, if_pos rfl, Core.setReg64_reg_other _ _ _ _ (by decide) (by decide), hfirst]

theorem State.xlateFault_eq (s : State) (c : Fin 96) (addr slot op : Nat) :
    s.xlateFault c addr slot op = (s.modCore c (Core.xlateReg addr slot)).progFault c 4 (kLAY_FAULT) op addr := rfl

theorem State.xlateFault_faultEq (s : State) (c : Fin 96) (addr slot op : Nat) : s.FaultEq (s.xlateFault c addr slot op) :=
  (State.FaultEq.modCore s c (Core.xlateReg_faultEq _ _ _)).trans (State.progFault_faultEq _ _ _ _ _ _)

/-- A first failure of translation stops the partition of a running core, with LAY.FAULT cause 3 (R176). -/
theorem State.xlateFault_stops {s : State} {c : Fin 96} {p : Nat} (hpart : s.partOf c = some p) (hgoing : s.isStopped p = false)
    (hrun : (s.core c).st = .running) (hreg : (s.core c).reg (kLAY_FAULT) = 0) (addr slot op : Nat) :
    (s.xlateFault c addr slot op).isStopped p = true ∧ ((s.xlateFault c addr slot op).core c).fld (kLAY_FAULT) 3 0 = 3 := by
  have hp := State.partOf_lt hpart
  obtain ⟨v, hv⟩ : ∃ v, v = s.modCore c (Core.xlateReg addr slot) := ⟨_, rfl⟩
  obtain ⟨u, hu⟩ : ∃ u, u = v.progNote c 4 (kLAY_FAULT) op addr := ⟨_, rfl⟩
  have hplan : s.samePlan u := hu ▸ (hv ▸ (State.CapEq.modCore s c _).plan).trans (v.progNote_faultEq _ _ _ _ _).plan
  have hst (d : Fin 96) : (u.core d).st = (s.core d).st := by
    rw [hu, State.progNote_st, hv]
    exact State.modCore_st (Core.xlateReg_st _ _ _) d
  have hval : (u.core c).reg (kLAY_FAULT) = BitVec.ofNat 32 (3 + 16 * slot) := by
    have hvcore : (v.core c).reg (kLAY_FAULT) = BitVec.ofNat 32 (3 + 16 * slot) := by
      rw [hv, State.modCore_self]
      exact Core.xlateReg_first hrun hreg addr slot
    rw [hu]
    rcases State.progNote_core v c 4 (kLAY_FAULT) op addr with h | h
    · rw [h, hvcore]
    · rw [h, Core.setFld_reg_other _ _ _ _ _ _ (by decide), hvcore]
  have hupart : u.partOf c = some p := by rw [hplan.partOf, hpart]
  have hfault : s.xlateFault c addr slot op = u.stopPart p c.val 4 .stopped := by
    rw [hu] at hupart
    rw [State.xlateFault_eq, ← hv, State.progFault_of_part hupart, ← hu]
  obtain ⟨hstopped, hcore⟩ := State.stopPart_stopsCore hupart (by rw [State.isStopped_congr hplan hst hp, hgoing])
    (by rw [hst, hrun]) c.val 4
  rw [hfault]
  exact ⟨hstopped, fld_cause (by rw [hcore]; exact hval) (by decide)⟩

theorem State.xferStop_faultEq (s : State) (c : Fin 96) (x : Xfer) (e : XStop) : s.FaultEq (s.xferStop c x e) := by
  cases e with
  | xlate va => exact s.xlateFault_faultEq c va x.slot x.opw
  | pte off => exact s.ptePoison_faultEq _ c x.opw off
  | list a => exact s.layPoison_faultEq c x.slot x.opw a false

/-! ## A running transfer performs its accesses and ends (R168 to R177) -/

/-- The draws that the completion of transfer x takes. -/
def State.xferDraws (s : State) (c : Fin 96) (x : Xfer) : Nat := ((s.xferTaken c).xferAccs c x).2.1.length * x.since.length

/-- The state with `n` draws taken. -/
def State.drawn (s : State) (n : Nat) : State := { s with freeCtr := s.freeCtr + n }

/-- A running transfer whose writes await the host (R304). -/
def Core.xferSent (x : Xfer) (k : Core) : Core :=
  { k with xfers := k.xfers.map (fun y => if y.uid = x.uid then { y with sent := true } else y), outw := k.outw ++ [(x.uid, .host)] }

/-- What follows the accesses of transfer x, which left state u and ended early for `e`. -/
def State.xferFinish (s u : State) (c : Fin 96) (x : Xfer) (e : Option XStop) : State :=
  let v := u.drawn (s.xferDraws c x)
  match e with
  | some e => ((v.modCore c (fun q => q.dropXfer x.uid)).xferStop c x e).settle c
  | none => if (s.xferTaken c).hostWrites c x then v.modCore c (Core.xferSent x) else v.xferDone c x

section
variable {s u : State} {c : Fin 96} {k : Nat} {x : Xfer} {e : Option XStop} (hk : ((s.core c).xfers.filter (·.running))[k]? = some x)
  (hsent : x.sent = false) (hst : (s.core c).st = .running) (hrun : (s.xferTaken c).xferRun c x none = (u, e))
include hk hsent hst hrun

theorem execLxferComplete_eq : exec (.lxferComplete c k) s = .next (s.xferFinish u c x e) := by
  show execLxferComplete c k s = _
  unfold execLxferComplete
  dsimp only
  rw [hk]
  dsimp only
  rw [if_neg (by rw [hsent]; decide), if_pos hst, ← State.xferTaken, hrun]
  cases e <;> rfl

omit hk hsent in
theorem xferRun_leaves : (u.core c).st = .running ∧ (u.core c).held = (s.core c).held ∧ (u.core c).scnt = (s.core c).scnt
    ∧ (u.core c).cregs = (s.core c).cregs ∧ s.samePlan u ∧ ∀ p, p < 8 → u.isStopped p = s.isStopped p := by
  have htaken : s.XferEq (s.xferTaken c) := ⟨fun d => by rw [State.xferTaken, State.touch, State.modPart_core]; exact .refl _,
    State.samePlan_of_regs rfl⟩
  have hrunEq := State.xferRun_xferEq (s.xferTaken c) c x
  rw [hrun] at hrunEq
  have h : s.XferEq u := htaken.trans hrunEq
  exact ⟨(h.core c).st.trans hst, (h.core c).held, (h.core c).scnt, (h.core c).cregs, h.plan,
    fun p hp => State.isStopped_congr h.plan (fun d => (h.core d).st) hp⟩

theorem lxferComplete_ends (hheld : (s.core c).held = []) :
    ∃ t, exec (.lxferComplete c k) s = .next t ∧ (t.core c).lm = (u.core c).lm ∧ (t.core c).opnd = (u.core c).opnd ∧ t.hbm = u.hbm
      ∧ (e = none → (s.xferTaken c).hostWrites c x = false →
        (t.core c).xfers = (u.core c).xfers.filter (fun y => y.uid ≠ x.uid)
        ∧ (t.core c).count x.scnt = if x.sigen then min ((s.core c).count x.scnt + 1) (2 ^ 64 - 1) else (s.core c).count x.scnt)
      ∧ (e = none → (s.xferTaken c).hostWrites c x = true →
        (t.core c).outw = (u.core c).outw ++ [(x.uid, .host)] ∧ ∀ y, y ∈ (t.core c).xfers → y.uid = x.uid → y.sent = true)
      ∧ (∀ va p, e = some (.xlate va) → s.partOf c = some p → s.isStopped p = false → (s.core c).reg (kLAY_FAULT) = 0 →
        t.isStopped p = true ∧ (t.core c).fld (kLAY_FAULT) 3 0 = 3) := by
  have hexec := execLxferComplete_eq hk hsent hst hrun
  unfold State.xferFinish at hexec
  obtain ⟨hust, huheld, huscnt, hucregs, hplan, hstopped⟩ := xferRun_leaves hst hrun
  obtain ⟨v, hv⟩ : ∃ v, v = u.drawn (s.xferDraws c x) := ⟨_, rfl⟩
  rw [← hv] at hexec
  have hvcore (d : Fin 96) : v.core d = u.core d := by rw [hv]; rfl
  have hvhbm : v.hbm = u.hbm := by rw [hv]; rfl
  have hvheld : (v.core c).held = [] := by rw [hvcore, huheld, hheld]
  cases e with
  | none =>
    by_cases hhost : (s.xferTaken c).hostWrites c x = true
    · dsimp only at hexec
      rw [if_pos hhost] at hexec
      refine ⟨_, hexec, ?_, ?_, hvhbm, fun _ h => ?_, fun _ _ => ⟨?_, fun y hy huid => ?_⟩, fun va p h => (nomatch h)⟩
      · rw [State.modCore_self, hvcore]; rfl
      · rw [State.modCore_self, hvcore]; rfl
      · rw [hhost] at h
        exact Bool.noConfusion h
      · rw [State.modCore_self, hvcore]; rfl
      · rw [State.modCore_self] at hy
        obtain ⟨z, -, rfl⟩ := List.mem_map.1 hy
        split
        · rfl
        · next hne =>
          rw [if_neg hne] at huid
          exact absurd huid hne
    · dsimp only at hexec
      rw [if_neg hhost, State.xferDone_of_held x hvheld] at hexec
      refine ⟨_, hexec, ?_, ?_, hvhbm, fun _ _ => ⟨?_, ?_⟩, fun _ h => absurd h hhost, fun va p h => (nomatch h)⟩
      · rw [State.modCore_self, Core.xferEnd_lm, hvcore]
      · rw [State.modCore_self, Core.xferEnd_opnd, hvcore]
      · rw [State.modCore_self, Core.xferEnd_xfers, hvcore]
      · rw [State.modCore_self, Core.xferEnd_count x (by rw [hvcore, hust]), hvcore, Core.count, Core.count, huscnt]
  | some e =>
    obtain ⟨w, hw⟩ : ∃ w, w = v.modCore c (fun q => q.dropXfer x.uid) := ⟨_, rfl⟩
    have hwcore : w.core c = (u.core c).dropXfer x.uid := by rw [hw, State.modCore_self, hvcore]
    have hfault := w.xferStop_faultEq c x e
    dsimp only at hexec
    rw [← hw, State.settle_of_held (by rw [(hfault.core c).held, hwcore]; exact huheld.trans hheld)] at hexec
    refine ⟨_, hexec, ?_, ?_, ?_, fun h => (nomatch h), fun h => (nomatch h), fun va p he hpart hgoing hreg => ?_⟩
    · rw [State.modCore_self]
      exact (hfault.core c).lm.trans (by rw [hwcore]; rfl)
    · rw [State.modCore_self]
      exact (hfault.core c).opnd.trans (by rw [hwcore]; rfl)
    · rw [State.modCore_hbm, hfault.hbm, hw, State.modCore_hbm, hvhbm]
    · obtain rfl : e = .xlate va := Option.some.inj he
      have hp := State.partOf_lt hpart
      have hwplan : s.samePlan w := hplan.trans (State.samePlan_of_regs (by rw [hw, hv]; rfl))
      have hwst (d : Fin 96) : (w.core d).st = (u.core d).st := by
        rw [hw, ← hvcore]
        exact State.modCore_st (s := v) rfl d
      have hwstopped : w.isStopped p = false := by
        rw [State.isStopped_congr (s := u) (State.samePlan_of_regs (by rw [hw, hv]; rfl)) hwst hp, hstopped p hp, hgoing]
      have hwreg : (w.core c).reg (kLAY_FAULT) = 0 := by
        rw [hwcore, ← hreg, Core.reg, Core.reg, ← hucregs]
        rfl
      obtain ⟨hstops, hcause⟩ := State.xlateFault_stops (by rw [hwplan.partOf, hpart]) hwstopped (by rw [hwst, hust]) hwreg va x.slot x.opw
      rw [State.modCore_isStopped (Eq.refl _) hp, State.modCore_self]
      exact ⟨hstops, hcause⟩

end

end Sys2Proof.Machine
end

section
/-!
# O25: a contiguous copy (R168, R177)

Of one dimension of bytes at stride 1 box position p is byte p of both sides. The accesses join these bytes to blocks, but hold them in
order and each once, with the value that the source had before the first write.
-/
namespace Sys2Proof.Machine

/-! ## The box of one dimension of bytes (R168, R169, R170) -/

/-- A descriptor of one contiguous dimension of bytes within local memory, without lists and padding. -/
structure Desc.IsRun (d : Desc) : Prop where
  ndim : d.ndim = 1
  sspace : d.sspace = 1
  dspace : d.dspace = 1
  sfmt : d.sfmt = 7
  dfmt : d.dfmt = 7
  lmode : d.lmode = 0
  ss : d.ss 0 = 1
  ds : d.ds 0 = 1
  plo : d.plo.getD 0 0 = 0
  phi : d.phi.getD 0 0 = 0

/-- The coordinates of position p along dimension 0. -/
def lineCoords (p : Nat) : List Nat := [p, 0, 0, 0, 0]

theorem offs_lineCoords (p : Nat) (str : Nat → Int) (h : str 0 = 1) : offs (lineCoords p) str 1 = (p : Int) := by
  simp [offs, lineCoords, List.range_succ, h]

namespace Desc.IsRun

variable {d : Desc} (h : d.IsRun)
include h

theorem box_zero : d.box 0 = d.ext 0 := by
  rw [Desc.box, Desc.ext, h.ndim, if_pos Nat.one_pos, if_pos Nat.one_pos, h.plo, h.phi, Nat.add_zero]

theorem box_one {k : Nat} (hk : 1 ≤ k) : d.box k = 1 := by
  rw [Desc.box, h.ndim, if_neg (by omega)]

theorem boxSize : d.boxSize = d.ext 0 := by
  show ((((1 * d.box 0) * d.box 1) * d.box 2) * d.box 3) * d.box 4 = d.ext 0
  rw [h.box_zero, h.box_one (by decide), h.box_one (by decide), h.box_one (by decide), h.box_one (by decide)]
  omega

theorem coords {p : Nat} (hp : p < d.ext 0) : d.coords p = lineCoords p := by
  show [p / 1 % d.box 0, p / (1 * d.box 0) % d.box 1, p / (1 * d.box 0 * d.box 1) % d.box 2, p / (1 * d.box 0 * d.box 1 * d.box 2) % d.box 3,
    p / (1 * d.box 0 * d.box 1 * d.box 2 * d.box 3) % d.box 4] = _
  rw [h.box_zero, h.box_one (k := 1) (by decide), h.box_one (k := 2) (by decide), h.box_one (k := 3) (by decide),
    h.box_one (k := 4) (by decide), Nat.div_one, Nat.mod_eq_of_lt hp]
  simp only [Nat.mod_one, lineCoords]

theorem isData {p : Nat} (hp : p < d.ext 0) : d.isData (lineCoords p) = true := by
  rw [Desc.isData, List.all_eq_true]
  intro k _
  rw [decide_eq_true_eq, h.ndim]
  rcases Nat.eq_zero_or_pos k with rfl | hk
  · refine .inr ⟨by rw [h.plo]; exact Nat.zero_le _, ?_⟩
    rw [h.plo, Nat.zero_add]
    exact hp
  · exact .inl hk

theorem index (p : Nat) : d.index (lineCoords p) = lineCoords p := by
  have hplo : d.plo[0]?.getD 0 = 0 := by simpa using h.plo
  simp [Desc.index, lineCoords, List.range_succ, h.ndim, hplo]

theorem conv (key : Nat) (x : Xfer) (lin v : Nat) : convElt d key x lin v = v := if_pos (h.sfmt.trans h.dfmt.symm)

end Desc.IsRun

/-! ## The access of each position -/

/-- The byte that a copy from sb to db moves at position p, with its poison. -/
def Core.movedByte (k : Core) (sb db p : Nat) : Nat × Byte × Bool := (db + p, k.lm.get (sb + p), k.lmPoison (sb + p) 1)

theorem leBytes_byte (b : Byte) : leBytes 1 (leNat [b]) = [b] := leBytes_leNat [b]

section
variable {s : State} {c : Fin 96} {x : Xfer} {d : Desc} {sb db : Nat} (h : d.IsRun) (hs : x.sbase = (sb : Int)) (hd : x.dbase = (db : Int))
include h

theorem State.xferGet_run (a : Nat) : s.xferGet c x d a 1 = (s, .ok ([(s.core c).lm.get a], (s.core c).lmPoison a 1)) := if_pos h.sspace

theorem State.xferDst_run (a : Nat) : s.xferDst c d a 1 = (s, .ok [a]) := by
  rw [State.xferDst, if_neg (by rw [h.dspace]; decide)]
  rfl

include hs hd

theorem State.xferAt_run {p : Nat} (hp : p < d.ext 0) : s.xferAt c x d p = (s, .ok (some ⟨false, [(s.core c).movedByte sb db p]⟩)) := by
  have hsize : descSize 7 = 1 := rfl
  have hsrc : (x.sbase + offs (lineCoords p) d.ss 1).toNat = sb + p := by
    rw [hs, offs_lineCoords p _ h.ss]
    omega
  have hdst : (x.dbase + offs (lineCoords p) d.ds 1).toNat = db + p := by
    rw [hd, offs_lineCoords p _ h.ds]
    omega
  unfold State.xferAt
  simp only [h.coords hp, h.isData hp, h.index, h.lmode, h.sfmt, h.dfmt, hsize, hsrc, hdst, State.xferGet_run h, State.xferDst_run h,
    h.conv, leBytes_byte, Bool.not_true, Bool.false_eq_true, if_false, if_true, Bool.and_false, decide_false,
    OfNat.zero_ne_ofNat, zero_ne_one]
  rfl

theorem State.xferScan_run {n p : Nat} (hp : p + n ≤ d.ext 0) : s.xferScan c x d n p =
    (s, (List.range' p n).map (fun q => (q, (⟨false, [(s.core c).movedByte sb db q]⟩ : Acc1))), none) := by
  induction n generalizing p with
  | zero => rfl
  | succ n ih =>
    rw [State.xferScan, State.xferAt_run h hs hd (by omega)]
    dsimp only
    rw [ih (by omega)]
    rfl

end

/-! ## The accesses hold the bytes in order (R177) -/

theorem joinCells_bytes (l : List ((Bool × Nat × Nat) × Nat × Bool × (Nat × Byte × Bool))) :
    (joinCells l).flatMap (·.2.2) = l.map (·.2.2) := by
  induction l with
  | nil => rfl
  | cons e l ih =>
    obtain ⟨cell, p, b⟩ := e
    rw [List.map_cons, ← ih]
    cases hj : joinCells l with
    | nil => rw [joinCells, hj]; rfl
    | cons g gs =>
      rw [joinCells, hj]
      dsimp only
      split <;> rfl

/-- Where no byte is padding, every access keeps its bytes. -/
theorem standing_bytes (track : Bool) (seen : List Nat) (l : List ((Bool × Nat × Nat) × Nat × List (Bool × (Nat × Byte × Bool))))
    (h : ∀ e, e ∈ l → ∀ b, b ∈ e.2.2 → b.1 = false) : (standing track seen l).flatMap (·.bytes) = l.flatMap (fun e => e.2.2.map (·.2)) := by
  induction l generalizing seen with
  | nil => rfl
  | cons e l ih =>
    obtain ⟨cell, p, bs⟩ := e
    have hall (seen : List Nat) : bs.filter (fun b => !(b.1 && seen.contains b.2.1)) = bs := List.filter_eq_self.2 fun b hb => by
      rw [h _ List.mem_cons_self b hb]
      rfl
    unfold standing
    rw [List.flatMap_cons, List.flatMap_cons, ih _ fun e he => h e (List.mem_cons_of_mem _ he)]
    dsimp only
    rw [hall]

/-- Accesses without padding hold the bytes of their positions, in order. -/
theorem Desc.accesses_bytes (d : Desc) (as : List (Nat × Acc1)) (h : ∀ a, a ∈ as → a.2.pad = false) :
    (d.accesses as).flatMap (·.bytes) = as.flatMap (fun a => a.2.bytes) := by
  obtain ⟨l, hl⟩ : ∃ l, l = as.flatMap (fun a => a.2.bytes.mapIdx (fun i b => (d.cellOf a.1 i b.1, a.1, a.2.pad, b))) := ⟨_, rfl⟩
  have hpad : ∀ e, e ∈ l → e.2.2.1 = false := fun e he => by
    rw [hl] at he
    obtain ⟨a, ha, he⟩ := List.mem_flatMap.1 he
    obtain ⟨i, hi, rfl⟩ := List.mem_mapIdx.1 he
    exact h a ha
  have hjoined : ∀ e, e ∈ joinCells l → ∀ b, b ∈ e.2.2 → b.1 = false := fun e he b hb => by
    have hmem : b ∈ (joinCells l).flatMap (·.2.2) := List.mem_flatMap.2 ⟨e, he, hb⟩
    rw [joinCells_bytes] at hmem
    obtain ⟨e', he', rfl⟩ := List.mem_map.1 hmem
    exact hpad e' he'
  have hbytes : l.map (fun e => e.2.2.2) = as.flatMap (fun a => a.2.bytes) := by
    rw [hl, List.map_flatMap]
    refine List.flatMap_congr fun a _ => ?_
    exact List.ext_getElem? fun i => by simp [Function.comp_def]
  calc (d.accesses as).flatMap (·.bytes)
      = (joinCells l).flatMap (fun e => e.2.2.map (·.2)) := by rw [hl]; exact standing_bytes _ _ _ (hl ▸ hjoined)
    _ = ((joinCells l).flatMap (·.2.2)).map (·.2) := by rw [List.map_flatMap]
    _ = l.map (fun e => e.2.2.2) := by rw [joinCells_bytes, List.map_map]; rfl
    _ = as.flatMap (fun a => a.2.bytes) := hbytes

/-! ## Bytes written to local memory -/

/-- Bytes put one after another, each the value that f has at its address. -/
theorem foldl_put_get (w : List (Nat × Byte × Bool)) (m : Store) {f : Nat → Byte} (hf : ∀ e, e ∈ w → e.2.1 = f e.1) (a : Nat) :
    (w.foldl (fun (m : Store) e => m.put e.1 e.2.1) m).get a = if a ∈ w.map (·.1) then f a else m.get a := by
  induction w generalizing m with
  | nil => rfl
  | cons e w ih =>
    rw [List.foldl_cons, ih _ fun e he => hf e (List.mem_cons_of_mem _ he), Store.get_put, hf e List.mem_cons_self]
    simp only [List.map_cons, List.mem_cons]
    by_cases hw : a ∈ w.map (·.1)
    · rw [if_pos hw, if_pos (.inr hw)]
    · rw [if_neg hw]
      by_cases ha : a = e.1
      · rw [if_pos ha, if_pos (.inl ha), ha]
      · rw [if_neg ha, if_neg (fun h => h.elim ha hw)]

theorem Core.lmWriteZ_get (k : Core) (w : List (Nat × Byte × Bool)) {f : Nat → Byte} (hf : ∀ e, e ∈ w → e.2.1 = f e.1) (a : Nat) :
    (k.lmWriteZ w).lm.get a = if a ∈ w.map (·.1) then f a else k.lm.get a := by
  have hstep : ∀ (l : List Nat) (k : Core), (l.foldl (fun (k : Core) q =>
      let part := w.filter (fun x => x.1 / 32 = q)
      let p := part.any (fun x => x.2.2)
      let whole := decide ((part.map (·.1)).eraseDups.length = 32)
      { k with lm := part.foldl (fun (m : Store) (x : Nat × Byte × Bool) => m.put x.1 x.2.1) k.lm,
               lmPois := mapPut false k.lmPois q (p || (!whole && mapGet false k.lmPois q)) }) k).lm.get a =
      if a / 32 ∈ l ∧ a ∈ w.map (·.1) then f a else k.lm.get a := by
    intro l
    induction l with
    | nil => exact fun k => (if_neg (fun h => List.not_mem_nil h.1)).symm
    | cons q l ih =>
      intro k
      have hpart : a ∈ (w.filter (fun x => x.1 / 32 = q)).map (·.1) ↔ a / 32 = q ∧ a ∈ w.map (·.1) := by
        simp only [List.mem_map, List.mem_filter, decide_eq_true_eq]
        constructor
        · rintro ⟨e, ⟨he, hq⟩, rfl⟩
          exact ⟨hq, e, he, rfl⟩
        · rintro ⟨hq, e, he, rfl⟩
          exact ⟨e, ⟨he, hq⟩, rfl⟩
      rw [List.foldl_cons, ih]
      dsimp only
      rw [foldl_put_get _ _ (fun e he => hf e (List.mem_of_mem_filter he))]
      simp only [hpart, List.mem_cons]
      by_cases ha : a ∈ w.map (·.1)
      · by_cases hl : a / 32 ∈ l
        · simp only [ha, hl, and_true, if_true, or_true]
        · simp only [ha, hl, and_true, if_false, or_false]
      · simp only [ha, and_false, if_false]
  have hsect : a ∈ w.map (·.1) → a / 32 ∈ sectorsOf (w.map (·.1)) := fun ha => List.mem_eraseDups.2 (List.mem_map_of_mem ha)
  refine (hstep _ k).trans ?_
  by_cases ha : a ∈ w.map (·.1)
  · rw [if_pos ⟨hsect ha, ha⟩, if_pos ha]
  · rw [if_neg (fun h => ha h.2), if_neg ha]

theorem Core.foldl_lmWriteZ_get (ws : List XAcc) (k : Core) {f : Nat → Byte} (hf : ∀ e, e ∈ ws.flatMap (·.bytes) → e.2.1 = f e.1) (a : Nat) :
    (ws.foldl (fun k w => k.lmWriteZ w.bytes) k).lm.get a = if a ∈ (ws.flatMap (·.bytes)).map (·.1) then f a else k.lm.get a := by
  induction ws generalizing k with
  | nil => rfl
  | cons w ws ih =>
    rw [List.flatMap_cons] at hf ⊢
    rw [List.foldl_cons, ih _ fun e he => hf e (List.mem_append_right _ he), Core.lmWriteZ_get _ _ fun e he => hf e (List.mem_append_left _ he)]
    simp only [List.map_append, List.mem_append]
    by_cases hws : a ∈ (ws.flatMap (·.bytes)).map (·.1)
    · rw [if_pos hws, if_pos (.inr hws)]
    · rw [if_neg hws]
      by_cases hw : a ∈ w.bytes.map (·.1)
      · rw [if_pos hw, if_pos (.inl hw)]
      · rw [if_neg hw, if_neg (fun h => h.elim hw hws)]

theorem Core.foldl_lmWriteZ_opnd (ws : List XAcc) (k : Core) : (ws.foldl (fun k w => k.lmWriteZ w.bytes) k).opnd = k.opnd := by
  induction ws generalizing k with
  | nil => rfl
  | cons w ws ih => exact (ih _).trans (k.lmWriteZ_lmEq w.bytes).opnd

/-! ## The copy -/

theorem Core.xferCounts_lm (k : Core) (x : Xfer) (l : List XAcc) (lim : Nat) : (k.xferCounts x l lim).lm = k.lm := by
  simp only [Core.xferCounts, Core.bump_lm]

theorem Core.xferCounts_opnd (k : Core) (x : Xfer) (l : List XAcc) (lim : Nat) : (k.xferCounts x l lim).opnd = k.opnd := by
  simp only [Core.xferCounts, Core.bump_opnd]

theorem State.noteOver_lm (s : State) (c : Fin 96) (x : Xfer) (l : List XAcc) :
    ((s.noteOver c x l).core c).lm = (s.core c).lm ∧ ((s.noteOver c x l).core c).opnd = (s.core c).opnd ∧ (s.noteOver c x l).hbm = s.hbm := by
  unfold State.noteOver
  dsimp only
  split
  · rw [State.modCore_self]
    exact ⟨rfl, rfl, rfl⟩
  · exact ⟨rfl, rfl, rfl⟩

theorem State.xferAccs_run {s : State} {c : Fin 96} {x : Xfer} {sb db : Nat} (h : (parseDesc x.image).IsRun) (hs : x.sbase = (sb : Int))
    (hd : x.dbase = (db : Int)) : ∃ l, s.xferAccs c x = (s, l, none)
      ∧ l.flatMap (·.bytes) = (List.range ((parseDesc x.image).ext 0)).map ((s.core c).movedByte sb db) := by
  have hscan := State.xferScan_run (s := s) (c := c) h hs hd (n := (parseDesc x.image).ext 0) (p := 0) (by omega)
  refine ⟨(parseDesc x.image).accesses
    ((List.range' 0 ((parseDesc x.image).ext 0)).map (fun q => (q, (⟨false, [(s.core c).movedByte sb db q]⟩ : Acc1)))), ?_, ?_⟩
  · unfold State.xferAccs
    dsimp only
    rw [h.boxSize, hscan]
  · rw [Desc.accesses_bytes _ _ fun a ha => ?_]
    · rw [List.flatMap_map, ← List.range_eq_range', ← List.map_eq_flatMap]
    · obtain ⟨q, -, rfl⟩ := List.mem_map.1 ha
      rfl

/-- The transfer copies the bytes as its source held them. -/
theorem State.xferRun_copies {s : State} {c : Fin 96} {x : Xfer} {sb db : Nat} (h : (parseDesc x.image).IsRun) (hsince : x.since = [])
    (hs : x.sbase = (sb : Int)) (hd : x.dbase = (db : Int)) : ∃ u, s.xferRun c x none = (u, none) ∧ u.hbm = s.hbm
      ∧ (u.core c).opnd = (s.core c).opnd ∧ (s.core c).lm.writes (u.core c).lm db ((s.core c).lmRead sb ((parseDesc x.image).ext 0)) := by
  obtain ⟨l, haccs, hbytes⟩ := State.xferAccs_run (s := s) (c := c) h hs hd
  obtain ⟨v, hv⟩ : ∃ v, v = (s.modCore c (fun k => l.foldl (fun k w => k.lmWriteZ w.bytes) k)).modCore c
    (fun k => k.xferCounts x l (parseDesc x.image).boxSize) := ⟨_, rfl⟩
  have hrun : s.xferRun c x none = (v.noteOver c x l, none) := by
    unfold State.xferRun
    dsimp only
    rw [haccs]
    dsimp only
    rw [State.interleave, if_pos hsince, State.xferPut, if_neg (by rw [h.dspace]; decide), if_pos h.dspace, ← hv]
    rfl
  obtain ⟨hlm, hopnd, hhbm⟩ := v.noteOver_lm c x l
  have hvlm : (v.core c).lm = (l.foldl (fun k w => k.lmWriteZ w.bytes) (s.core c)).lm := by
    rw [hv, State.modCore_self, State.modCore_self, Core.xferCounts_lm]
  have hvopnd : (v.core c).opnd = (s.core c).opnd := by
    rw [hv, State.modCore_self, State.modCore_self, Core.xferCounts_opnd, Core.foldl_lmWriteZ_opnd]
  refine ⟨_, hrun, hhbm.trans (by rw [hv]; rfl), hopnd.trans hvopnd, fun a => ?_⟩
  have hf : ∀ e, e ∈ l.flatMap (·.bytes) → e.2.1 = (s.core c).lm.get (sb + (e.1 - db)) := fun e he => by
    rw [hbytes] at he
    obtain ⟨p, -, rfl⟩ := List.mem_map.1 he
    rw [Core.movedByte, Nat.add_sub_cancel_left]
  have hin : a ∈ (l.flatMap (·.bytes)).map (·.1) ↔ db ≤ a ∧ a < db + ((s.core c).lmRead sb ((parseDesc x.image).ext 0)).length := by
    rw [hbytes, List.map_map, Core.lmRead_length, List.mem_map]
    constructor
    · rintro ⟨p, hp, rfl⟩
      have := List.mem_range.1 hp
      simp only [Function.comp_apply, Core.movedByte]
      omega
    · intro ha
      refine ⟨a - db, List.mem_range.2 (by omega), ?_⟩
      simp only [Function.comp_apply, Core.movedByte]
      omega
  rw [hlm, hvlm, Core.foldl_lmWriteZ_get _ _ (f := fun a => (s.core c).lm.get (sb + (a - db))) hf]
  simp only [hin]
  split
  · next ha =>
    rw [Core.lmRead_length] at ha
    rw [Core.lmRead, Store.getN, getD_map_range]
    omega
  · rfl

/-! ## The obligation -/

/-- Settles O25: the run of the transfer copies the bytes, and the end of one without a stop leaves memory as its run did. -/
theorem layoutTransfers : Obligations.LayoutTransfers := by
  unfold Obligations.LayoutTransfers
  refine ⟨⟨fun _ _ _ => lxferStart_starts, fun _ _ _ _ _ _ hk hsent hst hheld hrun => lxferComplete_ends hk hsent hst hrun hheld,
    fun _ _ _ _ _ => hostWriteCompletion_ends⟩, ?_⟩
  intro s c k x d sb db hk hsent hsince hst hheld hd hndim hss hds hsfmt hdfmt hlmode hsstr hdstr hplo hphi hsb hdb
  subst hd
  have hline : (parseDesc x.image).IsRun := ⟨hndim, hss, hds, hsfmt, hdfmt, hlmode, hsstr, hdstr, hplo, hphi⟩
  obtain ⟨u, hrun, huhbm, huopnd, hcopy⟩ := State.xferRun_copies (s := s.xferTaken c) (c := c) hline hsince hsb hdb
  obtain ⟨t, ht, hlm, hopnd, hhbm, -⟩ := lxferComplete_ends hk hsent hst hrun hheld
  refine ⟨t, ht, hhbm.trans huhbm, hopnd.trans huopnd, ?_⟩
  rw [hlm]
  exact hcopy

end Sys2Proof.Machine
end
